-- ==== Sys2Proof/Word.lean ====
section
/-!
DEFINITION. The word types of the model and their plainest abbreviations. Everything that a test of the hardware could
show wrong (bit fields, byte orders, sign extensions) stands in `Machine/Bits.lean`, not here.
-/

namespace Sys2Proof

/-- A byte of SRAM, FeRAM, a mailbox or a frame. -/
abbrev Byte := BitVec 8

/-- A 16-bit word point of the image (R32). -/
abbrev W16 := BitVec 16

/-- A core register W0-W15, an instruction word, a host register (R91, R93, R327). -/
abbrev W32 := BitVec 32

/-- A real register F0-F7 (R91). -/
abbrev W64 := BitVec 64

/-- A point address: area code in [23:20], index in [19:0] (R32). -/
abbrev PointAddr := BitVec 24

/-- A core-code word index, the program counter (R90, R91). -/
abbrev CodeIx := BitVec 20

/-- An instant or a duration in nanoseconds of STIME (R26). -/
abbrev Ns := Nat

end Sys2Proof
end

