-- ==== Sys2Proof/Config.lean ====
section
/-!
DEFINITION. What an implementation fixes and what the spec leaves open: constants without a body. No proof can see a value
of them, so a claim holds whatever they are (assumption logs 5 and 6).
-/

namespace Sys2Proof

/-- The n-th free value of a run: a value the spec does not state, drawn by a step that reads and advances the counter
`freeCtr` of the state (assumption log 5). -/
opaque Config.freeValue : Nat → Nat

/-- SHA-384 of a byte string, as a 384-bit number (R128, R129, R407). -/
opaque Config.sha384 : List Byte → Nat

/-- HMAC-SHA-384 of a byte string under a key (R407). -/
opaque Config.hmac384 : Nat → List Byte → Nat

/-- K_log of the unit (R401, R407). -/
opaque Config.logKey : Nat

/-- The SRX key derivation: the key that a secret, a salt and a label give (R304). -/
opaque Config.kdf : Nat → Nat → Nat → Nat

/-- HKDF-Extract with SHA-384: salt and input keying material (R401, R415). -/
opaque Config.hkdfExtract : List Byte → List Byte → Nat

/-- HKDF-Expand with SHA-384: key, info and length in bytes (R401, R415). -/
opaque Config.hkdfExpand : Nat → List Byte → Nat → Nat

/-- AES-256-GCM: the ciphertext and tag of a plain text under a key and an IV (R336). -/
opaque Config.gcmSeal : Nat → Nat → List Byte → List Byte

/-- The 16-byte tag that a key gives a frame (R303, R163). -/
opaque Config.macTag : Nat → List Byte → Nat

/-- An ECDSA P-384 signature by a device key over a byte string (R415, R419). -/
opaque Config.ecdsaSign : Nat → List Byte → List Byte

/-- The public ephemeral key the device answers an OPEN with (R415). -/
opaque Config.ephemeral : Nat → List Byte

/-- The ECDH shared secret of the n-th ephemeral key and a peer's public key (R415). -/
opaque Config.ecdh : Nat → List Byte → Nat

/-- The n-th number of the device's random generator (R400, R409). -/
opaque Config.random : Nat → Nat

/-- Logic-die revision (Table HOST-2, SILICON: by die). -/
opaque Config.silicon : Nat

/-- The unit's serial number and device ID (Table HOST-17: by unit). -/
opaque Config.serial : Nat

/-- The unit's device ID (R401). -/
opaque Config.deviceId : Nat

/-- The MAC address that the unit's SRX frames carry as their source (R300: by unit). -/
opaque Config.srxMac : Nat

/-- SHA-384 of the firmware image with a version (Table HOST-17: by image). -/
opaque Config.fwHash : Nat → Nat

/-- SHA-384 of the loader of the image with a version (Table SEC-4: by image). -/
opaque Config.loaderHash : Nat → Nat

/-- The key ID of the Haldier service key (Table SEC-1: in mask ROM). -/
opaque Config.serviceKeyId : Nat

/-- The exporter value of a TLS connection (R415). -/
opaque Config.tlsExporter : Nat → Nat

/-- The certificate chain of the device key, DER bytes (R401: by unit). -/
opaque Config.deviceCert : List Byte

/-- The certificate of the issuing authority, DER bytes. -/
opaque Config.issuerCert : List Byte

/-- Whether a quotient that is no integer is taken to the next integer up, by numerator and denominator (R259, R275, R284: the
spec gives no rounding). -/
opaque Config.roundUp : Int → Int → Bool

/-- Where a device's input thresholds lie inside the limits of Table ELEC-12: rising threshold and hysteresis, by bay, channel (16 the
LIMP pin) and input type (R220). -/
opaque Config.inRise : Nat → Nat → Nat → Nat
/-- See `Config.inRise`. -/
opaque Config.inHyst : Nat → Nat → Nat → Nat

/-- The factory calibration of a channel: the code that a raw code stands for (R259: held in the field die). -/
opaque Config.calibrate : Nat → Nat → Int → Int

/-- Where the current limit of a mode 18 channel lies inside 12-16 mA (R279, Table ELEC-16). -/
opaque Config.aoLimit : Nat → Nat → Nat

/-- The field-die revision of a bay (Table BAY-5: by unit). -/
opaque Config.bayDieRev : Nat → Nat

/-- The FeRAM layout version of a bay (Table BAY-5). -/
opaque Config.bayLayout : Nat → Nat

/-- The age field of an analog input before its first result (R260: no conversion to count from). -/
opaque Config.noAge : Nat

/-- RFC 3394 key wrap of a 32-byte key: wrapping key and key (R310). -/
opaque Config.keyWrap : Nat → Nat → List Byte

/-- CAPS of a bay's node: ring capability and residence bound, one number (Table RIO-4: by unit). -/
opaque Config.nodeCaps : Nat

/-- The MAC address of the master that a sender field names, as the node of the NODE role receives it (R300: by unit). -/
opaque Config.masterMac : Nat → Nat

/-- The ports and the PCP that the frames of a bay's node leave with: those of its segment, which no object tells it (R300). -/
opaque Config.nodePorts : Nat → Nat
/-- See `Config.nodePorts`. -/
opaque Config.nodePcp : Nat → Nat

/-- Bytes 2 to 47 of the dictionary entry of a channel pid whose offset several modes define differently: channel entries reflect
no mode, and the spec does not say which definition they carry (R350). -/
opaque Config.dictEntry : Nat → List Byte

/-- AES-256-XTS of a FeRAM row under K_nvm: the row's number is the tweak (R406). -/
opaque Config.rowCipher : Nat → List Byte → List Byte

end Sys2Proof
end

