-- ==== Sys2Proof/Syntax.lean ====
section
/-!
DEFINITION. The commands of the block: one constructor of `Instr` per row of spec/opcode_table.json, with its operands.
A core instruction names the context `c` that executes it and its fields (R93-R98); an event names what the environment
shows; a BCP command names the mailbox whose taken request it executes.
-/

namespace Sys2Proof

/-! ### Operands of core instructions (R95, R96) -/

/-- The width field of a W-format integer instruction (Table ISA-4). -/
inductive IWidth where
  | s16
  | u16
  | i32
deriving DecidableEq, Repr

/-- The precision field of a real instruction (Table ISA-4). -/
inductive FWidth where
  | b32
  | b64
deriving DecidableEq, Repr

/-- The source of a W-format instruction (Table ISA-4): a register number, a 16-bit immediate, an index register with a
signed 14-bit offset, or the point address of the extension word. -/
inductive Src where
  | reg (r : BitVec 4)
  | imm (v : W16)
  | ind (an : BitVec 2) (off : BitVec 14)
  | dir (pt : PointAddr)
deriving DecidableEq, Repr

/-- The DG operand of DIAG (Table ISA-6b): a word index, or an index register with an unsigned offset. -/
inductive DgSrc where
  | dir (ix : BitVec 13)
  | ind (an : BitVec 2) (off : BitVec 13)
deriving DecidableEq, Repr

/-! ### Operands of events -/

/-- What the three truss lanes show at one network's write-back (R366): all agree, one lane odd, or no majority. -/
inductive LaneVerdict where
  | agree
  /-- Field 5 (word) or 6 (cell) of Table TMR-5, the value of the majority and the odd lane's. -/
  | odd (lane field voted value : Nat)
  /-- Field and the lanes' values. -/
  | noMajority (field v0 v1 v2 : Nat)
deriving DecidableEq, Repr

/-- What the security engine finds when it checks a staged container or image: the signature and the hash over the body
(R128, R402). The mathematics of P-384 and SHA-384 is not part of the model (assumption log 6). -/
structure Verdict where
  sigOk : Bool
  hashOk : Bool
deriving DecidableEq, Repr

/-- The outcome of one step of boot as its checks find it (Table SEC-5, R368, R431, R435). -/
structure BootInput where
  /-- The first failing injection point of B2, 0xFFFF if none (R368). -/
  selftest : Nat
  /-- B3: OTP, fuses and PUF. -/
  rootOk : Bool
  /-- B4: the manifest, and with the shim journal fallback. -/
  manifestOk : Bool
  fallbackOk : Bool
  /-- B6: firmware hash and security version. -/
  firmwareOk : Bool
  /-- B7: owner store. -/
  ownerOk : Bool
  /-- I1: a checkpoint is valid; rows whose current copy is uncorrectable. -/
  checkpointOk : Bool
  badRows : List Nat
  /-- I3: the stored program's and network configuration's verification. -/
  program : Verdict
  /-- The firmware version, security version, pair protocol version and settings format of the image that runs (R402, R437). -/
  fwVersion : Nat
  fwSec : Nat
  fwPair : Nat
  fwFormat : Nat
  /-- Whether a settings copy of an older format converts (R437). -/
  migrates : Bool
  /-- Whether ACLK runs at the end of I5 (R463). -/
  aclk : Bool
  /-- The bay configurations that bay x reports, and whether the bay answers (R214). -/
  bayAnswers : List Bool
deriving DecidableEq, Repr

/-- Which side of the supply raised a power-fail warning (R452, R454). -/
inductive WarnCause where
  | pfi
  | vin
deriving DecidableEq, Repr

/-- The three aligned copies of one signal of Table TMR-1 in a cycle: its field of Table TMR-5 and the copies of C0, C1 and C2. -/
structure CmpSignal where
  field : Nat
  c0 : Nat
  c1 : Nat
  c2 : Nat
deriving DecidableEq, Repr

/-- One cycle of comparison (R356): the signals in the order of Table TMR-1, the voted PC, and whether CMP_A and CMP_B agree on vote and
syndrome. -/
structure CmpEvent where
  signals : List CmpSignal
  pc : Nat
  crossOk : Bool
deriving DecidableEq, Repr

/-- A request arriving over TLS (R330): port (2 or 3), connection, frame. -/
structure NetFrame where
  requester : Nat
  conn : Nat
  bytes : List Byte
deriving DecidableEq, Repr


/-! ### Operands of the field side (07-10) -/

/-! A frame of a lane arrives with an error pattern `err`: byte i of it is exclusive-ored into byte i of the frame, bytes past its end
arrive as sent; `[]` is a clean frame (R187-R189, R194). An operand `held` is the time in µs for which what the command reports has
stood without a break. -/

/-- What the front end of one channel shows at a latch: the terminal voltage in 10 mV, the current (µA in input modes and mode 18,
mA in digital output modes), the junction temperature in 0.1 °C, and the readback of an analog output in nA or µV (R217, R218, R272). -/
structure Reading where
  volt : Nat
  current : Nat
  temp : Int
  out : Int
deriving DecidableEq, Repr

/-! ### Operands of the scarf link (06) -/

/-- The header of a received scarf frame and the finding of its CRC (Table STBY-1). -/
structure ScarfHdr where
  seq : Nat
  peg : Nat
  crcOk : Bool
deriving DecidableEq, Repr

/-- The pairing record of HELLO (R161). -/
structure Hello where
  part : Nat
  pairVer : Nat
  ownerKeyId : Nat
  progHash : Nat
  netHash : Nat
  unit : Nat
  state : Nat
  epoch : Nat
deriving DecidableEq, Repr

/-- A cell entry of 12 bytes: kind (0 timer, 1 counter, 2 edge word), number, 8 bytes of state (R166). -/
structure CellRec where
  kind : Nat
  num : Nat
  state : Nat
deriving DecidableEq, Repr

/-- The payload of DELTA_END (Table STBY-5). -/
structure DeltaEnd where
  ctx : Nat
  pages : Nat
  pegAt : Nat
  rows : List Nat
  cells : List CellRec
  crc : Nat
deriving DecidableEq, Repr

/-! ### Operands of the remote I/O network (11) and of security (15) -/

/-- An SRX frame from its header on (Table RIO-1, payload included), and what the check of its tag found (R303, R306). -/
structure SrxFrame where
  bytes : List Byte
  tagOk : Bool
  /-- The sequence of the R-TAG, on a ring segment (R294, R300). -/
  rtag : Nat := 0
deriving DecidableEq, Repr

/-- A received 802.1AS Sync or Follow_Up: port, grandmaster identity, and the offset and rate it measures (R292). -/
structure SyncMsg where
  port : Nat
  gm : Nat
  priority1 : Nat
  offset : Int
deriving DecidableEq, Repr

/-- What a TLS ClientHello offers (R418). -/
structure ClientHello where
  port : Nat
  tls13 : Bool
  suite : Bool
  group : Bool
  keyShare : Bool
  sigScheme : Bool
  alpn : Bool
deriving DecidableEq, Repr

/-- The commands, one per row of spec/opcode_table.json in its order. -/
inductive Instr where
  /-- MOV (R106): A core instruction loads Wd from a register, immediate or memory operand. -/
  | mov (c : Nat) (w : IWidth) (d : BitVec 4) (src : Src)
  /-- MOV_STORE (R111): A core instruction stores Wd into the shot buffer at a memory operand. -/
  | movStore (c : Nat) (w : IWidth) (d : BitVec 4) (dst : Src)
  /-- ADD (R107): A core instruction adds the source to Wd with wrap at the operation width. -/
  | add (c : Nat) (w : IWidth) (d : BitVec 4) (src : Src)
  /-- SUB (R107): A core instruction subtracts the source from Wd with wrap. -/
  | sub (c : Nat) (w : IWidth) (d : BitVec 4) (src : Src)
  /-- MUL (R107): A core instruction multiplies Wd by the source and keeps the low bits. -/
  | mul (c : Nat) (w : IWidth) (d : BitVec 4) (src : Src)
  /-- DIV (R107): A core instruction divides Wd by the source, setting BA on a zero divisor or overflow. -/
  | div (c : Nat) (w : IWidth) (d : BitVec 4) (src : Src)
  /-- MOD (R107): A core instruction leaves the remainder in Wd with the sign of Wd. -/
  | mod (c : Nat) (w : IWidth) (d : BitVec 4) (src : Src)
  /-- AND_WORD (R106): A W-format instruction forms the bitwise AND of Wd and the source. -/
  | andWord (c : Nat) (w : IWidth) (d : BitVec 4) (src : Src)
  /-- OR_WORD (R106): A W-format instruction forms the bitwise OR of Wd and the source. -/
  | orWord (c : Nat) (w : IWidth) (d : BitVec 4) (src : Src)
  /-- XOR_WORD (R106): A W-format instruction forms the bitwise XOR of Wd and the source. -/
  | xorWord (c : Nat) (w : IWidth) (d : BitVec 4) (src : Src)
  /-- SHL (R107): A core instruction shifts Wd left with zero fill. -/
  | shl (c : Nat) (w : IWidth) (d : BitVec 4) (src : Src)
  /-- SHR (R107): A core instruction shifts Wd right with zero fill. -/
  | shr (c : Nat) (w : IWidth) (d : BitVec 4) (src : Src)
  /-- ROL (R107): A core instruction rotates Wd left within its width. -/
  | rol (c : Nat) (w : IWidth) (d : BitVec 4) (src : Src)
  /-- ROR (R107): A core instruction rotates Wd right within its width. -/
  | ror (c : Nat) (w : IWidth) (d : BitVec 4) (src : Src)
  /-- LEA (R107): A core instruction loads a point address into An without checking it. -/
  | lea (c : Nat) (d : BitVec 2) (src : Src)
  /-- CMP_EQ (R106): A core instruction sets BA to Wd equal to the source. -/
  | cmpEq (c : Nat) (w : IWidth) (d : BitVec 4) (src : Src)
  /-- CMP_NE (R106): A core instruction sets BA to Wd not equal to the source. -/
  | cmpNe (c : Nat) (w : IWidth) (d : BitVec 4) (src : Src)
  /-- CMP_LT (R106): A core instruction sets BA to Wd less than the source. -/
  | cmpLt (c : Nat) (w : IWidth) (d : BitVec 4) (src : Src)
  /-- CMP_LE (R106): A core instruction sets BA to Wd less than or equal to the source. -/
  | cmpLe (c : Nat) (w : IWidth) (d : BitVec 4) (src : Src)
  /-- CMP_GT (R106): A core instruction sets BA to Wd greater than the source. -/
  | cmpGt (c : Nat) (w : IWidth) (d : BitVec 4) (src : Src)
  /-- CMP_GE (R106): A core instruction sets BA to Wd greater than or equal to the source. -/
  | cmpGe (c : Nat) (w : IWidth) (d : BitVec 4) (src : Src)
  /-- ITOF (R108): A core instruction converts a signed 32-bit register to a real of precision w. -/
  | itof (c : Nat) (w : FWidth) (d : BitVec 3) (src : BitVec 4)
  /-- FTOI (R108): A core instruction converts a real to signed 32-bit, setting BA on NaN or saturation. -/
  | ftoi (c : Nat) (w : FWidth) (d : BitVec 4) (src : BitVec 3)
  /-- FCVT (R108): A core instruction converts a real between binary32 and binary64. -/
  | fcvt (c : Nat) (w : FWidth) (d : BitVec 3) (src : BitVec 3)
  /-- BTOI (R106): A core instruction converts a BCD source to binary, setting BA on an invalid digit. -/
  | btoi (c : Nat) (w : IWidth) (d : BitVec 4) (src : Src)
  /-- ITOB (R106): A core instruction converts a binary source to BCD, setting BA when out of range. -/
  | itob (c : Nat) (w : IWidth) (d : BitVec 4) (src : Src)
  /-- CRD (R110): A core instruction reads the ET or CV of an owned timer or counter cell. -/
  | crd (c : Nat) (d : BitVec 4) (src : Src)
  /-- FMOV (R108): A core instruction loads Fd from a register or memory operand. -/
  | fmov (c : Nat) (w : FWidth) (d : BitVec 3) (src : Src)
  /-- FMOV_STORE (R111): A core instruction stores Fd into the shot buffer. -/
  | fmovStore (c : Nat) (w : FWidth) (d : BitVec 3) (dst : Src)
  /-- FADD (R108): A core instruction adds a real source to Fd, correctly rounded. -/
  | fadd (c : Nat) (w : FWidth) (d : BitVec 3) (src : Src)
  /-- FSUB (R108): A core instruction subtracts a real source from Fd. -/
  | fsub (c : Nat) (w : FWidth) (d : BitVec 3) (src : Src)
  /-- FMUL (R108): A core instruction multiplies Fd by a real source. -/
  | fmul (c : Nat) (w : FWidth) (d : BitVec 3) (src : Src)
  /-- FDIV (R108): A core instruction divides Fd by a real source. -/
  | fdiv (c : Nat) (w : FWidth) (d : BitVec 3) (src : Src)
  /-- FSQRT (R108): A core instruction takes the square root of a real source. -/
  | fsqrt (c : Nat) (w : FWidth) (d : BitVec 3) (src : Src)
  /-- FABS (R108): A core instruction clears the sign bit of a real source. -/
  | fabs (c : Nat) (w : FWidth) (d : BitVec 3) (src : Src)
  /-- FNEG (R108): A core instruction flips the sign bit of a real source. -/
  | fneg (c : Nat) (w : FWidth) (d : BitVec 3) (src : Src)
  /-- FCMP_EQ (R108): A core instruction sets BA by IEEE equality of Fd and the source. -/
  | fcmpEq (c : Nat) (w : FWidth) (d : BitVec 3) (src : Src)
  /-- FCMP_NE (R108): A core instruction sets BA by IEEE inequality, 1 when unordered. -/
  | fcmpNe (c : Nat) (w : FWidth) (d : BitVec 3) (src : Src)
  /-- FCMP_LT (R108): A core instruction sets BA by IEEE less-than. -/
  | fcmpLt (c : Nat) (w : FWidth) (d : BitVec 3) (src : Src)
  /-- FCMP_LE (R108): A core instruction sets BA by IEEE less-or-equal. -/
  | fcmpLe (c : Nat) (w : FWidth) (d : BitVec 3) (src : Src)
  /-- FCMP_GT (R108): A core instruction sets BA by IEEE greater-than. -/
  | fcmpGt (c : Nat) (w : FWidth) (d : BitVec 3) (src : Src)
  /-- FCMP_GE (R108): A core instruction sets BA by IEEE greater-or-equal. -/
  | fcmpGe (c : Nat) (w : FWidth) (d : BitVec 3) (src : Src)
  /-- BMOV (R109): A core instruction checks the whole range and copies words in units of at most 188, interruptible between units. -/
  | bmov (c : Nat) (w : IWidth) (d : BitVec 4) (asrc : BitVec 2) (adst : BitVec 2)
  /-- FIRST_WRITE_COPY_DONE (R42): The fabric completes the copy of a page into a shot-buffer frame, and the waiting write proceeds or is restarted. -/
  | firstWriteCopyDone (c : Nat)
  /-- JMP (R112): A control instruction jumps unconditionally. -/
  | jmp (c : Nat) (target : CodeIx)
  /-- JC (R112): A control instruction jumps when BA is 1. -/
  | jc (c : Nat) (target : CodeIx)
  /-- JNC (R112): A control instruction jumps when BA is 0. -/
  | jnc (c : Nat) (target : CodeIx)
  /-- CALL (R113): A control instruction pushes the return PC and A3 and jumps to a function block. -/
  | call (c : Nat) (target : CodeIx)
  /-- RET (R113): A control instruction pops the call stack, or at depth 0 ends the shot. -/
  | ret (c : Nat)
  /-- JUNCTION (R114): A control instruction posts a chain of networks with BA, A0-A3 and W14 to the truss queue. -/
  | junction (c : Nat) (countLess1 : BitVec 10) (first : W16)
  /-- DIAG (R115): A control instruction loads Wd from the pinned diagnostic area. -/
  | diag (c : Nat) (d : BitVec 4) (wide : Bool) (src : DgSrc)
  /-- URGENT (R116): A control instruction places an urgent conversion request for a channel at once. -/
  | urgent (c : Nat) (bay : Bool) (ch : BitVec 4)
  /-- NETWORK_START (R121): The truss starts the next eligible network: pre-copy, dispatch, gather, evaluate and write-back. -/
  | networkStart (lanes : LaneVerdict)
  /-- TRUSS_COMPLETION (R114): The truss posts the end of a junction chain with BA and the context becomes ready at PC + 1. -/
  | trussCompletion (c : Nat)
  /-- RELEASE (R71): A context's grid instant arrives: input pages are pinned and the shot is released. -/
  | release (c : Nat)
  /-- DATA_PIN_COMPLETE (R41): Once the remaps of all earlier pegs are done, the shot's data pages are pinned and it is dispatched by priority. -/
  | dataPinComplete (c : Nat)
  /-- PEG (R44): A peg instant arrives: completion is tested and the buffer is remapped or merged into the committed image. -/
  | peg (c : Nat)
  /-- SHOT_ABANDONED (R58): Execution of a dropped shot is abandoned and its buffer, masks and cell updates are freed. -/
  | shotAbandoned (c : Nat)
  /-- COMMIT_DURABLE (R53): The last row of a commit record becomes durable and the new retentive copies become current. -/
  | commitDurable
  /-- EMIT (R49): Once the record is durable and any acknowledgement has arrived, the shot's changed outputs are handed out with apply timestamps. -/
  | emit
  /-- SERVER_WINDOW (R77): A new firmware server window starts and context 0's budget is renewed. -/
  | serverWindow
  /-- SERVER_BUDGET_EXHAUSTED (R77): Context 0 uses up its budget in the window and drops below the user contexts. -/
  | serverBudgetExhausted
  /-- EDIT_STEP (R149): At the activation instant A the edit step swaps banks, applies pids, runs the migration and commits the program record. -/
  | editStep
  /-- PROGRAM_ACTIVATION (R139): Once the program record of a STOP load is durable, the banks and truss halves swap and forces are cleared. -/
  | programActivation
  /-- CHECKPOINT_START (R430): After 512 ring rows a checkpoint of the current-half map is started. -/
  | checkpointStart
  /-- NVM_ROW_WRITE_DONE (R425): A FeRAM row write completes and its ECC read-back is checked. -/
  | nvmRowWriteDone (eccOk : Bool)
  /-- LOG_RECORD_WRITE (R432): A queued log record is written to the event log ring with its chain value. -/
  | logRecordWrite
  /-- LOG_HEADER_WRITE (R433): The public log header is rewritten after 10 ms or 1,024 records. -/
  | logHeaderWrite
  /-- SETTINGS_COPY_WRITE (R436): A new settings copy with the accepted SETs is started, at most once per 1 ms. -/
  | settingsCopyWrite
  /-- SETTINGS_COPY_DURABLE (R436): The header of a new settings copy becomes durable and the SETs it holds complete. -/
  | settingsCopyDurable
  /-- BOOT_START (R474): Boot runs the steps B1 to I5 from power-on or chip reset to STOP or RUN. -/
  | bootStart (b : BootInput)
  /-- POWER_ON_RESET (R452): VIN has been at or above 4.45 V for 1 ms and the logic die leaves OFF. -/
  | powerOnReset (vin : Nat)
  /-- BROWN_OUT (R452): VIN falls below 3.90 V and the logic die enters OFF at once. -/
  | brownOut (vin : Nat)
  /-- POWER_FAIL_WARNING (R455): PFI or VIN below 4.40 V raises the warning: HOLD goes low, domains are shed and shots drop with reason POWER. -/
  | powerFailWarning (cause : WarnCause) (vin : Nat)
  /-- POWER_FAIL_COMMIT_DONE (R455): The NVM controller finishes the commit in progress, writes POWER_WARNING and the core domains switch off. -/
  | powerFailCommitDone
  /-- PFI_RECOVERED (R455): PFI stays above 1.250 V for 10 ms with VIN good, HOLD goes high and a chip reset is taken. -/
  | pfiRecovered (vin : Nat)
  /-- VIN_ROW_INHIBIT (R457): VIN falls below 4.00 V and the NVM controller starts no further row. -/
  | vinRowInhibit (vin : Nat)
  /-- NRESET_ASSERT (R473): nRESET is held low and every logic domain except PD_AON switches off. -/
  | nresetAssert
  /-- NRESET_RELEASE (R473): nRESET is released and boot starts at B1. -/
  | nresetRelease
  /-- HOLDUP_MEASURE_START (R460): A hold-up measurement starts at its period or on a SET, lowering HOLD if VIN allows. -/
  | holdupMeasureStart (vin : Nat)
  /-- HOLDUP_MEASURE_END (R460): The hold-up measurement ends after 100 µs or a 0.25 V fall and the energy is computed. -/
  | holdupMeasureEnd (vin : Nat) (iin : Nat) (dur : Nat)
  /-- CLK_LOSS (R387): No FCLK edge for 100 µs, or PLL unlock, raises CLK_LOSS and a ladder expiry with chip reset. -/
  | clkLoss (pll : Bool)
  /-- CLK_RESET_RELEASE (R387): FCLK has run for 1 ms and reset control releases the chip reset held after clock loss. -/
  | clkResetRelease
  /-- ACLK_LOSS (R463): No ACLK edge for 100 µs of FCLK raises ACLK_LOSS. -/
  | aclkLoss
  /-- SYNC_IN_EDGE (R469): A SYNC_IN rising edge is captured and used to discipline STIME or rejected. -/
  | syncInEdge
  /-- SYNC_OUT_RISE (R470): SYNC_OUT rises at each STIME multiple of its period. -/
  | syncOutRise
  /-- SYNC_OUT_FALL (R470): SYNC_OUT falls after its configured width. -/
  | syncOutFall
  /-- DISCIPLINE_MEASURE (R468): An offset measurement against the discipline source adjusts the rate and the lock state. -/
  | disciplineMeasure (offset : Int) (rate : Int)
  /-- GPTP_SYNC (R292): An 802.1AS Sync or Follow_Up message is received and taken into time relay. -/
  | gptpSync (f : SyncMsg)
  /-- GPTP_PDELAY (R292): An 802.1AS Pdelay message is received or its interval expires. -/
  | gptpPdelay (port : Nat) (delay : Option Nat)
  /-- ALIVE_TOGGLE (R383): At each 1 ms of STIME ALIVE changes level while firmware is alive and no RESET or LOCKOUT record is pending. -/
  | aliveToggle
  /-- HBEAT_ADVANCE (R327): DSTATE.HBEAT advances every 1 ms while the firmware heartbeat is recent. -/
  | hbeatAdvance
  /-- FIRMWARE_HEARTBEAT (R383): Firmware writes its heartbeat. -/
  | firmwareHeartbeat
  /-- HEARTBEAT_LOSS (R373): No firmware heartbeat for 2 ms raises the HEARTBEAT source. -/
  | heartbeatLoss
  /-- WDG_KEY1 (R385): Firmware writes KEY1 to WDG_KEY, opening a 64-cycle service sequence. -/
  | wdgKey1
  /-- WDG_SERVICE (R386): KEY2 lands after KEY1 and is a valid service inside the window or an early service expiry. -/
  | wdgService (pc : Nat)
  /-- WDG_KEY_ERROR (R386): Any other value written to WDG_KEY, or KEY2 without KEY1, is an expiry. -/
  | wdgKeyError (value : W32) (pc : Nat)
  /-- WDG_KEY1_TIMEOUT (R386): KEY1 not followed by KEY2 within 64 cycles is an expiry. -/
  | wdgKey1Timeout (pc : Nat)
  /-- WDG_EXPIRY (R388): The count reaches T, the ladder advances and its step is taken. -/
  | wdgExpiry (pc : Nat)
  /-- CORE_RESTART_COMPLETE (R389): The core-complex restart completes and releases resume on the grid. -/
  | coreRestartComplete
  /-- WDG_CFG_WRITE (R385): Firmware writes WDG_CFG before the first valid service. -/
  | wdgCfgWrite (value : W32)
  /-- WDG_STAT_CLEAR (R385): A write of 1 clears the EARLY, KEYERR or CLKLOSS bit of WDG_STAT. -/
  | wdgStatClear (value : W32)
  /-- WDG_CLEAN_RUN (R388): 60 s without a break in STOP, RUN, HALT or SAFE with no expiry clears the ladder position. -/
  | wdgCleanRun
  /-- FAULT_RAISE (R374): A fault source rises, its sticky bit sets and a fault record is formed with its reactions. -/
  | faultRaise (src : Nat) (index : Nat) (data : Nat)
  /-- FAULT_CHIP_RESET (R377): Once the record and all earlier ones are durable, the chip reset is taken. -/
  | faultChipReset
  /-- LOCKOUT_ENTRY (R395): Once its record is durable the device enters LOCKOUT and holds nFAULT low. -/
  | lockoutEntry
  /-- GRACE_EXPIRY (R376): The grace time ends with the sticky bit still set and the collector takes a chip reset. -/
  | graceExpiry (src : Nat)
  /-- NFAULT_HOLD_END (R384): The 1 ms minimum low time of nFAULT ends and an accepted release takes effect. -/
  | nfaultHoldEnd
  /-- COLLECTOR_SELF_FAULT (R381): A parity error or copy disagreement in the collector is repaired and merged, or takes SAFE or a chip reset. -/
  | collectorSelfFault
  /-- TMR_MISMATCH (R357): The comparators find a difference among the cores and the outcome is decided by Table TMR-2. -/
  | tmrMismatch (ev : CmpEvent)
  /-- CORE_SCRUB_DONE (R358): The isolated core's scrub completes or fails. -/
  | coreScrubDone (ok : Bool)
  /-- CORE_JOIN (R358): At the pair's next instruction boundary the state is copied and the three cores restart in stagger. -/
  | coreJoin (pause : Nat)
  /-- RESYNC_TIMEOUT (R358): A resync not complete 40 µs after detection raises TMR_RESYNC_TO. -/
  | resyncTimeout
  /-- TMR_CMP_PENDING_CLEAR (R367): 60 s in STOP or RUN without TMR_CMP clears the pending flag. -/
  | tmrCmpPendingClear
  /-- MODE_CHANGE (R365): A requested execution-mode change takes effect in the gap after a peg or at once in STOP. -/
  | modeChange
  /-- FREE_CORE_RETURN (R364): The free core returns its work within 1 ms and joins the voted complex. -/
  | freeCoreReturn
  /-- INTERRUPT_ENTRY (R361): The complex takes a paced interrupt entry serving every pending source. -/
  | interruptEntry
  /-- RDREG (R324): A host-port transaction reads consecutive host registers. -/
  | rdreg (index : BitVec 6) (count : Nat)
  /-- WRREG (R324): A host-port transaction writes host registers that have no behaviour of their own. -/
  | wrreg (index : BitVec 6) (words : List W32) (part : Bool)
  /-- RDMBX (R324): A host-port transaction reads bytes of an owned mailbox; `flips` are the bits in error of the SRAM words it reads, in
  order (R22), none where the list ends. -/
  | rdmbx (m : BitVec 4) (off : BitVec 12) (count : Nat) (flips : List Nat)
  /-- WRMBX (R325): A host-port transaction writes bytes into an owned, writable mailbox. -/
  | wrmbx (m : BitVec 4) (off : BitVec 12) (bytes : List Byte)
  /-- QUADON (R323): A host-port transaction switches the port to quad mode. -/
  | quadon
  /-- QUADOFF (R323): A host-port transaction switches the port to single mode. -/
  | quadoff
  /-- DB_SET (R333): A doorbell write moves a claimed, owned mailbox to RUNG. -/
  | dbSet (rings : W16)
  /-- MBX_CLAIM (R332): A write of MBX_CLAIM asks for a named or any free mailbox and sets PENDING. -/
  | mbxClaim (value : BitVec 5)
  /-- MBX_CLAIM_RESOLVE (R332): The mailbox arbiter resolves a claim and MBX_GRANT shows the mailbox or NONE. -/
  | mbxClaimResolve
  /-- MBX_RELEASE (R334): A release returns a claimed or done mailbox to FREE. -/
  | mbxRelease (mask : W16)
  /-- MBX_RELEASE_KEEP (R334): A release with KEEP returns a done mailbox to CLAIMED. -/
  | mbxReleaseKeep (mask : W16)
  /-- HPRST (R329): A write of HPCFG.HPRST frees the host port's mailboxes and resets HSTAT, IRQ_STAT and MBX_GRANT. -/
  | hprst
  /-- HSTAT_CLEAR (R325): A write of 1 clears host-port error bits in HSTAT. -/
  | hstatClear (value : W32)
  /-- IRQ_STAT_CLEAR (R328): A write of 1 clears IRQ_STAT bits and releases HP_nIRQ when none remains enabled. -/
  | irqStatClear (value : W32)
  /-- STIME_L_READ (R327): A read of STIME_L returns the low word and latches the high word into STIME_H. -/
  | stimeLRead
  /-- NETWORK_REQUEST_MAILBOX (R330): Firmware claims a free mailbox for a waiting network request and copies it in. -/
  | networkRequestMailbox (frame : NetFrame)
  /-- MAILBOX_TAKE (R333): Firmware takes a RUNG mailbox in ring order and checks and executes its request. -/
  | mailboxTake (tagOk : Bool) (plain : List Byte)
  /-- MAILBOX_DONE (R334): The response frame is written and the mailbox enters DONE with its IRQ bit set. -/
  | mailboxDone (m : BitVec 4)
  /-- SEQUENCE_WAIT_TIMEOUT (R340): A request waiting for earlier sequences for 100 ms completes with BADSEQ. -/
  | sequenceWaitTimeout (m : BitVec 4)
  /-- SESSION_IDLE_TIMEOUT (R342): A session with no request for sys.session.idle ends. -/
  | sessionIdleTimeout (slot : BitVec 4)
  /-- TLS_HANDSHAKE (R418): A TLS 1.3 ClientHello is taken and the handshake is run or refused. -/
  | tlsHandshake (h : ClientHello)
  /-- TLS_KEY_UPDATE (R418): A TLS key update is accepted or initiated every 2^24 records. -/
  | tlsKeyUpdate (conn : Nat) (byDevice : Bool)
  /-- TLS_CONNECTION_CLOSE (R342): A TLS connection closes and every session on it ends. -/
  | tlsConnectionClose (conn : Nat)
  /-- CUP (R353): A command returns the full or redacted cupping report. -/
  | cup (m : BitVec 4)
  /-- IDENT (R343): A command returns the device identification. -/
  | ident (m : BitVec 4)
  /-- OPEN_LEG1 (R415): The first leg of OPEN agrees ephemeral keys and returns the signed transcript with a provisional ID. -/
  | openLeg1 (m : BitVec 4)
  /-- OPEN_LEG2 (R416): The second leg of OPEN authenticates the credential and opens the session with its rights. -/
  | openLeg2 (m : BitVec 4) (sigOk : Bool)
  /-- OPEN_TIMEOUT (R416): A provisional slot without leg 2 within 5 s is freed. -/
  | openTimeout (slot : BitVec 4)
  /-- CLOSE (R342): A command ends its session after its response. -/
  | close (m : BitVec 4)
  /-- GET (R346): A command returns the values in force of up to 64 pids. -/
  | get (m : BitVec 4)
  /-- SET (R347): A command checks all entries and then applies them in order under their takes-effect rules. -/
  | set (m : BitVec 4)
  /-- GETBLK (R348): A command returns entries of a block pid. -/
  | getblk (m : BitVec 4)
  /-- STATE_STOP (R344): A STATE request for STOP, orderly or immediate. -/
  | stateStop (m : BitVec 4)
  /-- STATE_RUN (R78): A STATE request for RUN initialises or keeps non-retentive state and places the first releases. -/
  | stateRun (m : BitVec 4)
  /-- STATE_HALT (R344): A STATE request for HALT, orderly or immediate. -/
  | stateHalt (m : BitVec 4)
  /-- TEST_ENTER (R344): A STATE request enters the TEST sub-state from STOP. -/
  | testEnter (m : BitVec 4)
  /-- TEST_LEAVE (R344): A STATE request leaves the TEST sub-state for STOP. -/
  | testLeave (m : BitVec 4)
  /-- STATE_RESTART (R344): A STATE request responds and then takes a chip reset. -/
  | stateRestart (m : BitVec 4)
  /-- IMGRD (R345): A command reads points from one committed version of the image without forces. -/
  | imgrd (m : BitVec 4)
  /-- FORCE (R345): A command sets, removes or clears forces on I, Q, IW and QW points. -/
  | force (m : BitVec 4)
  /-- PRG_BEGIN (R135): A command takes the program lock and starts staging a container. -/
  | prgBegin (m : BitVec 4)
  /-- PRG_DATA (R137): A command stages the next bytes of a container in the shadow bank. -/
  | prgData (m : BitVec 4)
  /-- PRG_COMMIT (R139): A command checks a staged container and activates it or leaves it LOADED. -/
  | prgCommit (m : BitVec 4) (v : Verdict)
  /-- EDIT_BEGIN (R135): A command takes the program lock for an online edit. -/
  | editBegin (m : BitVec 4)
  /-- EDIT_APPLY (R147): A command checks an online edit and arms it for a common peg instant A. -/
  | editApply (m : BitVec 4) (v : Verdict)
  /-- STAGING_TIMEOUT (R135): 60 s in STAGING without PRG_DATA releases the lock and discards the staging. -/
  | stagingTimeout
  /-- LOADED_TIMEOUT (R135): 600 s in LOADED without an activating PRG_COMMIT releases the lock. -/
  | loadedTimeout
  /-- LOGRD (R434): A command returns verified event log records from a sequence. -/
  | logrd (m : BitVec 4)
  /-- UPD_BEGIN (R438): A command takes the update lock and starts downloading a firmware image. -/
  | updBegin (m : BitVec 4)
  /-- UPD_DATA (R439): A command stages the next bytes of the image in the inactive firmware bank. -/
  | updData (m : BitVec 4)
  /-- UPD_VERIFIED (R439): The security engine finishes verifying the staged image, to VERIFIED or NONE. -/
  | updVerified (v : Verdict)
  /-- UPD_DATA_TIMEOUT (R439): 60 s without UPD_DATA before activation discards the staged image. -/
  | updDataTimeout
  /-- UPD_ACTIVATE (R441): A command starts rewriting the FeRAM image through the shim journal. -/
  | updActivate (m : BitVec 4) (vin : Nat)
  /-- UPD_STATUS (R445): A command returns the update stage, result and timings. -/
  | updStatus (m : BitVec 4)
  /-- UPD_ACTIVATION_DONE (R441): The last block is written and re-verified and the stage becomes ACTIVATED. -/
  | updActivationDone
  /-- HANDOVER (R442): A quiet gap is found and control moves to the new firmware bank through the hand-over record. -/
  | handover
  /-- HANDOVER_COMPLETE (R442): The new image resumes context 0, answers UPD_ACTIVATE and starts the trial. -/
  | handoverComplete
  /-- HANDOVER_NOGAP (R442): No hand-over gap within 60 s of ACTIVATED and the update reverts. -/
  | handoverNogap
  /-- TRIAL_CONFIRM (R443): The health conditions hold for 1 s and the update is confirmed and fuses blown. -/
  | trialConfirm
  /-- CONFIRM_TIMEOUT (R443): The confirmation time ends without health and the update reverts. -/
  | confirmTimeout
  /-- REVERT_DONE (R444): The journal slots are restored and verified, the old image is handed back and UPD_REVERT is raised. -/
  | revertDone
  /-- CHALLENGE (R409): An ownership operation returns a fresh 32-byte challenge. -/
  | challenge (m : BitVec 4)
  /-- CHALLENGE_EXPIRY (R409): An outstanding challenge expires after 600 s. -/
  | challengeExpiry (slot : BitVec 4)
  /-- CLAIM (R408): An ownership operation claims an unclaimed device with a proof. -/
  | claim (m : BitVec 4) (proofOk : Bool)
  /-- TRANSFER (R408): An ownership operation clears owner data and transfers ownership with a token. -/
  | transfer (m : BitVec 4) (tokenSigOk : Bool) (proofOk : Bool)
  /-- OWN_RELEASE (R408): An ownership operation clears owner data and leaves the device unclaimed. -/
  | ownRelease (m : BitVec 4) (tokenSigOk : Bool)
  /-- INSTALL (R413): A policy operation replaces the policy and ends sessions it no longer grants. -/
  | install (m : BitVec 4) (sigOk : Bool)
  /-- LOCK (R414): A policy operation sets the owner lock. -/
  | lock (m : BitVec 4)
  /-- UNLOCK (R414): A policy operation opens the owner lock for a token's duration. -/
  | unlock (m : BitVec 4) (tokenSigOk : Bool)
  /-- UNLOCK_EXPIRY (R414): The owner lock closes again when the unlock duration ends. -/
  | unlockExpiry
  /-- DEBUG (R420): A policy operation unlocks the debug port and forces SPLIT. -/
  | debug (m : BitVec 4) (tokenSigOk : Bool)
  /-- DEBUG_END (R420): A policy operation locks the debug port again. -/
  | debugEnd (m : BitVec 4)
  /-- DEBUG_EXPIRY (R420): The debug unlock duration ends and the port locks. -/
  | debugExpiry
  /-- ATTEST (R419): A command returns a signed attestation report for a verifier nonce. -/
  | attest (m : BitVec 4)
  /-- STBY_STATUS (R182): A command returns the role, sync state, epoch and takeover record. -/
  | stbyStatus (m : BitVec 4)
  /-- STBY_JOIN (R182): A command starts pair negotiation. -/
  | stbyJoin (m : BitVec 4)
  /-- STBY_SWITCH (R176): A command chooses a switchover instant X and sends CTRL SWITCH. -/
  | stbySwitch (m : BitVec 4)
  /-- STBY_LEAVE (R182): A command dissolves the pair. -/
  | stbyLeave (m : BitVec 4)
  /-- FLT_ACK (R380): A command acknowledges fault records and may release nFAULT or leave SAFE. -/
  | fltAck (m : BitVec 4)
  /-- TAMPER_TRIP (R421): A tamper sensor trips, session and SRX keys are zeroised and TAMPER is raised. -/
  | tamperTrip (sensor : BitVec 2)
  /-- TAMPER_ZEROISE (R421): Once the TAMPER record is durable K_nvm and K_log are zeroised. -/
  | tamperZeroise
  /-- SCARF_LINK_UP (R161): Both units' lanes hold lock and the units exchange HELLO if joining. -/
  | scarfLinkUp
  /-- SCARF_LANE_LOCK_LOSS (R157): A receive lane loses lock and the unit stops transmitting on both lanes. -/
  | scarfLaneLockLoss (lane : Nat)
  /-- SCARF_LINK_LOST (R160): 15 µs without a valid frame or a lane loss declares the link lost and roles change. -/
  | scarfLinkLost
  /-- SCARF_HEARTBEAT_SEND (R159): A unit with nothing else to send transmits HEARTBEAT at least every 5 µs. -/
  | scarfHeartbeatSend
  /-- SCARF_HEARTBEAT (R159): A HEARTBEAT frame is received with the partner's STIME, role and epoch. -/
  | scarfHeartbeat (h : ScarfHdr) (stime : Nat) (role : Nat) (sync : Nat) (epoch : Nat)
  /-- HELLO (R162): A HELLO frame is received and roles are negotiated. -/
  | hello (h : ScarfHdr) (p : Hello)
  /-- DELTA_PAGE (R167): The standby stages a delta page. -/
  | deltaPage (h : ScarfHdr) (page : Nat) (data : List Byte) (mask : List Byte)
  /-- DELTA_MASK (R167): The standby stages the mask of a Q or M delta page. -/
  | deltaMask (h : ScarfHdr) (page : Nat) (mask : List Byte)
  /-- DELTA_END (R167): The standby checks the delta CRC and acknowledges or refuses the delta. -/
  | deltaEnd (h : ScarfHdr) (d : DeltaEnd)
  /-- DELTA_APPLY (R167): The standby merges an acknowledged delta into its image, cells and retentive store in peg order. -/
  | deltaApply
  /-- ACK (R168): The primary receives an acknowledgement and the held shot may emit. -/
  | ack (h : ScarfHdr) (crc : Nat)
  /-- NAK (R168): The primary receives a refusal, emits the shot and starts a resync. -/
  | nak (h : ScarfHdr) (reason : Nat)
  /-- ACK_DEADLINE (R168): The acknowledgement bound passes without ACK and the primary emits and resyncs. -/
  | ackDeadline
  /-- DROP_FRAME (R169): The standby takes a forwarded drop into its context counters. -/
  | dropFrame (h : ScarfHdr) (c : Nat) (reason : Nat) (count : Nat)
  /-- COPY_PAGE (R170): The standby takes a copied image or DB page during resync. -/
  | copyPage (h : ScarfHdr) (page : Nat) (peg : Nat) (data : List Byte)
  /-- COPY_CELLS (R170): The standby takes copied timer, counter and edge state. -/
  | copyCells (h : ScarfHdr) (cells : List CellRec)
  /-- COPY_END (R165): The copy ends and the standby becomes LEVEL at its next acknowledged delta. -/
  | copyEnd (h : ScarfHdr) (pages : Nat) (cells : Nat)
  /-- CTRL_STATE (R164): The standby follows the primary's device state at the sent instant. -/
  | ctrlState (h : ScarfHdr) (st : Nat) (at_ : Nat)
  /-- CTRL_FORCE (R169): The standby takes the primary's complete force list. -/
  | ctrlForce (h : ScarfHdr) (forces : List (Nat × Nat))
  /-- RESYNC (R170): The standby discards its image and enters SYNCING for a copy. -/
  | resync (h : ScarfHdr)
  /-- EDIT_OFFER (R178): The standby receives a staged container and checks it. -/
  | editOffer (h : ScarfHdr) (purpose : Nat) (left : Nat) (data : List Byte) (v : Verdict)
  /-- EDIT_VERDICT (R155): The primary receives the standby's load status for an edit. -/
  | editVerdict (h : ScarfHdr) (status : Nat) (detail : Nat)
  /-- UPD_OFFER (R179): The standby receives a staged firmware image and verifies it. -/
  | updOffer (h : ScarfHdr) (left : Nat) (data : List Byte) (v : Verdict)
  /-- UPD_VERDICT (R179): The primary receives the standby's verification, activation or confirmation result. -/
  | updVerdict (h : ScarfHdr) (what : Nat) (ok : Bool)
  /-- SWITCH (R176): The standby receives the planned switchover instant X. -/
  | switch (h : ScarfHdr) (at_ : Nat)
  /-- SWITCH_INSTANT (R176): At X the roles exchange and the new primary claims the token. -/
  | switchInstant
  /-- SWITCH_DONE (R176): The new primary learns the last old emissions are out and may emit. -/
  | switchDone (h : ScarfHdr)
  /-- LEAVE (R174): A LEAVE frame is received and the partner leaves the pair. -/
  | leave (h : ScarfHdr) (code : Nat)
  /-- BAY_CYCLE_START (R185): At each 25 µs cycle the engine sends the cycle-start message and command frames. -/
  | bayCycleStart (x : Nat)
  /-- CYCLE_START_MESSAGE (R199): The bay receives a cycle-start, sets its local time and freshness or safe-now. -/
  | cycleStartMessage (x : Nat) (err : List Byte)
  /-- COMMAND_FRAME (R191): The bay receives a channel's command frame and stores next, applies current or queues an urgent request. -/
  | commandFrame (x : Nat) (n : Nat) (err : List Byte)
  /-- APPLY_NEXT (R191): The bay's local time reaches a stored next instant and the channel applies the value. -/
  | applyNext (x : Nat) (n : Nat)
  /-- BAY_LATCH (R193): At its local c the bay latches every channel's input and sends sample frames. -/
  | bayLatch (x : Nat) (r : List Reading) (lp : Nat) (temp : Int)
  /-- SAMPLE_FRAME (R193): The engine receives sample frames and writes the cycle's unit into the live input area. -/
  | sampleFrame (x : Nat) (errs : List (Nat × List Byte))
  /-- STREAM_FRAME (R265): The engine receives a conversion result and writes it to the modulator's circular buffer. -/
  | streamFrame (x : Nat) (n : Nat) (err : List Byte)
  /-- BAY_IDENT (R194): A management request returns the bay's identity and configuration CRC. -/
  | bayIdent (x : Nat) (err : List Byte)
  /-- CFG_WRITE (R213): A management request writes bytes into the configuration copy that is not newest. -/
  | cfgWrite (x : Nat) (off : Nat) (data : List Byte) (err : List Byte)
  /-- CFG_COMMIT (R213): A management request checks the written copy's CRC and makes it newest. -/
  | cfgCommit (x : Nat) (crc : Nat) (err : List Byte)
  /-- CFG_READ (R194): A management request reads bytes of the bay configuration. -/
  | cfgRead (x : Nat) (off : Nat) (count : Nat) (err : List Byte)
  /-- DIAG_READ (R208): A management request returns the bay or a channel diagnostic record. -/
  | diagRead (x : Nat) (rec : Nat) (err : List Byte)
  /-- PROT_CLEAR (R241): A management request clears a channel latch or sticky bits if its condition allows. -/
  | protClear (x : Nat) (n : Nat) (kind : Nat) (err : List Byte)
  /-- TRIM_WRITE (R286): A management request carries a trim step or measurement to the bay. -/
  | trimWrite (x : Nat) (n : Nat) (op : Nat) (data : Int) (err : List Byte)
  /-- MGMT_RESPONSE (R194): The engine receives a bay's management response and completes the request. -/
  | mgmtResponse (x : Nat) (err : List Byte)
  /-- MGMT_TIMEOUT (R194): A request without response in its cycle is repeated up to 3 times, then fails with BAYTIMEOUT. -/
  | mgmtTimeout (x : Nat) (err : List Byte)
  /-- DIAG_POLL (R208): Firmware reads every bay and channel record at least every 1 ms and writes DG. -/
  | diagPoll
  /-- ALIVE_STATUS_WORD (R195): The engine receives the bay's status word on the alive/fault lane. -/
  | aliveStatusWord (x : Nat) (err : W16)
  /-- BAY_LOST (R195): 100 µs without a valid toggling status word declares the bay lost. -/
  | bayLost (x : Nat)
  /-- BAY_SILENT (R199): No fresh cycle-start for the silent timeout makes the bay silent and channels go to safe states. -/
  | baySilent (x : Nat)
  /-- LANE_SILENT (R200): A channel lane without valid command frames for the silent timeout takes the channel to its safe state. -/
  | laneSilent (x : Nat) (n : Nat)
  /-- BAY_CLOCK_LOSS (R200): The bay loses BCLK for 10 µs and its channels go to safe states with inputs stopped. -/
  | bayClockLoss (x : Nat)
  /-- BAY_CLOCK_RETURN (R200): BCLK runs for 1 ms without a gap and the bay leaves clock loss, silent until a fresh cycle-start. -/
  | bayClockReturn (x : Nat)
  /-- LP_WARNING (R206): L+ below 19.2 V for 1 ms sets the warning bit. -/
  | lpWarning (x : Nat) (lp : Nat)
  /-- LP_UNDERVOLT (R206): L+ below 16.0 V turns every output off and marks inputs invalid. -/
  | lpUndervolt (x : Nat) (lp : Nat)
  /-- LP_QUALIFIED (R206): L+ above 17.5 V for 10 ms validates inputs and starts channel restoration. -/
  | lpQualified (x : Nat) (lp : Nat)
  /-- CHANNEL_RESTORE (R206): Channel k is restored k × 200 µs after qualification. -/
  | channelRestore (x : Nat) (n : Nat)
  /-- BAY_RESET (R206): The bay logic supply falls below 12 V and the bay resets with drivers off. -/
  | bayReset (x : Nat) (lp : Nat)
  /-- BAY_CONFIG_LOADED (R206): After a bay reset the configuration is loaded from the bay FeRAM. -/
  | bayConfigLoaded (x : Nat) (lp : Nat) (almsel : Bool)
  /-- LIMP_ASSERT (R205): The LIMP pin is asserted past its filter and mapped channels follow the limp map. -/
  | limpAssert (x : Nat) (volt : Nat) (held : Nat)
  /-- LIMP_RELEASE (R205): The LIMP pin is released and mapped channels return to rows 4 or 5 of Table BAY-9. -/
  | limpRelease (x : Nat) (volt : Nat) (held : Nat)
  /-- DEBOUNCE_CHANGE (R221): The raw state holds a new level for the filter time and the debounced state changes. -/
  | debounceChange (x : Nat) (n : Nat) (volt : Nat) (held : Nat)
  /-- WIRE_BREAK_DECLARE (R224): Every current measurement for wb.time is below i_min with the input OFF and a wire break is declared. -/
  | wireBreakDeclare (x : Nat) (n : Nat) (current : Nat) (held : Nat)
  /-- WIRE_BREAK_CLEAR (R224): The input turns ON or the current recovers for wb.time and the wire break clears. -/
  | wireBreakClear (x : Nat) (n : Nat) (current : Nat) (held : Nat)
  /-- COUNTER_EDGE (R226): A counted edge of a CNT channel changes its count. -/
  | counterEdge (x : Nat) (n : Nat) (volt : Nat) (phase : Nat)
  /-- QUAD_EDGE (R227): A quadrature edge changes the count or records a transition error. -/
  | quadEdge (x : Nat) (n : Nat) (va : Nat) (vb : Nat) (phase : Nat)
  /-- HARD_LIMIT (R231): A load step drives the switch into its 6 A current limit. -/
  | hardLimit (x : Nat) (n : Nat)
  /-- OC_TRIP (R232): Current above the trip threshold for 8 µs switches the channel off and sets the OC latch. -/
  | ocTrip (x : Nat) (n : Nat) (current : Nat) (held : Nat)
  /-- INRUSH_WINDOW_END (R233): An inrush window ends and the trip threshold returns to do.oc_thr. -/
  | inrushWindowEnd (x : Nat) (n : Nat)
  /-- RETRY_DUE (R234): A pending retry falls due and is taken when the drive is on and no other latch is set. -/
  | retryDue (x : Nat) (n : Nat)
  /-- RETRY_RESTORE (R234): 10 s on without a latch-off restores retry_left to retry_max. -/
  | retryRestore (x : Nat) (n : Nat)
  /-- THERMAL_TRIP (R236): A channel junction reaches 170 °C, the driver turns off and the thermal latch is set. -/
  | thermalTrip (x : Nat) (n : Nat) (temp : Int)
  /-- CLAMP_OVER (R238): A clamp pulse's integral passes 300 mJ and the clamp lock is set at once. -/
  | clampOver (x : Nat) (n : Nat) (energy : Nat)
  /-- CLAMP_PULSE_END (R239): A clamp pulse ends, its energy is added to clamp_acc and the budget is checked. -/
  | clampPulseEnd (x : Nat) (n : Nat) (energy : Nat)
  /-- CLAMP_DECAY (R239): Every 25 ms of BCLK clamp_acc falls by 1 mJ. -/
  | clampDecay (x : Nat)
  /-- OPENLOAD_SET (R240): Load current below ol_i_min for 50 ms with the switch on sets OPENLOAD. -/
  | openloadSet (x : Nat) (n : Nat) (current : Nat) (held : Nat)
  /-- OPENLOAD_CLEAR (R240): Load current at or above ol_i_min for 50 ms clears OPENLOAD. -/
  | openloadClear (x : Nat) (n : Nat) (current : Nat) (held : Nat)
  /-- EXT_HIGH_SET (R240): A terminal sensed high for 10 ms with the switch off sets EXT_HIGH. -/
  | extHighSet (x : Nat) (n : Nat) (volt : Nat) (held : Nat)
  /-- EXT_HIGH_CLEAR (R240): A terminal sensed low for 10 ms clears EXT_HIGH. -/
  | extHighClear (x : Nat) (n : Nat) (volt : Nat) (held : Nat)
  /-- SINC_OUTPUT (R256): A channel's sinc filter produces an output, checked for a step. -/
  | sincOutput (x : Nat) (m : Nat) (y : Int)
  /-- CONVERSION_END (R250): A conversion ends and the visit continues, ends, or gives way to an urgent or maintenance visit. -/
  | conversionEnd (x : Nat) (m : Nat)
  /-- RESULT_DELIVERY (R259): 4 µs after conversion end the value is calibrated, scaled, thresholded and delivered. -/
  | resultDelivery (x : Nat) (m : Nat) (compliance : Bool)
  /-- THRESHOLD_EVENT (R263): Firmware takes the threshold interrupt, counts the crossing and optionally logs it. -/
  | thresholdEvent (x : Nat)
  /-- LEAD_VISIT_END (R251): A lead visit ends and the measured lead resistance is stored. -/
  | leadVisitEnd (x : Nat) (m : Nat) (code : Int)
  /-- TEST_VISIT_END (R264): An open-wire test visit ends and open wire is declared or cleared. -/
  | testVisitEnd (x : Nat) (m : Nat) (code : Int)
  /-- SHUNT_TRIP (R247): Shunt current above 30 mA for 1 ms opens the shunt. -/
  | shuntTrip (x : Nat) (n : Nat) (current : Nat) (held : Nat)
  /-- SHUNT_RECLOSE (R247): An open shunt recloses every 1 s. -/
  | shuntReclose (x : Nat) (n : Nat)
  /-- SHUNT_OFF_CLEAR (R247): The reclosed shunt stays closed for 100 ms and SHUNT_OFF clears. -/
  | shuntOffClear (x : Nat) (n : Nat) (current : Nat)
  /-- CURRENT_OPEN_WIRE (R264): A 0-24 mA input below ow.i_min for 100 ms declares open wire, cleared after 100 ms above. -/
  | currentOpenWire (x : Nat) (n : Nat) (current : Int) (held : Nat)
  /-- TAP_STEP_UP (R277): Headroom below 2.0 V moves the channel to the next higher tap within 50 µs. -/
  | tapStepUp (x : Nat) (n : Nat) (volt : Nat)
  /-- TAP_STEP_DOWN (R277): A lower tap has given 2.5 V headroom for 100 ms and the channel steps down. -/
  | tapStepDown (x : Nat) (n : Nat) (volt : Nat) (held : Nat)
  /-- TAP_FORCED (R278): At 150 °C the channel steps to a lower tap and sets TAP_FORCED. -/
  | tapForced (x : Nat) (n : Nat) (temp : Int) (volt : Nat)
  /-- TAP_FORCED_CLEAR (R278): The sensor reads below 140 °C and TAP_FORCED clears. -/
  | tapForcedClear (x : Nat) (n : Nat) (temp : Int)
  /-- LIMITER_STEP (R278): Each millisecond the thermal limiter lowers or raises its ceiling by 1 %. -/
  | limiterStep (x : Nat) (n : Nat) (temp : Int)
  /-- COMPLIANCE_ONSET (R279): A compliance condition arises and COMPLIANCE becomes live. -/
  | complianceOnset (x : Nat) (n : Nat) (volt : Nat) (current : Nat)
  /-- COMPLIANCE_CLEAR (R279): The compliance condition has been absent for 1 ms and COMPLIANCE clears. -/
  | complianceClear (x : Nat) (n : Nat) (volt : Nat) (current : Nat) (held : Nat)
  /-- ALARM_FORCED_LOW (R280): COMPLIANCE live for 50 ms latches the channel to its low alarm level. -/
  | alarmForcedLow (x : Nat) (n : Nat)
  /-- OPENLOOP_SET (R281): An open-loop condition for 10 ms sets OPENLOOP. -/
  | openloopSet (x : Nat) (n : Nat) (volt : Nat) (readback : Int) (held : Nat)
  /-- OPENLOOP_CLEAR (R281): The open-loop condition is absent for 10 ms and OPENLOOP clears. -/
  | openloopClear (x : Nat) (n : Nat) (volt : Nat) (readback : Int) (held : Nat)
  /-- SEGMENT_CYCLE (R295): A segment cycle starts and the master sends OUT frames to every configured node. -/
  | segmentCycle (sg : Nat)
  /-- SRX_IN (R299): The master receives an IN frame and writes its inputs as one unit, or handles stale epochs. -/
  | srxIn (sg : Nat) (f : SrxFrame)
  /-- IN_MISSED (R299): No IN frame by c + T_s counts a miss and may make the node LOST. -/
  | inMissed (sg : Nat) (node : Nat)
  /-- SRX_OUT (R307): A unit in the NODE role accepts an OUT frame and stores its image and steps. -/
  | srxOut (x : Nat) (f : SrxFrame)
  /-- SRX_CLAIM (R315): A CLAIM frame is verified and a greater epoch is latched. -/
  | srxClaim (x : Nat) (f : SrxFrame)
  /-- SRX_SAFE (R308): A SAFE frame puts the node in its safe state at once. -/
  | srxSafe (x : Nat) (f : SrxFrame)
  /-- NODE_SILENT (R308): A node without a fresh OUT for its silent timeout enters its safe state and forgets its epoch. -/
  | nodeSilent (x : Nat)
  /-- AREQ (R310): A node executes an acyclic read or write request and answers. -/
  | areq (x : Nat) (f : SrxFrame) (unwrapped : Option Nat)
  /-- ARSP (R310): The master receives an acyclic response and completes the exchange. -/
  | arsp (f : SrxFrame)
  /-- ACYCLIC_TIMEOUT (R310): An unanswered request is retried or completes with TIMEOUT. -/
  | acyclicTimeout (id : Nat)
  /-- NODE_STARTUP_RETRY (R312): After 1 s a node's start-up is repeated or a REFUSED node's IDENT read again. -/
  | nodeStartupRetry (node : Nat)
  /-- REKEY (R305): The key generation is incremented and made durable at each rekey. -/
  | rekey
  /-- PORT_LINK_CHANGE (R291): An Ethernet port's link comes up or goes down. -/
  | portLinkChange (port : Nat) (speed : Nat) (fullDuplex : Bool)
  /-- RUN_WAIT_EXPIRY (R471): time.run.wait_max passes since STOP was reached and a unit with autorun enters RUN on the STIME it has. -/
  | runWaitExpiry
  /-- ACLK_START (R463): The 32.768 kHz clock starts running after boot or returns after a loss, so clock-loss monitoring begins and the ACLK_LOSS live bit clears. -/
  | aclkStart
  /-- DIE_TEMP_CLEAR (R374): The logic-die junction falls below 115 °C and the DIE_TEMP live bit clears. -/
  | dieTempClear
  /-- SYNC_IN_EDGE_MISSED (R468): An expected SYNC_IN edge fails to arrive, and after 3 consecutive misses the source becomes unavailable and the discipline enters holdover. -/
  | syncInEdgeMissed
  /-- HOST_PORT_UNKNOWN_CODE (R325): A host-port transaction with an unknown code sets HSTAT.CODE and is ignored until HP_nCS rises. -/
  | hostPortUnknownCode (code : Byte)
  /-- SEQUENCE_RECOVERY_RESET (R294): The 802.1CB reset timeout of a stream runs out and its sequence recovery history is reset. -/
  | sequenceRecoveryReset (node : Nat)
  /-- SEL_CODE_CHANGE (R211): The levels on A_SEL0-A_SEL3 change, bay.x.sel takes the new code and the A_ISNS mirror settles on the newly selected channel within 20 µs. -/
  | selCodeChange (x : Nat) (code : BitVec 4)
  /-- GPTP_SYNC_TRANSMIT (R292): As grandmaster or relay, the device sends a two-step Sync and its Follow_Up at each logSyncInterval. -/
  | gptpSyncTransmit (port : Nat)
deriving DecidableEq, Repr

end Sys2Proof
end

