-- ==== Sys2Proof/Decode.lean ====
section
/-!
DEFINITION. The command that a word of spec/opcode_table.json spells.
-/

namespace Sys2Proof

/-- The command that the low `nbits` bits `w` spell. The block's commands have no encoding: the table gives no row any bits,
so no word spells a command. -/
def decodeTableWord (_nbits _w : Nat) : Option Instr := none

end Sys2Proof
end

