-- ==== Sys2Proof/Machine/Bits.lean ====
section
/-!
DEFINITION. Bit-field, byte-order and table helpers that every family uses, and the CRC functions of the frames.
-/

namespace Sys2Proof.Machine

/-! ### Sparse tables: key and value pairs in rising key order -/

/-- The value a sparse table holds for key `k`, or `d` where it lists none. -/
def tget {α : Type} (d : α) (t : List (Nat × α)) (k : Nat) : α :=
  match t with
  | [] => d
  | (k', v) :: rest => if k' = k then v else tget d rest k

/-- The table with key `k` holding `v`; keys stay in rising order, one entry a key. -/
def tset {α : Type} (t : List (Nat × α)) (k : Nat) (v : α) : List (Nat × α) :=
  match t with
  | [] => [(k, v)]
  | (k', v') :: rest =>
    if k < k' then (k, v) :: (k', v') :: rest
    else if k = k' then (k, v) :: rest
    else (k', v') :: tset rest k v

/-- The table without key `k`. -/
def tdel {α : Type} (t : List (Nat × α)) (k : Nat) : List (Nat × α) :=
  t.filter (fun e => e.1 != k)

/-- What a sparse table lists for key `k`, if anything. -/
def tfind {α : Type} (t : List (Nat × α)) (k : Nat) : Option α :=
  match t with
  | [] => none
  | (k', v) :: rest => if k' = k then some v else tfind rest k

/-- An element put before the first one that it does not lie after. -/
def insertBy {α : Type} (le : α → α → Bool) (x : α) (l : List α) : List α :=
  match l with
  | [] => [x]
  | y :: rest => if le x y then x :: y :: rest else y :: insertBy le x rest

/-- A list in the order `le`; equal elements stay in their order. -/
def sortBy {α : Type} (le : α → α → Bool) (l : List α) : List α :=
  match l with
  | [] => []
  | x :: rest => insertBy le x (sortBy le rest)

/-! ### Byte memories: rising addresses, no entry equal to the byte an unlisted address reads as (zero) -/

/-- A byte memory as plain data. -/
abbrev Memory := List Host.Cell

/-- What an address that the list does not name reads as (assumption log 3). -/
def Memory.blank : Byte := 0#8

/-- The byte at address `a`. -/
def Memory.read (m : Memory) (a : Nat) : Byte :=
  match m with
  | [] => Memory.blank
  | (a', b) :: rest => if a' = a then b else Memory.read rest a

/-- The memory with byte `b` at address `a`, in canonical form. -/
def Memory.write (m : Memory) (a : Nat) (b : Byte) : Memory :=
  match m with
  | [] => if b = Memory.blank then [] else [(a, b)]
  | (a', b') :: rest =>
    if a < a' then (if b = Memory.blank then (a', b') :: rest else (a, b) :: (a', b') :: rest)
    else if a = a' then (if b = Memory.blank then rest else (a, b) :: rest)
    else (a', b') :: Memory.write rest a b

/-- Addresses of `m` all lie above `lo`, rise strictly, and no entry is blank. -/
def Memory.wfFrom (lo : Nat) (m : Memory) : Bool :=
  match m with
  | [] => true
  | (a, b) :: rest => decide (lo ≤ a) && decide (b ≠ Memory.blank) && Memory.wfFrom (a + 1) rest

/-- The canonical form: addresses strictly rising, no entry equal to what an unlisted address reads as. -/
def Memory.wf (m : Memory) : Bool := Memory.wfFrom 0 m

/-- The cells of `m` whose address satisfies `p`. -/
def Memory.restrict (m : Memory) (p : Nat → Bool) : Memory := m.filter (fun c => p c.1)

/-- `n` bytes from address `a` upward. -/
def Memory.readN (m : Memory) (a n : Nat) : List Byte :=
  (List.range n).map (fun i => Memory.read m (a + i))

/-- The bytes `bs` stored from address `a` upward. -/
def Memory.writeL (m : Memory) (a : Nat) (bs : List Byte) : Memory :=
  match bs with
  | [] => m
  | b :: rest => Memory.writeL (Memory.write m a b) (a + 1) rest

/-- Copies the cells of `src` onto `m` (used for snapshots and copies of whole pages). -/
def Memory.overlay (m src : Memory) : Memory :=
  src.foldl (fun acc c => Memory.write acc c.1 c.2) m

/-- `dst` with the `len` bytes from `src_at` of `src` in place of those from `to_`. -/
def Memory.copyRegion (dst src : Memory) (src_at to_ len : Nat) : Memory :=
  (src.restrict (fun a => decide (src_at ≤ a) && decide (a < src_at + len))).foldl
    (fun acc c => Memory.write acc (c.1 - src_at + to_) c.2)
    (dst.restrict (fun a => !(decide (to_ ≤ a) && decide (a < to_ + len))))

/-! ### Little-endian numbers -/

/-- The number a little-endian byte list spells. -/
def leNat (bs : List Byte) : Nat :=
  match bs with
  | [] => 0
  | b :: rest => b.toNat + 256 * leNat rest

/-- `n` little-endian bytes of `v`. -/
def leBytes (n v : Nat) : List Byte :=
  match n with
  | 0 => []
  | k + 1 => BitVec.ofNat 8 v :: leBytes k (v / 256)

/-- The little-endian number of `n` bytes at offset `o` of `bs`; bytes beyond the end count as 0. -/
def leAt (bs : List Byte) (o n : Nat) : Nat := leNat ((bs.drop o).take n)

/-- Bits [hi:lo] of a number. -/
def bits (v hi lo : Nat) : Nat := v / 2 ^ lo % 2 ^ (hi + 1 - lo)

/-- Bit `i` of a number. -/
def bit (v i : Nat) : Bool := v / 2 ^ i % 2 == 1

/-- A Boolean as 0 or 1. -/
def b2n (b : Bool) : Nat := if b then 1 else 0

/-- The number whose bits are the listed Booleans, bit 0 first. -/
def ofBits (bs : List Bool) : Nat :=
  match bs with
  | [] => 0
  | b :: rest => b2n b + 2 * ofBits rest

/-- A field value placed at bit `lo`. -/
def shl (v lo : Nat) : Nat := v * 2 ^ lo

/-- `v` with bit `i` set. -/
def setBit (v i : Nat) : Nat := if bit v i then v else v + 2 ^ i

/-- `v` with bit `i` cleared. -/
def clearBit (v i : Nat) : Nat := if bit v i then v - 2 ^ i else v

/-- Bitwise AND of numbers of at most 64 bits. -/
def land64 (a b : Nat) : Nat := (BitVec.ofNat 64 a &&& BitVec.ofNat 64 b).toNat

/-- Bitwise OR of numbers of at most 64 bits. -/
def lor64 (a b : Nat) : Nat := (BitVec.ofNat 64 a ||| BitVec.ofNat 64 b).toNat

/-- `a` with the bits of `b` cleared, for numbers of at most 64 bits. -/
def clr64 (a b : Nat) : Nat := (BitVec.ofNat 64 a &&& ~~~ (BitVec.ofNat 64 b)).toNat

/-- Two's-complement reading of the low `w` bits of `v`. -/
def toInt (w v : Nat) : Int := (BitVec.ofNat w v).toInt

/-- Two's-complement encoding of `v` on `w` bits. -/
def ofInt (w : Nat) (v : Int) : Nat := (BitVec.ofInt w v).toNat

/-- `v` forced into [lo, hi]. -/
def clampInt (lo hi v : Int) : Int := if v < lo then lo else if hi < v then hi else v

/-- Quotient rounded up. -/
def ceilDiv (a b : Nat) : Nat := if b = 0 then 0 else (a + b - 1) / b

/-- A sum that saturates at 2^w - 1, for counters. -/
def satAdd (w a b : Nat) : Nat := min (a + b) (2 ^ w - 1)

/-- A counter's increment, wrapping at its width. -/
def wrapInc (w a : Nat) : Nat := (a + 1) % 2 ^ w

/-! ### Cyclic redundancy checks (the polynomials of R188, R163, R213) -/

/-- One byte into a reflected CRC of width `w` with reflected polynomial `poly`. -/
def crcByte (w : Nat) (poly crc : BitVec w) (b : Byte) : BitVec w :=
  (List.range 8).foldl
    (fun c _ => if c.getLsbD 0 then (c >>> 1) ^^^ poly else c >>> 1)
    (crc ^^^ b.setWidth w)

/-- CRC-32 (reflected 0xEDB88320, initial and final complement). -/
def crc32 (bs : List Byte) : W32 :=
  ~~~ (bs.foldl (crcByte 32 0xEDB88320#32) 0xFFFFFFFF#32)

/-- CRC-32C (reflected 0x82F63B78, initial and final complement). -/
def crc32c (bs : List Byte) : W32 :=
  ~~~ (bs.foldl (crcByte 32 0x82F63B78#32) 0xFFFFFFFF#32)

/-- One byte into a CRC-16 with polynomial 0x1021, most significant bit first. -/
def crc16Byte (crc : W16) (b : Byte) : W16 :=
  (List.range 8).foldl
    (fun c _ => if c.getLsbD 15 then (c <<< 1) ^^^ 0x1021#16 else c <<< 1)
    (crc ^^^ (b.setWidth 16 <<< 8))

/-- CRC-16 with polynomial 0x1021 and initial value 0xFFFF. -/
def crc16 (bs : List Byte) : W16 := bs.foldl crc16Byte 0xFFFF#16

end Sys2Proof.Machine
end

