-- ==== Sys2Proof/Machine/Params.lean ====
section
/-!
DEFINITION. The parameter tables of the manual (SHOT-9, TASK-1, TASK-6, HOST-17, TMR-9, FLT-11, NVM-12, PWR-11, SEC-13,
STBY, BAY, DCH, AIN, AOUT and RIO): type, access, takes-effect rule, range, step and default of every pid (R346, R349).
-/

namespace Sys2Proof.Machine

/-- Access codes of Table SCOPE-6 for a parameter. -/
inductive PAccess where
  | ro
  | rw
  | wo
  | w1c
  | rwl
deriving DecidableEq, Repr

/-- The takes-effect rules of Table SCOPE-7. -/
inductive PEffect where
  | now
  | nextPeg
  | inStop
  | atRestart
deriving DecidableEq, Repr

/-- One row of a parameter table: pid or offset, type code of Table HOST-13, access, effect, range, step, one further value
outside the range that is allowed, and the default. -/
structure PRow where
  key : Nat
  ty : Nat
  acc : PAccess
  eff : PEffect
  lo : Int
  hi : Int
  step : Nat
  alt : Option Int
  dflt : Int
deriving DecidableEq, Repr

/-- Shorthand for a row without a further value. -/
def prow (key ty : Nat) (acc : PAccess) (eff : PEffect) (lo hi : Int) (step : Nat) (dflt : Int) : PRow :=
  { key := key, ty := ty, acc := acc, eff := eff, lo := lo, hi := hi, step := step, alt := none, dflt := dflt }

/-- Table HOST-17: plain pids. -/
def ptSys : List PRow := [
  prow 0 4 .ro .now 0 4844 1 18500,  -- sys.id.vendor
  prow 1 3 .ro .now 7 232 1 0,  -- sys.id.part
  prow 2 2 .ro .now 1 2 1 0,  -- sys.id.bays
  prow 3 2 .ro .now 8 32 1 0,  -- sys.id.channels
  prow 4 3 .ro .now 0 65535 1 0,  -- sys.id.silicon
  prow 5 9 .ro .now 0 0 1 0,  -- sys.id.serial
  prow 6 9 .ro .now 0 0 1 0,  -- sys.id.device
  prow 7 4 .ro .now 0 4294967295 1 0,  -- sys.id.fw.version
  prow 8 9 .ro .now 0 0 1 0,  -- sys.id.fw.hash
  prow 9 3 .ro .now 0 256 1 0,  -- sys.id.sec_version
  prow 10 3 .ro .now 1 1 1 1,  -- sys.id.bcp.version
  prow 11 3 .ro .now 1 65535 1 0,  -- sys.id.pair.version
  prow 0x10 9 .ro .now 0 0 1 0,  -- sys.dict
  prow 0x11 3 .ro .now 0 8192 1 0,  -- sys.dict.count
  prow 0x20 9 .rw .now 0 0 1 0,  -- sys.name
  prow 0x100 2 .ro .now 0 255 1 1,  -- sys.state
  prow 0x101 2 .ro .now 0 255 1 0,  -- sys.substate
  prow 0x102 5 .ro .now 0 18446744073709551615 1 0,  -- sys.state.since
  prow 0x103 1 .rw .atRestart 0 1 1 0,  -- sys.autorun
  prow 0x104 4 .ro .now 0 4294967295 1 0,  -- sys.boot.count
  prow 0x105 2 .ro .now 0 255 1 0,  -- sys.reset.cause
  prow 0x106 4 .ro .now 0 4294967295 1 0,  -- sys.restarts
  prow 0x107 9 .ro .now 0 0 1 0,  -- sys.prog.hash
  prow 0x108 2 .ro .now 0 255 1 255,  -- sys.prog.slot
  prow 0x109 2 .ro .now 0 15 1 0,  -- sys.prog.chain
  prow 0x10a 2 .ro .now 0 255 1 0,  -- sys.prog.bank
  prow 0x10b 2 .ro .now 0 255 1 0,  -- sys.fw.bank
  prow 0x10c 2 .ro .now 0 255 1 0,  -- sys.edit.state
  prow 0x10d 5 .ro .now 0 18446744073709551615 1 0,  -- sys.edit.instant
  prow 0x10e 3 .ro .now 0 65535 1 0,  -- sys.edit.session
  prow 0x110 2 .ro .now 0 16 1 0,  -- sys.session.open
  prow 0x111 3 .rw .now 10 3600 1 300,  -- sys.session.idle
  prow 0x112 4 .ro .now 0 4294967295 1 0,  -- sys.session.auth_fail
  prow 0x113 4 .ro .now 0 4294967295 1 0,  -- sys.session.badseq
  prow 0x114 2 .rw .now 1 16 1 12,  -- sys.mbx.host_max
  prow 0x115 5 .ro .now 0 18446744073709551615 1 0,  -- sys.cmd.count
  prow 0x116 4 .ro .now 0 4294967295 1 0,  -- sys.cmd.worst
  prow 0x117 4 .ro .now 0 4294967295 1 0,  -- sys.hp.errors
  prow 0x120 2 .rw .inStop 0 255 1 0]  -- sys.gpio.host_out

/-- Table SHOT-9 (image.ret.range.n apart): plain pids. -/
def ptImage : List PRow := [
  prow 0x600 4 .ro .now 0 524288 1 0,  -- image.ret.bytes
  prow 0x601 3 .ro .now 0 8192 1 0,  -- image.ret.rows
  prow 0x602 2 .ro .now 0 64 1 0,  -- image.ret.ranges
  prow 0x603 5 .ro .now 0 18446744073709551615 1 0,  -- image.ret.commits
  prow 0x604 3 .ro .now 0 512 1 0,  -- image.ret.worst_rows
  prow 0x605 3 .rw .inStop 1 512 1 512,  -- image.ret.cap_rows
  prow 0x608 3 .ro .now 0 256 1 256,  -- image.pool.free
  prow 0x609 3 .ro .now 0 256 1 256,  -- image.pool.min_free
  prow 0x60a 3 .ro .now 0 240 1 0,  -- image.pool.quota_sum
  prow 0x60b 3 .ro .now 16 16 1 16,  -- image.pool.reserve
  prow 0x610 3 .rw .inStop 25 1000 25 100,  -- image.apply.bay_lead
  prow 0x611 4 .ro .now 0 4294967295 1 0,  -- image.apply.late
  prow 0x612 4 .ro .now 0 4294967295 1 0,  -- image.emit.worst
  prow 0x613 4 .ro .now 0 4294967295 1 0,  -- image.emit.bound
  prow 0x618 1 .rw .now 0 1 1 0,  -- image.force.enable
  prow 0x619 3 .ro .now 0 256 1 0,  -- image.force.count
  prow 0x61a 1 .wo .now 1 1 1 0,  -- image.force.clear
  prow 0x620 4 .ro .now 0 4294967295 1 0,  -- image.snap.waits
  prow 0x621 5 .ro .now 0 18446744073709551615 1 0,  -- image.peg.remaps
  prow 0x622 5 .ro .now 0 18446744073709551615 1 0,  -- image.peg.merges
  prow 0x623 5 .ro .now 0 18446744073709551615 1 0,  -- image.live.copies
  prow 0x630 4 .ro .now 0 4294967295 1 0,  -- image.stby.ack_last
  prow 0x631 4 .ro .now 0 4294967295 1 0]  -- image.stby.ack_worst

/-- Table TASK-6: plain pids. -/
def ptSched : List PRow := [
  prow 0x700 3 .ro .now 0 1000 1 0,  -- sched.util_worst
  prow 0x701 4 .ro .now 0 4294967295 1 5,  -- sched.check.result
  prow 0x702 5 .ro .now 0 18446744073709551615 1 0,  -- sched.check.slack_min
  prow 0x703 3 .rw .inStop 1000 10000 1000 1000,  -- sched.sys.period
  prow 0x704 3 .rw .inStop 20 500 5 100,  -- sched.sys.budget
  prow 0x705 4 .ro .now 0 4294967295 1 0,  -- sched.sys.exhausted
  prow 0x706 4 .rw .now 1000 100000 25 1000,  -- sched.run.lead
  prow 0x707 5 .ro .now 0 18446744073709551615 1 0,  -- sched.preempts
  prow 0x708 5 .ro .now 0 18446744073709551615 1 0,  -- sched.bank.conflicts
  prow 0x709 3 .ro .now 0 1000 1 0,  -- sched.bank.worst
  prow 0x70a 3 .ro .now 0 1000 1 1000,  -- sched.idle.min
  prow 0x70b 4 .ro .now 0 4294967295 1 0]  -- sched.releases.skipped

/-- Table PWR-11: plain pids. -/
def ptTime : List PRow := [
  prow 0x740 2 .ro .now 0 255 1 0,  -- time.source
  prow 0x741 2 .ro .now 0 255 1 0,  -- time.state
  prow 0x742 8 .ro .now (-9223372036854775808) 9223372036854775807 1 0,  -- time.offset
  prow 0x743 7 .ro .now (-250000) 250000 1 0,  -- time.rate
  prow 0x744 4 .rw .now 1000 1000000000 1 1000000,  -- time.step_thr
  prow 0x745 4 .rw .now 50 100000 1 1000,  -- time.lock_thr
  prow 0x746 4 .ro .now 0 4294967295 1 0,  -- time.steps
  prow 0x747 1 .rw .inStop 0 1 1 0,  -- time.sync_in.enable
  prow 0x748 4 .rw .inStop 1000 1000000 1000 1000000,  -- time.sync_in.period
  prow 0x749 4 .ro .now 0 4294967295 1 0,  -- time.sync_in.rejects
  { prow 0x74a 4 .rw .now 1000 1000000 1000 0 with alt := some 0 },  -- time.sync_out.period
  prow 0x74b 4 .rw .now 1 999999 1 100,  -- time.sync_out.width
  prow 0x74c 5 .wo .inStop 0 18446744073709551615 1 0,  -- time.set
  prow 0x74d 1 .rw .atRestart 0 1 1 0,  -- time.run.wait
  prow 0x74e 3 .rw .atRestart 1 600 1 10,  -- time.run.wait_max
  prow 0x780 3 .ro .now 0 6000 1 0,  -- pwr.vin
  prow 0x781 3 .ro .now 0 6000 1 6000,  -- pwr.vin_min
  prow 0x782 3 .ro .now 0 65535 1 0,  -- pwr.domains
  prow 0x783 2 .rw .now 0 1 1 0,  -- pwr.holdup.method
  prow 0x784 3 .rw .now 100 10000 1 330,  -- pwr.holdup.cap_decl
  prow 0x785 3 .rw .now 4500 5500 1 4500,  -- pwr.holdup.v_warn
  prow 0x786 3 .rw .now 60 3600 1 600,  -- pwr.holdup.period
  prow 0x787 3 .ro .now 0 65535 1 0,  -- pwr.holdup.cap
  prow 0x788 3 .ro .now 0 65535 1 0,  -- pwr.holdup.energy
  prow 0x789 2 .ro .now 0 255 1 0,  -- pwr.holdup.result
  prow 0x78a 5 .ro .now 0 18446744073709551615 1 0,  -- pwr.holdup.time
  prow 0x78b 4 .ro .now 0 4294967295 1 0]  -- pwr.pll.unlocks

/-- Table TMR-9: plain pids. -/
def ptTmr : List PRow := [
  prow 0x800 2 .ro .now 0 255 1 0,  -- tmr.mode
  prow 0x801 2 .rw .nextPeg 0 2 1 0,  -- tmr.mode.request
  prow 0x802 2 .ro .now 0 255 1 255,  -- tmr.free_core
  prow 0x803 2 .ro .now 0 255 1 0,  -- tmr.retired
  prow 0x804 4 .ro .now 0 4294967295 1 0,  -- tmr.resyncs
  prow 0x805 4 .ro .now 0 4294967295 1 0,  -- tmr.c0.resyncs
  prow 0x806 4 .ro .now 0 4294967295 1 0,  -- tmr.c1.resyncs
  prow 0x807 4 .ro .now 0 4294967295 1 0,  -- tmr.c2.resyncs
  prow 0x808 4 .ro .now 0 4294967295 1 0,  -- tmr.skew
  prow 0x809 5 .ro .now 0 18446744073709551615 1 0,  -- tmr.irq.entries
  prow 0x80a 4 .ro .now 0 1000 1 0,  -- tmr.join.last
  prow 0x80b 4 .ro .now 0 1000 1 0,  -- tmr.join.worst
  prow 0x80c 4 .ro .now 0 40000 1 0,  -- tmr.resync.worst
  prow 0x80d 4 .ro .now 0 4294967295 1 0,  -- tmr.cmp.events
  prow 0x80e 1 .ro .now 0 1 1 0,  -- tmr.cmp.pending
  prow 0x80f 1 .ro .now 0 1 1 0,  -- tmr.dbg_broken
  prow 0x810 4 .ro .now 0 4294967295 1 65535,  -- tmr.selftest.result
  prow 0x811 2 .wo .inStop 1 1 1 0,  -- tmr.selftest.run
  prow 0x812 4 .ro .now 0 400 1 0,  -- tmr.selftest.time
  prow 0x818 2 .ro .now 0 255 1 0,  -- tmr.truss.mode
  prow 0x819 2 .ro .now 0 255 1 0,  -- tmr.truss.retired
  prow 0x81a 4 .ro .now 0 4294967295 1 0,  -- tmr.truss.lane0.odd
  prow 0x81b 4 .ro .now 0 4294967295 1 0,  -- tmr.truss.lane1.odd
  prow 0x81c 4 .ro .now 0 4294967295 1 0,  -- tmr.truss.lane2.odd
  prow 0x820 9 .ro .now 0 0 1 0]  -- tmr.last

/-- Table FLT-11 (the source rows apart): plain pids. -/
def ptFault : List PRow := [
  prow 0x900 4 .ro .now 0 4294967295 1 0,  -- flt.live
  prow 0x901 4 .w1c .now 0 4294967295 1 0,  -- flt.sticky
  prow 0x902 4 .ro .now 0 4294967295 1 0,  -- flt.pending
  prow 0x903 4 .ro .now 0 4294967295 1 0,  -- flt.seq.newest
  prow 0x904 4 .ro .now 0 4294967295 1 0,  -- flt.seq.acked
  prow 0x905 2 .ro .now 0 255 1 0,  -- flt.class.pending
  prow 0x906 2 .ro .now 0 255 1 1,  -- flt.pins
  prow 0x907 2 .rw .inStop 1 3 1 2,  -- flt.retry.max
  prow 0x908 9 .ro .now 0 0 1 0,  -- flt.records
  prow 0x909 4 .ro .now 0 4294967295 1 0,  -- flt.collector.faults
  prow 0x910 3 .rw .atRestart 1 1000 1 100,  -- wdg.timeout
  prow 0x911 4 .rw .atRestart 100 999900 100 10000,  -- wdg.open
  prow 0x912 2 .rw .atRestart 1 7 1 3,  -- wdg.ladder.n
  prow 0x913 2 .ro .now 0 7 1 0,  -- wdg.ladder.pos
  prow 0x914 4 .ro .now 0 60000 1 0,  -- wdg.clean
  prow 0x915 4 .ro .now 0 4294967295 1 0,  -- wdg.expiries
  prow 0x916 4 .ro .now 0 4294967295 1 0,  -- wdg.early
  prow 0x917 9 .ro .now 0 0 1 0,  -- wdg.evidence
  prow 0x918 4 .ro .now 0 25000000 1 0,  -- wdg.restart.last
  prow 0x919 4 .ro .now 0 4294967295 1 0]  -- wdg.clkloss

/-- Table NVM-12: plain pids. -/
def ptNvm : List PRow := [
  prow 0xa00 5 .ro .now 0 18446744073709551615 1 0,  -- nvm.rows.written
  prow 0xa01 5 .ro .now 0 18446744073709551615 1 0,  -- nvm.rows.read
  prow 0xa02 4 .ro .now 0 4294967295 1 0,  -- nvm.ecc.corrected
  prow 0xa03 4 .ro .now 0 4294967295 1 0,  -- nvm.ecc.uncorrected
  prow 0xa04 4 .ro .now 0 4294967295 1 0,  -- nvm.commit.worst
  prow 0xa05 4 .ro .now 0 4294967295 1 0,  -- nvm.commit.seq
  prow 0xa06 4 .ro .now 0 4294967295 1 0,  -- nvm.checkpoint.seq
  prow 0xa07 3 .ro .now 0 2048 1 0,  -- nvm.recovery.replayed
  prow 0xa10 4 .ro .now 0 4294967295 1 0,  -- log.newest
  prow 0xa11 4 .ro .now 0 4294967295 1 0,  -- log.oldest
  prow 0xa12 3 .ro .now 0 38784 1 0,  -- log.records
  prow 0xa13 4 .ro .now 0 4294967295 1 0,  -- log.lost
  prow 0xa14 3 .ro .now 0 256 1 0,  -- log.queue.worst
  prow 0xa20 3 .ro .now 1 65535 1 0,  -- set.format
  prow 0xa21 4 .ro .now 0 4294967295 1 0,  -- set.sequence
  prow 0xa22 2 .ro .now 0 255 1 255,  -- set.copy
  prow 0xa23 4 .ro .now 0 131072 1 0,  -- set.length
  prow 0xa24 4 .ro .now 0 4294967295 1 0,  -- set.writes
  prow 0xa30 2 .ro .now 0 255 1 0,  -- upd.stage
  prow 0xa31 2 .ro .now 0 255 1 0,  -- upd.result
  prow 0xa32 2 .ro .now 0 255 1 0,  -- upd.reason
  prow 0xa33 3 .rw .now 10 600 1 60,  -- upd.confirm_time
  prow 0xa34 4 .ro .now 0 600000 1 0,  -- upd.confirm_left
  prow 0xa35 1 .rwl .now 0 1 1 1,  -- upd.motion.pin
  prow 0xa36 4 .rwl .now 0 4294967295 1 4294967295,  -- upd.motion.point
  prow 0xa37 4 .ro .now 0 2031616 1 0,  -- upd.staged
  prow 0xa38 2 .ro .now 0 255 1 0,  -- upd.journal.state
  prow 0xa39 4 .ro .now 0 4294967295 1 0,  -- upd.new_version
  prow 0xa3a 4 .ro .now 0 150000 1 0,  -- upd.handover.last
  prow 0xa3b 4 .ro .now 0 4294967295 1 0,  -- upd.confirmed
  prow 0xa3c 4 .ro .now 0 4294967295 1 0]  -- upd.reverts

/-- the security parameters (R424): plain pids. -/
def ptSec : List PRow := [
  prow 0xb00 2 .ro .now 0 255 1 0,  -- sec.owned
  prow 0xb01 9 .ro .now 0 0 1 0,  -- sec.owner.key_id
  prow 0xb02 9 .ro .now 0 0 1 0,  -- sec.owner.key
  prow 0xb03 9 .ro .now 0 0 1 0,  -- sec.policy
  prow 0xb04 9 .ro .now 0 0 1 0,  -- sec.policy.hash
  prow 0xb05 4 .ro .now 0 4294967295 1 0,  -- sec.policy.serial
  prow 0xb06 2 .ro .now 0 255 1 0,  -- sec.lock
  prow 0xb07 4 .ro .now 0 86400 1 0,  -- sec.lock.remaining
  prow 0xb08 9 .ro .now 0 0 1 0,  -- sec.cert
  prow 0xb09 9 .ro .now 0 0 1 0,  -- sec.cert.ca
  prow 0xb0a 3 .ro .now 0 256 1 0,  -- sec.fw.sec_version
  prow 0xb0b 4 .ro .now 0 4294967295 1 0,  -- sec.rights
  prow 0xb10 2 .rwl .atRestart 0 3 1 3,  -- sec.tls.ports
  prow 0xb11 3 .rwl .atRestart 1 65535 1 4232,  -- sec.tls.port
  prow 0xb12 2 .rwl .atRestart 1 8 1 4,  -- sec.tls.max
  prow 0xb13 2 .ro .now 0 8 1 0,  -- sec.tls.connections
  prow 0xb14 4 .ro .now 0 4294967295 1 0,  -- sec.tls.failures
  prow 0xb15 4 .ro .now 0 4294967295 1 0,  -- sec.open.failures
  prow 0xb18 2 .ro .now 0 255 1 0,  -- sec.debug.state
  prow 0xb19 4 .ro .now 0 28800 1 0,  -- sec.debug.remaining
  prow 0xb1a 4 .ro .now 0 4294967295 1 0,  -- sec.tamper.count
  prow 0xb1b 2 .ro .now 0 255 1 0,  -- sec.tamper.last
  prow 0xb1c 4 .ro .now 0 4294967295 1 0]  -- sec.log.breaks

/-- the network parameters (R322, the segment rows apart): plain pids. -/
def ptNet : List PRow := [
  prow 0xc00 2 .ro .now 0 255 1 0,  -- net.config.state
  prow 0xc01 3 .ro .now 0 65535 1 34997,  -- net.ethertype
  prow 0xc02 2 .ro .now 1 3 1 3,  -- net.gptp.mode
  prow 0xc03 2 .ro .now 0 255 1 0,  -- net.gptp.state
  prow 0xc04 8 .ro .now (-9223372036854775808) 9223372036854775807 1 0,  -- net.gptp.offset
  prow 0xc05 5 .ro .now 0 18446744073709551615 1 0,  -- net.gptp.gm_id
  prow 0xc06 2 .ro .now 0 255 1 0,  -- net.port.a.link
  prow 0xc07 2 .ro .now 0 255 1 0,  -- net.port.b.link
  prow 0xc08 5 .ro .now 0 18446744073709551615 1 0,  -- net.cb.eliminated
  prow 0xc09 5 .ro .now 0 18446744073709551615 1 0,  -- net.cb.lost
  prow 0xc0a 4 .ro .now 0 4294967295 1 0,  -- net.auth.fail
  prow 0xc0b 4 .ro .now 0 4294967295 1 0,  -- net.replay
  prow 0xc0c 4 .ro .now 0 4294967295 1 0,  -- net.late
  prow 0xc0d 3 .rw .now 1 1000 1 20,  -- net.acyc.timeout
  prow 0xc0e 2 .rw .now 0 7 1 2,  -- net.acyc.retries
  prow 0xc0f 2 .ro .now 0 128 1 0,  -- net.acyc.inflight
  prow 0xc10 2 .ro .now 0 128 1 0,  -- net.acyc.worst
  prow 0xc11 3 .rw .now 10 10000 1 100,  -- net.diag.period
  prow 0xc12 3 .rw .now 1 720 1 24,  -- net.rekey.period
  prow 0xc13 4 .ro .now 0 4294967295 1 0,  -- net.key.gen
  prow 0xc14 9 .wo .inStop 0 0 1 0,  -- net.key.ns
  prow 0xc15 9 .wo .inStop 0 0 1 0,  -- net.key.node
  prow 0xc16 9 .ro .now 0 0 1 0,  -- net.nodes
  prow 0xc17 9 .ro .now 0 0 1 0]  -- net.config.hash

/-- the standby parameters (R183): plain pids. -/
def ptStby : List PRow := [
  prow 0xe00 2 .rw .atRestart 0 2 1 0,  -- stby.mode
  prow 0xe01 2 .rw .atRestart 0 1 1 0,  -- stby.unit
  prow 0xe02 2 .ro .now 0 255 1 0,  -- stby.role
  prow 0xe03 2 .ro .now 0 255 1 0,  -- stby.sync
  prow 0xe04 4 .ro .now 0 4294967295 1 0,  -- stby.epoch
  prow 0xe05 1 .rw .now 0 1 1 1,  -- stby.auto_join
  prow 0xe06 2 .rw .now 10 90 1 50,  -- stby.resync.share
  prow 0xe07 3 .ro .now 0 1000 1 0,  -- stby.resync.progress
  prow 0xe08 2 .ro .now 0 255 1 0,  -- stby.refusal
  prow 0xe09 2 .ro .now 0 255 1 0,  -- stby.link.state
  prow 0xe0a 4 .ro .now 0 4294967295 1 0,  -- stby.link.errors
  prow 0xe0b 4 .ro .now 0 4294967295 1 0,  -- stby.acks.late
  prow 0xe0c 4 .ro .now 0 4294967295 1 0,  -- stby.naks
  prow 0xe0d 4 .ro .now 0 4294967295 1 0,  -- stby.resyncs
  prow 0xe0e 4 .ro .now 0 4294967295 1 0,  -- stby.takeovers
  prow 0xe0f 4 .ro .now 0 100000 1 0,  -- stby.takeover.last
  prow 0xe10 4 .ro .now 0 70000 1 0,  -- stby.apply.bound
  prow 0xe11 3 .ro .now 0 96 1 0,  -- stby.cells.worst
  prow 0xe20 3 .rw .atRestart 2 1023 1 2]  -- stby.node.number

/-- Table TASK-1: offsets in a context. -/
def ptCtx : List PRow := [
  prow 0 2 .ro .now 0 255 1 0,  -- ctx.n.state
  { prow 1 4 .rw .inStop 100 10000000 25 0 with alt := some 0 },  -- ctx.n.period
  prow 2 4 .rw .inStop 25 10000000 25 0,  -- ctx.n.peg_offset
  prow 3 4 .rw .inStop 0 9999975 25 0,  -- ctx.n.phase
  prow 4 2 .rw .nextPeg 1 255 1 3,  -- ctx.n.drop_cap
  prow 5 3 .ro .now 0 240 1 0,  -- ctx.n.quota
  prow 6 9 .ro .now 0 0 1 0,  -- ctx.n.snap_pages
  prow 7 4 .ro .now 0 4294967295 1 0,  -- ctx.n.networks
  prow 8 5 .ro .now 0 18446744073709551615 1 0,  -- ctx.n.budget
  prow 9 5 .ro .now 0 18446744073709551615 1 0,  -- ctx.n.bound
  prow 10 5 .ro .now 0 18446744073709551615 1 0,  -- ctx.n.exec_last
  prow 11 5 .ro .now 0 18446744073709551615 1 0,  -- ctx.n.exec_worst
  prow 12 4 .ro .now 0 4294967295 1 0,  -- ctx.n.drops
  prow 13 4 .ro .now 0 4294967295 1 65280,  -- ctx.n.drop_state
  { prow 14 5 .rw .now 1 10000000000 1 0 with alt := some 0 },  -- ctx.n.watch_limit
  prow 15 4 .ro .now 0 4294967295 1 0]  -- ctx.n.watch_count

/-- Table FLT-11: offsets of a fault source. -/
def ptFltSrc : List PRow := [
  prow 0 2 .rw .now 0 255 1 0,  -- flt.src.n.react
  prow 1 3 .rw .now 1 1000 1 100,  -- flt.src.n.grace
  prow 2 2 .rw .now 0 3 1 0,  -- flt.src.n.severity
  prow 3 4 .ro .now 0 4294967295 1 0]  -- flt.src.n.count

/-- Segment offsets (R322). -/
def ptSeg : List PRow := [
  prow 0 2 .ro .now 0 255 1 0,  -- net.seg.s.state
  prow 1 4 .ro .now 50 100000 1 0,  -- net.seg.s.cycle
  prow 2 4 .ro .now 0 99975 1 0,  -- net.seg.s.phase
  prow 3 4 .ro .now 25 100000 1 0,  -- net.seg.s.lead
  prow 4 4 .ro .now 0 50000000 1 0,  -- net.seg.s.window
  prow 5 4 .ro .now 0 4294967295 1 0,  -- net.seg.s.bound
  prow 6 4 .ro .now 0 20000000 1 0,  -- net.seg.s.fresh
  prow 7 3 .ro .now 0 1022 1 0,  -- net.seg.s.nodes
  prow 8 3 .ro .now 0 1022 1 0,  -- net.seg.s.live
  prow 9 5 .ro .now 0 18446744073709551615 1 0,  -- net.seg.s.cycles
  prow 10 4 .ro .now 0 4294967295 1 0,  -- net.seg.s.missed
  prow 11 4 .ro .now 0 4294967295 1 0]  -- net.seg.s.late

/-- Bay-level offsets (R215). -/
def ptBay : List PRow := [
  prow 0 2 .ro .now 0 255 1 0,  -- bay.a.state
  prow 1 3 .rw .now 1 100 1 10,  -- bay.a.silent_timeout
  prow 2 3 .rw .now 100 10000 25 1000,  -- bay.a.fresh_limit
  prow 3 4 .ro .now 100 20000000 1 1000,  -- bay.a.fresh_eff
  prow 4 1 .rw .inStop 0 1 1 0,  -- bay.a.limp_on_silence
  prow 5 4 .rw .inStop 0 1048575 1 0,  -- bay.a.map.i
  prow 6 4 .rw .inStop 1048576 2097151 1 1048576,  -- bay.a.map.q
  prow 7 4 .rw .inStop 2097152 3145727 1 2097152,  -- bay.a.map.iw
  prow 8 4 .rw .inStop 3145728 4194303 1 3145728,  -- bay.a.map.qw
  prow 9 3 .ro .now 0 65535 1 0,  -- bay.a.flt
  prow 10 3 .w1c .now 0 65535 1 0,  -- bay.a.flt_sticky
  prow 11 3 .ro .now 0 4000 1 0,  -- bay.a.lp
  prow 12 3 .ro .now 0 4000 1 0,  -- bay.a.lp_min
  prow 13 6 .ro .now (-500) 2000 1 0,  -- bay.a.temp
  prow 14 2 .ro .now 0 255 1 0,  -- bay.a.limp
  prow 15 4 .ro .now 0 4294967295 1 0,  -- bay.a.silences
  prow 0x10 4 .ro .now 0 4294967295 1 0,  -- bay.a.uv_events
  prow 0x11 4 .ro .now 0 4294967295 1 0,  -- bay.a.brownouts
  prow 0x12 4 .ro .now 0 4294967295 1 0,  -- bay.a.frames.bad
  prow 0x13 4 .ro .now 0 4294967295 1 0,  -- bay.a.late
  prow 0x14 4 .ro .now 0 4294967295 1 0,  -- bay.a.cfg.seq
  prow 0x15 4 .ro .now 0 4294967295 1 0,  -- bay.a.cfg.crc
  prow 0x16 2 .ro .now 0 15 1 0,  -- bay.a.sel
  prow 0x17 2 .ro .now 0 255 1 0]  -- bay.a.almsel

/-- Offsets of every channel (R215). -/
def ptChan : List PRow := [
  prow 0 2 .rw .inStop 0 254 1 0,  -- ch.a.n.mode
  prow 1 2 .rw .now 0 255 1 0,  -- ch.a.n.safe
  { prow 2 2 .rw .inStop 0 15 1 255 with alt := some 255 },  -- ch.a.n.limp.src
  prow 3 1 .rw .inStop 0 1 1 0]  -- ch.a.n.limp.invert

/-- Digital-input offsets of a channel (R244). -/
def ptDin : List PRow := [
  prow 4 2 .rw .inStop 1 3 1 3,  -- ch.a.n.in.type
  prow 5 3 .rw .now 0 20000 100 3000,  -- ch.a.n.din.filter
  prow 6 2 .rw .now 0 2 1 0,  -- ch.a.n.din.subst
  prow 7 1 .rw .now 0 1 1 0,  -- ch.a.n.din.wb.enable
  prow 8 3 .rw .now 50 1000 50 300,  -- ch.a.n.din.wb.i_min
  prow 9 3 .rw .now 1 1000 1 10,  -- ch.a.n.din.wb.time
  prow 10 3 .ro .now 0 3000 1 0,  -- ch.a.n.din.current
  prow 11 4 .ro .now 0 4294967295 1 0]  -- ch.a.n.din.wb.events

/-- Counter and quadrature offsets of a channel (R244). -/
def ptCnt : List PRow := [
  prow 0x10 2 .rw .inStop 0 2 1 0,  -- ch.a.n.cnt.edge
  prow 0x11 2 .rw .inStop 1 4 1 4,  -- ch.a.n.quad.mult
  prow 0x12 1 .rw .inStop 0 1 1 0,  -- ch.a.n.quad.invert
  prow 0x14 4 .ro .now 0 4294967295 1 0,  -- ch.a.n.cnt.overspeed
  prow 0x15 4 .ro .now 0 4294967295 1 0]  -- ch.a.n.quad.errors

/-- Digital-output offsets of a channel (R244). -/
def ptDout : List PRow := [
  prow 0x18 2 .rw .now 7 20 1 7,  -- ch.a.n.do.oc_thr
  prow 0x19 2 .rw .now 0 100 1 0,  -- ch.a.n.do.inrush_time
  prow 0x1a 2 .rw .now 7 45 1 20,  -- ch.a.n.do.inrush_thr
  prow 0x1b 2 .rw .now 0 7 1 0,  -- ch.a.n.do.retry_max
  prow 0x1c 2 .ro .now 0 7 1 0,  -- ch.a.n.do.retry_left
  prow 0x1d 3 .rw .now 300 1500 100 1500,  -- ch.a.n.do.clamp_budget
  prow 0x1e 3 .ro .now 0 4095 1 0,  -- ch.a.n.do.clamp_acc
  prow 0x1f 3 .ro .now 0 65535 1 0,  -- ch.a.n.do.clamp_last
  prow 0x20 2 .ro .now 0 255 1 0,  -- ch.a.n.do.latch
  prow 0x21 1 .rw .now 0 1 1 0,  -- ch.a.n.do.clear_on_low
  prow 0x22 2 .rw .now 0 250 1 0,  -- ch.a.n.do.ol_i_min
  prow 0x23 3 .ro .now 0 6000 1 0,  -- ch.a.n.do.current
  prow 0x24 6 .ro .now (-500) 2000 1 0,  -- ch.a.n.do.temp
  prow 0x25 4 .ro .now 0 4294967295 1 0,  -- ch.a.n.do.oc_trips
  prow 0x26 4 .ro .now 0 4294967295 1 0,  -- ch.a.n.do.thermal_trips
  prow 0x27 4 .ro .now 0 4294967295 1 0,  -- ch.a.n.do.clamp_locks
  prow 0x2f 2 .wo .now 0 3 1 0]  -- ch.a.n.prot.clear

/-- Analog-input offsets of a channel (R270). -/
def ptAin : List PRow := [
  prow 4 2 .rw .now 3 4 1 3,  -- ch.a.n.ain.order
  prow 5 3 .rw .now 32 4096 4 768,  -- ch.a.n.ain.ratio
  prow 6 2 .rw .now 0 2 1 0,  -- ch.a.n.ain.fir
  prow 7 2 .rw .now 1 32 1 32,  -- ch.a.n.ain.fir.taps
  prow 8 2 .rw .now 1 32 1 1,  -- ch.a.n.ain.fir.decim
  prow 9 2 .rw .now 1 255 1 1,  -- ch.a.n.ain.dwell
  prow 10 2 .rw .now 0 1 1 0,  -- ch.a.n.ain.units
  prow 11 2 .rw .now 0 1 1 0,  -- ch.a.n.ain.res.range
  prow 12 3 .rw .now 0 50000 1 0,  -- ch.a.n.ain.rtd.lead
  prow 13 3 .rw .now 100 10000 1 1000,  -- ch.a.n.ain.rtd.lead_period
  prow 14 4 .ro .now 0 4294967295 1 0,  -- ch.a.n.ain.rtd.lead_meas
  prow 15 3 .rw .now 0 10000 1 0,  -- ch.a.n.ain.step_thr
  prow 0x10 7 .rw .now (-2147483648) 2147483647 1 2147483647,  -- ch.a.n.ain.thr.hi
  prow 0x11 7 .rw .now (-2147483648) 2147483647 1 (-2147483648),  -- ch.a.n.ain.thr.lo
  prow 0x12 4 .rw .now 0 2147483647 1 0,  -- ch.a.n.ain.thr.hys
  prow 0x13 2 .rw .now 0 2 1 0,  -- ch.a.n.ain.thr.ibit
  prow 0x14 1 .rw .now 0 1 1 0,  -- ch.a.n.ain.thr.log
  prow 0x15 4 .ro .now 0 4294967295 1 0,  -- ch.a.n.ain.thr.events
  prow 0x16 2 .rw .now 0 2 1 0,  -- ch.a.n.ain.ow.mode
  prow 0x17 3 .rw .now 100 10000 1 1000,  -- ch.a.n.ain.ow.period
  prow 0x18 3 .rw .now 100 5000 1 1000,  -- ch.a.n.ain.ow.thr
  { prow 0x19 3 .rw .now 50 4000 50 0 with alt := some 0 },  -- ch.a.n.ain.ow.i_min
  prow 0x1a 2 .rw .now 0 2 1 0,  -- ch.a.n.ain.subst
  prow 0x1b 7 .rw .now (-2147483648) 2147483647 1 0,  -- ch.a.n.ain.user.offset
  prow 0x1c 4 .rw .now 500000 1500000 1 1000000,  -- ch.a.n.ain.user.gain
  prow 0x1d 7 .ro .now (-2147483648) 2147483647 1 0,  -- ch.a.n.ain.value
  prow 0x1e 7 .ro .now (-8388608) 8388607 1 0,  -- ch.a.n.ain.code
  prow 0x1f 4 .ro .now 10000 24000000 1 1000000,  -- ch.a.n.ain.odr
  prow 0x20 4 .ro .now 0 4294967295 1 0,  -- ch.a.n.ain.bloom
  prow 0x21 4 .ro .now 0 4294967295 1 0,  -- ch.a.n.ain.overrange.events
  prow 0x22 4 .ro .now 0 4294967295 1 0,  -- ch.a.n.ain.ow.events
  prow 0x23 4 .ro .now 0 4294967295 1 0,  -- ch.a.n.ain.shunt.trips
  prow 0x24 4 .ro .now 0 4294967295 1 0,  -- ch.a.n.ain.results
  prow 0x2f 2 .wo .now 0 0 1 0]  -- ch.a.n.prot.clear

/-- Analog-output offsets of a channel (R290). -/
def ptAout : List PRow := [
  prow 4 2 .rw .now 0 2 1 0,  -- ch.a.n.ao.alarm.sel
  prow 5 3 .rw .now 3500 3800 10 3600,  -- ch.a.n.ao.alarm.low
  prow 6 3 .rw .now 20800 23000 10 21000,  -- ch.a.n.ao.alarm.high
  prow 7 1 .rw .now 0 1 1 0,  -- ch.a.n.ao.ne43.clamp
  prow 8 2 .rw .now 0 1 1 0,  -- ch.a.n.ao.tap.mode
  prow 9 2 .wo .inStop 1 5 1 0,  -- ch.a.n.ao.trim.cmd
  prow 10 7 .rw .inStop 3800000 4200000 1 0,  -- ch.a.n.ao.trim.meas4
  prow 11 7 .rw .inStop 19600000 20400000 1 0,  -- ch.a.n.ao.trim.meas20
  prow 12 4 .ro .now 980000 1020000 1 1000000,  -- ch.a.n.ao.trim.gain
  prow 13 7 .ro .now (-200000) 200000 1 0,  -- ch.a.n.ao.trim.offset
  prow 14 2 .ro .now 0 255 1 0,  -- ch.a.n.ao.trim.state
  prow 0x10 7 .ro .now (-2147483648) 2147483647 1 0,  -- ch.a.n.ao.readback
  prow 0x11 3 .ro .now 0 4000 1 0,  -- ch.a.n.ao.terminal
  prow 0x12 6 .ro .now (-4000) 4000 1 0,  -- ch.a.n.ao.headroom
  prow 0x13 2 .ro .now 0 3 1 3,  -- ch.a.n.ao.tap
  prow 0x14 6 .ro .now (-500) 2000 1 0,  -- ch.a.n.ao.temp
  prow 0x15 2 .ro .now 0 255 1 0,  -- ch.a.n.ao.latch
  prow 0x16 4 .ro .now 0 4294967295 1 0,  -- ch.a.n.ao.comp.events
  prow 0x17 4 .ro .now 0 4294967295 1 0,  -- ch.a.n.ao.ol.events
  prow 0x18 4 .ro .now 0 4294967295 1 0,  -- ch.a.n.ao.thermal.events
  prow 0x19 4 .ro .now 0 4294967295 1 0,  -- ch.a.n.ao.forced_low.events
  prow 0x1a 4 .ro .now 0 4294967295 1 0,  -- ch.a.n.ao.tap.changes
  prow 0x2f 2 .wo .now 0 11 1 0]  -- ch.a.n.prot.clear

/-- Modulator offsets (R270). -/
def ptModl : List PRow := [
  prow 0 2 .rw .now 0 255 1 255,  -- ain.a.m0.scan_mask
  prow 1 2 .ro .now 0 4 1 0,  -- ain.a.m0.state
  prow 2 4 .ro .now 0 4294967295 1 0,  -- ain.a.m0.scan_time
  prow 3 4 .ro .now 0 4294967295 1 0,  -- ain.a.m0.scan_worst
  prow 4 4 .ro .now 0 4294967295 1 0,  -- ain.a.m0.results
  prow 5 3 .ro .now 0 4095 1 0,  -- ain.a.m0.dma.head
  prow 6 9 .ro .now 0 0 1 0,  -- ain.a.m0.dma.buf
  prow 7 5 .ro .now 0 18446744073709551615 1 0,  -- ain.a.m0.dma.head_time
  prow 8 4 .ro .now 0 4294967295 1 0,  -- ain.a.m0.urgent.served
  prow 9 4 .ro .now 0 4294967295 1 0,  -- ain.a.m0.urgent.merged
  prow 10 4 .ro .now 0 4294967295 1 0,  -- ain.a.m0.urgent.discarded
  prow 11 4 .ro .now 0 4294967295 1 0,  -- ain.a.m0.maint.late
  prow 0x10 9 .rw .now 0 0 1 0,  -- ain.a.m0.fir0
  prow 0x11 9 .rw .now 0 0 1 0]  -- ain.a.m0.fir1

/-- Every plain pid. -/
def ptPlain : List PRow :=
  ptSys ++ ptImage ++ ptSched ++ ptTime ++ ptTmr ++ ptFault ++ ptNvm ++ ptSec ++ ptNet ++ ptStby

/-- The row of a table with key `k`. -/
def pfind (t : List PRow) (k : Nat) : Option PRow :=
  match t with
  | [] => none
  | r :: rest => if r.key = k then some r else pfind rest k

/-- Bytes of a value of a type (Table HOST-13); a block has none of its own. -/
def ptypeBytes (ty : Nat) : Nat :=
  match ty with
  | 1 => 1
  | 2 => 1
  | 3 => 2
  | 4 => 4
  | 5 => 8
  | 6 => 2
  | 7 => 4
  | 8 => 8
  | _ => 0

/-- Whether a type is signed. -/
def ptypeSigned (ty : Nat) : Bool := ty == 6 || ty == 7 || ty == 8

/-- The value that `n` bytes on the wire spell for a type: signed types in two's complement. -/
def pvalue (ty n : Nat) : Int := if ptypeSigned ty then toInt (8 * ptypeBytes ty) n else (n : Int)

/-- The number that travels for a value. -/
def pwire (ty : Nat) (v : Int) : Nat := ofInt (8 * max 1 (ptypeBytes ty)) v

/-- Whether a value is in the range column, its step and its further value included. -/
def prowAllows (r : PRow) (v : Int) : Bool :=
  r.alt == some v || (decide (r.lo ≤ v) && decide (v ≤ r.hi) && decide (v % (r.step : Int) = 0))

end Sys2Proof.Machine
end

