-- ==== Sys2Proof/Machine/State.lean ====
section
/-!
DEFINITION. The state of the block as plain data: one structure per chapter of the spec, a queue of waiting commands, and
the state right after reset. Rule numbers name where each piece is defined.
-/

namespace Sys2Proof.Machine

/-! ### The unit: part, device state, role (00, 01) -/

/-- The family members of Table SCOPE-1. -/
inductive Part where
  | p7232
  | p7216
  | p7208
deriving DecidableEq, Repr

/-- The device states of Table ARCH-9 (R27). -/
inductive DevState where
  | off
  | boot
  | init
  | stop
  | run
  | halt
  | recovery
  | safe
  | lockout
deriving DecidableEq, Repr

/-- The sub-states of STOP and RUN (R27). -/
inductive SubState where
  | none
  | update
  | test
deriving DecidableEq, Repr

/-- The roles of Table ARCH-10 (R30). -/
inductive Role where
  | solo
  | primary
  | standby
  | node
deriving DecidableEq, Repr

/-- The device state, an orderly drain in progress (R79: its target and the instant of acceptance) and what entry into RUN
left to do. -/
structure Device where
  part : Part
  state : DevState
  sub : SubState
  role : Role
  drain : Option DevState
  /-- The instant at which an orderly request was accepted (R79). -/
  drainAt : Ns
  /-- The mailbox whose STATE request waits for the drain to end (R344). -/
  drainMbx : Option Nat
  /-- The mailbox whose RUN request waits for the first release (R344). -/
  runMbx : Option Nat
  /-- The instant at which the present state was entered, in FCLK ticks, and as STIME. -/
  since : Nat
  sinceTime : Ns
  /-- Auto-run waits for STIME after boot (R471). -/
  autoWait : Bool
deriving DecidableEq, Repr

/-! ### Programs (05) -/

/-- A context-table entry (Table EDIT-3) with its read set (section READ). Times in µs. -/
structure CtxEntry where
  ctx : Nat
  dropCap : Nat
  quota : Nat
  period : Nat
  pegOffset : Nat
  phase : Nat
  entry : Nat
  codeFirst : Nat
  codeLen : Nat
  netFirst : Nat
  netCount : Nat
deriving DecidableEq, Repr

/-- An entry of the READ section: the read set of one context, pages in the form of ctx.n.snap_pages. -/
structure ReadEntry where
  ctx : Nat
  pages : List Nat
deriving DecidableEq, Repr

/-- An entry of the OWN section (Table EDIT-2). -/
structure OwnEntry where
  ctx : Nat
  area : Nat
  first : Nat
  count : Nat
deriving DecidableEq, Repr

/-- An entry of the IND section (Table EDIT-2). -/
structure IndEntry where
  place : Nat
  net : Nat
  word : Nat
  addr : Nat
  len : Nat
deriving DecidableEq, Repr

/-- An entry of the REL section (Table EDIT-2). -/
structure RelEntry where
  place : Nat
  kind : Nat
  net : Nat
  word : Nat
  first : Nat
  count : Nat
deriving DecidableEq, Repr

/-- A declared retentive range and its first row in the store (R52). -/
structure RetRange where
  area : Nat
  first : Nat
  len : Nat
  row : Nat
deriving DecidableEq, Repr

/-- A data block of the DB layout (section DB). -/
structure DbBlock where
  num : Nat
  first : Nat
  len : Nat
  layout : Nat
deriving DecidableEq, Repr

/-- An INIT entry (R132). -/
structure InitEntry where
  addr : Nat
  words : List Nat
deriving DecidableEq, Repr

/-- A migration entry (Table EDIT-6). -/
structure MigEntry where
  op : Nat
  conv : Nat
  srcBlock : Nat
  srcWord : Nat
  dstBlock : Nat
  count : Nat
  dstWord : Nat
deriving DecidableEq, Repr

/-- A replaced unit (Table EDIT-5). -/
structure UnitEntry where
  kind : Nat
  ctx : Nat
  oldFirst : Nat
  oldCount : Nat
  newFirst : Nat
  newCount : Nat
deriving DecidableEq, Repr

/-- A loop or BMOV bound (section BOUND). -/
structure BoundEntry where
  word : Nat
  count : Nat
deriving DecidableEq, Repr

/-- A network: its index and its instruction words, T-format extension words included. -/
structure Network where
  idx : Nat
  words : List W32
deriving DecidableEq, Repr

/-- A program as a bank and a truss half hold it: the sections of its container (Table EDIT-2). -/
structure Program where
  /-- The program hash (R129), a 384-bit number. -/
  hash : Nat
  progId : Nat
  version : Nat
  ctxs : List CtxEntry
  codeFirst : Nat
  code : List W32
  nets : List Network
  bounds : List BoundEntry
  owns : List OwnEntry
  inds : List IndEntry
  rels : List RelEntry
  rets : List RetRange
  dbSize : Nat
  dbBlocks : List DbBlock
  reads : List ReadEntry
  inits : List InitEntry
  /-- Word ranges (first index, count) between `codeFirst` and the last word that hold no code of the program: nothing was supplied for
  them, or an edit has taken their unit away (R130, R143, R144). -/
  dead : List (Nat × Nat)
deriving DecidableEq, Repr

/-- A program with no section. -/
def Program.empty : Program :=
  { hash := 0, progId := 0, version := 0, ctxs := [], codeFirst := 0, code := [], nets := [], bounds := [], owns := [],
    inds := [], rels := [], rets := [], dbSize := 0, dbBlocks := [], reads := [], inits := [], dead := [] }

/-! ### The truss configuration store (R90, R118, R119) -/

/-- What a reference of a cell refers to: the BA handed in, an operand bit by its key (mode 2^24, point or offset below), or a cell
of the network in order of creation. -/
inductive RefTo where
  | baIn
  | operand (key : Nat)
  | cell (n : Nat)
deriving DecidableEq, Repr

/-- A reference with its inversion. -/
structure LRef where
  tgt : RefTo
  inv : Bool
deriving DecidableEq, Repr

/-- A cell: function (0 AND, 1 OR, 2 XOR; 16 and 17 REDGE and FEDGE; 32 + opcode for timers and counters), its inputs, whether it is
marked. -/
structure LCell where
  fn : Nat
  ins : List LRef
  marked : Bool
deriving DecidableEq, Repr

/-- A sink: its point by key, the reference it writes, and the reference that enables it (none: always enabled). -/
structure LSink where
  key : Nat
  val : LRef
  enable : Option LRef
deriving DecidableEq, Repr

/-- A network's descriptor: its place in the store (the number of its first cell) and L, g, w and t of Table ISA-12. -/
structure NetDescr where
  idx : Nat
  place : Nat
  l : Nat
  g : Nat
  w : Nat
  t : Nat
deriving DecidableEq, Repr

/-- A half of the configuration store: the cells of every network with their levels, the sinks with their networks, and the
descriptors that the program bank of the same number holds. -/
structure TrussHalf where
  cells : List (Nat × LCell)
  sinks : List (Nat × LSink)
  descrs : List NetDescr
deriving DecidableEq, Repr

/-- A half that holds nothing. -/
def TrussHalf.init : TrussHalf := { cells := [], sinks := [], descrs := [] }

/-- The two halves of the configuration store; half `prog.bank` is the active one (R118). -/
structure TrussStore where
  h0 : TrussHalf
  h1 : TrussHalf
deriving DecidableEq, Repr

/-- A cleared store. -/
def TrussStore.init : TrussStore := { h0 := TrussHalf.init, h1 := TrussHalf.init }

/-! ### The network configuration (11) -/

/-- The PORTS entry (Table RIO-7). -/
structure PortsCfg where
  gptp : Nat
  prio1 : Nat
  prio2 : Nat
  logSync : Int
  ether : Nat
  cbHist : Nat
  cbReset : Nat
  vlan : Nat
  acycPcp : Nat
deriving DecidableEq, Repr

/-- A SEGMENTS entry (Table RIO-8); times in µs, the hop delay in ns. -/
structure SegCfg where
  seg : Nat
  port : Nat
  hops : Nat
  pcp : Nat
  cycle : Nat
  phase : Nat
  lead : Nat
  hopDelay : Nat
  group : Nat
deriving DecidableEq, Repr

/-- A node descriptor (Table RIO-9). -/
structure NodeCfg where
  num : Nat
  seg : Nat
  missLimit : Nat
  mac : Nat
  timeout : Nat
  vendor : Nat
  product : Nat
  minRev : Nat
  qBase : Nat
  qBits : Nat
  qwWords : Nat
  qwBase : Nat
  iBase : Nat
  iBits : Nat
  iwWords : Nat
  iwBase : Nat
  fltPt : Nat
deriving DecidableEq, Repr

/-- A kind 4 container's content (R319). -/
structure NetConfig where
  hash : Nat
  ports : PortsCfg
  segs : List SegCfg
  nodes : List NodeCfg
deriving DecidableEq, Repr

/-! ### Shots, the image and the commit queue (02) -/

/-- The states of Table TASK-2 for a released shot. -/
inductive ShotPhase where
  | pin
  | ready
  | core
  | truss
  | preempted
  | done
deriving DecidableEq, Repr

/-- The drop reasons of Table SHOT-4. -/
inductive DropReason where
  | late
  | quota
  | retcap
  | addr
  | owner
  | power
  | state
deriving DecidableEq, Repr

/-- A buffer page of a shot: logical page (area code × 4,096 + page) and the version it was copied from (R42). -/
structure BufPage where
  page : Nat
  base : Nat
deriving DecidableEq, Repr

/-- A pinned page of a snapshot: logical page and the version pinned (R41). -/
structure PinPage where
  page : Nat
  ver : Nat
deriving DecidableEq, Repr

/-- A timer cell (R103): a 48-bit start time, whether it has been set, prev, run, and the ET of the last evaluation (R110). -/
structure TimerCell where
  start : Nat
  started : Bool
  prev : Bool
  run : Bool
  et : Nat
deriving DecidableEq, Repr

/-- A counter cell (R104). -/
structure CounterCell where
  cv : Int
  prevU : Bool
  prevD : Bool
  lastPv : Int
  /-- Whether the cell serves a CTD, for CRES. -/
  down : Bool
deriving DecidableEq, Repr

/-- The initial state of a timer cell (R105). -/
def TimerCell.init : TimerCell := { start := 0, started := false, prev := false, run := false, et := 0 }

/-- The initial state of a counter cell (R105). -/
def CounterCell.init : CounterCell := { cv := 0, prevU := false, prevD := false, lastPv := 0, down := false }

/-- Timer cells, counter cells and edge-memory bits by absolute number; an unlisted cell is in its initial state. -/
structure Cells where
  timers : List (Nat × TimerCell)
  counters : List (Nat × CounterCell)
  edges : List (Nat × Bool)
deriving DecidableEq, Repr

/-- No cell in other than its initial state. -/
def Cells.init : Cells := { timers := [], counters := [], edges := [] }

/-- The registers of a context slot (Table ISA-1). The bit stack lives inside one network only (R92). -/
structure CoreRegs where
  ba : Bool
  w : Vector W32 16
  a : Vector PointAddr 4
  f : Vector W64 8
  pc : CodeIx
  /-- The call stack, newest entry first: return PC and saved A3 (R113). -/
  calls : List (CodeIx × PointAddr)
deriving DecidableEq, Repr

/-- The shot-entry state with program counter `entry` (R91). -/
def CoreRegs.atEntry (entry : Nat) : CoreRegs :=
  { ba := false, w := Vector.replicate 16 0#32, a := Vector.replicate 4 0#24, f := Vector.replicate 8 0#64,
    pc := BitVec.ofNat 20 entry, calls := [] }

/-- A core write that waits for a first-write copy: the pages still being copied, the points to write and the registers
the instruction leaves (R42, R125). -/
structure WaitingWrite where
  pages : List Nat
  writes : List (Nat × Nat)
  after : CoreRegs
deriving DecidableEq, Repr

/-- A junction in the truss (R114): next network, networks left, the BA handed on, and the captured A0-A3 and W14. -/
structure JunctionReq where
  next : Nat
  left : Nat
  ba : Bool
  a : Vector PointAddr 4
  w14 : W32
deriving DecidableEq, Repr

/-- A released shot of a context (R40). -/
structure Shot where
  t0 : Ns
  pegAt : Ns
  phase : ShotPhase
  /-- Pages pinned, with the versions pinned (R41). -/
  pins : List PinPage
  /-- The bytes of the pinned pages, forces on inputs applied (R38, R41). -/
  snap : List Host.Cell
  buf : List BufPage
  /-- Mask frames of Q and M buffer pages (R42). -/
  masks : List Nat
  /-- The points written and their values: the dirty masks and the buffer contents in one (R42). -/
  writes : List (Nat × Nat)
  /-- Retentive rows dirtied (R53, R54). -/
  rows : List Nat
  cells : Cells
  waiting : Option WaitingWrite
  junction : Option JunctionReq
  /-- STIME at which completion was registered (R44). -/
  doneAt : Option Ns
deriving DecidableEq, Repr

/-- A context slot (R67, R68): the configuration, the registers and the shot. -/
structure Ctx where
  cfg : Option CtxEntry
  regs : CoreRegs
  shot : Option Shot
  /-- Dropped shots not yet abandoned, and why, oldest first (R58). -/
  dying : List (Shot × DropReason)
  /-- The grid instant of the next release (R71). -/
  nextRelease : Ns
  /-- Whether the context releases: set on entry into RUN, cleared by a drain or on leaving RUN. -/
  releasing : Bool
  budget : Nat
  bound : Nat
  execLast : Nat
  execWorst : Nat
  drops : Nat
  consec : Nat
  lastReason : Nat
  capRaised : Bool
  watchLimit : Nat
  watchCount : Nat
  /-- A drop cap accepted and not yet in force (R9, at next peg). -/
  capNext : Option Nat
  /-- The next committed shot emits every owned point (R49). -/
  fullEmission : Bool
  /-- The instant of the peg to come, whether or not its shot still runs (R71). -/
  pegDue : Option Ns
  /-- The tick of the last commit (R443), and the peg instant of the last committed peg (R198, R314). -/
  commitAt : Option Nat
  lastPegAt : Option Ns
deriving DecidableEq, Repr

/-- An unused context slot after power-on. -/
def Ctx.init : Ctx :=
  { cfg := none, regs := CoreRegs.atEntry 0, shot := none, dying := [], nextRelease := 0, releasing := false, budget := 0, bound := 0,
    execLast := 0, execWorst := 0, drops := 0, consec := 0, lastReason := 255, capRaised := false, watchLimit := 0,
    watchCount := 0, capNext := none, fullEmission := false, pegDue := none, commitAt := none, lastPegAt := none }

/-- Who made a commit: a context's peg, the edit step, or the activation of a program at STOP. -/
inductive CommitKind where
  | peg (ctx : Nat)
  | edit
  | activation
  /-- A record of no context: an epoch, a network-configuration copy or an owner change. -/
  | record
deriving DecidableEq, Repr

/-- What a commit record carries beside its rows (R429): ALL, the program record, the network-configuration copy, the epoch, an
owner change; 255 for none. -/
structure CommitExtra where
  all : Bool
  slot : Nat
  chain : Nat
  netCopy : Nat
  epoch : Option Nat
  ownerChange : Bool
deriving DecidableEq, Repr

/-- Nothing beside the rows. -/
def CommitExtra.none : CommitExtra :=
  { all := false, slot := 255, chain := 0, netCopy := 255, epoch := Option.none, ownerChange := false }

/-- A peg in the commit queue (R48, R53, R65). -/
structure Commit where
  kind : CommitKind
  extra : CommitExtra
  /-- The peg's place in peg order. -/
  seq : Nat
  pegAt : Ns
  rows : List Nat
  /-- The bytes of each dirty row as the peg left them. -/
  data : List (Nat × List Byte)
  /-- Owned outputs the shot changed, with the committed values (R49). -/
  changed : List (Nat × Nat)
  /-- The values the peg left on the output points the context owns (R38, R48, R61). -/
  owned : List (Nat × Nat)
  /-- The frames, as page and version, that hold the dirty rows (R46). -/
  frames : List PinPage
  full : Bool
  /-- The controller has started the commit's first row (R427). -/
  started : Bool
  durable : Bool
  /-- In a pair: the standby's acknowledgement, or the loss of the wait for it (R168). -/
  acked : Bool
  emitted : Bool
deriving DecidableEq, Repr

/-- One output handed out by an emission: destination segment, apply timestamp, point address, value (R49, R50). -/
structure Emitted where
  ctx : Nat
  seg : Nat
  applyAt : Ns
  pt : Nat
  val : Nat
deriving DecidableEq, Repr

/-- The process image beside its bytes in SRAM (02). -/
structure Image where
  /-- The version of each logical page: how often a remap or a live-write copy has replaced its frame (R41, R46). -/
  vers : List (Nat × Nat)
  /-- Forces in place: point address and value (R38). -/
  forces : List (Nat × Nat)
  /-- Output points whose force state changed since the owner's last emission (R49). -/
  forceChanged : List Nat
  cells : Cells
  commits : List Commit
  pegSeq : Nat
  /-- What the latest emission handed out. -/
  emissions : List Emitted
  /-- The instant of the newest peg that the image includes (Table HOST-10, IMGRD). -/
  lastPeg : Ns
deriving DecidableEq, Repr

/-! ### The scheduler (03) and the truss engine (04) -/

/-- The scheduler's own state beside the slots. -/
structure Sched where
  /-- The context that holds the cores (0 is firmware). -/
  cores : Option Nat
  /-- The start of the present server window and the budget used in it, in FCLK cycles. -/
  window : Ns
  used : Nat
  exhausted : Bool
  fwLast : Nat
  fwWorst : Nat
  fwWatchLimit : Nat
  fwWatchCount : Nat
  /-- Releases are held off: a core-complex restart or takeover is in progress (R73, R80). -/
  paused : Bool
  /-- The context whose network the truss ran last; a paused chain resumes (R122). -/
  trussLast : Option Nat
  /-- The measuring windows of R88: the number of the present 1 ms window of STIME, its FCLK cycles so far and those in which a
  fabric access waited for a busy bank; the number of the present 100 ms window, its cycles, and those in which no context held
  the cores. -/
  bankWin : Nat
  bankCycles : Nat
  bankHits : Nat
  idleWin : Nat
  idleCycles : Nat
  idleHits : Nat
deriving DecidableEq, Repr

/-- An urgent conversion request on its way to a bay (R116, R257). -/
structure UrgentReq where
  bay : Nat
  ch : Nat
deriving DecidableEq, Repr

/-! ### Program staging and edits (05) -/

/-- The staging states of Table EDIT-4a. -/
inductive Staging where
  | idle
  | staging
  | checking
  | loaded
  | armed
deriving DecidableEq, Repr

/-- An edit that passed its checks (R147, R148). -/
structure ArmedEdit where
  kind : Nat
  /-- The activation instant, 0 while the edit waits in HALT. -/
  at_ : Ns
  lead : Ns
  affected : List Nat
  newProg : Program
  migs : List MigEntry
  /-- What the program record will name: slot, chain count; the bytes in that slot with the container in it. -/
  slot : Nat
  chain : Nat
  slotBytes : Nat
deriving DecidableEq, Repr

/-- What PROGRAM_ACTIVATION waits for: the program record's durability (R139-R141). -/
structure Activation where
  newProg : Option Program
  net : Option NetConfig
  slot : Nat
  chain : Nat
  slotBytes : Nat
  mbx : Option Nat
  recordDurable : Bool
  /-- The retentive store is cleared; DB words that a migration writes (R140). -/
  clear : Bool
  writes : List (Nat × Nat)
deriving DecidableEq, Repr

/-- The program system: lock, staging, banks and slots. -/
structure Prog where
  active : Option Program
  /-- Which of the two SRAM program banks and truss halves is active (R20, R118). -/
  bank : Nat
  slot : Nat
  chain : Nat
  /-- Bytes in the current slot (R142). -/
  slotBytes : Nat
  netCopy : Nat
  netHash : Nat
  staging : Staging
  lockSession : Option Nat
  stagedKind : Nat
  stagedLen : Nat
  staged : List Byte
  lastData : Nat
  loadedAt : Nat
  armed : Option ArmedEdit
  activation : Option Activation
  /-- The status and detail of the last load (R138). -/
  lastStatus : Nat
  lastDetail : Nat
  /-- In a pair: the request that waits for the standby's verdict on the staged container, and its lead in ns (R155). -/
  waitMbx : Option Nat
  waitLead : Ns
  /-- The truss configuration store (R118). -/
  truss : TrussStore
deriving DecidableEq, Repr

/-- No program, nothing staged. -/
def Prog.init : Prog :=
  { active := none, bank := 0, slot := 255, chain := 0, slotBytes := 0, netCopy := 255, netHash := 0,
    staging := .idle, lockSession := none, stagedKind := 0, stagedLen := 0, staged := [], lastData := 0, loadedAt := 0,
    armed := none, activation := none, lastStatus := 0, lastDetail := 0, waitMbx := none, waitLead := 0,
    truss := TrussStore.init }


/-! ### Time, power and reset (17) -/

/-- STIME, its discipline, and the free-running count of FCLK cycles that the model measures durations with (R465-R470). -/
structure Clock where
  /-- STIME in ns. -/
  stime : Ns
  /-- The fractional accumulator of R465, in units of 10^-10 ns. -/
  frac : Nat
  /-- FCLK cycles (2.5 ns) since State.reset: elapsed time, whatever STIME does. -/
  ticks : Nat
  /-- The rate adjustment a, in ppb (R465). -/
  rate : Int
  /-- time.source and time.state (R467, R468). -/
  source : Nat
  state : Nat
  offset : Int
  /-- The offset last measured, where no step has removed it: what a step at an entry into RUN is judged by (R466). -/
  owed : Int
  /-- Consecutive measurements below time.lock_thr (R468). -/
  lockCount : Nat
  /-- Consecutive missing SYNC_IN edges and the expected instant of the next edge (R468, R469). -/
  missed : Nat
  expected : Option Ns
  syncInOk : Bool
  /-- A staged time.set (R469). -/
  stagedSet : Option Nat
  /-- SYNC_OUT and the instant it last rose (R470). -/
  syncOut : Bool
  syncOutAt : Ns
  /-- ACLK is running; it has run since boot (R463). -/
  aclk : Bool
  aclkSeen : Bool
deriving DecidableEq, Repr

/-- A hold-up measurement in progress (R460). -/
structure Holdup where
  start : Nat
  vin : Nat
deriving DecidableEq, Repr

/-- Supplies, domains, reset and hold-up (R450-R461, R472-R473). -/
structure Power where
  vin : Nat
  vinMin : Nat
  nresetLow : Bool
  /-- VIN has been at or above 4.45 V for 1 ms since it was last below 3.90 V (R452). -/
  vinGood : Bool
  /-- A power-fail warning stands: PFI low or VIN below 4.40 V. -/
  warnLive : Bool
  /-- The step of Table PWR-3 the power-fail sequence has reached: 0 none, 1 shedding done, 4 POWER_WARNING written and the
  core domains off. -/
  pfStep : Nat
  /-- Queued commits abandoned at the warning (the data of POWER_WARNING). -/
  pfAbandoned : Nat
  hold : Bool
  /-- VIN is below 4.00 V: no further row starts (R457). -/
  rowInhibit : Bool
  core : Bool
  truss : Bool
  sram : Bool
  nvm : Bool
  net : Bool
  host : Bool
  sec : Bool
  scarf : Bool
  holdup : Option Holdup
  /-- The tick at which the last hold-up measurement fell due (R460). -/
  holdupFrom : Nat
  /-- sys.reset.cause. -/
  cause : Nat
  /-- The LOCKOUT flag of PD_AON (R395). -/
  lockoutFlag : Bool
  /-- FCLK is lost, and a CLK_LOSS record waits in PD_AON (R387). -/
  clkLost : Bool
  clkRecord : Bool
  /-- STIME and the device state when it was formed. -/
  clkTime : Ns
  /-- The tick of the last clock loss: the chip reset it causes is held until FCLK has run for 1 ms (R387). -/
  clkAt : Nat
  clkState : Nat
deriving DecidableEq, Repr

/-! ### Faults and the watchdog (14) -/

/-- A fault record (Table FLT-4); the twelve bytes of source data as one little-endian number. -/
structure FaultRec where
  seq : Nat
  src : Nat
  cls : Nat
  react : Nat
  flags : Nat
  stime : Ns
  state : Nat
  sev : Nat
  index : Nat
  data : Nat
deriving DecidableEq, Repr

/-- A reaction that waits for durability (R377): record sequence, and whether it is LOCKOUT rather than CHIP_RESET. -/
structure Awaiting where
  seq : Nat
  lockout : Bool
  /-- sys.reset.cause of the reset (Table PWR-7), and the mailbox whose response goes before it. -/
  cause : Nat
  mbx : Option Nat
  /-- The FCLK cycle in which it was asked for (R28). -/
  at_ : Nat
deriving DecidableEq, Repr

/-- A running GRACE (R376). -/
structure Grace where
  src : Nat
  seq : Nat
  deadline : Nat
deriving DecidableEq, Repr

/-- The fault collector (R373-R384). -/
structure Faults where
  live : Nat
  sticky : Nat
  /-- The 32 newest records, newest first. -/
  records : List FaultRec
  /-- Records not acknowledged, newest first (R379). -/
  pending : List FaultRec
  /-- Sequences of records whose reactions are not complete (the collector's queue, R381). -/
  queue : List Nat
  seqNewest : Nat
  seqAcked : Nat
  awaiting : List Awaiting
  grace : List Grace
  /-- The newest record with PIN and the newest with SAFE; the sources whose records took the device to SAFE. -/
  newestPin : Nat
  newestSafe : Nat
  safeSrcs : List Nat
  /-- The pins: nFAULT low since, a release asked for, ALIVE's level and whether it toggles (R383, R384). -/
  nfaultLow : Bool
  lowSince : Nat
  releaseAsked : Bool
  alive : Bool
  aliveOn : Bool
  /-- The last firmware heartbeat, in ticks; none since the last reset or restart. -/
  heartbeat : Option Nat
  /-- An INT or NMI entry is due (R375). -/
  intDue : Bool
  nmiDue : Bool
  /-- Repetitions of the boot, start-up or test step in progress under severity 1 (R378). -/
  retries : Nat
  /-- The ticks of the SRAM errors corrected last, newest first (R22, SRAM_CE of Table FLT-1). -/
  ceTimes : List Nat
  /-- The sources raised by a single event in FCLK cycle `pulseAt`: their live bits are 1 in that cycle only (R374). -/
  pulses : Nat
  pulseAt : Nat
deriving DecidableEq, Repr

/-- The watchdog and its evidence registers (R385-R390). -/
structure Watchdog where
  cfgT : Nat
  cfgOpen : Nat
  /-- WDG_COUNT. -/
  count : Nat
  /-- The count of FCLK cycles since KEY1, while a service sequence is open. -/
  key1 : Option Nat
  serviced : Bool
  ladder : Nat
  early : Bool
  keyErr : Bool
  clkLoss : Bool
  evdPc : Nat
  evdSvc : Ns
  /-- STIME of the last valid service, or of the reset. -/
  lastSvc : Ns
  /-- The start of the present clean spell, in ticks (R388). -/
  cleanFrom : Nat
  /-- A core-complex restart in progress: the tick of the expiry (R389). -/
  restarting : Option Nat
  /-- The tick of the last ladder increment (Table FLT-10). -/
  expiredAt : Option Nat
deriving DecidableEq, Repr

/-! ### Triple execution (13) -/

/-- The execution modes of Table TMR-3. -/
inductive ExecMode where
  | triple
  | dual
  | split
deriving DecidableEq, Repr

/-- The mismatch record of Table TMR-5. -/
structure Mismatch where
  stime : Ns
  source : Nat
  syndrome : Nat
  field : Nat
  mode : Nat
  place : Nat
  voted : Nat
  odd : Nat
deriving DecidableEq, Repr

/-- The voted complex and the truss lanes (R355-R372). -/
structure Tmr where
  mode : ExecMode
  byRetirement : Bool
  freeCore : Bool
  /-- A request accepted and not yet in effect, and the STIME of its SET (R365). -/
  requested : Option ExecMode
  reqAt : Ns
  /-- The free core is still handing back its work (R364). -/
  returning : Option Nat
  retired : List Nat
  /-- The isolated core, the tick of detection, whether its scrub is done and whether it was input skew. -/
  isolated : Option Nat
  isoAt : Nat
  scrubbed : Bool
  skewed : Bool
  /-- STIME of each core's recent differences (R360) and of each truss lane's (R366). -/
  diffs : List (Nat × List Ns)
  laneDiffs : List (Nat × List Ns)
  laneRetired : List Nat
  /-- The TMR_CMP pending flag and the start of the present clean spell, in ticks (R367). -/
  cmpPending : Bool
  cmpFrom : Nat
  dbgBroken : Bool
  last : Option Mismatch
  /-- The last interrupt entry, in ticks, and the sources waiting (R361). -/
  irqLast : Option Nat
  irqPending : Nat
deriving DecidableEq, Repr

/-! ### Host port, mailboxes, sessions (12) -/

/-- The mailbox states of Table HOST-5. -/
inductive MbxState where
  | free
  | claimed
  | rung
  | busy
  | done
deriving DecidableEq, Repr

/-- A request taken from a mailbox: its header fields and its plain payload (Table HOST-7). -/
structure Request where
  opcode : Nat
  session : Nat
  seq : Nat
  payload : List Byte
  requester : Nat
deriving DecidableEq, Repr

/-- A response to be written (Table HOST-7, R337). -/
structure Response where
  completion : Nat
  status : Nat
  detail : Nat
  data : List Byte
  rep : Bool
  reply : Nat
  /-- The frame is sent clear (R338, R342); the session ID it carries where that is not the request's (R415). -/
  clear : Bool
  session : Option Nat
deriving DecidableEq, Repr

/-- A mailbox beside its 4 KB of SRAM (R330-R334). -/
structure Mailbox where
  state : MbxState
  /-- Requester ID of the owner (R351). -/
  owner : Nat
  /-- The TLS connection of a network request. -/
  conn : Nat
  /-- The response is to be discarded and the mailbox freed (R329). -/
  discard : Bool
  req : Option Request
  resp : Option Response
  /-- The request waits for earlier sequences since this tick (R340). -/
  waitFrom : Option Nat
  /-- The request has passed check 5 of Table HOST-8 but not its commit point (R342). -/
  committed : Bool
  /-- Session and sequence of the last request (Table HOST-16). -/
  lastSession : Nat
  lastSeq : Nat
  takenAt : Nat
deriving DecidableEq, Repr

/-- A free mailbox that no one has used. -/
def Mailbox.init : Mailbox :=
  { state := .free, owner := 0, conn := 0, discard := false, req := none, resp := none, waitFrom := none,
    committed := false, lastSession := 0, lastSeq := 0, takenAt := 0 }

/-- A history entry of a session slot (R341). -/
structure HistEntry where
  seq : Nat
  opcode : Nat
  completion : Nat
  status : Nat
  detail : Nat
  replies : Nat
deriving DecidableEq, Repr

/-- A session slot (R339-R342): its rights and policy paths come from OPEN (R412, R416). -/
structure Session where
  isOpen : Bool
  used : Bool
  id : Nat
  openCount : Nat
  requester : Nat
  conn : Nat
  next : Nat
  rights : Nat
  credential : Nat
  /-- Granted idle timeout in seconds and the tick of the last request (R342). -/
  idle : Nat
  lastReq : Nat
  authFails : Nat
  history : List HistEntry
  /-- CLOSE has been answered: the session ends with the response. -/
  closing : Bool
deriving DecidableEq, Repr

/-- A session slot never used. -/
def Session.init : Session :=
  { isOpen := false, used := false, id := 0, openCount := 0, requester := 0, conn := 0, next := 1, rights := 0,
    credential := 0, idle := 0, lastReq := 0, authFails := 0, history := [], closing := false }

/-- A network request that waits for a mailbox (R330): requester 2 or 3, its connection, the frame. -/
structure NetRequest where
  requester : Nat
  conn : Nat
  frame : List Byte
deriving DecidableEq, Repr

/-- The host port's registers (Table HOST-2) and the mailbox arbiter. -/
structure HostPort where
  quad : Bool
  irqOd : Bool
  hstat : Nat
  irqStat : Nat
  irqEn : Nat
  /-- A claim not yet resolved: mailbox number, or 16 for ANY (R332). -/
  claim : Option Nat
  grant : Nat
  stimeH : Nat
  gpioOut : Nat
  scratch : Nat
  fwver : Nat
  hbeat : Nat
  hbeatAt : Nat
  /-- The words or bytes the last transaction returned. -/
  rdata : List Nat
  /-- DSTATE[15:0] and the Brace word as last mirrored, for IRQ_STAT[16] and [17]. -/
  dstateSeen : Nat
  braceSeen : Nat
  mbx : List (Nat × Mailbox)
  /-- RUNG mailboxes in the order in which their rings reached firmware (R333). -/
  rings : List Nat
  sessions : List (Nat × Session)
  netWaiting : List NetRequest
  /-- Firmware has stopped taking mailboxes for a hand-over (R442). -/
  stopped : Bool
  /-- The FCLK cycle of the last SET, and the pids set in it with the requesters (R9, R352). -/
  setTick : Nat
  setBy : List (Nat × Nat)
deriving DecidableEq, Repr

/-! ### Non-volatile memory, log and update (16) -/

/-- Background rows waiting for the NVM controller, `left` rows remaining (R427). Commit rows stand in the commit queue and
log rows in the log queue. -/
inductive RowJob where
  /-- A checkpoint's rows. -/
  | checkpoint (left : Nat)
  /-- A settings copy's rows, body first and header last. -/
  | settings (left : Nat)
  /-- Rows of update activation or rollback. -/
  | update (left : Nat)
deriving DecidableEq, Repr

/-- A log record before it is written, or in the ring (Table NVM-4). `bytes` is the data, `chain` the chain value, of
which the record carries the first 16 bytes. -/
structure LogRec where
  seq : Nat
  type : Nat
  stime : Ns
  bytes : List Byte
  chain : Nat
  /-- The fault sequence that the record makes durable, and whether its reaction waits for that (R377, R433). -/
  faultSeq : Nat
  reserved : Bool
deriving DecidableEq, Repr

/-- A commit record of the ring (Table NVM-3): the fields that boot recovery takes from it. -/
structure CommitRec where
  seq : Nat
  pegSeq : Nat
  ctx : Nat
  rows : List Nat
  all : Bool
  slot : Nat
  chain : Nat
  netCopy : Nat
  epoch : Option Nat
  ownerChange : Bool
  stime : Ns
  /-- The ring row of its first row. -/
  row : Nat
deriving DecidableEq, Repr

/-- A checkpoint slot (R430): `ringRow` is the ring row of the next record. -/
structure Checkpoint where
  seq : Nat
  covered : Nat
  ringRow : Nat
  halves : List (Nat × Bool)
  slot : Nat
  chain : Nat
  netCopy : Nat
  epoch : Nat
  valid : Bool
deriving DecidableEq, Repr

/-- A settings copy (R435). -/
structure SettingsCopy where
  seq : Nat
  format : Nat
  fw : Nat
  content : List (Nat × Int)
  blocks : List (Nat × List Byte)
  valid : Bool
deriving DecidableEq, Repr

/-- The update stages of Table NVM-6. -/
inductive UpdStage where
  | none
  | download
  | verified
  | activating
  | activated
  | trial
  | reverting
deriving DecidableEq, Repr

/-- Firmware update (R438-R448). -/
structure Update where
  stage : UpdStage
  result : Nat
  reason : Nat
  lockSession : Option Nat
  len : Nat
  staged : List Byte
  lastData : Nat
  oldVersion : Nat
  newVersion : Nat
  newSecVer : Nat
  newFormat : Nat
  newPair : Nat
  /-- The shim journal's state row: its row sequence and its fields (R441). -/
  jSeq : Nat
  jState : Nat
  jN : Nat
  jK : Nat
  jW : Nat
  jTrials : Nat
  activatedAt : Nat
  /-- The hand-over instant g and the tick at which the trial's confirmation time ends (R442, R443). -/
  handover : Ns
  confirmBy : Nat
  healthyFrom : Option Nat
  mbx : Option Nat
  verifying : Bool
  /-- The mailbox whose UPD_ACTIVATE had a hold-up measurement taken (R461). -/
  measFor : Option Nat
  /-- In a pair, what the primary knows of the standby's update: 0 nothing, 1 verified, 2 refused, 3 asked to activate,
  4 confirmed (R179). -/
  peer : Nat
  /-- The new image runs; the update was installed in RECOVERY (R446). -/
  handed : Bool
  fromRecovery : Bool
  /-- Security, pair protocol and settings format versions of the old image. -/
  oldSec : Nat
  oldPair : Nat
  oldFormat : Nat
deriving DecidableEq, Repr

/-- The NVM controller, the sill journal, the settings (16). -/
structure Nvm where
  /-- Rows still to write of the commit in progress (0: none), and rows of other work since the last commit (R427). -/
  commitLeft : Nat
  rowsAhead : Nat
  /-- STIME and FCLK cycle at which the first row of the commit in progress was started. -/
  commitFrom : Ns
  commitTick : Nat
  jobs : List RowJob
  /-- The current half of each retentive row: listed true where half B is current. -/
  halves : List (Nat × Bool)
  /-- Commit records in the ring, newest first; ring rows written since the last checkpoint started and since the last one
  completed. -/
  ring : List CommitRec
  commitSeq : Nat
  /-- The ring row of the next record (R429). -/
  ringRow : Nat
  ringSince : Nat
  ringDone : Nat
  ckptA : Checkpoint
  ckptB : Checkpoint
  ckptRun : Option Checkpoint
  /-- Log records queued in SRAM, oldest first; the ring, newest first (R433). -/
  logQueue : List LogRec
  logRing : List LogRec
  logSeq : Nat
  lostReported : Nat
  overflow : Nat
  headerSeq : Nat
  headerAt : Nat
  headerCount : Nat
  headerNewest : Nat
  setA : SettingsCopy
  setB : SettingsCopy
  setCopy : Nat
  /-- SETs accepted and waiting for a copy, the copy being written, and the tick at which the last one started (R436). -/
  setWaiting : List Nat
  setDirty : Bool
  setRun : Option SettingsCopy
  setRunMbx : List Nat
  setStarted : Option Nat
deriving DecidableEq, Repr


/-! ### Field bays (07-10): the bay's own state, kept whether or not the logic side runs -/

/-- The conversions a modulator makes (R250, R251, R257). -/
inductive VisitKind where
  | scan
  | urgent
  | lead
  | test
deriving DecidableEq, Repr

/-- The filter settings of a visit (R252): order, ratio, the FIR set in use, its taps, its decimation. -/
structure AinFilter where
  order : Nat
  ratio : Nat
  fir : Nat
  taps : Nat
  decim : Nat
deriving DecidableEq, Repr

/-- The visit in progress: channel (0-15), its kind, results still to deliver, sinc outputs still to be withheld by the bloom
interval or a step, whether a result has been delivered in it (R255, R256), the settings and FIR coefficients it began with (R250,
R253), and its sinc outputs, newest first. -/
structure Visit where
  ch : Nat
  kind : VisitKind
  left : Nat
  skip : Nat
  first : Bool
  since : Nat
  filt : AinFilter
  coef : List Int
  outs : List Int
deriving DecidableEq, Repr

/-- A conversion whose result waits for its delivery (R254). -/
structure Pending where
  ch : Nat
  code : Int
  urgent : Bool
  first : Bool
  eoc : Ns
  at_ : Nat
deriving DecidableEq, Repr

/-- A stream frame on its way (Table AIN-5). -/
structure Stream where
  ch : Nat
  seq : Nat
  code : Int
  urgent : Bool
  outRange : Bool
  first : Bool
  eoc : Ns
deriving DecidableEq, Repr

/-- A modulator (R249-R257): the code of ain.m.state, the visit, the urgent queue, where the scan goes on, the maintenance
visits due (channel, lead or test, tick at which it fell due), the pass in progress. -/
structure Modulator where
  stopped : Bool
  visit : Option Visit
  /-- Urgent requests: the channel, and the bay cycle whose frame brought it. -/
  queue : List (Nat × Ns)
  resume : Nat
  /-- Tick at which each maintenance visit falls due: (2 · channel + 1 for a test visit, tick). -/
  due : List (Nat × Nat)
  /-- The 3-wire channels whose first lead visit after a start is still to come. -/
  leadFirst : List Nat
  passStart : Nat
  passMaint : Bool
  cutAfter : Bool
  seq : Nat
  pend : List Pending
  /-- Results delivered that no latch has met yet (R261). -/
  streams : List Stream
deriving DecidableEq, Repr

/-- A modulator at its start. -/
def Modulator.init : Modulator :=
  { stopped := true, visit := none, queue := [], resume := 0, due := [], leadFirst := [], passStart := 0,
    passMaint := false, cutAfter := false, seq := 0, pend := [], streams := [] }

/-- The analog input side of a channel (R255-R264). -/
structure AinCh where
  value : Int
  code : Int
  seq : Nat
  /-- End of conversion of the carried result; none before the first one. -/
  eoc : Option Ns
  lastValid : Int
  newSample : Bool
  /-- Open wire as the channel's last result, test visit or lead visit found it. -/
  owResult : Bool
  owTest : Bool
  owLead : Bool
  owCurrent : Bool
  /-- The tick at which the shunt opened or reclosed, while SHUNT_OFF is live. -/
  shuntOpen : Bool
  shuntAt : Nat
  leadMeas : Nat
  /-- The settings of the channel's last visit (R268). -/
  filt : Option AinFilter
deriving DecidableEq, Repr

/-- No result yet. -/
def AinCh.init : AinCh :=
  { value := 0, code := 0, seq := 0, eoc := none, lastValid := 0, newSample := false, owResult := false, owTest := false,
    owLead := false, owCurrent := false, shuntOpen := false, shuntAt := 0, leadMeas := 0, filt := none }

/-- The analog output side of a channel (R275-R284). Values in QW units. -/
structure AoutCh where
  /-- The value last formed after step 5 of Table AOUT-2. -/
  driven : Nat
  tap : Nat
  tapAt : Nat
  /-- The thermal limiter's ceiling in hundredths of a QW unit, while it acts. -/
  ceiling : Option Nat
  limitAt : Nat
  /-- COMPLIANCE live since this tick (R280). -/
  compSince : Option Nat
  forcedLow : Bool
  /-- The trim procedure (ch.x.n.ao.trim.state) and its readings (R284). -/
  trimState : Nat
  meas4 : Option Int
  meas20 : Option Int
deriving DecidableEq, Repr

/-- On the L+ tap, nothing driven. -/
def AoutCh.init : AoutCh :=
  { driven := 0, tap := 3, tapAt := 0, ceiling := none, limitAt := 0, compSince := none, forcedLow := false,
    trimState := 0, meas4 := none, meas20 := none }

/-- The digital input and counter side of a channel (R221-R228). -/
structure DinCh where
  /-- The debounced state, the tick of its last change, and the tick from which the raw state is sampled without a gap. -/
  deb : Bool
  debAt : Nat
  since : Nat
  lastValid : Bool
  /-- The tick until which the input stays invalid (R222). -/
  invalidUntil : Nat
  wireBreak : Bool
  count : Nat
  lastEdge : Nat
  edges : Nat
  dirUp : Bool
  /-- The raw state has been sampled since the counter started. -/
  synced : Bool
deriving DecidableEq, Repr

/-- Everything off, count 0. -/
def DinCh.init : DinCh :=
  { deb := false, debAt := 0, since := 0, lastValid := false, invalidUntil := 0, wireBreak := false, count := 0, lastEdge := 0,
    edges := 0, dirUp := false, synced := false }

/-- The protected output side of a channel (R229-R240); the latches, retry state and accumulator are the protection state of
Table BAY-14. -/
structure DoutCh where
  sw : Bool
  /-- Ticks of the last switch-on and switch-off; the ticks from which an over-current run (R232) and a low current (R240) can
  count. -/
  onAt : Nat
  offAt : Nat
  runFrom : Nat
  quietFrom : Nat
  /-- End of the inrush window that is open. -/
  inrush : Option Nat
  oc : Bool
  thermal : Bool
  clampLock : Bool
  retryLeft : Nat
  retryDue : Option Nat
  /-- The clamp pulse of the last switch-off has not ended: its integral in mJ as last measured (R238). -/
  pulse : Option Nat
  clampAcc : Nat
  clampLast : Nat
deriving DecidableEq, Repr

/-- Off, nothing latched. -/
def DoutCh.init : DoutCh :=
  { sw := false, onAt := 0, offAt := 0, runFrom := 0, quietFrom := 0, inrush := none, oc := false, thermal := false,
    clampLock := false, retryLeft := 0, retryDue := none, pulse := none, clampAcc := 0, clampLast := 0 }

/-- A channel of a bay: the application of outputs (R191), the status bits [11:0] (R219) and the sides above. -/
structure Chan where
  reading : Reading
  /-- The comparator's output, and whether the terminal is above the ON threshold of DI1 (R218, R220). -/
  raw : Bool
  high : Bool
  applied : Nat
  /-- The stored next: its instant and value. -/
  next : Option (Ns × Nat)
  /-- R200 applies to the channel; having left it, the channel keeps that drive until it applies a value (R191). -/
  inSafe : Bool
  resuming : Bool
  /-- What the HOLD safe state drives: the value applied, or in analog modes the value last formed at step 3 of Table AOUT-2;
  after a bay reset HOLD acts as OFF (R202, R275). -/
  held : Nat
  holdOff : Bool
  late : Bool
  lastFrame : Nat
  laneSilent : Bool
  restored : Bool
  live : Nat
  sticky : Nat
  /-- Event bits of the cycle in progress. -/
  events : Nat
  din : DinCh
  dout : DoutCh
  ain : AinCh
  aout : AoutCh
deriving DecidableEq, Repr

/-- A channel at rest. -/
def Chan.init : Chan :=
  { reading := { volt := 0, current := 0, temp := 0, out := 0 }, raw := false, high := false,
    applied := 0, next := none, inSafe := true, resuming := false, held := 0, holdOff := true, late := false, lastFrame := 0, laneSilent := false,
    restored := true, live := 0, sticky := 0, events := 0, din := DinCh.init, dout := DoutCh.init, ain := AinCh.init,
    aout := AoutCh.init }

/-- A trim copy (Table AOUT-5). -/
structure Trim where
  seq : Nat
  srcGain : Nat
  srcOff : Int
  snkGain : Nat
  snkOff : Int
  flags : Nat
  stime : Ns
deriving DecidableEq, Repr

/-- A field bay (R184-R216). -/
structure Bay where
  /-- Bay FeRAM (Table BAY-14), 16 KB. -/
  feram : Memory
  /-- The configuration in force: values by offset from the bay's first pid; an unlisted one is at its default. -/
  par : List (Nat × Int)
  /-- In reset or its configuration not loaded; both copies invalid (R206, R213); reset since the last CFG_COMMIT. -/
  inReset : Bool
  cfgLost : Bool
  resetSeen : Bool
  /-- The newest valid copy (0 A, 1 B, 2 neither), its sequence and its CRC (R213). -/
  cfgCopy : Nat
  cfgSeq : Nat
  cfgCrc : Nat
  /-- The local time has been set, to this value at this tick (R185); the cycle latched last. -/
  timeSet : Bool
  timeBase : Ns
  timeTick : Nat
  latched : Option Ns
  /-- The last cycle-start was fresh. -/
  fresh : Bool
  lastFresh : Nat
  silent : Bool
  safeNow : Bool
  clockLost : Bool
  limp : Bool
  /-- L+ in 10 mV, its minimum since the last read, the warning, L+ below 16.0 V, the qualification since the last such fall and its
  tick; the ticks at which L+ was last known at 19.2 V or more, and at 17.5 V or less (R206). -/
  lp : Nat
  lpMin : Nat
  warn : Bool
  uv : Bool
  qualified : Bool
  qualifiedAt : Nat
  highAt : Nat
  lowAt : Nat
  /-- The die temperature, in 0.1 °C (R208). -/
  temp : Int
  /-- The heartbeat level of the last status word sent (R195). -/
  hb : Bool
  /-- The tick at which BCLK was lost (R200). -/
  lostAt : Nat
  /-- The pins: the current of A_ISNS in fA (R211), and whether A_nFLT is pulled low (R207). -/
  isns : Nat
  fltLow : Bool
  sel : Nat
  almsel : Bool
  sticky : Nat
  /-- Tick of the last fall of the clamp accumulators (R239). -/
  decayAt : Nat
  chans : List (Nat × Chan)
  m0 : Modulator
  m1 : Modulator
  /-- Trims in force, newest copy of each channel (R285). -/
  trims : List (Nat × Trim)
deriving DecidableEq, Repr

/-- A bay that has never been configured: both copies fail their CRC, so it stays in CONFIG (R213). -/
def Bay.init : Bay :=
  { feram := [], par := [], inReset := false, cfgLost := true, resetSeen := true, cfgCopy := 2, cfgSeq := 0, cfgCrc := 0,
    timeSet := false, timeBase := 0, timeTick := 0, latched := none, fresh := false, lastFresh := 0, silent := true, safeNow := false, clockLost := false,
    limp := false, lp := 2400, lpMin := 2400, warn := false, uv := false, qualified := true, qualifiedAt := 0, highAt := 0, lowAt := 0,
    temp := 0, hb := false, lostAt := 0, isns := 0, fltLow := true,
    sel := 0, almsel := false, sticky := 0, decayAt := 0, chans := [], m0 := Modulator.init, m1 := Modulator.init,
    trims := [] }

/-! ### The bay link engine (07): the logic side of the barrier -/

/-- A pending value: its apply instant, the point (an image point for a node, 0 for a bay), the value, and the instant at
which it was written to the queue (R190, R301). -/
structure PendOut where
  applyAt : Ns
  pt : Nat
  val : Nat
  written : Ns
deriving DecidableEq, Repr

/-- An entry of the output table (R190). -/
structure OutEntry where
  cur : Nat
  valid : Bool
  queue : List PendOut
deriving DecidableEq, Repr

/-- An empty entry. -/
def OutEntry.init : OutEntry := { cur := 0, valid := false, queue := [] }

/-- A command frame (Table BAY-3). -/
structure CmdFrame where
  cycle : Nat
  c : Ns
  fresh : Bool
  cur : Option Nat
  /-- next and its offset in µs after c. -/
  next : Option (Nat × Nat)
  urgent : Bool
deriving DecidableEq, Repr

/-- A sample frame (R188). -/
structure Sample where
  cycle : Nat
  late : Bool
  safe : Bool
  limp : Bool
  newSample : Bool
  value : Nat
  aux : Nat
  status : Nat
  /-- The I bit that the engine writes, as the mode defines it (Table BAY-6). -/
  ibit : Bool
deriving DecidableEq, Repr

/-- A cycle-start message (R194). -/
structure CycleMsg where
  cycle : Nat
  c : Ns
  /-- The tick of the instant `c`. -/
  sentAt : Nat
  fresh : Bool
  safeNow : Bool
deriving DecidableEq, Repr

/-- A management request, and the response frame on its way back (R194). -/
structure Mgmt where
  ty : Nat
  tag : Nat
  data : List Byte
  tries : Nat
  resp : Option (List Byte)
deriving DecidableEq, Repr

/-- The engine's lane state of a channel (R189). -/
structure Lane where
  bad : Nat
  good : Nat
  fault : Bool
deriving DecidableEq, Repr

/-- A lane without bad frames. -/
def Lane.init : Lane := { bad := 0, good := 0, fault := false }

/-- The engine's state for one bay. -/
structure EngBay where
  out : List (Nat × OutEntry)
  lanes : List (Nat × Lane)
  /-- The last cycle started, and the frames on the lanes. -/
  lastCycle : Option Ns
  msg : Option CycleMsg
  cmds : List (Nat × CmdFrame)
  samples : List (Nat × Sample)
  /-- Stream frames on the lanes (R261). -/
  streams : List (Nat × Stream)
  /-- The late and safe flags of the unit written last, by lane (R193). -/
  flags : List (Nat × Bool × Bool)
  /-- Values of the bay by bay-relative pid, as firmware last read them (R208). -/
  lastRead : List (Nat × Int)
  /-- Urgent requests waiting for the next command frames (R116). -/
  urgent : List Nat
  mgmt : Option Mgmt
  tag : Nat
  /-- The last response taken; the last request failed with BAYTIMEOUT. -/
  lastResp : List Byte
  mgmtFailed : Bool
  /-- Bay lost (R195), the heartbeat level of the last valid word and the tick at which it toggled; the status word. -/
  lost : Bool
  hb : Bool
  wordAt : Nat
  word : Nat
  /-- BAYFLT as last formed, for its rising edge (R207). -/
  bayflt : Bool
  sticky : Nat
  /-- The cycle whose sample frames were taken last; crossings whose threshold interrupt firmware has not taken: channel, high,
  value (R263). -/
  taken : Option Ns
  crossed : List (Nat × Bool × Int)
deriving DecidableEq, Repr

/-- The engine's state for a bay after reset: no valid status word yet. -/
def EngBay.init : EngBay :=
  { out := [], lanes := [], lastCycle := none, msg := none, cmds := [], samples := [], streams := [], flags := [], lastRead := [], urgent := [], mgmt := none, tag := 0,
    lastResp := [], mgmtFailed := false, lost := true, hb := false, wordAt := 0, word := 0, bayflt := false, sticky := 0, taken := none,
    crossed := [] }

/-- The bay link engine. -/
structure EngState where
  bays : List (Nat × EngBay)
  /-- A BLOCK_RESET of a bay's lanes is in progress (R375). -/
  restart : List (Nat × Bool)
  diagAt : Nat
deriving DecidableEq, Repr

/-- Nothing on any lane. -/
def EngState.init : EngState := { bays := [], restart := [], diagAt := 0 }


/-! ### The remote I/O network (11) -/

/-- A node as the master holds it (Table RIO-5, R301, R312). -/
structure NodeState where
  state : Nat
  epoch : Nat
  status : Nat
  misses : Nat
  missed : Nat
  diag : Nat
  /-- The OUT sequence of the current cycle and whether its IN has been taken. -/
  outSeq : Nat
  inSeen : Bool
  cycle : Ns
  /-- The start-up step to come, 1-5 (0: none), and the tick at which it is repeated. -/
  step : Nat
  retryAt : Option Nat
  /-- The image in force by output point, and the pending changes (R301). -/
  image : List (Nat × Nat)
  pend : List PendOut
  /-- Sequence recovery: the newest R-TAG sequence and those of the history that were seen; generation: the next one (R294). -/
  recovered : List Nat
  recoverAt : Nat
  txRtag : Nat
  diagAt : Nat
  /-- The sequence last used under the node's key. -/
  txSeq : Nat
deriving DecidableEq, Repr

/-- A configured node right after activation. -/
def NodeState.init : NodeState :=
  { state := 0, epoch := 0, status := 0, misses := 0, missed := 0, diag := 0, outSeq := 0, inSeen := true, cycle := 0,
    step := 1, retryAt := none, image := [], pend := [], recovered := [], recoverAt := 0, txRtag := 0, diagAt := 0, txSeq := 0 }

/-- A frame handed to the ports: ports as a mask (1 A, 2 B), destination MAC, PCP, and the bytes from the SRX header to the
end of the payload; the tag is a function of the key and these bytes. -/
structure TxFrame where
  ports : Nat
  dest : Nat
  pcp : Nat
  /-- The sequence of the R-TAG, on a ring segment (R294, R300). -/
  rtag : Option Nat
  bytes : List Byte
  tag : Nat
deriving DecidableEq, Repr

/-- A segment as the master runs it. -/
structure SegState where
  /-- The last cycle instant; the sequence number last used; frames still to send on entry into SAFE or LOCKOUT. -/
  last : Option Ns
  seq : Nat
  safeLeft : Nat
  /-- The epoch and generation that K_cyc was last derived from; the sequence last used under K_claim (R304). -/
  key : Nat × Nat
  claimSeq : Nat
  /-- The next R-TAG sequence of the stream to the group (R294). -/
  txRtag : Nat
  /-- IN frames of the segment that failed a check (R321). -/
  authFail : Nat
deriving DecidableEq, Repr

/-- A segment before its first cycle. -/
def SegState.init : SegState := { last := none, seq := 0, safeLeft := 0, key := (0, 0), claimSeq := 0, txRtag := 0, authFail := 0 }

/-- An acyclic exchange outstanding (R310). -/
structure Exchange where
  id : Nat
  node : Nat
  op : Nat
  index : Nat
  data : List Byte
  /-- The sequence of its first request, and of its last one. -/
  first : Nat
  seq : Nat
  retries : Nat
  sentAt : Nat
deriving DecidableEq, Repr

/-- What a node remembers of the frames of one sender under one key (R306): the newest generation and sequence, and the sequences
seen within the 64 below it. -/
structure Replay where
  gen : Nat
  seq : Nat
  seen : List Nat
deriving DecidableEq, Repr

/-- A node's side of SRX, one for each bay in the NODE role (R307, R308, R317). -/
structure Slave where
  epoch : Option Nat
  /-- SR_s of the segment the node belongs to, as a number; none until SEGROOT is written. -/
  segRoot : Option Nat
  seg : Nat
  timeout : Nat
  cycle : Nat
  phase : Nat
  image : List Byte
  steps : List (Ns × List Byte)
  applied : List Byte
  lastFresh : Nat
  /-- The STIME at the last accepted OUT frame (R181). -/
  lastOut : Option Ns
  silent : Bool
  late : Bool
  /-- Replay state by sender and key: sender, kind of key (0 K_cyc, 1 K_claim, 2 NK), and for K_cyc the epoch (R306). -/
  replay : List ((Nat × Nat × Nat) × Replay)
  /-- The input image latched at the last instant of its grid (R309); empty before the first. -/
  inputs : List Byte
  /-- The sequences of its own frames: under K_cyc of an epoch and a generation, and under NK (Table RIO-1). -/
  txKey : Nat × Nat
  txSeq : Nat
  nkSeq : Nat
  /-- Its last four responses: exchange ID, tick, payload. -/
  responses : List (Nat × Nat × List Byte)
deriving DecidableEq, Repr

/-- A node at its start: no segment root, silent timeout 10 ms until written. -/
def Slave.init : Slave :=
  { epoch := none, segRoot := none, seg := 0, timeout := 10, cycle := 0, phase := 0, image := [], steps := [],
    applied := [], lastFresh := 0, lastOut := none, silent := true, late := false, replay := [], inputs := [],
    txKey := (0, 0), txSeq := 0, nkSeq := 0,
    responses := [] }

/-- 802.1AS state (R292, Table RIO-12). -/
structure Gptp where
  state : Nat
  offset : Int
  gm : Nat
  gmPrio : Nat
  /-- Sync received and to be relayed on the other port; port delays; two-step messages sent. -/
  relay : List Nat
  delays : List (Nat × Nat)
  sent : Nat
  sentAt : List (Nat × Nat)
deriving DecidableEq, Repr

/-- The network (R291-R322). -/
structure NetState where
  linkA : Bool
  linkB : Bool
  cfg : Option NetConfig
  nodes : List (Nat × NodeState)
  segs : List (Nat × SegState)
  /-- Frames handed to the ports by the latest sending step, in order. -/
  tx : List TxFrame
  exchanges : List Exchange
  acycWorst : Nat
  slaves : List (Nat × Slave)
  boot : Nat
  gptp : Gptp
  /-- Ticks of the last rekey, and of the last 64 frames that failed authentication or replay (Table FLT-1). -/
  rekeyAt : Nat
  authTimes : List Nat
deriving DecidableEq, Repr

/-- No configuration, both links down. -/
def NetState.init : NetState :=
  { linkA := false, linkB := false, cfg := none, nodes := [], segs := [], tx := [], exchanges := [], acycWorst := 0,
    slaves := [], boot := 0,
    gptp := { state := 0, offset := 0, gm := 0, gmPrio := 255, relay := [], delays := [], sent := 0, sentAt := [] },
    rekeyAt := 0, authTimes := [] }

/-! ### Hot standby (06) -/

/-- A frame put on the scarf lanes (Table STBY-1). -/
structure ScarfTx where
  kind : Nat
  flags : Nat
  seq : Nat
  peg : Nat
  payload : List Byte
deriving DecidableEq, Repr

/-- A page of a delta being staged on the standby: its bytes and, where the delta carried one, its mask. -/
structure DeltaPg where
  page : Nat
  data : List Byte
  mask : List Byte
deriving DecidableEq, Repr

/-- An acknowledged delta that waits for its application (R167). -/
structure Delta where
  peg : Nat
  ctx : Nat
  pegAt : Nat
  pages : List DeltaPg
  rows : List Nat
  cells : List CellRec
deriving DecidableEq, Repr

/-- A delta the primary has sent and not seen acknowledged: peg sequence, CRC, tick of the deadline (R168). -/
structure Outstanding where
  peg : Nat
  crc : Nat
  deadline : Nat
deriving DecidableEq, Repr

/-- The last takeover (R175, Table NVM-5). -/
structure Takeover where
  at_ : Ns
  epoch : Nat
  dur : Nat
deriving DecidableEq, Repr

/-- The pair (R157-R182). -/
structure StbyState where
  lane0 : Bool
  lane1 : Bool
  linkUp : Bool
  /-- The tick at which the last valid frame ended, and STIME then (L0 of R175). -/
  rxAt : Nat
  rxTime : Ns
  rxSeq : Option Nat
  txSeq : Nat
  /-- The frames handed to the lanes in FCLK cycle `txAt`, in order. -/
  txAt : Nat
  tx : List ScarfTx
  /-- A negotiation runs: HELLO sent and not answered. -/
  joining : Bool
  epoch : Nat
  partnerEpoch : Nat
  partnerState : Nat
  partnerTime : Ns
  sync : Nat
  refusal : Nat
  /-- The primary: deltas outstanding, a resync owed. -/
  outstanding : List Outstanding
  progress : Nat
  /-- The standby: a delta was refused, and those that follow are discarded until CTRL RESYNC; pages of the delta being staged;
  acknowledged deltas; COPY_END has come; copy sequences by page. -/
  refusing : Bool
  staged : List DeltaPg
  acked : List Delta
  copyDone : Bool
  copied : List (Nat × Nat)
  /-- A planned switchover at this instant; the new primary waits for SWITCH_DONE. -/
  switchAt : Option Ns
  holdEmit : Bool
  /-- The old primary owes SWITCH_DONE once its last emission is out. -/
  owesDone : Bool
  last : Option Takeover
  /-- The state to follow at an instant (CTRL STATE). -/
  follow : Option (Ns × Nat)
  /-- The primary at pairing: what the standby has still to be given, 1 the current slot, 2 the network configuration (R162). -/
  offers : List Nat
  /-- The standby: the segments of an EDIT_OFFER and of an UPD_OFFER so far, and whether the activation on its way is of one that
  pairing sent (0 no, else as in `offers`). -/
  offerBuf : List Byte
  updBuf : List Byte
  offerKind : Nat
deriving DecidableEq, Repr

/-- Link down, no pair. -/
def StbyState.init : StbyState :=
  { lane0 := false, lane1 := false, linkUp := false, rxAt := 0, rxTime := 0, rxSeq := none, txSeq := 0, txAt := 0, tx := [],
    joining := false, epoch := 0, partnerEpoch := 0, partnerState := 0, partnerTime := 0, sync := 0, refusal := 0,
    outstanding := [], progress := 0, refusing := false, staged := [], acked := [], copyDone := false, copied := [], switchAt := none,
    holdEmit := false, owesDone := false, last := none, follow := none, offers := [], offerBuf := [], updBuf := [],
    offerKind := 0 }

/-! ### Security (15) -/

/-- A provisional session slot between the legs of OPEN (R415, R416). -/
structure Provisional where
  slot : Nat
  id : Nat
  requester : Nat
  conn : Nat
  since : Nat
  key : Nat
deriving DecidableEq, Repr

/-- An outstanding challenge of a session (R409). -/
structure Challenge where
  slot : Nat
  value : List Byte
  since : Nat
deriving DecidableEq, Repr

/-- An owner change whose commit record is not durable yet (R408): the new owner key, whether owner data is cleared, and the
mailbox that waits. -/
structure OwnerChange where
  owner : Option (List Byte)
  clear : Bool
  mbx : Nat
deriving DecidableEq, Repr

/-- Owner store, fuses, sessions' keys, debug port, tamper (R398-R424). -/
structure SecState where
  /-- The owner public key; none while unclaimed (R408). -/
  owner : Option (List Byte)
  policy : List Byte
  policySerial : Nat
  ns : Option (List Byte)
  nodeKeys : List (Nat × List Byte)
  keyGen : Nat
  lockSet : Bool
  lockOpenUntil : Option Nat
  /-- The fuse count (R405); a blow is outstanding up to this count. -/
  fuses : Nat
  blowTo : Nat
  /-- The running image: firmware version, security version, pair protocol version (R402). -/
  fwVersion : Nat
  fwSec : Nat
  fwPair : Nat
  /-- An ownership change has marked the program store invalid (R404, R408). -/
  storeInvalid : Bool
  change : Option OwnerChange
  keys : List (Nat × Nat)
  prov : List Provisional
  challenges : List Challenge
  /-- Numbers drawn from the random generator. -/
  drawn : Nat
  /-- TLS connections: number and port. -/
  tls : List (Nat × Nat)
  tlsNext : Nat
  /-- Key updates of each connection. -/
  tlsUpdates : List (Nat × Nat)
  /-- The debug port: 0 locked, 1 by owner, 2 by service; the tick at which it locks. -/
  debug : Nat
  debugUntil : Nat
  tamperLast : Nat
  /-- Session, TLS and SRX keys are zeroised; K_nvm and K_log are zeroised; the record that this waits for. -/
  srxZero : Bool
  nvmZero : Bool
  tamperRec : Option Nat
deriving DecidableEq, Repr

/-- Unclaimed, no fuse blown (assumption log 7). -/
def SecState.init : SecState :=
  { owner := none, policy := [], policySerial := 0, ns := none, nodeKeys := [], keyGen := 0, lockSet := false,
    lockOpenUntil := none, fuses := 0, blowTo := 0, fwVersion := 0, fwSec := 0, fwPair := 0, storeInvalid := false, change := none,
    keys := [], prov := [], challenges := [], drawn := 0, tls := [], tlsNext := 0, tlsUpdates := [], debug := 0, debugUntil := 0,
    tamperLast := 0, srxZero := false, nvmZero := false, tamperRec := none }


/-! ### The parts right after reset: state BOOT, before step B1 of boot (R27, R474) -/

/-- The device after power-on: a 7232 (assumption log 2) in BOOT, role SOLO. -/
def Device.init : Device :=
  { part := .p7232, state := .boot, sub := .none, role := .solo, drain := none, drainAt := 0, drainMbx := none,
    runMbx := none, since := 0, sinceTime := 0, autoWait := false }

/-- No shot, no force, no commit. -/
def Image.init : Image :=
  { vers := [], forces := [], forceChanged := [], cells := Cells.init, commits := [], pegSeq := 0, emissions := [],
    lastPeg := 0 }

/-- No context on the cores. -/
def Sched.init : Sched :=
  { cores := none, window := 0, used := 0, exhausted := false, fwLast := 0, fwWorst := 0,
    fwWatchLimit := 0, fwWatchCount := 0, paused := false, trussLast := none, bankWin := 0, bankCycles := 0,
    bankHits := 0, idleWin := 0, idleCycles := 0, idleHits := 0 }

/-- STIME is 0 at the end of B1 (R465); free-running. -/
def Clock.init : Clock :=
  { stime := 0, frac := 0, ticks := 0, rate := 0, source := 0, state := 0, offset := 0, owed := 0, lockCount := 0, missed := 0,
    expected := none, syncInOk := false, stagedSet := none, syncOut := false, syncOutAt := 0, aclk := false,
    aclkSeen := false }

/-- VIN is good; only PD_AON is on before the end of B1 (Table PWR-2). -/
def Power.init : Power :=
  { vin := 5000, vinMin := 5000, nresetLow := false, vinGood := true, warnLive := false, pfStep := 0, pfAbandoned := 0, hold := false,
    rowInhibit := false, core := false, truss := false, sram := false, nvm := false, net := false, host := false,
    sec := false, scarf := false, holdup := none, holdupFrom := 0, cause := 0, lockoutFlag := false, clkLost := false,
    clkRecord := false, clkTime := 0, clkAt := 0, clkState := 0 }

/-- Nothing live, nothing pending; nFAULT low from power-on (R384), ALIVE stopped (R383). -/
def Faults.init : Faults :=
  { live := 0, sticky := 0, records := [], pending := [], queue := [], seqNewest := 0, seqAcked := 0, awaiting := [],
    grace := [], newestPin := 0, newestSafe := 0, safeSrcs := [], nfaultLow := true, lowSince := 0,
    releaseAsked := false, alive := false, aliveOn := false, heartbeat := none, intDue := false, nmiDue := false,
    retries := 0, ceTimes := [], pulses := 0, pulseAt := 0 }

/-- The reset column of Table FLT-7. -/
def Watchdog.init : Watchdog :=
  { cfgT := 100, cfgOpen := 100, count := 0, key1 := none, serviced := false, ladder := 0, early := false,
    keyErr := false, clkLoss := false, evdPc := 0, evdSvc := 0, lastSvc := 0, cleanFrom := 0, restarting := none,
    expiredAt := none }

/-- TRIPLE with every core and lane in place. -/
def Tmr.init : Tmr :=
  { mode := .triple, byRetirement := false, freeCore := false, requested := none, reqAt := 0, returning := none, retired := [],
    isolated := none, isoAt := 0, scrubbed := false, skewed := false, diffs := [], laneDiffs := [], laneRetired := [],
    cmpPending := false, cmpFrom := 0, dbgBroken := false, last := none, irqLast := none, irqPending := 0 }

/-- The reset column of Table HOST-2; every mailbox FREE, no session. -/
def HostPort.init : HostPort :=
  { quad := false, irqOd := false, hstat := 0, irqStat := 0, irqEn := 0, claim := none, grant := 16, stimeH := 0,
    gpioOut := 0, scratch := 0, fwver := 0, hbeat := 0, hbeatAt := 0, rdata := [], dstateSeen := 1,
    braceSeen := 0, mbx := [], rings := [], sessions := [], netWaiting := [], stopped := false, setTick := 0, setBy := [] }

/-- A checkpoint slot that fails its CRC. -/
def Checkpoint.blank : Checkpoint :=
  { seq := 0, covered := 0, ringRow := 0, halves := [], slot := 255, chain := 0, netCopy := 255, epoch := 0, valid := false }

/-- A settings copy that is not valid. -/
def SettingsCopy.blank : SettingsCopy := { seq := 0, format := 0, fw := 0, content := [], blocks := [], valid := false }

/-- An empty journal with one valid checkpoint, an empty log and no settings copy (assumption log 7). -/
def Nvm.init : Nvm :=
  { commitLeft := 0, rowsAhead := 0, commitFrom := 0, commitTick := 0, jobs := [], halves := [], ring := [], commitSeq := 0, ringRow := 0, ringSince := 0, ringDone := 0,
    ckptA := { Checkpoint.blank with valid := true }, ckptB := Checkpoint.blank, ckptRun := none, logQueue := [], logRing := [], logSeq := 0,
    lostReported := 0, overflow := 0, headerSeq := 0, headerAt := 0, headerCount := 0, headerNewest := 0,
    setA := SettingsCopy.blank, setB := SettingsCopy.blank, setCopy := 255, setWaiting := [], setDirty := false,
    setRun := none, setRunMbx := [], setStarted := none }

/-- No update; the shim journal IDLE. -/
def Update.init : Update :=
  { stage := .none, result := 0, reason := 0, lockSession := none, len := 0, staged := [], lastData := 0, oldVersion := 0,
    newVersion := 0, newSecVer := 0, newFormat := 0, newPair := 0, jSeq := 0, jState := 0, jN := 0, jK := 0, jW := 0, jTrials := 0,
    activatedAt := 0, handover := 0, confirmBy := 0, healthyFrom := none, mbx := none, verifying := false, measFor := none,
    peer := 0, handed := false, fromRecovery := false, oldSec := 0, oldPair := 0, oldFormat := 0 }


/-! ### The whole -/

/-- The state of a SAPEN 7232, 7216 or 7208: `pending` is the queue of commands that wait, `freeCtr` counts the free values
drawn (both the model's own fields). -/
structure State where
  pending : List Instr
  freeCtr : Nat
  dev : Device
  clk : Clock
  pwr : Power
  /-- SRAM (Table ARCH-4) and FeRAM (Table ARCH-6), sparse and canonical. -/
  sram : Memory
  feram : Memory
  /-- Values in force of the pids that have no field of their own, by pid (R346); an unlisted pid is at its default. -/
  params : List (Nat × Int)
  /-- SETs accepted and in force from the next boot on (Table SCOPE-7). -/
  bootParams : List (Nat × Int)
  /-- Block-valued parameters by pid: sys.name and the FIR sets (R347). -/
  blocks : List (Nat × List Byte)
  ctxs : List (Nat × Ctx)
  img : Image
  sched : Sched
  prog : Prog
  flt : Faults
  wdg : Watchdog
  tmr : Tmr
  hp : HostPort
  nvm : Nvm
  upd : Update
  sec : SecState
  stby : StbyState
  net : NetState
  eng : EngState
  /-- The field bays, 0 for A and 1 for B. -/
  bays : List (Nat × Bay)
deriving DecidableEq, Repr

/-- The machine right after power-on reset: state BOOT, the queue empty, every store at its reset value. -/
def State.reset : State :=
  { pending := [], freeCtr := 0, dev := Device.init, clk := Clock.init, pwr := Power.init, sram := [], feram := [],
    params := [], bootParams := [], blocks := [], ctxs := [], img := Image.init, sched := Sched.init,
    prog := Prog.init, flt := Faults.init, wdg := Watchdog.init, tmr := Tmr.init, hp := HostPort.init,
    nvm := Nvm.init, upd := Update.init, sec := SecState.init, stby := StbyState.init, net := NetState.init,
    eng := EngState.init, bays := [] }

/-- Why a run stops with a fault. -/
inductive Fault where
  /-- Raised by no meaning: every command of the table has an effect in every state (safe). -/
  | none
deriving DecidableEq, Repr

/-- Why a command is refused. -/
inductive Refusal where
  /-- Raised by an arm of `exec` whose command has no meaning yet (safe). -/
  | notModelled (mnemonic : String)
deriving DecidableEq, Repr

end Sys2Proof.Machine
end

