-- ==== Sys2Proof/Machine/Ops.lean ====
section
/-!
DEFINITION. The named operations every family shares: parameters, time, free values, the points of the image, the context
slots and the queue of log records.
-/

namespace Sys2Proof.Machine

/-- The answer of a meaning. -/
abbrev Res := Host.Outcome State Fault Refusal

/-- Runs `f` where `g` holds; an event whose condition does not hold leaves the state as it is (assumption log 1). -/
def whenOk (g : Bool) (s t : State) : Res := if g then .next t else .next s

/-! ### Time -/

/-- FCLK cycles in a microsecond (R26). -/
def usTicks : Nat := 400

/-- FCLK cycles in a millisecond. -/
def msTicks : Nat := 400000

/-- FCLK cycles in a second. -/
def secTicks : Nat := 400000000

/-- The number of values of STIME, a 64-bit count (R26). -/
def stimeMod : Nat := 2 ^ 64

/-- The clock one FCLK cycle later: 2.5 ns × (1 + a) of STIME, the fraction accumulated; STIME is a count of 64 bits (R26, R465). -/
def Clock.tick (k : Clock) : Clock :=
  let u := k.frac + (25000000000 + 25 * k.rate).toNat
  { k with stime := (k.stime + u / 10000000000) % stimeMod, frac := u % 10000000000, ticks := k.ticks + 1 }

/-- STIME now. -/
def State.now (s : State) : Ns := s.clk.stime

/-- FCLK runs in PD_CORE, where STIME and the watchdog count: the domain is on (from the end of B1), nRESET is high and the clock is not
lost (R26, R387, R453, R462, R473, Table ARCH-7). -/
def State.fclkUp (s : State) : Bool := s.dev.state != .off && s.pwr.core && !s.pwr.nresetLow && !s.pwr.clkLost

/-- FCLK cycles passed since tick `from_`. -/
def State.elapsed (s : State) (from_ : Nat) : Nat := s.clk.ticks - from_

/-! ### Free values (assumption log 5) -/

/-- The next free value, and the state with the counter advanced. -/
def State.draw (s : State) : Nat × State :=
  (Config.freeValue s.freeCtr, { s with freeCtr := s.freeCtr + 1 })

/-! ### Parameters -/

/-- The classes of Table FLT-1: 1 NOTE, 2 RECOVER, 3 RESET, 4 LOCKOUT. -/
def faultClass (src : Nat) : Nat :=
  match src with
  | 0 => 2
  | 1 => 3
  | 2 => 2
  | 3 => 1
  | 4 => 2
  | 5 => 3
  | 6 => 1
  | 7 => 2
  | 8 => 2
  | 9 => 1
  | 10 => 2
  | 11 => 3
  | 12 => 3
  | 13 => 3
  | 14 => 1
  | 15 => 2
  | 16 => 3
  | 17 => 2
  | 18 => 1
  | 19 => 2
  | 20 => 2
  | 21 => 2
  | 22 => 2
  | 23 => 1
  | 24 => 2
  | 25 => 4
  | 26 => 4
  | 27 => 4
  | 28 => 1
  | 29 => 2
  | 30 => 1
  | 31 => 2
  | _ => 0

/-- Reaction bits of Table FLT-2. -/
def rcINT : Nat := 1
/-- Entry to the firmware fault handler. -/
def rcNMI : Nat := 2
/-- Reset of the raising block. -/
def rcBLOCK : Nat := 4
/-- Chip reset. -/
def rcCHIP : Nat := 8
/-- nFAULT low. -/
def rcPIN : Nat := 16
/-- A grace time for the cause. -/
def rcGRACE : Nat := 32
/-- Immediate transition to SAFE. -/
def rcSAFE : Nat := 64

/-- The default reactions of Table FLT-1; the fixed reactions of the ladder and of LOCKOUT sources have no bits but PIN for
WDG_EXPIRY. -/
def faultDefaultReact (src : Nat) : Nat :=
  match src with
  | 0 => rcPIN
  | 3 | 6 | 8 | 9 | 14 | 18 | 19 | 20 | 22 | 23 | 24 | 28 | 30 => rcINT
  | 1 | 5 | 11 | 12 | 13 | 16 => rcCHIP + rcPIN
  | 2 | 4 | 10 | 15 | 17 | 21 | 29 => rcINT + rcPIN
  | 7 => rcINT + rcPIN + rcSAFE
  | 31 => rcPIN
  | _ => 0

/-- The Brace bit of a source (Table FLT-6). -/
def braceBit (src : Nat) : Nat :=
  match src with
  | 0 => 0
  | 1 => 1
  | 2 => 1
  | 3 => 2
  | 4 => 3
  | 5 => 4
  | 6 => 5
  | 7 => 6
  | 8 => 10
  | 9 => 8
  | 10 => 8
  | 11 => 7
  | 12 => 7
  | 13 => 7
  | 14 => 9
  | 15 => 9
  | 16 => 9
  | 17 => 11
  | 18 => 12
  | 19 => 13
  | 20 => 14
  | 21 => 15
  | 22 => 16
  | 23 => 17
  | 24 => 18
  | 25 => 19
  | 26 => 20
  | 27 => 24
  | 28 => 21
  | 29 => 22
  | 30 => 23
  | _ => 25

/-- Sources whose live bit follows a lasting condition (Table FLT-12). -/
def faultLasting (src : Nat) : Bool :=
  src == 2 || src == 3 || src == 4 || src == 10 || src == 15 || src == 17 || src == 19 || src == 20 || src == 21 ||
    src == 22 || src == 24 || src == 30 || src == 31

/-- The default of a pid that no table row but a formula gives: fault-source pids, and the plain tables. -/
def paramDefault (pid : Nat) : Int :=
  if 0x980 ≤ pid && pid < 0xA00 then
    let n := (pid - 0x980) / 4
    match (pid - 0x980) % 4 with
    | 0 => (faultDefaultReact n : Int)
    | 1 => 100
    | 2 => if faultClass n = 2 then 2 else 0
    | _ => 0
  else match pfind ptPlain pid with
    | some r => r.dflt
    | none => 0

/-- The value in force of a pid held in the parameter store (R346). -/
def State.pv (s : State) (pid : Nat) : Int :=
  match tfind s.params pid with
  | some v => v
  | none => paramDefault pid

/-- A value in force as a natural number. -/
def State.pn (s : State) (pid : Nat) : Nat := (s.pv pid).toNat

/-- The state with a value in force. -/
def State.setPv (s : State) (pid : Nat) (v : Int) : State := { s with params := tset s.params pid v }

/-- One more on a counter of `w` bits. The spec does not say what follows the largest value: a free value
(assumption log 5). -/
def State.bump (s : State) (pid w : Nat) : State :=
  let v := s.pn pid + 1
  if v < 2 ^ w then s.setPv pid v
  else
    let (x, t) := s.draw
    t.setPv pid ((x % 2 ^ w : Nat) : Int)

/-- The larger of a recorded worst value and a new one. -/
def State.worst (s : State) (pid v : Nat) : State := if s.pn pid < v then s.setPv pid v else s

/-! ### The event log's queue (R433) -/

/-- Queues a log record. `reserved` records use the eight entries kept for them; any other record that finds no room is
counted and lost. Firmware that does not run queues nothing. -/
def State.logRec (s : State) (type : Nat) (bytes : List Byte) (faultSeq : Nat) (reserved : Bool) : State :=
  let r : LogRec :=
    { seq := 0, type := type, stime := s.now, bytes := bytes, chain := 0, faultSeq := faultSeq, reserved := reserved }
  let len := s.nvm.logQueue.length
  if len < (if reserved then 256 else 248) then
    let t := { s with nvm := { s.nvm with logQueue := s.nvm.logQueue ++ [r] } }
    t.worst 0xA14 (len + 1)
  else
    let t := s.bump 0xA13 32
    { t with nvm := { t.nvm with overflow := t.nvm.overflow + 1 } }

/-- A log record of no fault. -/
def State.log (s : State) (type : Nat) (bytes : List Byte) : State := s.logRec type bytes 0 false

/-! ### Areas and points (R20, R32, R33) -/

/-- Whether an area code names a bit area. -/
def areaIsBit (code : Nat) : Bool := code == 0 || code == 1 || code == 4

/-- The number of points of an area (Table SHOT-1); DB holds what the program declares. -/
def areaLen (dbSize code : Nat) : Nat :=
  match code with
  | 0 => 65536
  | 1 => 65536
  | 2 => 16384
  | 3 => 16384
  | 4 => 262144
  | 5 => 65536
  | 6 => dbSize
  | 7 => 8192
  | _ => 0

/-- The SRAM address of an area: the image from 0xC00000 in the order of Table ARCH-4 (I, Q, IW, QW, M, MW), DB at 0xC3C000,
the diagnostic area at the start of the system tables (assumption log 4). -/
def areaBase (code : Nat) : Nat :=
  match code with
  | 0 => 0xC00000
  | 1 => 0xC02000
  | 2 => 0xC04000
  | 3 => 0xC0C000
  | 4 => 0xC14000
  | 5 => 0xC1C000
  | 6 => 0xC3C000
  | _ => 0xEBC000

/-- The area code of a point address. -/
def ptArea (pt : Nat) : Nat := pt / 0x100000

/-- The index of a point address. -/
def ptIndex (pt : Nat) : Nat := pt % 0x100000

/-- The point address of an area and an index. -/
def mkPt (area ix : Nat) : Nat := area * 0x100000 + ix

/-- The SRAM byte that holds a bit point, or the low byte of a word point. -/
def ptAddr (pt : Nat) : Nat :=
  areaBase (ptArea pt) + (if areaIsBit (ptArea pt) then ptIndex pt / 8 else 2 * ptIndex pt)

/-- The value of a point in a memory laid out as SRAM (R33). -/
def readPt (m : Memory) (pt : Nat) : Nat :=
  if areaIsBit (ptArea pt) then b2n ((m.read (ptAddr pt)).getLsbD (ptIndex pt % 8))
  else (m.read (ptAddr pt)).toNat + 256 * (m.read (ptAddr pt + 1)).toNat

/-- The memory with a point set (R33). -/
def writePt (m : Memory) (pt v : Nat) : Memory :=
  let a := ptAddr pt
  if areaIsBit (ptArea pt) then
    let old := m.read a
    let mask : Byte := 1#8 <<< (ptIndex pt % 8)
    m.write a (if v % 2 = 1 then old ||| mask else old &&& ~~~mask)
  else (m.write a (BitVec.ofNat 8 v)).write (a + 1) (BitVec.ofNat 8 (v / 256))

/-- Points and their values stored in order. -/
def writePts (m : Memory) (ws : List (Nat × Nat)) : Memory := ws.foldl (fun acc w => writePt acc w.1 w.2) m

/-- The logical page of a point, in the form of ctx.n.snap_pages: area in [15:12], page in [11:0]. -/
def ptPage (pt : Nat) : Nat :=
  ptArea pt * 4096 + (if areaIsBit (ptArea pt) then ptIndex pt / 32768 else ptIndex pt / 2048)

/-- The SRAM address of a logical page. -/
def pageAddr (page : Nat) : Nat := areaBase (page / 4096) + 4096 * (page % 4096)

/-- Whether an SRAM address lies in a logical page. -/
def inPage (page a : Nat) : Bool := decide (pageAddr page ≤ a) && decide (a < pageAddr page + 4096)

/-- An input page: its area is I, IW or DG (R41). -/
def pageIsInput (page : Nat) : Bool := page / 4096 == 0 || page / 4096 == 2 || page / 4096 == 7

/-- The version of a logical page. -/
def State.pageVer (s : State) (page : Nat) : Nat := tget 0 s.img.vers page

/-- A logical page moves to a new frame. -/
def State.bumpPage (s : State) (page : Nat) : State :=
  { s with img := { s.img with vers := tset s.img.vers page (s.pageVer page + 1) } }

/-- The committed value of a point. -/
def State.committed (s : State) (pt : Nat) : Nat := readPt s.sram pt

/-! ### FeRAM rows (R425, R429) -/

/-- A FeRAM row of 64 bytes, zeros after what is given. -/
def rowBytes (bs : List Byte) : List Byte := (bs ++ List.replicate 64 0#8).take 64

/-- The state with a FeRAM row written. -/
def State.writeRow (s : State) (addr : Nat) (bs : List Byte) : State := { s with feram := s.feram.writeL addr (rowBytes bs) }

/-! ### Context slots -/

/-- The slot of context `c`. -/
def State.ctx (s : State) (c : Nat) : Ctx := tget Ctx.init s.ctxs c

/-- The state with a context slot replaced. -/
def State.setCtx (s : State) (c : Nat) (x : Ctx) : State := { s with ctxs := tset s.ctxs c x }

/-- The user context numbers. -/
def userCtxs : List Nat := (List.range 64).drop 1

/-- The configured contexts in ascending order. -/
def State.configured (s : State) : List Nat := userCtxs.filter (fun c => (s.ctx c).cfg.isSome)

/-- A period, peg offset or phase of a slot in ns; 0 for an unused one. -/
def Ctx.ns (x : Ctx) (f : CtxEntry → Nat) : Ns :=
  match x.cfg with
  | some e => f e * 1000
  | none => 0

/-- The first grid instant at or after `t`: the least t0 ≥ t with (t0 - phase) mod period = 0 (R71). -/
def gridNext (period phase t : Nat) : Nat :=
  if period = 0 then t
  else if t ≤ phase then phase - (phase - t) / period * period
  else phase + ceilDiv (t - phase) period * period

/-- The state code of a context (Table TASK-2, R70, R77). -/
def State.ctxState (s : State) (c : Nat) : Nat :=
  if c = 0 then (if s.sched.cores == some 0 then 4 else 1)
  else match (s.ctx c).cfg with
    | none => 0
    | some _ =>
      match (s.ctx c).shot with
      | none => 1
      | some sh =>
        match sh.phase with
        | .pin => 2
        | .ready => 3
        | .core => 4
        | .truss => 5
        | .preempted => 6
        | .done => 7

/-- The active program, or one with no section. -/
def State.program (s : State) : Program := s.prog.active.getD Program.empty

/-- The read set of a context (section READ). -/
def Program.readSet (p : Program) (c : Nat) : List Nat :=
  match p.reads.find? (fun e => e.ctx == c) with
  | some e => e.pages
  | none => []

/-! ### Frames and quotas (R56) -/

/-- The frames charged to a shot: buffer pages, masks, and pinned frames that a live write or a remap has displaced. -/
def State.shotFrames (s : State) (sh : Shot) : Nat :=
  sh.buf.length + sh.masks.length + (sh.pins.filter (fun p => p.ver != s.pageVer p.page)).length

/-- The frames charged to context `c`, its dropped shot not yet abandoned included. -/
def State.framesUsed (s : State) (c : Nat) : Nat :=
  (match (s.ctx c).shot with
   | some sh => s.shotFrames sh
   | none => 0) +
  (s.ctx c).dying.foldl (fun n d => n + s.shotFrames d.1) 0

/-- Frames that staged pages and unapplied deltas hold (R56, R167). -/
def StbyState.stagedFrames (k : StbyState) : Nat :=
  let per (g : DeltaPg) : Nat := if areaIsBit (g.page / 4096) then 2 else 1
  k.staged.foldl (fun n g => n + per g) 0 + k.acked.foldl (fun n d => d.pages.foldl (fun m g => m + per g) n) 0

/-- The frames not in use (image.pool.free): a displaced frame that several snapshots pin, or whose dirty rows a commit has still to
write, is one frame (R46). -/
def State.poolFree (s : State) : Nat :=
  let shots := s.configured.filterMap (fun c => (s.ctx c).shot) ++
    s.configured.flatMap (fun c => (s.ctx c).dying.map Prod.fst)
  let own := shots.foldl (fun n sh => n + sh.buf.length + sh.masks.length) 0
  let needed := (s.img.commits.filter (fun k => !k.durable)).flatMap Commit.frames
  let held := ((shots.flatMap Shot.pins ++ needed).filter (fun p => p.ver != s.pageVer p.page)).eraseDups
  256 - (own + held.length + s.stby.stagedFrames)

/-- Notes the lowest number of free frames (image.pool.min_free). -/
def State.notePool (s : State) : State :=
  let f := s.poolFree
  if f < s.pn 0x609 then s.setPv 0x609 f else s

/-! ### Device codes -/

/-- sys.state (Table HOST-17). -/
def devCode (d : DevState) : Nat :=
  match d with
  | .off => 0
  | .boot => 1
  | .init => 2
  | .stop => 3
  | .run => 4
  | .halt => 5
  | .recovery => 6
  | .safe => 7
  | .lockout => 8

/-- sys.substate. -/
def subCode (d : SubState) : Nat :=
  match d with
  | .none => 0
  | .update => 1
  | .test => 2

/-- stby.role. -/
def roleCode (r : Role) : Nat :=
  match r with
  | .solo => 0
  | .primary => 1
  | .standby => 2
  | .node => 3

/-- The part number of Table HOST-2. -/
def partNumber (p : Part) : Nat :=
  match p with
  | .p7232 => 0x1C40
  | .p7216 => 0x1C30
  | .p7208 => 0x1C28

/-- Bays of a part (Table SCOPE-1). -/
def partBays (p : Part) : Nat :=
  match p with
  | .p7232 => 2
  | _ => 1

/-- Channels of a part (Table SCOPE-1). -/
def partChannels (p : Part) : Nat :=
  match p with
  | .p7232 => 32
  | .p7216 => 16
  | .p7208 => 8

/-- Channels of each bay of a part (R2, R3). -/
def bayChannels (p : Part) : Nat :=
  match p with
  | .p7208 => 8
  | _ => 16

/-- Whether a bay exists on a part. -/
def bayExists (p : Part) (x : Nat) : Bool := decide (x < partBays p)

/-! ### DSTATE, the Brace word and their mirrors (R327, R382) -/

/-- The sub-state reported: UPDATE spans DOWNLOAD to ACTIVATED in STOP and RUN (R438), else TEST or none. -/
def State.subNow (s : State) : SubState :=
  let upd := s.upd.stage == .download || s.upd.stage == .verified || s.upd.stage == .activating ||
    s.upd.stage == .activated
  if upd && (s.dev.state == .stop || s.dev.state == .run) then .update else s.dev.sub

/-- Firmware, or the boot ROM or resident loader in its place, serves mailboxes (R326, R343). -/
def State.serves (s : State) : Bool :=
  s.pwr.core && s.wdg.restarting.isNone && !s.hp.stopped && !s.pwr.clkLost && decide (s.pwr.pfStep < 4) &&
    (s.dev.state == .stop || s.dev.state == .run || s.dev.state == .halt || s.dev.state == .safe ||
      s.dev.state == .recovery || s.dev.state == .lockout)

/-- The owner lock is closed (R414). -/
def SecState.locked (k : SecState) : Bool := k.lockSet && k.lockOpenUntil.isNone

/-- DSTATE[15:0] (Table HOST-4). -/
def State.dstateLow (s : State) : Nat :=
  devCode s.dev.state + shl (subCode s.subNow) 4 + shl (roleCode s.dev.role) 6 + shl s.stby.sync 8 +
    shl (b2n s.prog.active.isSome) 10 + shl (b2n s.sec.owner.isSome) 11 + shl (b2n s.sec.locked) 12 +
    shl (b2n s.serves) 13

/-- The Brace word: bit b is the OR of the sticky bits of the sources mapped to b (R382). -/
def State.brace (s : State) : Nat :=
  (List.range 32).foldl (fun w n => if bit s.flt.sticky n then setBit w (braceBit n) else w) 0

/-- IRQ_STAT[16] follows a change of DSTATE[15:0], IRQ_STAT[17] a Brace bit that was set (Table HOST-2). -/
def State.mirror (s : State) : State :=
  let d := s.dstateLow
  let b := s.brace
  let i1 := if d ≠ s.hp.dstateSeen then setBit s.hp.irqStat 16 else s.hp.irqStat
  let i2 := if clr64 b s.hp.braceSeen ≠ 0 then setBit i1 17 else i1
  { s with hp := { s.hp with irqStat := i2, dstateSeen := d, braceSeen := b } }

end Sys2Proof.Machine
end

