-- ==== Sys2Proof/Machine/HostOps.lean ====
section
/-!
DEFINITION. Mailboxes, sessions and responses as every command uses them (R330-R342), and the error bits of the host port.
-/

namespace Sys2Proof.Machine

/-! ### Mailboxes -/

/-- Mailbox `m`. -/
def State.mailbox (s : State) (m : Nat) : Mailbox := tget Mailbox.init s.hp.mbx m

/-- The state with mailbox `m` replaced. -/
def State.setMailbox (s : State) (m : Nat) (x : Mailbox) : State :=
  { s with hp := { s.hp with mbx := tset s.hp.mbx m x } }

/-- The SRAM address of a mailbox (Table ARCH-4). -/
def mbxAddr (m : Nat) : Nat := 0xFD0000 + 4096 * m

/-- The code of a mailbox state (Table HOST-5). -/
def mbxCode (x : MbxState) : Nat :=
  match x with
  | .free => 0
  | .claimed => 1
  | .rung => 2
  | .busy => 3
  | .done => 4

/-- Mailbox `m` belongs to the host port: requester 1 holds it. -/
def State.hostOwns (s : State) (m : Nat) : Bool :=
  let x := s.mailbox m
  x.state != .free && x.owner == 1

/-- How many mailboxes the host port holds. -/
def State.hostHeld (s : State) : Nat := ((List.range 16).filter (fun m => s.hostOwns m)).length

/-- The lowest free mailbox. -/
def State.freeMailbox (s : State) : Option Nat := (List.range 16).find? (fun m => (s.mailbox m).state == .free)

/-- Sets an HSTAT bit: each setting counts in sys.hp.errors, and IRQ_STAT[18] is set when HSTAT becomes nonzero. -/
def State.hstatSet (s : State) (b : Nat) : State :=
  let t := s.bump 0x117 32
  { t with hp := { t.hp with
      irqStat := if t.hp.hstat = 0 then setBit t.hp.irqStat 18 else t.hp.irqStat,
      hstat := setBit t.hp.hstat b } }

/-- HP_nIRQ is low (R328). -/
def HostPort.irqLow (h : HostPort) : Bool := land64 h.irqStat h.irqEn != 0

/-! ### Sessions -/

/-- Session slot `k`. -/
def State.session (s : State) (k : Nat) : Session := tget Session.init s.hp.sessions k

/-- The state with session slot `k` replaced. -/
def State.setSession (s : State) (k : Nat) (x : Session) : State :=
  { s with hp := { s.hp with sessions := tset s.hp.sessions k x } }

/-- The slot of an open session with this ID, for a requester and, on the network, its connection (R339). -/
def State.findSession (s : State) (id requester conn : Nat) : Option Nat :=
  let k := id % 16
  let x := s.session k
  if x.isOpen && x.id == id && x.requester == requester && (requester == 1 || x.conn == conn) then some k else none

/-! ### Responses -/

/-- The request that mailbox `m` executes: it is BUSY with opcode `op`, has no response yet and does not wait for a
sequence. -/
def State.request (s : State) (m op : Nat) : Option Request :=
  let x := s.mailbox m
  if x.state == .busy && x.resp.isNone && x.waitFrom.isNone then
    match x.req with
    | some r => if r.opcode == op then some r else none
    | none => none
  else none

/-- The history with one more request recorded, newest first, 16 kept (R341). -/
def histAdd (h : List HistEntry) (e : HistEntry) : List HistEntry := (e :: h).take 16

/-- The response of mailbox `m`'s request; a request of a session is recorded in the slot's history at this commit point
(R337, R341). -/
def State.answer (s : State) (m completion status detail : Nat) (data : List Byte) : State :=
  let x := s.mailbox m
  match x.req with
  | none => s
  | some r =>
    let resp : Response := {
      completion := completion, status := status, detail := detail, data := data, rep := false, reply := 0,
      clear := r.session == 0, session := none }
    let t := s.setMailbox m { x with resp := some resp, waitFrom := none, committed := true }
    if r.session = 0 then t
    else
      let k := r.session % 16
      let y := t.session k
      let e : HistEntry :=
        { seq := r.seq, opcode := r.opcode, completion := completion, status := status, detail := detail, replies := 1 }
      if y.id == r.session then t.setSession k { y with history := histAdd y.history e } else t

/-- Completion OK with response data. -/
def State.ok (s : State) (m : Nat) (data : List Byte) : State := s.answer m 0 0 0 data

/-- Completion REFUSED with a status and its detail. -/
def State.refuse (s : State) (m status detail : Nat) : State := s.answer m 9 status detail []

/-- Completion ABORTED. -/
def State.abort (s : State) (m : Nat) : State := s.answer m 0x0B 0 0 []

/-- A clear response with an empty payload, recorded in no history (R338, R342). -/
def State.answerClear (s : State) (m completion : Nat) : State :=
  let x := s.mailbox m
  s.setMailbox m { x with
    resp := some (Response.mk completion 0 0 [] false 0 true none), waitFrom := none }

/-- The requests of a session that wait for earlier sequences complete with ABORTED; their sequences are not consumed
(R342). -/
def State.abortWaiting (s : State) (id : Nat) : State :=
  (List.range 16).foldl (fun t m =>
    let x := t.mailbox m
    match x.req with
    | some r => if x.state == .busy && x.waitFrom.isSome && r.session == id && r.session != 0 then t.answerClear m 0x0B else t
    | none => t) s

/-- A transition to `to` answers the STATE request that asked for it elsewhere: an orderly request whose target it is gets OK
from its own meaning; any other waiting STATE request completes with ABORTED, and the transition it asked for is logged as
discarded (R28, R344). -/
def State.overtake (s : State) (dest : DevState) : State :=
  let t := match s.dev.drainMbx with
    | some m => if s.dev.drain == some dest then s else s.abort m
    | none => s
  let u := match t.dev.runMbx with
    | some m => if dest == DevState.run then t else t.abort m
    | none => t
  let v := match s.dev.drain with
    | some d => if d == dest then u else u.log 3 (leBytes 1 (devCode d) ++ leBytes 1 (devCode dest))
    | none => u
  { v with dev := { v.dev with drainMbx := if s.dev.drain == some dest then v.dev.drainMbx else none,
                               runMbx := if dest == DevState.run then v.dev.runMbx else none } }

end Sys2Proof.Machine
end

