-- ==== Sys2Proof/Machine/FaultOps.lean ====
section
/-!
DEFINITION. The shared operations of faults and transitions: forming a fault record with its reactions (R374-R379),
entering a device state (R27, R79, R393, R395), dropping a shot (R58), and the chip reset (R472).
-/

namespace Sys2Proof.Machine

/-! ### Dropping shots and leaving RUN -/

/-- Context `c`'s shot is dropped: it leaves the slot, stops executing and waits for its abandonment (R58). -/
def State.dropShot (s : State) (c : Nat) (r : DropReason) : State :=
  let x := s.ctx c
  match x.shot with
  | none => s
  | some sh =>
    let t := s.setCtx c { x with shot := none, dying := x.dying ++ [(sh, r)] }
    { t with sched := { t.sched with cores := if t.sched.cores == some c then none else t.sched.cores } }

/-- Every shot not yet pegged is dropped with one reason. -/
def State.dropAll (s : State) (r : DropReason) : State := userCtxs.foldl (fun t c => t.dropShot c r) s

/-- No context releases any more. -/
def State.stopReleases (s : State) : State :=
  { s with ctxs := s.ctxs.map (fun e => (e.1, { e.2 with releasing := false, pegDue := e.2.shot.bind (fun sh => some sh.pegAt) })) }

/-! ### Sub-states and edits that a transition abandons -/

/-- The state row of the shim journal (R441). -/
def Update.stateRow (u : Update) (oldFw : Nat) : List Byte :=
  let body := leBytes 4 0x4D494853 ++ leBytes 4 u.jSeq ++ leBytes 1 u.jState ++ leBytes 1 u.jN ++ leBytes 1 u.jK ++ leBytes 1 u.jW ++
    leBytes 1 u.jTrials ++ leBytes 1 u.result ++ leBytes 1 u.reason ++ leBytes 1 0 ++ leBytes 4 oldFw ++ leBytes 4 u.newVersion ++
    List.replicate 36 0#8
  body ++ leBytes 4 (crc32 body).toNat

/-- The rotating state rows of the shim journal, as the model places them (assumption log 23). -/
def shimAddr (a : Nat) : Bool := decide (0x3F0080 ≤ a) && decide (a < 0x3F0480)

/-- The next of the 16 rotating state rows is written with the journal's fields (R441); that the rotating rows follow the two hash
rows of the control area is the model's (DESIGN CHOICE, assumption log 23). -/
def State.writeShim (s : State) : State :=
  let u := { s.upd with jSeq := s.upd.jSeq + 1 }
  { s.writeRow (0x3F0080 + 64 * (u.jSeq % 16)) (u.stateRow u.oldVersion) with upd := u }

/-- The data of the update log records (Table NVM-5). -/
def State.updBytes (s : State) (reason status : Nat) (instant : Ns) : List Byte :=
  leBytes 1 reason ++ leBytes 1 status ++ leBytes 2 0 ++ leBytes 4 s.upd.oldVersion ++ leBytes 4 s.upd.newVersion ++
    leBytes 8 instant

/-- The staged image is discarded before UPD_ACTIVATE (R439, R445). -/
def State.updDiscard (s : State) (reason status : Nat) : State :=
  let t := s.log 0x56 (s.updBytes reason status s.now)
  { t with upd := { t.upd with stage := .none, result := 3, reason := reason, lockSession := none, staged := [],
                               verifying := false, mbx := none } }

/-- The end of a revert (R444 steps 5 and 7): the journal is IDLE, the result REVERTED, UPD_ACTIVATE gets its answer if it still
waits, UPDATE_REVERTED is logged. -/
def State.updReverted (s : State) : State :=
  let t := match s.upd.mbx with
    | some m => if s.upd.reason = 6 then s.refuse m 0x0E 0 else if s.upd.reason = 7 then s.refuse m 0x0C 0 else s.abort m
    | none => s
  let u := (t.log 0x55 (t.updBytes t.upd.reason 0 t.now)).bump 0xA3C 32
  State.writeShim { u with
    upd := { u.upd with stage := .none, result := 2, jState := 0, jN := 0, jK := 0, jW := 0, jTrials := 0, staged := [],
                        mbx := none, peer := 0, handed := false, lockSession := none } }

/-- An update past UPD_ACTIVATE starts to revert (R444 step 1). -/
def State.updRevert (s : State) (reason : Nat) : State :=
  State.writeShim { s with
    upd := { s.upd with stage := .reverting, reason := reason, jState := 3, healthyFrom := none },
    nvm := { s.nvm with jobs := s.nvm.jobs.filter (fun j => match j with | .update _ => false | _ => true) ++
                                [.update (1024 * s.upd.jK + 1)] } }

/-- The primary abandons an activation that waits for its standby (R179): nothing in FeRAM has changed yet. -/
def State.updPartnerGone (s : State) : State :=
  if s.upd.stage == .activating && s.upd.peer == 3 then
    ({ s with upd := { s.upd with reason := 7 } }).updReverted
  else s

/-- The session that holds the update lock ends: before UPD_ACTIVATE the staged image is discarded, afterwards the update goes on
(R439). -/
def State.updLockLost (s : State) : State :=
  match s.upd.stage with
  | .download | .verified => s.updDiscard 9 0
  | _ => { s with upd := { s.upd with lockSession := none } }

/-- Leaving STOP or RUN abandons the UPDATE sub-state (R445). -/
def State.abandonUpdate (s : State) : State :=
  match s.upd.stage with
  | .download | .verified => s.updDiscard 8 0
  | .activating | .activated => s.updRevert 8
  | _ => s

/-- What is staged goes and the program lock is free. -/
def Prog.clearStaging (p : Prog) : Prog :=
  { p with staging := .idle, lockSession := none, staged := [], stagedKind := 0, stagedLen := 0, waitMbx := none }

/-- The program lock is released and what is staged is discarded, an armed edit apart (R135); a load past its checks goes on;
a request that waits for the standby's verdict is aborted. -/
def State.releaseLock (s : State) : State :=
  if s.prog.staging == Staging.armed || s.prog.activation.isSome then { s with prog := { s.prog with lockSession := none } }
  else
    let t := match s.prog.waitMbx with
      | some m => s.abort m
      | none => s
    { t with prog := t.prog.clearStaging }

/-- A load is refused (R135, R138): its status and detail are kept, and the lock is released. -/
def State.refuseLoad (s : State) (m status detail : Nat) : State :=
  let t := s.refuse m status detail
  { t with prog := { t.prog.clearStaging with lastStatus := status, lastDetail := detail } }

/-- The pair is gone while a load waits for the standby's verdict: the load is refused (R155, assumption log 34). -/
def State.verdictLost (s : State) : State :=
  match s.prog.waitMbx with
  | some m => s.refuseLoad m 0x1E 0
  | none => s

/-- An armed edit is abandoned, with its cause logged (R153, Table NVM-5). -/
def State.abandonEdit (s : State) (cause : Nat) : State :=
  match s.prog.armed with
  | none => s
  | some e =>
    let t := s.log 0x21 (leBytes 1 cause ++ leBytes 7 0 ++ leBytes 8 e.at_)
    { t with prog := { t.prog.clearStaging with armed := none } }

/-- What a transition does to an armed edit: a passage between RUN and HALT keeps it (R148, R153). -/
def State.editOnTransition (s : State) (dest : DevState) : State :=
  match s.dev.state, dest with
  | .run, .halt =>
    { s with prog := { s.prog with armed := s.prog.armed.map (fun e => { e with at_ := 0 }) } }
  | .halt, .run => s
  | _, _ => s.abandonEdit 1

/-! ### The SAFE frames of the network (R316) -/

/-- One SAFE frame is owed in each of the next three cycles of every configured segment. -/
def NetState.safeFrames (n : NetState) : NetState :=
  { n with segs := n.segs.map (fun e => (e.1, { e.2 with safeLeft := 3 })) }

/-! ### Pins -/

/-- nFAULT goes low (R384). -/
def State.pinLow (s : State) : State :=
  { s with flt := { s.flt with nfaultLow := true, lowSince := s.clk.ticks, releaseAsked := false } }

/-- ALIVE stops and holds its level (R383). -/
def State.aliveStop (s : State) : State := { s with flt := { s.flt with aliveOn := false } }

/-! ### Sessions -/

/-- The session of a slot ends (R342): its waiting requests complete with ABORTED, its keys and challenge go, and the program
lock is released if the session held it (R135). -/
def State.endSession (s : State) (slot : Nat) : State :=
  let x := s.session slot
  if x.isOpen then
    let t := s.abortWaiting x.id
    let u := t.setSession slot { t.session slot with isOpen := false, closing := false }
    let v := { u with sec := { u.sec with keys := u.sec.keys.filter (fun e => e.1 != slot),
                                          challenges := u.sec.challenges.filter (fun e => e.slot != slot) } }
    let w := if v.prog.lockSession == some x.id then v.releaseLock else v
    if w.upd.lockSession == some x.id then w.updLockLost else w
  else s

/-- Every session ends; the histories stay unless `clear` (Table HOST-11). -/
def State.endSessions (s : State) (clear : Bool) : State :=
  let t := (List.range 16).foldl (fun u k => u.endSession k) s
  if clear then
    { t with hp := { t.hp with sessions := t.hp.sessions.map (fun e => (e.1, { e.2 with history := [] })) } }
  else t

/-! ### Frames of the scarf link (R157, R158, R164) -/

/-- A frame to send: kind, flags, peg sequence and payload. -/
structure ScarfOut where
  kind : Nat
  flags : Nat
  peg : Nat
  payload : List Byte
deriving DecidableEq, Repr

/-- Hands frames to the lanes in order, numbered on from the last one (Table STBY-1), behind those of the same FCLK cycle; nothing is
sent while a receive lane has no lock (R157). -/
def State.scarfSend (s : State) (fs : List ScarfOut) : State :=
  if s.stby.lane0 && s.stby.lane1 && !fs.isEmpty then
    let tx := fs.zipIdx.map (fun e =>
      ScarfTx.mk e.1.kind e.1.flags ((s.stby.txSeq + e.2) % 2 ^ 32) e.1.peg e.1.payload)
    let before := if s.stby.txAt == s.clk.ticks then s.stby.tx else []
    { s with stby := { s.stby with tx := before ++ tx, txSeq := (s.stby.txSeq + fs.length) % 2 ^ 32, txAt := s.clk.ticks } }
  else s

/-- A CTRL frame (Table STBY-3): the subtype and its data. -/
def ctrlFrame (sub : Nat) (data : List Byte) : ScarfOut := ScarfOut.mk 0x30 0 0 (leBytes 1 sub ++ data)

/-- A LEAVE, with the code of Table STBY-6 that refused the pair, 0 where none did: R162 sets stby.refusal on both units, and Table STBY-3
gives no frame that carries the code (DESIGN CHOICE, assumption log 36). -/
def leaveFrame (code : Nat) : ScarfOut := ctrlFrame 10 (leBytes 1 code)

/-- CTRL STATE: the device state and its instant of change (R164). -/
def ctrlStateFrame (d : DevState) (at_ : Ns) : ScarfOut := ctrlFrame 1 (leBytes 1 (devCode d) ++ leBytes 8 at_)

/-! ### Entering a state -/

/-- Whether a unit may hold a pair role in a state (R31). -/
def pairState (d : DevState) : Bool := d == .stop || d == .run || d == .halt

/-- No commit waits for an acknowledgement any more; what is durable and emitted leaves the queue. -/
def Image.ackAll (l : List Commit) : List Commit :=
  (l.map (fun c => { c with acked := true })).filter (fun c => !(c.durable && c.emitted))

/-- The unit leaves its pair, with a LEAVE to the partner where it is still able to (R31, R174): its role is SOLO, an armed edit is
abandoned (R153), and no shot waits for an acknowledgement. -/
def State.leavePair (s : State) (tell : Bool) : State :=
  if s.dev.role == .primary || s.dev.role == .standby then
    let s := if tell then s.scarfSend [leaveFrame 0] else s
    let t := s.log 0x32 (leBytes 1 (roleCode s.dev.role) ++ leBytes 1 0 ++ leBytes 2 0 ++ leBytes 4 s.stby.epoch)
    let u := ((t.abandonEdit 2).verdictLost).updPartnerGone
    { u with
      dev := { u.dev with role := .solo },
      stby := { u.stby with
        sync := 0, outstanding := [], staged := [], acked := [], switchAt := none, holdEmit := false, owesDone := false,
        joining := false, follow := none, refusing := false, offers := [], offerBuf := [], updBuf := [], offerKind := 0 },
      img := { u.img with commits := Image.ackAll u.img.commits } }
  else s

/-- What leaving RUN does at once: unpegged shots are dropped with STATE, releases stop, commits still queued are committed and
not emitted, and the bay link engine's output table is cleared (R49, R79, R190). -/
def State.leaveRun (s : State) : State :=
  let t := (s.dropAll .state).stopReleases
  let clearOut (o : Nat × OutEntry) : Nat × OutEntry := (o.1, { o.2 with valid := false, queue := [] })
  let clearBay (e : Nat × EngBay) : Nat × EngBay := (e.1, { e.2 with out := e.2.out.map clearOut })
  let gone (k : Commit) : Commit := { k with emitted := true }
  { t with eng := { t.eng with bays := t.eng.bays.map clearBay },
           img := { t.img with commits := (t.img.commits.map gone).filter (fun k => !k.durable) } }

/-- Leaving STOP abandons every trim procedure in progress (R284): the channels return to the drive of Table BAY-9. -/
def State.trimsAbandon (s : State) : State :=
  let chan (e : Nat × Chan) : Nat × Chan :=
    (e.1, { e.2 with aout := { e.2.aout with trimState := 0, meas4 := none, meas20 := none } })
  { s with bays := s.bays.map (fun (e : Nat × Bay) => (e.1, { e.2 with chans := e.2.chans.map chan })) }

/-- The transition itself, logged as STATE with its requester (R27, R79, Table NVM-5). -/
def State.enter (s : State) (dest : DevState) (requester : Nat) (imm : Bool) : State :=
  let from_ := s.dev.state
  let s1 := if from_ == .run then s.leaveRun else if from_ == .stop then s.trimsAbandon else s
  let s2 := s1.editOnTransition dest
  let s3 := if from_ == .stop || from_ == .run then s2.abandonUpdate else s2
  let s4 := if pairState dest then (if s3.dev.role == .primary then s3.scarfSend [ctrlStateFrame dest s3.now] else s3) else s3.leavePair true
  let s4 := s4.overtake dest
  let s5 := s4.log 2 (leBytes 1 (devCode from_) ++ leBytes 1 (devCode dest) ++ leBytes 1 requester ++ leBytes 1 (b2n imm))
  let clean := dest == .stop || dest == .run || dest == .halt || dest == .safe
  let cmp := dest == .stop || dest == .run
  State.mirror { s5 with
    dev := { s5.dev with state := dest, sub := .none, drain := none, since := s5.clk.ticks, sinceTime := s5.now, autoWait := false },
    wdg := { s5.wdg with cleanFrom := if clean && (from_ == .stop || from_ == .run || from_ == .halt || from_ == .safe)
                                      then s5.wdg.cleanFrom else s5.clk.ticks },
    tmr := { s5.tmr with cmpFrom := if cmp && (from_ == .stop || from_ == .run) then s5.tmr.cmpFrom
                                    else s5.clk.ticks },
    flt := { s5.flt with retries := 0, safeSrcs := if dest == .safe then s5.flt.safeSrcs else [] },
    net := if dest == .safe then s5.net.safeFrames else s5.net }

/-- Entry into LOCKOUT (R395): every shot dropped, sessions ended, nFAULT held low, ALIVE stopped, the flag of PD_AON set,
the SAFE frames of R316 started, or PD_NET off at once where none can be sent (after TAMPER, from BOOT, on a STANDBY), the truss and scarf
domains off (Table PWR-2). -/
def State.enterLockout (s : State) : State :=
  let t := ((((s.enter .lockout 0 true).dropAll .state).endSessions false).pinLow).aliveStop
  let sends := s.pwr.net && s.net.cfg.isSome && s.sec.ns.isSome && !s.sec.srxZero && s.dev.state != .boot &&
    s.dev.role != .standby && s.dev.role != .node
  { t with pwr := { t.pwr with lockoutFlag := true, truss := false, scarf := false, net := t.pwr.net && sends },
           net := if sends then t.net.safeFrames else t.net,
           prog := { t.prog with truss := TrussStore.init },
           flt := { t.flt with grace := [] } }

/-! ### Fault records -/

/-- A record's 32 bytes (Table FLT-4). -/
def FaultRec.bytes (r : FaultRec) : List Byte :=
  leBytes 4 r.seq ++ leBytes 1 r.src ++ leBytes 1 r.cls ++ leBytes 1 r.react ++ leBytes 1 r.flags ++ leBytes 8 r.stime ++
    leBytes 1 r.state ++ leBytes 1 r.sev ++ leBytes 2 r.index ++ leBytes 12 r.data

/-- The state with a source's live bit as given. -/
def State.setLive (s : State) (src : Nat) (b : Bool) : State :=
  { s with flt := { s.flt with live := if b then setBit s.flt.live src else clearBit s.flt.live src } }

/-- The live bit of a source raised by a single event, in the FCLK cycle of the event (R374). -/
def State.pulse (s : State) (src : Nat) : State :=
  { s with flt := { s.flt with
      pulses := setBit (if s.flt.pulseAt == s.clk.ticks then s.flt.pulses else 0) src, pulseAt := s.clk.ticks } }

/-- flt.live: the lasting conditions that stand, and the events of the present FCLK cycle (R374). -/
def State.liveBits (s : State) : Nat :=
  if s.flt.pulseAt == s.clk.ticks then lor64 s.flt.live s.flt.pulses else s.flt.live

/-- BLOCK_RESET of the raising block (R375): NET drops both links, SCARF its lanes, BAYLINK restarts the bay's lanes. -/
def State.blockReset (s : State) (src index : Nat) : State :=
  match src with
  | 22 => { s with net := { s.net with linkA := false, linkB := false } }
  | 24 => { s with stby := { s.stby with lane0 := false, lane1 := false } }
  | _ => { s with eng := { s.eng with restart := tset s.eng.restart (index % 256) true } }

/-- The severity action of Table FLT-3 (R378); severity 1 acts as 2 once the retries are used up. -/
def State.severityAction (s : State) (sev : Nat) (src seq : Nat) : State :=
  let again := sev == 1 && decide (s.flt.retries < s.pn 0x907)
  if again then { s with flt := { s.flt with retries := s.flt.retries + 1 } }
  else if sev == 0 then s
  else
    match s.dev.state with
    | .boot => s.enter .recovery 0 true
    | .init =>
      if sev == 3 then
        let t := s.enter .safe 0 true
        { t with flt := { t.flt with safeSrcs := [src], newestSafe := seq } }
      else s.enter .stop 0 true
    | .recovery =>
      (match s.upd.stage with
       | .none => s
       | .download | .verified => s.updDiscard 8 0
       | _ => s.updRevert 8)
    | _ =>
      if sev == 3 then
        let t := s.enter .safe 0 true
        { t with flt := { t.flt with safeSrcs := [src], newestSafe := seq } }
      else { s with dev := { s.dev with sub := .none } }

/-- Whether reactions act by severity (R378): BOOT, INIT, RECOVERY and TEST. -/
def State.bySeverity (s : State) : Bool :=
  s.dev.state == .boot || s.dev.state == .init || s.dev.state == .recovery || s.dev.sub == .test

/-- The single collector of the 7216 and 7208 acts at once on its own fault (R4, R381). -/
def State.singleCollector (s : State) : Bool := s.dev.part != .p7232

/-- What a new record will do: the reactions carried out, the severity applied, whether Table FLT-3 applies, and whether a
CHIP_RESET or a LOCKOUT waits for durability. -/
structure FaultPlan where
  react : Nat
  sev : Nat
  severe : Bool
  safe : Bool
  block : Bool
  reset : Bool
  lockout : Bool
deriving DecidableEq, Repr

/-- A transition into SAFE is open: from INIT, STOP, RUN and HALT (R27, Table ARCH-9). -/
def State.maySafe (s : State) : Bool := s.dev.state == .init || s.dev.state == .stop || s.dev.state == .run || s.dev.state == .halt

/-- A chip reset or LOCKOUT that a record of the present FCLK cycle asked for: it stands above SAFE (R28). -/
def State.resetThisCycle (s : State) : Bool := s.flt.awaiting.any (fun a => a.at_ == s.clk.ticks)

/-- The plan for a record of `src` (R375-R378, R381, R395). `esc` asks for a chip reset (1) or LOCKOUT (2) whatever the class
(R367, R388). A self-fault of the single collector takes the device to SAFE from INIT, STOP, RUN, HALT and TEST; the spec does not
say what it does in SAFE itself: there it forms its record with INT and PIN, and the device stays in SAFE without entering it anew
(assumption log 55, DESIGN CHOICE). SAFE asked for beside CHIP_RESET gives way to it (R28). -/
def State.faultPlan (s : State) (src : Nat) (esc : Nat) : FaultPlan :=
  let react := s.pn (0x980 + 4 * src)
  let base := land64 react (rcINT + rcNMI + rcPIN)
  let none_ : FaultPlan :=
    { react := base, sev := 0, severe := false, safe := false, block := false, reset := false, lockout := false }
  if s.dev.state == .lockout then { none_ with react := 0 }
  else if faultClass src == 4 || esc == 2 then { none_ with lockout := true }
  else if esc == 1 then { none_ with react := base + rcCHIP, reset := true }
  else if src == 0 || src == 1 then none_
  else if faultClass src == 3 then { none_ with react := base + rcCHIP, reset := true }
  else if src == 29 && s.singleCollector then
    (if s.dev.state == .boot || s.dev.state == .recovery then { none_ with react := base + rcCHIP, reset := true }
     else if s.dev.state == .safe then none_
     else { none_ with react := base + rcSAFE, safe := true })
  else if s.bySeverity then
    (if land64 react (rcBLOCK + rcCHIP + rcGRACE + rcSAFE) ≠ 0 then
       { none_ with severe := true, sev := s.pn (0x980 + 4 * src + 2) }
     else none_)
  else
    let safe := bit react 6 && !bit react 3 && !s.resetThisCycle && s.maySafe
    { react := land64 react (if safe then 127 else 63), sev := 0, severe := false, safe := safe,
      block := bit react 2, reset := bit react 3, lockout := false }

/-- SAFE, asked for by a record, is discarded for the chip reset or LOCKOUT that the record itself or another of the same FCLK cycle
asks for (R28). -/
def State.safeDiscarded (s : State) (src : Nat) (p : FaultPlan) : Bool :=
  bit (s.pn (0x980 + 4 * src)) 6 && faultClass src == 2 && s.maySafe && !s.bySeverity && !p.safe && (p.reset || s.resetThisCycle)

/-- A source's occurrence forms its record and carries out its reactions (R374, R377, R379). `sev` and `flags` are those of
a ladder step where given. -/
def State.formRecord (s : State) (src index data sev flags esc : Nat) : State :=
  let p : FaultPlan := s.faultPlan src esc
  let seq := s.flt.seqNewest + 1
  let r : FaultRec :=
    { seq := seq, src := src, cls := faultClass src, react := p.react,
      flags := flags + (if p.severe then 8 else 0), stime := s.now, state := devCode s.dev.state,
      sev := if p.severe then p.sev else sev, index := index, data := data }
  let waits := p.reset || p.lockout
  let s := if s.safeDiscarded src p then s.log 3 (leBytes 1 7 ++ leBytes 1 (if s.flt.awaiting.any Awaiting.lockout then 8 else 1)) else s
  let t := { s with
    flt := { s.flt with
      sticky := setBit s.flt.sticky src, seqNewest := seq,
      records := (r :: s.flt.records).take 32, pending := r :: s.flt.pending,
      queue := if waits then s.flt.queue ++ [seq] else s.flt.queue,
      awaiting := if waits then s.flt.awaiting ++ [Awaiting.mk seq p.lockout (if src = 0 then 2 else 3) none s.clk.ticks]
                  else s.flt.awaiting,
      newestPin := if bit p.react 4 then seq else s.flt.newestPin,
      intDue := s.flt.intDue || bit p.react 0, nmiDue := s.flt.nmiDue || bit p.react 1,
      grace := if !p.severe && bit p.react 5 && faultClass src == 2 && !p.reset
               then s.flt.grace ++ [Grace.mk src seq (s.clk.ticks + s.pn (0x980 + 4 * src + 1) * msTicks)]
               else s.flt.grace },
    tmr := { s.tmr with irqPending := s.tmr.irqPending + b2n (bit p.react 0) } }
  let t := t.logRec 0x10 r.bytes seq waits
  let t := if bit p.react 4 then t.pinLow else t
  let t := if p.block then t.blockReset src index else t
  let t := if p.safe then
      let u := t.enter .safe 0 true
      { u with flt := { u.flt with safeSrcs := src :: t.flt.safeSrcs, newestSafe := seq } }
    else t
  (if p.severe then t.severityAction p.sev src seq else t).mirror

/-- A source's occurrence (R374): it counts; the live bit follows a lasting condition; while the sticky bit stays set no
record is formed, and an escalation takes its step all the same. A source that the part does not have, or a dead logic die, raises nothing. -/
def State.raiseWith (s : State) (src index data sev flags esc : Nat) : State :=
  if s.dev.state == .off || (src == 20 && s.dev.part != .p7232) || decide (31 < src) then s
  else
    let s1 := s.bump (0x980 + 4 * src + 3) 32
    let s2 := if faultLasting src then s1.setLive src true else s1.pulse src
    if bit s2.flt.sticky src then
      if esc = 0 then s2
      else { s2 with flt := { s2.flt with
        awaiting := s2.flt.awaiting ++
          [Awaiting.mk s2.flt.seqNewest (esc == 2) (if src = 0 then 2 else 3) none s2.clk.ticks] } }
    else s2.formRecord src index data sev flags esc

/-- A single event of a source whose live bit follows a lasting condition: the live bit stays as the condition leaves it. -/
def State.raiseEvent (s : State) (src index data : Nat) : State :=
  let t := (s.raiseWith src index data 0 0 0).pulse src
  if bit s.flt.live src then t else t.setLive src false

/-- A source's occurrence without a ladder step. -/
def State.raise (s : State) (src index data : Nat) : State := s.raiseWith src index data 0 0 0

/-- A lasting condition is over: its live bit clears, and the newest unread record keeps flag [1] (R374). -/
def State.condOver (s : State) (src : Nat) : State :=
  let mark (r : FaultRec) : FaultRec := if r.src == src && s.flt.intDue then { r with flags := lor64 r.flags 2 } else r
  let t := s.setLive src false
  { t with flt := { t.flt with records := t.flt.records.map mark, pending := t.flt.pending.map mark } }

/-! ### Chip reset and power-off -/

/-- What every reset but power-on clears (R8, R472, Table PWR-2): the logic domains lose their contents and every register field but an
RWS one its value (the EARLY, KEYERR and CLKLOSS bits of WDG_STAT among them); what R472 names of PD_AON, FeRAM and the counters stay. In LOCKOUT the boot ROM re-enters LOCKOUT (R395). -/
def State.chipReset (s : State) (cause : Nat) : State :=
  { s with
    dev := { Device.init with part := s.dev.part, state := if s.pwr.lockoutFlag then .lockout else .boot,
                              since := s.clk.ticks },
    clk := { Clock.init with ticks := s.clk.ticks, aclk := s.clk.aclk, aclkSeen := s.clk.aclkSeen },
    pwr := { s.pwr with cause := cause, core := s.pwr.lockoutFlag, truss := false, sram := s.pwr.lockoutFlag,
                        nvm := s.pwr.lockoutFlag, net := false, host := s.pwr.lockoutFlag, sec := s.pwr.lockoutFlag,
                        scarf := false, hold := !s.pwr.warnLive, holdup := none, pfStep := 0, pfAbandoned := 0,
                        clkLost := false },
    sram := [],
    ctxs := s.ctxs.map (fun e => (e.1, { Ctx.init with execLast := e.2.execLast, execWorst := e.2.execWorst,
                                                       drops := e.2.drops, watchCount := e.2.watchCount })),
    img := Image.init,
    sched := Sched.init,
    prog := Prog.init,
    flt := { Faults.init with seqNewest := s.flt.seqNewest, alive := s.flt.alive, lowSince := s.clk.ticks },
    wdg := { s.wdg with cfgT := 100, cfgOpen := 100, count := 0, key1 := none, serviced := false, early := false, keyErr := false,
                        clkLoss := false, lastSvc := 0, cleanFrom := s.clk.ticks, restarting := none },
    tmr := { Tmr.init with cmpPending := s.tmr.cmpPending, cmpFrom := s.clk.ticks, dbgBroken := s.tmr.dbgBroken,
                           last := s.tmr.last },
    hp := { HostPort.init with scratch := 0 },
    nvm := { s.nvm with commitLeft := 0, rowsAhead := 0, jobs := [], ckptRun := none, logQueue := [], overflow := 0,
                        setWaiting := [], setDirty := false, setRun := none, setRunMbx := [], setStarted := none },
    upd := { s.upd with lockSession := none, staged := [], verifying := false, mbx := none, healthyFrom := none },
    stby := StbyState.init,
    eng := EngState.init,
    net := NetState.init,
    sec := { s.sec with lockOpenUntil := none, keys := [], prov := [], challenges := [], tls := [], tlsUpdates := [], change := none,
                         debug := 0,
                        tamperRec := none } }

/-- The logic die is without power (R452): only FeRAM contents remain. PD_AON is cleared at the next power-on. -/
def State.powerOff (s : State) (vin : Nat) : State :=
  let t := s.chipReset 0
  { t with dev := { t.dev with state := .off },
           pwr := { Power.init with vin := vin, vinMin := vin, core := false, vinGood := false, nresetLow := s.pwr.nresetLow },
           wdg := Watchdog.init,
           tmr := Tmr.init,
           flt := Faults.init,
           params := [], bootParams := [], blocks := [],
           sec := { t.sec with srxZero := false, nvmZero := false },
           ctxs := [] }

end Sys2Proof.Machine
end

