-- ==== Sys2Proof/Machine/SchedOps.lean ====
section
/-!
DEFINITION. Dispatch of the core complex (R74-R77) and what a shot does when it completes or is counted as dropped
(R44, R58-R60, R68).
-/

namespace Sys2Proof.Machine

/-- A shot that the core complex can run: READY, CORE or PREEMPTED. -/
def Shot.wantsCores (sh : Shot) : Bool :=
  match sh.phase with
  | .ready => true
  | .core => true
  | .preempted => true
  | _ => false

/-- A shot released at `t0` still pins its data pages. -/
def State.pinsOut (s : State) (t0 : Ns) : Bool :=
  s.configured.any (fun k => match (s.ctx k).shot with
    | some sh => sh.phase == .pin && sh.t0 == t0
    | none => false)

/-- The highest-priority user context ready for the cores (R74); of the shots released at one instant none starts before every one
of them has pinned, whatever order their pins complete in (R76). -/
def State.readyUser (s : State) : Option Nat :=
  s.configured.find? (fun c =>
    match (s.ctx c).shot with
    | some sh => sh.wantsCores && !(sh.phase == .ready && s.pinsOut sh.t0)
    | none => false)

/-- A request that waits for a peg, a record, a copy, the standby or another request, not for firmware. -/
def State.deferred (s : State) (m : Nat) : Bool :=
  (s.mailbox m).waitFrom.isSome || s.dev.drainMbx == some m || s.dev.runMbx == some m || s.prog.waitMbx == some m ||
    s.nvm.setWaiting.contains m || s.nvm.setRunMbx.contains m || s.upd.mbx == some m || s.upd.measFor == some m ||
    (match s.sec.change with
     | some c => c.mbx == m
     | none => false) ||
    (match s.prog.activation with
     | some a => a.mbx == some m
     | none => false)

/-- Firmware has work for context 0: a ring to take, or a request to execute or answer (R77, R333). -/
def State.firmwareBusy (s : State) : Bool :=
  s.serves && (!s.hp.rings.isEmpty || (List.range 16).any (fun m =>
    let x := s.mailbox m
    x.state == .busy && (x.resp.isSome || !s.deferred m)))

/-- Firmware has work that needs the voted cores. In released DUAL its work on requests is placed on the free core, which draws on
no budget (R77, R364: 'may place'; that all of it is placed there is a DESIGN CHOICE, assumption log 43). -/
def State.serverWants (s : State) : Bool := s.firmwareBusy && !s.tmr.freeCore

/-- Who should hold the cores: context 0 while its budget lasts or no user context is ready, else the highest-priority ready
context (R74, R77); nobody while the core complex is restarting. -/
def State.coreChoice (s : State) : Option Nat :=
  if s.sched.paused then none
  else
    match s.readyUser with
    | none => if s.serverWants then some 0 else none
    | some c => if s.serverWants && !s.sched.exhausted then some 0 else some c

/-- The state with the phase of context `c`'s shot set. -/
def State.setPhase (s : State) (c : Nat) (p : ShotPhase) : State :=
  let x := s.ctx c
  match x.shot with
  | none => s
  | some sh => s.setCtx c { x with shot := some { sh with phase := p } }

/-- Gives the cores to the context that should hold them; a displaced user context is pre-empted and counted (R75, R88). Context 0
that gives the cores up to a user context is not counted: R88 counts pre-emptions 'including those by context 0', and of one
of context 0 it says nothing (DESIGN CHOICE, assumption log 56). -/
def State.dispatch (s : State) : State :=
  let next := s.coreChoice
  if next == s.sched.cores then s
  else
    let s1 := match s.sched.cores with
      | some c => if c = 0 then s else (s.setPhase c .preempted).bump 0x707 64
      | none => s
    let s2 := match next with
      | some c => if c = 0 then s1 else s1.setPhase c .core
      | none => s1
    { s2 with sched := { s2.sched with cores := next } }

/-- Drops context `c`'s shot and lets the next context have the cores. -/
def State.dropAndDispatch (s : State) (c : Nat) (r : DropReason) : State := (s.dropShot c r).dispatch

/-- The code of a drop reason (Table SHOT-4). -/
def dropCode (r : DropReason) : Nat :=
  match r with
  | .late => 0
  | .quota => 1
  | .retcap => 2
  | .addr => 3
  | .owner => 4
  | .power => 5
  | .state => 6

/-- Whether a drop is counted and logged (Table SHOT-4). -/
def dropCounted (r : DropReason) : Bool := decide (dropCode r ≤ 4)

/-- ctx.n.drop_state: the consecutive count, the last reason, and the raised drop-cap fault (Table TASK-1). -/
def Ctx.dropState (x : Ctx) : Nat := x.consec + 256 * x.lastReason + 65536 * b2n x.capRaised

/-- A counted drop of context `c` (R60, R69): DROP and the consecutive count rise, the reason is kept, and the drop-cap fault
is raised once when the count has reached the cap. -/
def State.countDrop (s : State) (c : Nat) (sh : Shot) (r : DropReason) : State :=
  let x := s.ctx c
  let cap := match x.cfg with
    | some e => e.dropCap
    | none => 3
  let consec := min 255 (x.consec + 1)
  let fire := decide (cap ≤ consec) && !x.capRaised
  let (v, s0) := if x.drops + 1 < 2 ^ 32 then (x.drops + 1, s)
    else
      let (f, t) := s.draw
      (f % 2 ^ 32, t)
  let t := s0.setCtx c { x with drops := v, consec := consec, lastReason := dropCode r,
                                capRaised := x.capRaised || fire }
  let t := t.log 0x12 (leBytes 1 c ++ leBytes 1 (dropCode r) ++ leBytes 2 0 ++ leBytes 4 v ++ leBytes 8 sh.pegAt)
  if fire then t.raise 17 c ((t.ctx c).dropState + shl v 32) else t

/-- The completion of context `c`'s last instruction is registered in the next FCLK cycle (R44, R113): DONE, the measured time kept, and the watch
event where the time exceeds a nonzero limit (R68). -/
def State.completeShot (s : State) (c : Nat) : State :=
  let x := s.ctx c
  match x.shot with
  | none => s
  | some sh =>
    let at_ := s.clk.tick.stime
    let t := at_ - sh.t0
    let ovr := x.watchLimit != 0 && decide (x.watchLimit < t)
    let s1 := s.setCtx c { x with
      shot := some { sh with phase := .done, doneAt := some at_ },
      execLast := t, execWorst := max x.execWorst t, watchCount := x.watchCount + b2n ovr }
    let s2 := { s1 with sched := { s1.sched with
      cores := if s1.sched.cores == some c then none else s1.sched.cores } }
    let s3 := if ovr then s2.raise 18 c 0 else s2
    s3.dispatch

/-- No context's drop-cap fault stands any more: the live bit of DROPCAP clears (R374). -/
def State.dropCapOver (s : State) : State :=
  if s.configured.any (fun c => (s.ctx c).capRaised) then s else s.condOver 17

end Sys2Proof.Machine
end

