-- ==== Sys2Proof/Machine/BayOps.lean ====
section
/-!
DEFINITION. Parameters of bays, channels and modulators as the engine and the bays hold them, and the image blocks of a bay
(R196, R210, R215, R216, R244, R270, R271, R290).
-/

namespace Sys2Proof.Machine

/-! ### Pids -/

/-- The pid of an offset of bay `x`. -/
def bayPid (x off : Nat) : Nat := 0x1000 + 0x800 * x + off

/-- The bay-relative offset of a channel parameter. -/
def chanOff (n off : Nat) : Nat := 0x100 + 0x40 * n + off

/-- The bay-relative offset of a modulator parameter. -/
def modOff (m off : Nat) : Nat := 0x600 + 0x20 * m + off

/-- The chapter a channel mode belongs to: 1 digital, 2 analog input, 3 analog output, 0 none (Table BAY-13). -/
def modeGroup (mode : Nat) : Nat :=
  if 1 ≤ mode ∧ mode ≤ 7 then 1 else if 8 ≤ mode ∧ mode ≤ 15 then 2 else if 16 ≤ mode ∧ mode ≤ 18 then 3 else 0

/-- Digital output modes: DO, DO2, DO4. -/
def modeIsDo (mode : Nat) : Bool := mode == 5 || mode == 6 || mode == 7

/-- Digital input modes DI1 and DI3. -/
def modeIsDi (mode : Nat) : Bool := mode == 1 || mode == 2

/-- Counter modes CNT and QUAD. -/
def modeIsCnt (mode : Nat) : Bool := mode == 3 || mode == 4

/-- Analog input modes. -/
def modeIsAin (mode : Nat) : Bool := modeGroup mode == 2

/-- RTD modes. -/
def modeIsRtd (mode : Nat) : Bool := decide (11 ≤ mode) && decide (mode ≤ 14)

/-- 3-wire RTD modes. -/
def modeIs3Wire (mode : Nat) : Bool := mode == 12 || mode == 14

/-- Analog output modes. -/
def modeIsAo (mode : Nat) : Bool := modeGroup mode == 3

/-- Output modes. -/
def modeIsOut (mode : Nat) : Bool := modeIsDo mode || modeIsAo mode

/-- Whether a mode defines an offset at all (R244, R271, R290). -/
def chanRow (mode off : Nat) : Option PRow :=
  if off < 4 then pfind ptChan off
  else
    match modeGroup mode with
    | 1 =>
      if off = 0x2F then pfind ptDout off
      else if modeIsDi mode then (if 5 ≤ off ∧ off ≤ 11 then pfind ptDin off else none)
      else if modeIsCnt mode then (if off = 4 then pfind ptDin off else pfind ptCnt off)
      else (if 0x18 ≤ off ∧ off ≤ 0x27 then pfind ptDout off else none)
    | 2 => pfind ptAin off
    | 3 => pfind ptAout off
    | _ => none

/-- Offsets that a mode's table lists and the mode itself does not use: a SET is refused (R271, R290). -/
def chanRowUsed (mode off : Nat) : Bool :=
  if modeIsAin mode then
    if off = 10 ∨ off = 12 ∨ off = 13 ∨ off = 14 then modeIsRtd mode
    else if off = 11 then mode == 15
    else if off = 0x16 ∨ off = 0x18 then mode == 8 || mode == 9
    else if off = 0x19 then mode == 10
    else true
  else if mode == 18 then !(decide (4 ≤ off ∧ off ≤ 7) || decide (9 ≤ off ∧ off ≤ 14))
  else if mode == 17 then off != 8
  else true

/-- The key under which the value of a channel parameter is kept: parameters of different chapters that share a pid are kept
apart (assumption log 22). -/
def chanKey (mode n off : Nat) : Nat := chanOff n off + (if off < 4 then 0 else 0x10000 * modeGroup mode)

/-! ### Values the engine holds: the master copy of R214 -/

/-- A default of Table BAY-15 that differs for bay B. -/
def bayDefault (x off : Nat) : Int :=
  let d := match pfind ptBay off with
    | some r => r.dflt
    | none => 0
  if x = 1 then
    (if off = 5 ∨ off = 7 then d + 0x20 else if off = 6 ∨ off = 8 then d + 0x10 else d)
  else d

/-- A bay-level value. -/
def State.bayV (s : State) (x off : Nat) : Int :=
  match tfind s.params (bayPid x off) with
  | some v => v
  | none => bayDefault x off

/-- A bay-level value as a natural number. -/
def State.bayN (s : State) (x off : Nat) : Nat := (s.bayV x off).toNat

/-- The mode of a channel in the master copy. -/
def State.mode (s : State) (x n : Nat) : Nat :=
  match tfind s.params (bayPid x (chanOff n 0)) with
  | some v => v.toNat
  | none => 0

/-- The pid-like key of a channel value in the master copy. -/
def State.chanPid (s : State) (x n off : Nat) : Nat := bayPid x (chanKey (s.mode x n) n off)

/-- The default of a channel parameter in a mode. -/
def chanDefault (mode off : Nat) : Int :=
  match chanRow mode off with
  | some r => r.dflt
  | none => 0

/-- A channel value of the master copy. -/
def State.chanV (s : State) (x n off : Nat) : Int :=
  match tfind s.params (s.chanPid x n off) with
  | some v => v
  | none => chanDefault (s.mode x n) off

/-- A channel value as a natural number. -/
def State.chanN (s : State) (x n off : Nat) : Nat := (s.chanV x n off).toNat

/-- The default of a modulator parameter. -/
def modDefault (off : Nat) : Int :=
  match pfind ptModl off with
  | some r => r.dflt
  | none => 0

/-- A modulator value. -/
def State.modV (s : State) (x m off : Nat) : Int :=
  match tfind s.params (bayPid x (modOff m off)) with
  | some v => v
  | none => modDefault off

/-! ### Values in force in a bay -/

/-- Bay `x`. -/
def State.bay (s : State) (x : Nat) : Bay := tget Bay.init s.bays x

/-- The state with bay `x` replaced. -/
def State.setBay (s : State) (x : Nat) (b : Bay) : State := { s with bays := tset s.bays x b }

/-- Channel `n` of a bay. -/
def Bay.chan (b : Bay) (n : Nat) : Chan := tget Chan.init b.chans n

/-- The bay with channel `n` replaced. -/
def Bay.setChan (b : Bay) (n : Nat) (c : Chan) : Bay := { b with chans := tset b.chans n c }

/-- The mode of a channel in force in the bay. -/
def Bay.mode (b : Bay) (n : Nat) : Nat :=
  match tfind b.par (chanOff n 0) with
  | some v => v.toNat
  | none => 0

/-- A bay-level value in force. -/
def Bay.v (b : Bay) (off : Nat) : Int :=
  match tfind b.par off with
  | some v => v
  | none => bayDefault 0 off

/-- A channel value in force. -/
def Bay.cv (b : Bay) (n off : Nat) : Int :=
  match tfind b.par (chanKey (b.mode n) n off) with
  | some v => v
  | none => chanDefault (b.mode n) off

/-- A channel value in force as a natural number. -/
def Bay.cn (b : Bay) (n off : Nat) : Nat := (b.cv n off).toNat

/-- Counters of a channel: one more. -/
def State.bumpChan (s : State) (x n off : Nat) : State := s.bump (s.chanPid x n off) 32

/-- A bay-level counter: one more. -/
def State.bumpBay (s : State) (x off : Nat) : State := s.bump (bayPid x off) 32

/-! ### The engine's side -/

/-- The engine's state for bay `x`. -/
def State.engBay (s : State) (x : Nat) : EngBay := tget EngBay.init s.eng.bays x

/-- The state with the engine's side of bay `x` replaced. -/
def State.setEngBay (s : State) (x : Nat) (b : EngBay) : State :=
  { s with eng := { s.eng with bays := tset s.eng.bays x b } }

/-- The bays of the part. -/
def State.bayList (s : State) : List Nat := List.range (partBays s.dev.part)

/-- The output channel of a bay that an image point drives: Q bit n in a digital output mode, QW word n in an analog output
mode (Table BAY-6); none for a channel that the part does not have (R3). -/
def State.bayOutput (s : State) (pt : Nat) : Option (Nat × Nat) :=
  s.bayList.findSome? (fun x =>
    let q := s.bayN x 6
    let qw := s.bayN x 8
    let hit (base : Nat) (ok : Nat → Bool) : Option (Nat × Nat) :=
      if base ≤ pt ∧ pt < base + bayChannels s.dev.part ∧ ok (s.mode x (pt - base)) then some (x, pt - base) else none
    match hit q modeIsDo with
    | some r => some r
    | none => hit qw modeIsAo)

/-- The node that an output point is mapped to, and its segment (R50, Table RIO-9). -/
def State.nodeOutput (s : State) (pt : Nat) : Option NodeCfg :=
  match s.net.cfg with
  | none => none
  | some c => c.nodes.find? (fun d =>
      (decide (d.qBase ≤ pt) && decide (pt < d.qBase + d.qBits)) ||
      (decide (d.qwBase ≤ pt) && decide (pt < d.qwBase + d.qwWords)))

/-- The apply lead of a segment in ns (R50). -/
def State.segLead (s : State) (seg : Nat) : Ns :=
  if seg = 0 then s.pn 0x610 * 1000
  else match s.net.cfg with
    | none => 0
    | some c =>
      match c.segs.find? (fun g => g.seg == seg) with
      | some g => g.lead * 1000
      | none => 0

end Sys2Proof.Machine
end

