-- ==== Sys2Proof/Machine/FieldOps.lean ====
section
/-!
DEFINITION. What a bay does on its own: the source of an output's drive (R200, R203, R204), the switch and its latches (R229,
R230, R233), the driven value of an analog output (R275), status bits (R219) and the fault sources of a bay (R207).
-/

namespace Sys2Proof.Machine

/-! ### Small arithmetic -/

/-- A quotient whose rounding the spec does not give (assumption log 40). -/
def divOpen (n d : Int) : Int :=
  if n % d = 0 then n / d else n / d + (if Config.roundUp n d then 1 else 0)

/-- Channels of a bay's die. -/
def dieChans : List Nat := List.range 16

/-! ### Comparators (R220, Table ELEC-12)

A device's thresholds are its own values inside the limits of the table: free values within them. -/

/-- The rising threshold of an input type (1 or 3) at a channel, in 10 mV. -/
def inRise (x n ty : Nat) : Nat := (if ty = 1 then 1200 else 800) + Config.inRise x n ty % 201

/-- The falling threshold: 1.0 V to 2.0 V below, inside its own limits. -/
def inFall (x n ty : Nat) : Nat :=
  let lo := if ty = 1 then 1050 else 650
  max lo (min (lo + 200) (inRise x n ty - (100 + Config.inHyst x n ty % 101)))

/-- The comparator's output for a terminal voltage: on above the rising threshold, off below the falling one, as it was between. -/
def comparator (x n ty volt : Nat) (old : Bool) : Bool :=
  if inRise x n ty < volt then true else if volt < inFall x n ty then false else old

/-! ### Groups (R210, R230) -/

/-- The channel that governs channel `n`: its leader where it is a FOLLOWER. -/
def Bay.leader (b : Bay) (n : Nat) : Nat :=
  if b.mode n = 0xFF then
    let p := n / 2 * 2
    if b.mode p = 4 ∨ b.mode p = 6 then p else if b.mode (n / 4 * 4) = 7 then n / 4 * 4 else n
  else n

/-- The members of the group that channel `n` leads. -/
def Bay.members (b : Bay) (n : Nat) : List Nat :=
  if b.mode n = 4 ∨ b.mode n = 6 then [n, n + 1] else if b.mode n = 7 then [n, n + 1, n + 2, n + 3] else [n]

/-- The input type whose thresholds a channel uses: DI1 and DI3 their own, counters the leader's in.type (R220, R226, R227). -/
def Bay.inType (b : Bay) (n : Nat) : Nat :=
  let l := b.leader n
  if modeIsCnt (b.mode l) then b.cn l 4 else if b.mode l = 1 then 1 else 3

/-! ### Status bits (R219) -/

/-- A status bit as its condition has it; while it is live the sticky bit is set. -/
def Chan.mark (c : Chan) (i : Nat) (on : Bool) : Chan :=
  { c with live := if on then setBit c.live i else clearBit c.live i,
           sticky := if on then setBit c.sticky i else c.sticky }

/-- An event bit: live in the frame of this cycle, sticky from now on. -/
def Chan.event (c : Chan) (i : Nat) : Chan := { c with events := setBit c.events i, sticky := setBit c.sticky i }

/-- The status bits that count as faults (Tables DCH-2, AIN-4, AOUT-6). -/
def faultMask (mode : Nat) : Nat :=
  if modeIsDi mode then 1
  else if mode = 3 then 1
  else if mode = 4 then 5
  else if modeIsDo mode then 0x1C7
  else if modeIsAin mode then 0xF
  else if modeIsAo mode then 0x1F
  else 0

/-- A live fault of a channel. -/
def Bay.liveFault (b : Bay) (n : Nat) : Bool :=
  land64 (lor64 (b.chan n).live (b.chan n).events) (faultMask (b.mode (b.leader n))) != 0

/-- A sticky fault of a channel. -/
def Bay.stickyFault (b : Bay) (n : Nat) : Bool := land64 (b.chan n).sticky (faultMask (b.mode (b.leader n))) != 0

/-! ### The source of a drive (Table BAY-9) -/

/-- Row 1: in reset, or the configuration not loaded. -/
def Bay.row1 (b : Bay) : Bool := b.inReset || b.cfgLost

/-- Row 2: L+ below 16.0 V, or the channel not yet restored (R206). -/
def Bay.row2 (b : Bay) (n : Nat) : Bool := b.uv || !(b.chan n).restored

/-- R200: silence, safe-now, clock loss, or the silence of the channel's own lane. -/
def Bay.r200 (b : Bay) (n : Nat) : Bool := b.silent || b.safeNow || b.clockLost || (b.chan n).laneSilent

/-- The channel has a limp map entry (R204). -/
def Bay.mapped (b : Bay) (n : Nat) : Bool := b.cn n 2 != 0xFF

/-- The limp map entry: the source's debounced state, inverted if so set; OFF while BCLK is lost (R200, R204). -/
def Bay.limpEntry (b : Bay) (n : Nat) : Bool :=
  b.mapped n && !b.clockLost && ((b.chan (b.cn n 2)).din.deb != (b.cn n 3 == 1))

/-- Row 3: the LIMP pin is asserted and the channel is mapped. -/
def Bay.row3 (b : Bay) (n : Nat) : Bool := b.limp && b.mapped n && modeIsDo (b.mode n)

/-- Row 4: R200 applies, or the channel keeps that drive until it applies a value (R191). -/
def Bay.row4 (b : Bay) (n : Nat) : Bool := (b.chan n).inSafe || (b.chan n).resuming

/-- The channel follows the limp map entry. -/
def Bay.limpActive (b : Bay) (n : Nat) : Bool :=
  modeIsDo (b.mode n) && !b.row1 && !b.row2 n &&
    (b.row3 n || (b.row4 n && b.mapped n && (b.v 4 == 1 || b.cn n 1 == 3)))

/-- The drive of a digital output (Tables BAY-8, BAY-9). -/
def Bay.driveDo (b : Bay) (n : Nat) : Bool :=
  if b.row1 || b.row2 n then false
  else if b.row3 n then b.limpEntry n
  else if b.row4 n then
    if b.v 4 = 1 ∧ b.mapped n then b.limpEntry n
    else if b.cn n 1 = 1 then true
    else if b.cn n 1 = 2 then !(b.chan n).holdOff && (b.chan n).held % 2 == 1
    else if b.cn n 1 = 3 then b.limpEntry n
    else false
  else (b.chan n).applied % 2 == 1

/-! ### The switch (R229, R230, R233, R240) -/

/-- A latch of Table DCH-4 keeps the switch off. -/
def DoutCh.latched (d : DoutCh) : Bool := d.oc || d.thermal || d.clampLock

/-- The switch-on or switch-off of a group (R230, R233, R238, R240): the window opens or ends, conditions that end with it clear; at a
switch-off every member's clamp measurement starts. -/
def Bay.switchTo (b : Bay) (n tick : Nat) (on : Bool) : Bay :=
  let c := b.chan n
  let t := b.cn n 0x19
  let d := { c.dout with sw := on, onAt := if on then tick else c.dout.onAt, offAt := if on then c.dout.offAt else tick,
                         runFrom := if on then tick else c.dout.runFrom, quietFrom := if on then tick else c.dout.quietFrom,
                         inrush := if on && t != 0 then some (tick + t * msTicks) else none }
  let b1 := b.setChan n { c with dout := d }
  (b.members n).foldl (fun (a : Bay) m =>
    let x := a.chan m
    a.setChan m (if on then x.mark 7 false
      else { ((x.mark 6 false).mark 5 false) with dout := { x.dout with pulse := some 0 } })) b1

/-- A digital output as its drive and its latches have it; the bits that follow its state. What HOLD keeps is the value applied when
row 4 came into force (R202, R206). -/
def Bay.settleDo (b : Bay) (n tick : Nat) : Bay :=
  let on := b.driveDo n && !(b.chan n).dout.latched
  let b1 := if on == (b.chan n).dout.sw then b else b.switchTo n tick on
  let c := b1.chan n
  let c1 := if b1.row1 || b1.row4 n then c else { c with held := c.applied % 2 }
  let d := c1.dout
  b1.setChan n (((((c1.mark 0 d.oc).mark 1 d.thermal).mark 2 d.clampLock).mark 3 d.retryDue.isSome).mark 4 d.inrush.isSome)

/-! ### The driven value of an analog output (Table AOUT-2) -/

/-- The identity trim (R285). -/
def Trim.identity : Trim := { seq := 0, srcGain := 1000000, srcOff := 0, snkGain := 1000000, snkOff := 0, flags := 0, stime := 0 }

/-- The trim in force. -/
def Bay.trim (b : Bay) (n : Nat) : Trim := tget Trim.identity b.trims n

/-- The top of a mode's range in QW units (R273). -/
def aoTop (mode : Nat) : Nat := if mode = 18 then 50000 else 60000

/-- The low alarm level in QW units (R282): 0.4 µA each. -/
def Bay.alarmLow (b : Bay) (n : Nat) : Nat := b.cn n 5 * 5 / 2

/-- The level of the ALARM safe state (R282). -/
def Bay.alarmLevel (b : Bay) (n : Nat) : Nat :=
  let high := if b.cn n 4 = 0 then b.almsel else b.cn n 4 == 2
  if high then b.cn n 6 * 5 / 2 else b.alarmLow n

/-- A value that the channel forms: after step 3, after step 5, and whether the range or the clamp acts, and an alarm level is
driven. -/
structure AoForm where
  held : Nat
  driven : Nat
  clipped : Bool
  alarm : Bool
deriving DecidableEq, Repr

/-- Step 4: nominal = (value − o) / g, in QW units (R284). -/
def Bay.trimmed (b : Bay) (n v : Nat) : Nat :=
  let t := b.trim n
  let g := if b.mode n = 16 then t.srcGain else t.snkGain
  let o := if b.mode n = 16 then t.srcOff else t.snkOff
  if b.mode n = 18 then v
  else (clampInt 0 65535 (divOpen (((v : Int) * 400 - o) * 1000000) ((g : Int) * 400))).toNat

/-- Step 5: capped at the thermal limiter's ceiling (R278). -/
def AoutCh.capped (a : AoutCh) (v : Nat) : Nat :=
  match a.ceiling with
  | some k => min v (k / 100)
  | none => v

/-- Step 2 for an applied value: clipped to the range, and to 3.8–20.5 mA where so set (R273). -/
def Bay.clipped (b : Bay) (n v : Nat) : Nat :=
  let v1 := min v (aoTop (b.mode n))
  if b.mode n ≠ 18 ∧ b.cn n 7 = 1 then max 9500 (min 51250 v1) else v1

/-- Steps 1 to 5; none where the driver is off or at 0 (R275, R278, R284). -/
def Bay.aoForm (b : Bay) (n : Nat) : Option AoForm :=
  let c := b.chan n
  let mode := b.mode n
  if b.row1 || b.row2 n || c.dout.thermal then none
  else if c.aout.trimState ≠ 0 then
    let v := if c.aout.trimState = 1 then 10000 else 50000
    some { held := c.held, driven := c.aout.capped v, clipped := false, alarm := false }
  else
    let safe := b.row4 n
    let v := if safe then (if b.cn n 1 = 2 then (if c.holdOff then 0 else c.held) else if b.cn n 1 = 4 then b.alarmLevel n else 0)
             else b.clipped n c.applied
    let low := c.aout.forcedLow && mode != 18
    let v3 := if low then b.alarmLow n else v
    some { held := v3, driven := c.aout.capped (b.trimmed n v3), clipped := !safe && v != c.applied,
           alarm := low || (safe && b.cn n 1 == 4) }

/-- An analog output as its inputs have it. A drive that is off restarts the 50 ms of R280. -/
def Bay.settleAo (b : Bay) (n tick : Nat) : Bay :=
  let c := b.chan n
  let c1 := match b.aoForm n with
    | none => { c with aout := { c.aout with driven := 0, compSince := if c.aout.compSince.isSome then some tick else none } }
    | some f => { c with held := f.held, aout := { c.aout with driven := f.driven } }
  let f := (b.aoForm n).getD { held := 0, driven := 0, clipped := false, alarm := false }
  let c2 := ((((c1.mark 1 c.aout.forcedLow).mark 3 c.aout.ceiling.isSome).mark 4 c.dout.thermal).mark 5 f.clipped).mark 6 f.alarm
  b.setChan n ((c2.mark 8 (c.aout.trimState != 0)).mark 9 (tfind b.trims n).isNone)

/-! ### A bay after any change -/

/-- R200 taken note of: a channel that it no longer applies to keeps that drive until it applies a value (R191). -/
def Bay.noteSafe (b : Bay) (n : Nat) : Bay :=
  let c := b.chan n
  let now := b.r200 n
  b.setChan n { c with inSafe := now, resuming := c.resuming || (c.inSafe && !now) }

/-- One channel brought to rest. -/
def Bay.settleChan (b : Bay) (tick n : Nat) : Bay :=
  let b1 := if modeIsOut (b.mode n) then b.noteSafe n else b
  if modeIsDo (b.mode n) then b1.settleDo n tick
  else if modeIsAo (b.mode n) then b1.settleAo n tick
  else b1

/-- A channel stands in its safe state or limp entry under R200: an output channel that R200 applies to. -/
def Bay.anySafe (b : Bay) : Bool := dieChans.any (fun n => modeIsOut (b.mode n) && (b.chan n).inSafe)

/-- Live sources of the common fault bit (R207), bits [4:0] of bay.x.flt. -/
def Bay.fltLive (b : Bay) : Nat :=
  b2n b.uv + 2 * b2n (dieChans.any (fun n => b.liveFault n || b.stickyFault n)) + 4 * b2n (b.cfgLost || b.inReset) +
    8 * b2n b.limp + 16 * b2n b.anySafe

/-- The bay's common fault bit, which drives A_nFLT (R207). -/
def Bay.common (b : Bay) : Bool := b.fltLive != 0

/-- The output current of a channel in nA, as last measured; 0 in an input mode or DISABLED (R211). -/
def Bay.outNa (b : Bay) (n : Nat) : Nat :=
  let c := b.chan n
  if modeIsDo (b.mode (b.leader n)) then c.reading.current * 1000000
  else if b.mode n = 16 ∨ b.mode n = 17 then c.reading.out.natAbs
  else if b.mode n = 18 then c.reading.current * 1000
  else 0

/-- Every output at the drive that its conditions give, the sticky sources noted, and the pins: A_ISNS sources 1/2,000 of the selected
channel's current, A_nFLT is low while the common fault bit is set and L+ is at 5.0 V or more (R207, R211). -/
def Bay.settle (b : Bay) (tick : Nat) : Bay :=
  let b1 := dieChans.foldl (fun a n => a.settleChan tick n) b
  { b1 with sticky := lor64 b1.sticky b1.fltLive, isns := b1.outNa b1.sel * 500, fltLow := b1.common && decide (500 ≤ b1.lp) }

/-- The state with bay `x` changed and settled. -/
def State.putBay (s : State) (x : Nat) (b : Bay) : State := s.setBay x (b.settle s.clk.ticks)

/-- The bay's local time (R185): what the last cycle-start set, advanced on BCLK. -/
def Bay.local_ (b : Bay) (tick : Nat) : Ns := b.timeBase + (tick - b.timeTick) * 5 / 2

/-- The bay's controller runs: out of reset, BCLK present. -/
def Bay.runs (b : Bay) : Bool := !b.inReset && !b.clockLost

/-! ### Invalid inputs (R206, R222, R259) -/

/-- L+ is below 16.0 V or has not qualified since. -/
def Bay.supplyLow (b : Bay) : Bool := b.uv || !b.qualified

/-- A digital input is valid: L+ qualified and the channel restored, no wire break, the filter time over (R206, R222). -/
def Bay.dinValid (b : Bay) (n tick : Nat) : Bool :=
  !b.supplyLow && (b.chan n).restored && !(b.chan n).din.wireBreak && decide ((b.chan n).din.invalidUntil ≤ tick)

/-- The last valid debounced state is kept up before a cause of invalidity arises. -/
def Bay.noteValid (b : Bay) (tick : Nat) : Bay :=
  dieChans.foldl (fun (a : Bay) n =>
    if modeIsDi (a.mode n) && a.dinValid n tick then
      let c := a.chan n
      a.setChan n { c with din := { c.din with lastValid := c.din.deb } }
    else a) b

/-- A cause of invalidity of a digital input has cleared: its input stays invalid for the filter time (R222). -/
def Bay.revalidate (b : Bay) (n tick : Nat) : Bay :=
  let c := b.chan n
  b.setChan n { c with din := { c.din with invalidUntil := tick + b.cn n 5 * usTicks } }

/-- The filter time starts for every digital input. -/
def Bay.revalidateAll (b : Bay) (tick : Nat) : Bay :=
  dieChans.foldl (fun (a : Bay) n => if modeIsDi (a.mode n) then a.revalidate n tick else a) b

/-! ### The engine: BAYFLT and lost bays (R195, R207) -/

/-- A lane fault of any channel. -/
def EngBay.laneFault (e : EngBay) : Bool := e.lanes.any (fun l => l.2.fault)

/-- bay.x.flt: the bay's live sources, and the engine's bits [5] and [6]. -/
def State.bayFlt (s : State) (x : Nat) : Nat :=
  (s.bay x).fltLive + 32 * b2n (s.engBay x).laneFault + 64 * b2n (s.engBay x).lost

/-- bay.x.flt_sticky. -/
def State.bayFltSticky (s : State) (x : Nat) : Nat := lor64 (s.bay x).sticky (s.engBay x).sticky

/-- BAYFLT formed anew; its rising edge is the fault source BAY_A or BAY_B, its end the end of the condition. -/
def State.formBayflt (s : State) (x : Nat) : State :=
  let e := s.engBay x
  let v := bit e.word 1 || e.lost || e.laneFault
  let t := s.setEngBay x { e with bayflt := v, sticky := lor64 e.sticky (32 * b2n e.laneFault + 64 * b2n e.lost) }
  if v && !e.bayflt then t.raise (19 + x) x (t.bayFlt x + shl (t.bayFltSticky x) 16)
  else if !v && e.bayflt then t.condOver (19 + x)
  else t

/-- No lane fault stands and no bay is lost: the condition of BAYLINK is over. -/
def State.baylinkOver (s : State) : State :=
  if s.bayList.any (fun x => (s.engBay x).lost || (s.engBay x).laneFault) then s
  else if bit s.flt.live 21 then s.condOver 21 else s

/-- The bay link engine runs (R453, R456): its domain is on and FCLK runs. -/
def State.engineOn (s : State) : Bool := s.fclkUp && s.pwr.core

/-! ### Live writes (R41) -/

/-- A shot's snapshot pins the present frame of a page. -/
def State.pinnedNow (s : State) (page : Nat) : Bool :=
  let has (sh : Shot) : Bool := sh.pins.any (fun p => p.page == page && p.ver == s.pageVer page)
  s.configured.any (fun c =>
    (match (s.ctx c).shot with
     | some sh => has sh
     | none => false) || (s.ctx c).dying.any (fun d => has d.1))

/-- A live writer's unit: pinned pages move to a free frame, then the points are written. -/
def State.liveWrite (s : State) (ws : List (Nat × Nat)) : State :=
  let pages := (ws.map (fun (w : Nat × Nat) => ptPage w.1)).eraseDups
  let t := (pages.filter s.pinnedNow).foldl (fun (u : State) g => (u.bumpPage g).bump 0x623 64) s
  ({ t with sram := writePts t.sram ws }).notePool

end Sys2Proof.Machine
end

