-- ==== Sys2Proof/Machine/AinOps.lean ====
section
/-!
DEFINITION. The modulators: which visit comes next (R249-R251, R257, R268), when a visit delivers (R252-R256), starts and stops.
-/

namespace Sys2Proof.Machine

/-! ### Channels, settings, visits -/

/-- Modulator `m` of a bay. -/
def Bay.modl (b : Bay) (m : Nat) : Modulator := if m = 0 then b.m0 else b.m1

/-- The bay with a modulator replaced. -/
def Bay.setModl (b : Bay) (m : Nat) (x : Modulator) : Bay := if m = 0 then { b with m0 := x } else { b with m1 := x }

/-- A modulator exists (R3): the 7208 has M0 alone. -/
def modExists (part : Part) (x m : Nat) : Bool := bayExists part x && (m == 0 || (m == 1 && bayChannels part == 16))

/-- The channels that a modulator serves. -/
def modChans (m : Nat) : List Nat := (List.range 8).map (fun i => 8 * m + i)

/-- ain.m.scan_mask in force. -/
def Bay.mask (b : Bay) (m : Nat) : Nat :=
  match tfind b.par (modOff m 0) with
  | some v => v.toNat
  | none => 0xFF

/-- The channel takes part in the scan (R249). -/
def Bay.takesPart (b : Bay) (m ch : Nat) : Bool := modeIsAin (b.mode ch) && bit (b.mask m) (ch % 8)

/-- The FIR taps t_F in use (R252). -/
def AinFilter.tF (f : AinFilter) : Nat := if f.fir = 0 then 1 else f.taps

/-- The FIR decimation A in use (R252). -/
def AinFilter.a (f : AinFilter) : Nat := if f.fir = 0 then 1 else f.decim

/-- The settling count N_s (Table AIN-3). -/
def AinFilter.settling (f : AinFilter) : Nat := f.order + f.tF - 1

/-- The filter settings of a channel's parameters. -/
def Bay.filtOf (b : Bay) (ch : Nat) : AinFilter :=
  { order := b.cn ch 4, ratio := b.cn ch 5, fir := b.cn ch 6, taps := b.cn ch 7, decim := b.cn ch 8 }

/-- The filter settings in force: those of a visit in progress until it ends (R250). -/
def Bay.filtNow (b : Bay) (ch : Nat) : AinFilter :=
  match (b.modl (ch / 8)).visit with
  | some v => if v.ch = ch then v.filt else b.filtOf ch
  | none => b.filtOf ch

/-! ### The FIR (R253) -/

/-- The address of a configuration copy in the bay FeRAM. -/
def copyBase (k : Nat) : Nat := 0x1000 * k

/-- The first `taps` coefficients of set `set` (0 or 1) of a modulator, in units of 2^-22, in the configuration copy in force. -/
def Bay.firCoefs (b : Bay) (m set taps : Nat) : List Int :=
  (List.range taps).map (fun i =>
    toInt 24 (leNat (b.feram.readN (copyBase (if b.cfgCopy = 1 then 1 else 0) + 0xD00 + 0x80 * (2 * m + set) + 4 * i) 3)))

/-- A value forced into the 24 bits of a code. -/
def clampCode (v : Int) : Int := clampInt (-8388608) 8388607 v

/-- The filter output: the newest sinc output, or the FIR over the last t_F of them, coefficient 0 with the newest (R252, R253; its
rounding: assumption log 40). -/
def Visit.code (v : Visit) : Int :=
  if v.coef.isEmpty then v.outs.headD 0
  else clampCode (divOpen ((v.coef.zip v.outs).foldl (fun (t : Int) e => t + e.1 * e.2) 0) 4194304)

/-- t_sw in ns (Table AIN-1). -/
def switchTime (mode : Nat) : Nat := if mode = 8 ∨ mode = 9 ∨ mode = 10 then 20000 else 100000

/-- The bloom interval t_b in ns: t_sw + N_s · R / 768 kHz (Table AIN-3). -/
def Bay.bloomNs (b : Bay) (ch : Nat) : Nat :=
  switchTime (b.mode ch) + (b.filtNow ch).settling * (b.filtNow ch).ratio * 1000000 / 768

/-- The visit that the switch to a channel starts: the chain is reset and delivers nothing for N_s sinc outputs (R250, R255). It takes
the settings of the parameters; with `old` those of the channel's last visit (Table AIN-8, third row). -/
def Bay.startVisit (b : Bay) (m ch tick : Nat) (kind : VisitKind) (old : Bool) : Bay :=
  let c := b.chan ch
  let f := if old then c.ain.filt.getD (b.filtOf ch) else b.filtOf ch
  let v : Visit :=
    { ch := ch, kind := kind, left := if kind = .scan then b.cn ch 9 else 1, skip := f.settling, first := true, since := tick,
      filt := f, coef := if f.fir = 0 then [] else b.firCoefs m (f.fir - 1) f.taps, outs := [] }
  let b1 := (b.setModl m { b.modl m with visit := some v, cutAfter := false }).setChan ch
    { c with ain := { c.ain with filt := some f } }
  if kind = .scan ∨ kind = .urgent then b1.setChan ch ((b1.chan ch).mark 4 true) else b1

/-! ### Quantities (Table AIN-1) -/

/-- The code full scale and FS of a mode, in its unit: µV, nA, mΩ. `high` is the 4,000 Ω range of mode 15. -/
def ainScale (mode : Nat) (high : Bool) : Int × Int :=
  match mode with
  | 8 => (12500000, 20000000)
  | 9 => (12500000, 10000000)
  | 10 => (31250000, 24000000)
  | 11 | 12 => (500000, 400000)
  | 13 | 14 => (5000000, 4000000)
  | _ => if high then (5000000, 4000000) else (500000, 400000)

/-- The limits beyond which a result is under-range or over-range; mode 15 has no lower one. -/
def ainLimits (mode : Nat) (high : Bool) : Option Int × Int :=
  match mode with
  | 8 => (some (-10500000), 10500000)
  | 9 => (some (-500000), 10500000)
  | 10 => (some (-500000), 25000000)
  | 11 | 12 => (some 18520, 390480)
  | 13 | 14 => (some 185200, 3904800)
  | _ => (none, if high then 4200000 else 420000)

/-- The 4,000 Ω range of mode 15. -/
def Bay.resHigh (b : Bay) (n : Nat) : Bool := b.cn n 11 == 1

/-- Two consecutive sinc outputs that differ by more than step_thr, in 0.01 % of FS (R256). -/
def Bay.isStep (b : Bay) (n : Nat) (y z : Int) : Bool :=
  let s := ainScale (b.mode n) (b.resHigh n)
  b.cn n 0xF != 0 && decide ((b.cn n 0xF : Int) * s.2 * 8388608 < ((y - z).natAbs : Int) * s.1 * 10000)

/-- What a code stands for, in the mode's unit: calibrated, then scaled by the code full scale (R245, R259; rounding: assumption
log 40). -/
def Bay.measured (b : Bay) (x n : Nat) (code : Int) : Int :=
  divOpen (Config.calibrate x n code * (ainScale (b.mode n) (b.resHigh n)).1) 8388608

/-- The Callendar-Van Dusen ratio R(t) / R0 of IEC 60751, times 10^27, for t in 0.001 °C (R248; the standard's coefficients:
PRESUMED, assumption log 59). -/
def cvdRatio (t : Int) : Int :=
  10 ^ 27 + 39083 * 10 ^ 17 * t - 5775 * 10 ^ 11 * t ^ 2 - (if t < 0 then 4183 * (t - 100000) * t ^ 3 else 0)

/-- The highest t from `lo` on, below `lo + 2^fuel`, whose resistance is not above `r` mΩ. -/
def cvdBelow (r0 r : Int) (fuel : Nat) (lo : Int) : Int :=
  match fuel with
  | 0 => lo
  | k + 1 => if r0 * cvdRatio (lo + 2 ^ k) ≤ r * 10 ^ 27 then cvdBelow r0 r k (lo + 2 ^ k) else cvdBelow r0 r k lo

/-- The temperature of a platinum element in 0.001 °C (R248; rounding: assumption log 40). -/
def cvdTemp (r0 r : Int) : Int :=
  let t := cvdBelow r0 r 21 (-250000)
  if r0 * cvdRatio t = r * 10 ^ 27 then t else if Config.roundUp (r * 10 ^ 27) r0 then t + 1 else t

/-- A result after step 2 of R259: the scaled value, and whether it is over-range or under-range. Leads are subtracted, and their
limits judged, in resistance (R248). -/
structure AinScaled where
  scaled : Int
  ovr : Bool
  under : Bool
deriving DecidableEq, Repr

/-- Step 2 of R259 (R245, R248). -/
def Bay.scaledOf (b : Bay) (x n : Nat) (code : Int) : AinScaled :=
  let mode := b.mode n
  let lead : Int := if modeIs3Wire mode then ((b.chan n).ain.leadMeas : Nat) else if modeIsRtd mode then b.cv n 12 else 0
  let q := b.measured x n code - lead
  let lim := ainLimits mode (b.resHigh n)
  let r0 : Int := if mode = 13 ∨ mode = 14 then 1000000 else 100000
  { scaled := if modeIsRtd mode ∧ b.cn n 10 = 0 then cvdTemp r0 q else q,
    ovr := decide (lim.2 < q),
    under := match lim.1 with
      | some l => decide (q < l)
      | none => false }

/-! ### Maintenance visits (R251) -/

/-- The channel of a maintenance key: twice the channel, one more for a test visit. -/
def maintKind (key : Nat) : VisitKind := if key % 2 = 0 then .lead else .test

/-- The maintenance visits that the settings ask for: keys in ascending channel number. -/
def Bay.maintKeys (b : Bay) (m : Nat) : List Nat :=
  (modChans m).flatMap (fun ch =>
    (if modeIs3Wire (b.mode ch) && b.takesPart m ch then [2 * ch] else []) ++
    (if (b.mode ch == 8 || b.mode ch == 9) && b.cn ch 0x16 != 0 then [2 * ch + 1] else []))

/-- The period of a maintenance visit in ticks. -/
def Bay.maintPeriod (b : Bay) (key : Nat) : Nat :=
  (if key % 2 = 0 then b.cn (key / 2) 13 else b.cn (key / 2) 0x17) * msTicks

/-- The most overdue maintenance visit, ties in ascending channel number. -/
def Modulator.mostDue (x : Modulator) (tick : Nat) : Option (Nat × Nat) :=
  (x.due.filter (fun d => decide (d.2 ≤ tick))).foldl (fun (acc : Option (Nat × Nat)) d =>
    match acc with
    | some a => if d.2 < a.2 ∨ (d.2 = a.2 ∧ d.1 < a.1) then some d else some a
    | none => some d) none

/-- A maintenance visit starts; its next one falls due a period after this one did. Answers whether it is late. -/
def Bay.startMaint (b : Bay) (m tick : Nat) (d : Nat × Nat) : Bay × Bool :=
  let x := b.modl m
  let p := b.maintPeriod d.1
  let due := x.due.map (fun e => if e.1 = d.1 then (e.1, e.2 + p) else e)
  ((b.setModl m { x with due := due }).startVisit m (d.1 / 2) tick (maintKind d.1) false, decide (d.2 + p < tick))

/-! ### What follows a visit -/

/-- The lowest channel taking part at or above `lo`. -/
def Bay.scanFrom (b : Bay) (m lo : Nat) : Option Nat :=
  (modChans m).find? (fun ch => decide (lo ≤ ch) && b.takesPart m ch)

/-- The scan goes on at a channel: after a start, a 3-wire channel's lead visit comes first. -/
def Bay.beginScan (b : Bay) (m ch tick : Nat) : Bay :=
  let x := b.modl m
  if x.leadFirst.contains ch then
    (b.setModl m { x with resume := ch, leadFirst := x.leadFirst.filter (· != ch) }).startVisit m ch tick .lead false
  else (b.setModl m { x with resume := ch }).startVisit m ch tick .scan false

/-- The next visit: an urgent one at the head of the queue, with the settings from before a change that ended the last visit (Table
AIN-8); else the scan; at the end of a pass at most one maintenance visit (R250, R251, R257). Answers whether a maintenance visit was
late. -/
def Bay.nextVisit (b : Bay) (m tick : Nat) : Bay × Bool :=
  let x := b.modl m
  match x.queue with
  | (ch, _) :: rest => ((b.setModl m { x with queue := rest }).startVisit m ch tick .urgent x.cutAfter, false)
  | [] =>
    match b.scanFrom m x.resume with
    | some ch => (b.beginScan m ch tick, false)
    | none =>
      let idle := (b.scanFrom m 0).isNone
      match x.mostDue tick with
      | some d =>
        if x.passMaint && !idle then
          ((b.setModl m { x with passStart := tick, passMaint := false }).beginScan m ((b.scanFrom m 0).getD 0) tick, false)
        else (b.setModl m { x with passMaint := true }).startMaint m tick d
      | none =>
        match b.scanFrom m 0 with
        | some ch => ((b.setModl m { x with passStart := tick, passMaint := false }).beginScan m ch tick, false)
        | none => (b.setModl m { x with visit := none, resume := 0, passStart := tick, passMaint := false }, false)

/-- The modulator goes on with its next visit; a pass that ended gives scan_time and scan_worst, a late maintenance visit counts
(R251, R270). -/
def State.modNext (s : State) (x m : Nat) : State :=
  let b := s.bay x
  let old := b.modl m
  if old.stopped then s
  else
    let r := b.nextVisit m s.clk.ticks
    let t := s.setBay x r.1
    let u := if r.2 then t.bump (bayPid x (modOff m 0xB)) 32 else t
    let d := (s.clk.ticks - old.passStart) / usTicks
    if (r.1.modl m).passStart ≠ old.passStart ∧ old.resume ≠ 0 then
      (u.setPv (bayPid x (modOff m 2)) d).worst (bayPid x (modOff m 3)) d
    else u

/-- A modulator stops: the visit in progress is abandoned, requests and maintenance visits are discarded (R268). -/
def Bay.modStop (b : Bay) (m : Nat) : Bay :=
  let x := b.modl m
  let b1 := b.setModl m { x with stopped := true, visit := none, queue := [], due := [], leadFirst := [], cutAfter := false }
  (modChans m).foldl (fun (a : Bay) ch => if modeIsAin (a.mode ch) then a.setChan ch ((a.chan ch).mark 4 false) else a) b1

/-- A modulator starts at the lowest channel, lead visits first (R251, R255, R268). -/
def State.modStart (s : State) (x m : Nat) : State :=
  if modExists s.dev.part x m then
    let b := s.bay x
    let t := s.clk.ticks
    let y : Modulator :=
      { b.modl m with
        stopped := false, visit := none, queue := [], resume := 0, passStart := t, passMaint := false, cutAfter := false,
        due := (b.maintKeys m).map (fun k => (k, t + b.maintPeriod k)),
        leadFirst := (modChans m).filter (fun ch => modeIs3Wire (b.mode ch)) }
    (s.setBay x (b.setModl m y)).modNext x m
  else s

/-- Both modulators of a bay start. -/
def State.modsStart (s : State) (x : Nat) : State := (s.modStart x 0).modStart x 1

/-- The settings have changed: maintenance visits as they now ask; a visit to a channel that has left the analog input modes is
abandoned; an idle modulator goes on. -/
def State.modAdopt (s : State) (x m : Nat) : State :=
  let b := s.bay x
  let y := b.modl m
  if y.stopped then s
  else
    let due := (b.maintKeys m).map (fun k => (k, (tfind y.due k).getD (s.clk.ticks + b.maintPeriod k)))
    let gone := match y.visit with
      | some v => !modeIsAin (b.mode v.ch)
      | none => true
    let z := { y with due := due, queue := y.queue.filter (fun q => modeIsAin (b.mode q.1)), visit := if gone then none else y.visit }
    let t := s.setBay x (b.setModl m z)
    if gone then t.modNext x m else t

/-! ### Urgent requests (R257) -/

/-- A request joins a queue: after those of earlier cycles, and among those of its own cycle by channel number. -/
def joinQueue (q : List (Nat × Ns)) (ch : Nat) (c : Ns) : List (Nat × Ns) :=
  match q with
  | [] => [(ch, c)]
  | e :: rest => if e.2 = c ∧ ch < e.1 then (ch, c) :: e :: rest else e :: joinQueue rest ch c

/-- A request arrives with the frame of cycle `c` at the modulator that serves the channel: discarded, merged or queued. -/
def State.urgentIn (s : State) (x ch : Nat) (c : Ns) : State :=
  let m := ch / 8
  let b := s.bay x
  let y := b.modl m
  if !modeIsAin (b.mode ch) || y.stopped then s.bump (bayPid x (modOff m 0xA)) 32
  else if y.queue.any (fun q => q.1 == ch) then s.bump (bayPid x (modOff m 9)) 32
  else
    let t := s.setBay x (b.setModl m { y with queue := joinQueue y.queue ch c })
    if y.visit.isNone then t.modNext x m else t

/-- ain.m.state (Table AIN-11). -/
def Modulator.code (y : Modulator) : Nat :=
  if y.stopped then 4
  else match y.visit with
    | none => 0
    | some v =>
      match v.kind with
      | .scan => 1
      | .urgent => 2
      | .lead | .test => 3

end Sys2Proof.Machine
end

