-- ==== Sys2Proof/Machine/BayCfg.lean ====
section
/-!
DEFINITION. The bay FeRAM's configuration copies (R213, R214), what a change of configuration does (R210, R224, R228, R237, R250,
R283), the diagnostic records (R208, R243, R269, R288), PROT_CLEAR (R241, R289) and the two-point trim (R284-R286).
-/

namespace Sys2Proof.Machine

/-! ### A configuration as bytes (assumption log 41) -/

/-- A channel parameter that the bay holds: one that a SET writes and the settings keep. -/
def chanHeld (mode off : Nat) : Bool :=
  match chanRow mode off with
  | some r => r.acc == .rw && !(modeIsAo mode && (off == 10 || off == 11))
  | none => false

/-- Offsets of a channel block. -/
def chanOffs : List Nat := List.range 0x30

/-- A value of a list of values in force, by bay-relative key. -/
def parV (par : List (Nat × Int)) (key : Nat) (dflt : Int) : Int := (tfind par key).getD dflt

/-- The mode that a list of values gives a channel. -/
def parMode (par : List (Nat × Int)) (n : Nat) : Nat := (parV par (chanOff n 0) 0).toNat

/-- The master copy's values that the bay holds (R214): bay level, channels by their mode's chapter, scan masks. -/
def State.masterPar (s : State) (x : Nat) : List (Nat × Int) :=
  let base := bayPid x 0
  let held (k : Nat) : Bool :=
    let g := k / 0x10000
    let o := k % 0x10000
    if o == 1 || o == 4 || o == 0x600 || o == 0x620 then g == 0
    else if 0x100 ≤ o ∧ o < 0x500 then
      let mode := s.mode x ((o - 0x100) / 0x40)
      let off := o % 0x40
      (g == if off < 4 then 0 else modeGroup mode) && chanHeld mode off
    else false
  s.params.filterMap (fun (e : Nat × Int) =>
    if base ≤ e.1 % 0x10000 ∧ e.1 % 0x10000 < base + 0x800 ∧ held (e.1 - base) then some (e.1 - base, e.2) else none)

/-- The words of a configuration copy: offset in the copy and value. -/
def cfgWords (par : List (Nat × Int)) : List (Nat × Int) :=
  [(0x14, parV par 1 10), (0x20, parV par 4 0)] ++
  dieChans.flatMap (fun n =>
    let mode := parMode par n
    (chanOffs.filter (chanHeld mode)).map (fun off =>
      (0x100 + 0xC0 * n + 4 * off, parV par (chanKey mode n off) (chanDefault mode off)))) ++
  [(0xF00, parV par (modOff 0 0) 255), (0xF04, parV par (modOff 1 0) 255)]

/-- The bytes that the CRC of a copy covers: all but header and CRC. -/
def copyBody (m : Memory) (k : Nat) : List Byte := m.readN (copyBase k + 0x10) 0xFEC

/-- A copy's CRC and sequence as stored. -/
def copyCrc (m : Memory) (k : Nat) : Nat := leNat (m.readN (copyBase k + 0xFFC) 4)
/-- See `copyCrc`. -/
def copySeq (m : Memory) (k : Nat) : Nat := leNat (m.readN (copyBase k) 4)

/-- A memory with the body of copy `k` replaced by values and FIR sets. -/
def putCopy (m : Memory) (k : Nat) (par : List (Nat × Int)) (firs : List (List Byte)) : Memory :=
  let lo := copyBase k
  let m1 := m.restrict (fun a => !(decide (lo + 0x10 ≤ a) && decide (a < lo + 0xFFC)))
  let m2 := (cfgWords par).foldl (fun (a : Memory) w => a.writeL (lo + w.1) (leBytes 4 (ofInt 32 w.2))) m1
  ((List.range 4).zip firs).foldl (fun (a : Memory) f => a.writeL (lo + 0xD00 + 0x80 * f.1) f.2) m2

/-- A value read back from a copy. -/
def cfgValue (r : Option PRow) (n : Nat) : Int :=
  match r with
  | some p => pvalue p.ty (n % 2 ^ (8 * max 1 (ptypeBytes p.ty)))
  | none => n

/-- The values that copy `k` holds; those at their defaults are left out. -/
def readCopy (m : Memory) (k : Nat) : List (Nat × Int) :=
  let word (o : Nat) : Nat := leNat (m.readN (copyBase k + o) 4)
  let keep (key : Nat) (v d : Int) : List (Nat × Int) := if v = d then [] else [(key, v)]
  keep 1 (word 0x14) 10 ++ keep 4 (word 0x20) 0 ++
  dieChans.flatMap (fun n =>
    let mode := word (0x100 + 0xC0 * n) % 256
    (chanOffs.filter (chanHeld mode)).flatMap (fun off =>
      keep (chanKey mode n off) (cfgValue (chanRow mode off) (word (0x100 + 0xC0 * n + 4 * off))) (chanDefault mode off))) ++
  keep (modOff 0 0) (word 0xF00) 255 ++ keep (modOff 1 0) (word 0xF04) 255

/-- The FIR sets of a bay in the master copy (R253, R270). -/
def State.masterFirs (s : State) (x : Nat) : List (List Byte) :=
  [(0, 0x10), (0, 0x11), (1, 0x10), (1, 0x11)].map (fun (f : Nat × Nat) =>
    match tfind s.blocks (bayPid x (modOff f.1 f.2)) with
    | some bs => bs
    | none => (List.replicate 32 (leBytes 4 0x020000)).flatten)

/-- The CRC of the settings' copy (R214). -/
def State.masterCrc (s : State) (x : Nat) : Nat :=
  (crc32 (copyBody (putCopy [] 0 (s.masterPar x) (s.masterFirs x)) 0)).toNat

/-! ### A new configuration in force -/

/-- A channel after a change of its mode (R228, R237, R239, R259, R283): the protection state but the OC latch and a pending
retry is kept; everything of the old mode is gone. -/
def Bay.modeChanged (b : Bay) (tick n : Nat) : Bay :=
  let c := b.chan n
  let mode := b.mode n
  let d := { DoutCh.init with thermal := c.dout.thermal, clampLock := c.dout.clampLock, clampAcc := c.dout.clampAcc,
                              clampLast := c.dout.clampLast, offAt := tick }
  let c1 : Chan := { Chan.init with
    reading := c.reading, raw := c.raw, high := c.high, din := { DinCh.init with since := tick }, restored := c.restored, laneSilent := c.laneSilent, lastFrame := c.lastFrame, inSafe := c.inSafe,
    holdOff := c.holdOff, dout := { d with retryLeft := if modeIsDo mode then b.cn n 0x1B else 0 } }
  b.setChan n (if modeIsCnt mode then c1.event 1 else if modeIsAo mode then c1.event 10 else c1)

/-- A modulator's visit to a channel is cut after its result in progress (R250). -/
def Bay.cutVisit (b : Bay) (n : Nat) : Bay :=
  let y := b.modl (n / 8)
  match y.visit with
  | some v => if v.ch = n then b.setModl (n / 8) { y with cutAfter := true } else b
  | none => b

/-- What new values of one channel do: a mode change; a filter change cuts the visit; wire-break detection switched off clears a
declared break; a new over-current threshold restarts a run (R224, R242, R250). -/
def Bay.adoptChan (old b : Bay) (tick n : Nat) : Bay :=
  if old.mode n ≠ b.mode n then b.modeChanged tick n
  else if modeIsDo (b.mode n) && (old.cv n 0x18 != b.cv n 0x18 || old.cv n 0x1A != b.cv n 0x1A) then
    let c := b.chan n
    b.setChan n { c with dout := { c.dout with runFrom := tick } }
  else if modeIsAin (b.mode n) && [4, 5, 6, 7, 8].any (fun o => old.cv n o != b.cv n o) then b.cutVisit n
  else if modeIsDi (b.mode n) && old.cn n 7 == 1 && b.cn n 7 == 0 && (b.chan n).din.wireBreak then
    let c := (b.chan n).mark 0 false
    (b.setChan n { c with din := { c.din with wireBreak := false } }).revalidate n tick
  else b

/-- A bay whose modulators may run: out of reset, configured, BCLK present, L+ qualified (R268). -/
def Bay.converts (b : Bay) : Bool := b.runs && !b.cfgLost && !b.supplyLow

/-- A tap change: the tap, its qualification afresh, and the count (R277). -/
def State.setTap (s : State) (x n t : Nat) : State :=
  let b := s.bay x
  let c := b.chan n
  (s.setBay x (b.setChan n { c with aout := { c.aout with tap := t, tapAt := s.clk.ticks } })).bumpChan x n 0x1A

/-- Tap voltages in 10 mV; tap 3 is L+ (R276). -/
def tapNominal (t : Nat) : Nat := if t = 0 then 700 else if t = 1 then 1200 else 1800

/-- A tap is available while L+ is at least 1.0 V above it. -/
def Bay.tapAvail (b : Bay) (t : Nat) : Bool := t == 3 || decide (tapNominal t + 100 ≤ b.lp)

/-- The channels of a bay that a tap serves (R276). -/
def Bay.tapped (b : Bay) (n : Nat) : Bool := b.mode n == 16 || b.mode n == 18

/-- The L+ tap replaces every tap that L+ has made unavailable or that ao.tap.mode no longer allows (R276, R277). -/
def State.fixTaps (s : State) (x : Nat) : State :=
  dieChans.foldl (fun (u : State) n =>
    let b := u.bay x
    let t := (b.chan n).aout.tap
    if b.tapped n && t != 3 && (!b.tapAvail t || b.cn n 8 == 1) then u.setTap x n 3 else u) s

/-! ### L+ (R206, Table BAY-10) -/

/-- L+ measured: the value, its minimum, and the instants from which its conditions hold; back at 19.2 V the warning bit clears
(assumption log 42). -/
def Bay.withLp (b : Bay) (lp tick : Nat) : Bay :=
  { b with lp := lp, lpMin := min b.lpMin lp, warn := b.warn && decide (lp < 1920), uv := decide (lp < 1600),
           highAt := if 1920 ≤ lp then tick else b.highAt, lowAt := if lp ≤ 1750 then tick else b.lowAt }

/-- Every channel not restored, every output off. -/
def Bay.unrestored (b : Bay) : Bay :=
  dieChans.foldl (fun (a : Bay) n => a.setChan n { a.chan n with restored := false }) b

/-- A measurement of L+ acts: below 16.0 V every output is off, inputs are invalid, the modulators stop, and each fall counts; a tap that
is no longer available is replaced (R206, R268, R276). -/
def State.supply (s : State) (x lp : Nat) : State :=
  let b := s.bay x
  let tick := s.clk.ticks
  if lp < 1600 then
    let b1 := { ((b.noteValid tick).withLp lp tick).unrestored with qualified := false }
    let t := (s.putBay x ((b1.modStop 0).modStop 1)).fixTaps x
    if b.uv then t else t.bumpBay x 0x10
  else (s.putBay x (b.withLp lp tick)).fixTaps x

/-- New values come into force in a bay. -/
def State.adopt (s : State) (x : Nat) (par : List (Nat × Int)) : State :=
  let old := s.bay x
  let tick := s.clk.ticks
  let b := { (old.noteValid tick) with par := par, cfgLost := false }
  let t := (s.putBay x (dieChans.foldl (fun a n => old.adoptChan a tick n) b)).fixTaps x
  if (t.bay x).converts && (t.bay x).m0.stopped then t.modsStart x else (t.modAdopt x 0).modAdopt x 1

/-- CFG_COMMIT (R213): the copy that is not newest is checked against the CRC, gets the next sequence and is in force; none
where the CRC differs. -/
def State.commitCopy (s : State) (x crc : Nat) : Option State :=
  let b := s.bay x
  let k := if b.cfgCopy = 0 then 1 else 0
  if (crc32 (copyBody b.feram k)).toNat = crc then
    let seq := (b.cfgSeq + 1) % 2 ^ 32
    let f := (b.feram.writeL (copyBase k) (leBytes 4 seq)).writeL (copyBase k + 0xFFC) (leBytes 4 crc)
    let t := s.setBay x { b with feram := f, cfgCopy := k, cfgSeq := seq, cfgCrc := crc, resetSeen := false }
    some (t.adopt x (readCopy f k))
  else none

/-- The settings' copy written and committed (R214). -/
def State.writeMaster (s : State) (x : Nat) : State :=
  let b := s.bay x
  let k := if b.cfgCopy = 0 then 1 else 0
  let t := s.setBay x { b with feram := putCopy b.feram k (s.masterPar x) (s.masterFirs x) }
  (t.commitCopy x (s.masterCrc x)).getD t

/-- The configuration loaded after a bay reset: the newest valid copy, or every channel DISABLED with configuration lost
(R206, R213). -/
def State.loadBay (s : State) (x : Nat) : State :=
  let b := s.bay x
  let ok (k : Nat) : Bool := (crc32 (copyBody b.feram k)).toNat == copyCrc b.feram k
  let pick : Nat := if ok 0 && (!ok 1 || decide (copySeq b.feram 1 ≤ copySeq b.feram 0)) then 0 else if ok 1 then 1 else 2
  if pick = 2 then s.putBay x { b with inReset := false, cfgLost := true, cfgCopy := 2, par := [] }
  else
    let t := s.setBay x { b with inReset := false, cfgCopy := pick, cfgSeq := copySeq b.feram pick, cfgCrc := copyCrc b.feram pick }
    t.adopt x (readCopy b.feram pick)

/-! ### Status words and states -/

/-- The input of a channel is invalid: bit [13] of R188 (R206, R218, R222, R259, R273). An analog input is valid again at
qualification, any other channel when it is restored. -/
def Bay.invalid (b : Bay) (n tick : Nat) : Bool :=
  let c := b.chan n
  if modeIsAin (b.mode n) then b.supplyLow || c.live % 16 != 0 || c.ain.eoc.isNone
  else if modeIsDi (b.mode n) then !b.dinValid n tick
  else !c.restored || b.uv

/-- Bits [15:12] of a status (R188). -/
def Bay.statusTop (b : Bay) (n tick : Nat) : Nat :=
  0x8000 * b2n (b.liveFault n) + 0x4000 * b2n (b.liveFault n || b.stickyFault n) + 0x2000 * b2n (b.invalid n tick) +
    0x1000 * b2n (b.chan n).laneSilent

/-- The input value that an analog input channel carries: the result, or the substitute while invalid (R259). -/
def Bay.ainValue (b : Bay) (n tick : Nat) : Int :=
  let a := (b.chan n).ain
  if b.invalid n tick then
    if b.cn n 0x1A = 1 then 0x7FFFFFFF else if b.cn n 0x1A = 2 then -0x80000000 else a.lastValid
  else a.value

/-- bay.x.state (Table BAY-12): DOWN for a lost bay; a bay whose configuration is lost stays in CONFIG (R213); else the highest code that
applies, and one of LIVE, HOLDING and SILENT always does. -/
def State.bayState (s : State) (x : Nat) : Nat :=
  let b := s.bay x
  if (s.engBay x).lost then 0
  else if b.cfgLost && !b.inReset then 1
  else if b.uv then 6
  else if !b.qualified || (List.range (bayChannels s.dev.part)).any (fun n => !(b.chan n).restored) then 5
  else if b.silent || b.safeNow || b.clockLost then 4
  else if !b.fresh then 3
  else 2

/-- bay.x.limp: the pin, and limp on silence active. -/
def Bay.limpState (b : Bay) : Nat :=
  b2n b.limp + 2 * b2n (b.v 4 == 1 && dieChans.any (fun n => modeIsDo (b.mode n) && (b.chan n).inSafe && b.mapped n))

/-- F of R198 in µs: bay.x.fresh_eff. -/
def State.freshEff (s : State) (x : Nat) : Nat :=
  let ps := s.configured.filterMap (fun c => (s.ctx c).cfg.map CtxEntry.period)
  let two := match ps with
    | [] => 0
    | p :: r => 2 * r.foldl min p
  min 20000000 (max (s.bayN x 2) two)

/-! ### Values that bays measure -/

/-- The highest junction temperature of a group, signed. -/
def Bay.groupTemp (b : Bay) (n : Nat) : Int :=
  (b.members n).foldl (fun (t : Int) m => max t (b.chan m).reading.temp) (b.chan n).reading.temp

/-- The current of a group in mA (R218). -/
def Bay.groupCurrent (b : Bay) (n : Nat) : Nat := (b.members n).foldl (fun t m => t + (b.chan m).reading.current) 0

/-- The highest accumulator of a group. -/
def Bay.groupAcc (b : Bay) (n : Nat) : Nat := (b.members n).foldl (fun t m => max t (b.chan m).dout.clampAcc) 0

/-- do.latch. -/
def Bay.latchWord (b : Bay) (n : Nat) : Nat :=
  let d := (b.chan n).dout
  b2n d.oc + 2 * b2n d.thermal + 4 * b2n d.clampLock + 8 * b2n d.retryDue.isSome

/-- The aux field of a counter: BCLK cycles since the last counted edge, and edges counted in the cycle (Table DCH-1). -/
def Chan.countAux (c : Chan) (tick : Nat) : Nat :=
  min 0xFFFFFF ((tick - c.din.lastEdge) * 3 / 25) + 0x1000000 * min 255 c.din.edges

/-- The voltage of a tap; an unavailable one is replaced by L+. -/
def Bay.tapVolt (b : Bay) (t : Nat) : Nat := if t ≠ 3 ∧ b.tapAvail t then tapNominal t else b.lp

/-- Headroom in 10 mV at a terminal voltage (R276); 0 in mode 17 (R288). -/
def Bay.headroom (b : Bay) (n volt : Nat) : Int :=
  if b.mode n = 17 then 0 else (b.tapVolt (b.chan n).aout.tap : Int) - volt

/-- The tap in use: an unavailable tap is the L+ tap (R276). -/
def Bay.tapInUse (b : Bay) (n : Nat) : Nat :=
  let t := (b.chan n).aout.tap
  if b.tapAvail t then t else 3

/-- The tap that aux reports: the one in use; 3 in mode 17 (R273, R277). -/
def Bay.tapWord (b : Bay) (n : Nat) : Nat := if b.mode n = 17 then 3 else b.tapInUse n

/-! ### Diagnostic records (R208) -/

/-- A 16-bit word of a signed number. -/
def word16 (v : Int) : Nat := ofInt 16 v

/-- A counter of a channel, low 16 bits. -/
def State.chanCount (s : State) (x n off : Nat) : Nat := s.chanN x n off % 65536

/-- Words 3-13 of a channel record (Tables DCH-8, AIN-10, R288). -/
def State.chanWords (s : State) (x n : Nat) : List Nat :=
  let b := s.bay x
  let c := b.chan n
  let mode := b.mode n
  let cnt (off : Nat) : Nat := s.chanCount x n off
  if modeIsDi mode then [c.reading.current, c.reading.volt, cnt 11]
  else if modeIsCnt mode then
    let aux := c.countAux s.clk.ticks
    [c.din.count % 65536, c.din.count / 65536, aux % 65536, aux / 65536, cnt 0x14, cnt 0x15]
  else if modeIsDo mode then
    [b.groupCurrent n, word16 (b.groupTemp n), b.groupAcc n, c.dout.clampLast, b.latchWord n, c.dout.retryLeft, cnt 0x25, cnt 0x26,
     cnt 0x27]
  else if modeIsAin mode then
    let v := ofInt 32 (b.ainValue n s.clk.ticks)
    let k := ofInt 32 c.ain.code
    let age := match c.ain.eoc with
      | some e => min 65535 ((b.local_ s.clk.ticks - e) / 1000000)
      | none => Config.noAge % 65536
    [v % 65536, v / 65536, k % 65536, k / 65536, age, (if modeIs3Wire mode then c.ain.leadMeas / 10 else 0), cnt 0x21, cnt 0x22,
     cnt 0x15, cnt 0x23, cnt 0x24]
  else if modeIsAo mode then
    let r := ofInt 32 c.reading.out
    [c.applied, c.aout.driven, r % 65536, r / 65536, c.reading.volt, word16 (b.headroom n c.reading.volt), b.tapWord n,
     word16 c.reading.temp, cnt 0x16, cnt 0x18, cnt 0x19]
  else if mode = 0xFF then [c.reading.current, word16 c.reading.temp]
  else []

/-- The read time: STIME in µs mod 2^32, two words. -/
def State.readTime (s : State) : List Nat :=
  let t := s.now / 1000 % 2 ^ 32
  [t % 65536, t / 65536]

/-- A record of 16 words: `ws` padded to 14, then the read time. -/
def State.record (s : State) (ws : List Nat) : List Nat :=
  ((ws ++ List.replicate 14 0).take 14).map (fun w => w % 65536) ++ s.readTime

/-- The record of channel `n`. -/
def State.chanRecord (s : State) (x n : Nat) : List Nat :=
  let b := s.bay x
  let c := b.chan n
  let top := b.statusTop n s.clk.ticks
  s.record ([b.mode n, lor64 c.live c.events + top, c.sticky + top] ++ s.chanWords x n)

/-- The bay record and the state after it: L+'s minimum starts anew (R208). -/
def State.bayRecord (s : State) (x : Nat) : List Nat × State :=
  let b := s.bay x
  (s.record [s.bayState x, s.bayFlt x, s.bayFltSticky x, b.lp, b.lpMin, word16 b.temp, b.limpState, s.pn (bayPid x 0xF) % 65536,
     s.pn (bayPid x 0x12) % 65536, s.pn (bayPid x 0x13) % 65536],
   s.setBay x { b with lpMin := b.lp })

/-! ### Values that firmware reads from a bay -/

/-- A bay-level pid whose value the bay holds (Table BAY-15). -/
def Bay.readBayPid (b : Bay) (off : Nat) : Option Int :=
  let nat (n : Nat) : Option Int := some (n : Int)
  match off with
  | 11 => nat b.lp
  | 12 => nat b.lpMin
  | 13 => some b.temp
  | 14 => nat b.limpState
  | 0x14 => nat b.cfgSeq
  | 0x15 => nat b.cfgCrc
  | 0x16 => nat b.sel
  | 0x17 => nat (b2n b.almsel)
  | _ => none

/-- f_mod in S/s, thousandths (R252). -/
def fMod : Nat := 768000000

/-- ain.odr in mS/s: f_mod / (R · A) (R252, R271). -/
def ainOdr (f : AinFilter) : Int := divOpen fMod ((f.ratio * f.a : Nat) : Int)

/-- A channel value that the bay measures or computes (R244, R271, R290); none for one that the parameter store holds. -/
def Bay.readChanPid (b : Bay) (n off tick : Nat) : Option Int :=
  let c := b.chan n
  let nat (v : Nat) : Option Int := some (v : Int)
  match modeGroup (b.mode n), off with
  | 1, 0x0A => nat c.reading.current
  | 1, 0x1C => nat c.dout.retryLeft
  | 1, 0x1E => nat (b.groupAcc n)
  | 1, 0x1F => nat c.dout.clampLast
  | 1, 0x20 => nat (b.latchWord n)
  | 1, 0x23 => nat (b.groupCurrent n)
  | 1, 0x24 => some (b.groupTemp n)
  | 2, 0x0E => nat c.ain.leadMeas
  | 2, 0x1D => some (b.ainValue n tick)
  | 2, 0x1E => some c.ain.code
  | 2, 0x1F => some (ainOdr (b.filtNow n))
  | 2, 0x20 =>
    some (divOpen ((switchTime (b.mode n) * 768 + (b.filtNow n).settling * (b.filtNow n).ratio * 1000000 : Nat) : Int) 768000)
  | 3, 0x0A => some (c.aout.meas4.getD 0)
  | 3, 0x0B => some (c.aout.meas20.getD 0)
  | 3, 0x0C => nat (if b.mode n = 17 then (b.trim n).snkGain else (b.trim n).srcGain)
  | 3, 0x0D => some (if b.mode n = 17 then (b.trim n).snkOff else (b.trim n).srcOff)
  | 3, 0x0E => nat c.aout.trimState
  | 3, 0x10 => some c.reading.out
  | 3, 0x11 => nat c.reading.volt
  | 3, 0x12 => some (b.headroom n c.reading.volt)
  | 3, 0x13 => nat (b.tapWord n)
  | 3, 0x14 => some c.reading.temp
  | 3, 0x15 => nat (b2n c.aout.forcedLow + 2 * b2n c.dout.thermal)
  | _, _ => none

/-- Everything that a bay's pids read, by bay-relative pid: what firmware keeps when it reads a bay's records (R208). -/
def Bay.readAll (b : Bay) (tick : Nat) : List (Nat × Int) :=
  (List.range 0x18).filterMap (fun o => (b.readBayPid o).map (fun v => (o, v))) ++
  dieChans.flatMap (fun n => (List.range 0x30).filterMap (fun o => (b.readChanPid n o tick).map (fun v => (chanKey (b.mode n) n o, v)))) ++
  [0, 1].map (fun m => (modOff m 1, (((b.modl m).code : Nat) : Int)))

/-- DG points of a record: record 0 is the bay's, record n + 1 channel n's (Table BAY-11). -/
def dgPoints (x rec : Nat) (ws : List Nat) : List (Nat × Nat) :=
  (List.range 16).zip ws |>.map (fun (e : Nat × Nat) => (mkPt 7 (0x200 * x + 16 * rec + e.1), e.2))

/-- All records of a bay read into DG; a lost bay leaves its records as last read, word 0 DOWN; a bay in reset answers nothing
(R208). -/
def State.readDiag (s : State) (x : Nat) : State :=
  if (s.engBay x).lost then s.liveWrite [(mkPt 7 (0x200 * x), 0)]
  else if !(s.bay x).runs then s
  else
    let (ws, t0) := s.bayRecord x
    let t := t0.setEngBay x { t0.engBay x with lastRead := (s.bay x).readAll s.clk.ticks }
    t.liveWrite (dgPoints x 0 ws ++ (List.range (bayChannels s.dev.part)).flatMap (fun n => dgPoints x (n + 1) (s.chanRecord x n)))

/-! ### Bay link start (R214) -/

/-- The engine identifies a bay that answers, writes the settings' configuration where the CRC differs, and reads its records. -/
def State.linkStart (s : State) (x : Nat) : State :=
  if s.engineOn && !(s.engBay x).lost && (s.bay x).runs then
    let b := s.bay x
    let t := if b.cfgCopy = 2 ∨ b.cfgCrc ≠ s.masterCrc x then s.writeMaster x else s
    t.readDiag x
  else s

/-! ### PROT_CLEAR (R219, R241, R289) -/

/-- Status codes of PROT_CLEAR and TRIM_WRITE (R241, R286). -/
def stMode : Nat := 1
/-- The sensor reads 150 °C or more. -/
def stTooHot : Nat := 2
/-- The accumulator exceeds the budget's limit. -/
def stBudget : Nat := 3
/-- Out of sequence. -/
def stState : Nat := 4
/-- Outside the trim limits. -/
def stRange : Nat := 5

/-- The sticky bits of a channel cleared; those whose condition is live are set again at once (R219). -/
def Chan.clearSticky (c : Chan) : Chan := { c with sticky := lor64 c.live c.events }

/-- PROT_CLEAR at the bay: the status and the bay after it. -/
def Bay.protClear (b : Bay) (n kind tick : Nat) : Nat × Bay :=
  let c := b.chan n
  let mode := b.mode n
  let group := b.members n
  if mode = 0 ∨ mode = 0xFF ∨ 16 ≤ n then (stMode, b)
  else if kind = 0 then (0, (group.foldl (fun (a : Bay) m => a.setChan m (a.chan m).clearSticky) b).settle tick)
  else if modeIsDo mode ∧ kind = 1 then
    (0, (b.setChan n { c with dout := { c.dout with oc := false, retryDue := none, retryLeft := b.cn n 0x1B } }).settle tick)
  else if modeIsDo mode ∧ kind = 2 then
    if group.all (fun m => decide ((b.chan m).reading.temp < 1500)) then
      (0, (b.setChan n { c with dout := { c.dout with thermal := false } }).settle tick)
    else (stTooHot, b)
  else if modeIsDo mode ∧ kind = 3 then
    if group.all (fun m => decide ((b.chan m).dout.clampAcc + 300 ≤ b.cn n 0x1D)) then
      let b1 := group.foldl (fun (a : Bay) m => a.setChan m ((a.chan m).mark 8 false)) b
      let c1 := b1.chan n
      (0, (b1.setChan n { c1 with dout := { c1.dout with clampLock := false } }).settle tick)
    else (stBudget, b)
  else if (mode = 16 ∨ mode = 17) ∧ kind = 0x10 then
    let a := { c.aout with forcedLow := false, compSince := if c.aout.compSince.isSome then some tick else none }
    (0, (b.setChan n { c with aout := a }).settle tick)
  else if modeIsAo mode ∧ kind = 0x11 then
    if c.reading.temp < 1500 then (0, (b.setChan n { c with dout := { c.dout with thermal := false } }).settle tick)
    else (stTooHot, b)
  else (stMode, b)

/-! ### Trim (R284-R286) -/

/-- The procedure of a channel with its step and readings. -/
def Bay.trimStep (b : Bay) (n st : Nat) (m4 m20 : Option Int) (tick : Nat) : Bay :=
  let c := b.chan n
  (b.setChan n { c with aout := { c.aout with trimState := st, meas4 := m4, meas20 := m20 } }).settle tick

/-- A trim entry as bytes (Table AOUT-5). -/
def Trim.bytes (t : Trim) : List Byte :=
  let body := leBytes 4 t.seq ++ leBytes 4 t.srcGain ++ leBytes 4 (ofInt 32 t.srcOff) ++ leBytes 4 t.snkGain ++
    leBytes 4 (ofInt 32 t.snkOff) ++ leBytes 1 t.flags ++ leBytes 3 0 ++ leBytes 8 t.stime ++ List.replicate 28 0#8
  body ++ leBytes 4 (crc32 body).toNat

/-- The address of trim copy `k` (0 A, 1 B) of a channel (R285). -/
def trimAddr (k n : Nat) : Nat := 0x2000 + 0x400 * k + 64 * n

/-- A trim copy, none where its CRC fails. -/
def readTrim (m : Memory) (k n : Nat) : Option Trim :=
  let bs := m.readN (trimAddr k n) 64
  if (crc32 (bs.take 60)).toNat = leAt bs 60 4 then
    some { seq := leAt bs 0 4, srcGain := leAt bs 4 4, srcOff := toInt 32 (leAt bs 8 4), snkGain := leAt bs 12 4,
           snkOff := toInt 32 (leAt bs 16 4), flags := leAt bs 20 1, stime := leAt bs 24 8 }
  else none

/-- The copy in force of a channel's trim, with its number: the valid one with the higher sequence (R285). -/
def newestTrim (m : Memory) (n : Nat) : Option (Nat × Trim) :=
  match readTrim m 0 n, readTrim m 1 n with
  | some a, some c => if a.seq < c.seq then some (1, c) else some (0, a)
  | some a, none => some (0, a)
  | none, some c => some (1, c)
  | none, none => none

/-- The trims reloaded from the bay FeRAM (R283, R285). -/
def Bay.loadTrims (b : Bay) : Bay :=
  { b with trims := dieChans.filterMap (fun n => (newestTrim b.feram n).map (fun t => (n, t.2))) }

/-- A trim stored for the mode in force: the copy with the older sequence takes the next sequence and the trimmed flag (R285, Table
AOUT-5). -/
def Bay.storeTrim (b : Bay) (n g : Nat) (o : Int) (flag : Bool) (at_ : Ns) : Bay :=
  let t := b.trim n
  let set (i : Nat) : Nat := if flag then setBit t.flags i else clearBit t.flags i
  let t1 := if b.mode n = 16 then { t with srcGain := g, srcOff := o, flags := set 0 } else { t with snkGain := g, snkOff := o, flags := set 1 }
  let t2 := { t1 with seq := (t.seq + 1) % 2 ^ 32, stime := at_ }
  let k := match newestTrim b.feram n with
    | some c => 1 - c.1
    | none => 0
  { b with feram := b.feram.writeL (trimAddr k n) t2.bytes, trims := tset b.trims n t2 }

/-- TRIM_WRITE at the bay: the status and the bay after it. -/
def Bay.trimWrite (b : Bay) (n op : Nat) (data : Int) (tick : Nat) (at_ : Ns) : Nat × Bay :=
  let a := (b.chan n).aout
  if 16 ≤ n ∨ !(b.mode n = 16 ∨ b.mode n = 17) then (stMode, b)
  else
    match op with
    | 1 => if a.trimState = 0 then (0, b.trimStep n 1 none none tick) else (stState, b)
    | 6 =>
      if a.trimState ≠ 1 then (stState, b)
      else if 3800000 ≤ data ∧ data ≤ 4200000 then (0, b.trimStep n 1 (some data) none tick)
      else (stRange, b)
    | 2 => if a.trimState = 1 ∧ a.meas4.isSome then (0, b.trimStep n 2 a.meas4 none tick) else (stState, b)
    | 7 =>
      if a.trimState ≠ 2 then (stState, b)
      else if 19600000 ≤ data ∧ data ≤ 20400000 then (0, b.trimStep n 2 a.meas4 (some data) tick)
      else (stRange, b)
    | 3 =>
      (match a.meas4, a.meas20 with
       | some m4, some m20 =>
         if a.trimState = 2 then
           let d := m20 - m4
           let o4 := 4 * m4 - d
           if 15680000 ≤ d ∧ d ≤ 16320000 ∧ -800000 ≤ o4 ∧ o4 ≤ 800000 then
             (0, (b.storeTrim n (divOpen d 16).toNat (divOpen o4 4) true at_).trimStep n 0 none none tick)
           else (stRange, b)
         else (stState, b)
       | _, _ => (stState, b))
    | 4 => if a.trimState = 0 then (stState, b) else (0, b.trimStep n 0 none none tick)
    | 5 => (0, (b.storeTrim n 1000000 0 false at_).trimStep n 0 none none tick)
    | _ => (stRange, b)

end Sys2Proof.Machine
end

