-- ==== Sys2Proof/Machine/Digital.lean ====
section
/-!
DEFINITION. The events of digital inputs, counters and protected outputs (R220-R240, R242).
-/

namespace Sys2Proof.Machine

/-- The bay's controller acts on a channel that exists. -/
def State.bayActs (s : State) (x n : Nat) : Bool :=
  bayExists s.dev.part x && decide (n < bayChannels s.dev.part) && (s.bay x).runs && !(s.bay x).cfgLost

/-! ### Inputs (R221, R224) -/

/-- A declared wire break clears: the live bit ends, the input stays invalid for the filter time (R222, R224). -/
def Bay.wireClear (b : Bay) (n tick : Nat) : Bay :=
  let c := (b.chan n).mark 0 false
  (b.setChan n { c with din := { c.din with wireBreak := false } }).revalidate n tick

/-- A time of `held` µs without a break that lies whole after the tick `from_`. -/
def State.heldSince (s : State) (held from_ : Nat) : Bool := decide (held * usTicks ≤ s.elapsed from_)

/-- DEBOUNCE_CHANGE (R221): every sample for `held` µs has shown the level that the comparator gives for the terminal voltage; once that
is the filter time the debounced state takes it. A wire break clears when it becomes ON (R224); mapped outputs follow it (R204). -/
def execDebounceChange (x n volt held : Nat) (s : State) : Res :=
  let b := (s.bay x).noteValid s.clk.ticks
  let c0 := b.chan n
  let level := comparator x n (b.inType n) volt c0.raw
  if s.bayActs x n && modeIsDi (b.mode n) && c0.din.deb != level && decide (b.cn n 5 ≤ held) && s.heldSince held c0.din.since then
    let c := { c0 with raw := level }
    let b1 := b.setChan n { c with din := { c.din with deb := level, debAt := s.clk.ticks } }
    let b2 := if level && c.din.wireBreak then b1.wireClear n s.clk.ticks else b1.noteValid s.clk.ticks
    .next (s.putBay x b2)
  else .next s

/-- WIRE_BREAK_DECLARE (R224): enabled, OFF, and every measurement for wb.time below i_min. -/
def execWireBreakDeclare (x n current held : Nat) (s : State) : Res :=
  let b := (s.bay x).noteValid s.clk.ticks
  let c := b.chan n
  if s.bayActs x n && modeIsDi (b.mode n) && b.cn n 7 == 1 && !c.din.deb && !c.din.wireBreak && decide (current < b.cn n 8) &&
      decide (b.cn n 9 * 1000 ≤ held) && s.heldSince held c.din.since then
    let c1 := { c with reading := { c.reading with current := current }, din := { c.din with wireBreak := true } }
    .next ((s.putBay x (b.setChan n (c1.mark 0 true))).bumpChan x n 11)
  else .next s

/-- WIRE_BREAK_CLEAR (R224): the debounced state is ON, or every measurement for wb.time is at or above i_min. -/
def execWireBreakClear (x n current held : Nat) (s : State) : Res :=
  let b := s.bay x
  let c := b.chan n
  if s.bayActs x n && modeIsDi (b.mode n) && c.din.wireBreak &&
      (c.din.deb || (decide (b.cn n 8 ≤ current) && decide (b.cn n 9 * 1000 ≤ held) && s.heldSince held c.din.since)) then
    let b1 := b.setChan n { c with reading := { c.reading with current := current } }
    .next (s.putBay x (b1.wireClear n s.clk.ticks))
  else .next s

/-! ### Counters (R226-R228) -/

/-- An edge marked for the aux field: its tick, and one more in the cycle (Table DCH-1). -/
def Chan.noteEdge (c : Chan) (tick : Nat) : Chan := { c with din := { c.din with lastEdge := tick, edges := c.din.edges + 1 } }

/-- The count after a counted edge, and the marks of the edge. -/
def Chan.counted (c : Chan) (up : Bool) (tick : Nat) : Chan :=
  let n := if up then (c.din.count + 1) % 2 ^ 32 else (c.din.count + 2 ^ 32 - 1) % 2 ^ 32
  { c.noteEdge tick with din := { (c.noteEdge tick).din with count := n, dirUp := up } }

/-- A phase shorter than 38 BCLK cycles sets OVERSPEED and counts (R226). -/
def State.overspeed (s : State) (x n phase : Nat) : State :=
  if phase < 38 then
    let b := s.bay x
    (s.putBay x (b.setChan n ((b.chan n).event 0))).bumpChan x n 0x14
  else s

/-- An edge after a phase of BCLK cycles is counted: always from 0.8 µs (39 cycles) on; below it may or may not be (R226; assumption log
5). -/
def State.edgeCounts (s : State) (phase : Nat) : Bool × State :=
  if 39 ≤ phase then (true, s) else (s.draw.1 % 2 == 1, s.draw.2)

/-- The counter of a channel counts: its raw state has been sampled since it started, and L+ is not below 16.0 V (R228). -/
def Bay.countsEdges (b : Bay) (n : Nat) : Bool := (b.chan n).din.synced && !b.uv

/-- The raw states of a pair after a sample; the leader's counter follows them from now on. -/
def Bay.setTracks (b : Bay) (n : Nat) (va vb : Bool) : Bay :=
  let b1 := b.setChan n { b.chan n with raw := va, din := { (b.chan n).din with synced := true } }
  b1.setChan (n + 1) { b1.chan (n + 1) with raw := vb }

/-- COUNTER_EDGE (R226): the comparator's output changes with the terminal voltage; an edge of the chosen kind counts. A phase shorter
than 0.1 µs (5 BCLK cycles) makes no edge; while L+ is below 16.0 V nothing counts (R228). -/
def execCounterEdge (x n volt phase : Nat) (s : State) : Res :=
  let b := s.bay x
  let c := b.chan n
  let level := comparator x n (b.inType n) volt c.raw
  if s.bayActs x n && b.mode n == 3 && decide (5 ≤ phase) && level != c.raw then
    let kind := b.cn n 0x10
    let c1 := { c with raw := level, din := { c.din with synced := true } }
    let chosen := kind == 2 || (kind == 0 && level) || (kind == 1 && !level)
    if !b.countsEdges n then .next (s.putBay x (b.setChan n c1))
    else
      let (counts, s1) := s.edgeCounts phase
      .next ((s1.putBay x (b.setChan n (if chosen && counts then c1.counted true s.clk.ticks else c1))).overspeed x n phase)
  else .next s

/-- QUAD_EDGE (R227): the tracks take the levels that their comparators give. One track changed: the count rises when A leads B, falls
when it lags, the reverse with invert; both changed in one sample: TRANSITION. -/
def execQuadEdge (x n va vb phase : Nat) (s : State) : Res :=
  let y := s.bay x
  let a := comparator x n (y.inType n) va (y.chan n).raw
  let b := comparator x (n + 1) (y.inType (n + 1)) vb (y.chan (n + 1)).raw
  let da := (y.chan n).raw != a
  let db := (y.chan (n + 1)).raw != b
  if s.bayActs x n && y.mode n == 4 && (da || db) && decide (5 ≤ phase) then
    let y1 := y.setTracks n a b
    if !y.countsEdges n then .next (s.putBay x y1)
    else if da && db then
      .next (((s.putBay x (y1.setChan n ((y1.chan n).event 2))).bumpChan x n 0x15).overspeed x n phase)
    else
      let m := y.cn n 0x11
      let chosen := m == 4 || (m == 2 && da) || (m == 1 && da && a)
      let leads := if da then a != b else a == b
      let up := leads != (y.cn n 0x12 == 1)
      let (counts, s1) := s.edgeCounts phase
      let y2 := if chosen && counts then y1.setChan n ((y1.chan n).counted up s.clk.ticks) else y1
      let y3 := if chosen && counts && db then y2.setChan (n + 1) ((y2.chan (n + 1)).noteEdge s.clk.ticks) else y2
      .next ((s1.putBay x y3).overspeed x n phase)
  else .next s

/-! ### Protected outputs: over-current (R231-R235) -/

/-- A channel of a digital output group: its leader. -/
def State.doGroup (s : State) (x n : Nat) : Option Nat :=
  let b := s.bay x
  if s.bayActs x n && modeIsDo (b.mode (b.leader n)) then some (b.leader n) else none

/-- HARD_LIMIT (R231): the switch limits its current. -/
def execHardLimit (x n : Nat) (s : State) : Res :=
  let b := s.bay x
  match s.doGroup x n with
  | some l => whenOk (b.chan l).dout.sw s (s.putBay x (b.setChan n ((b.chan n).mark 5 true)))
  | none => .next s

/-- I_T in mA (R232): inrush_thr inside a window, oc_thr outside. -/
def Bay.tripLevel (b : Bay) (l : Nat) : Nat :=
  100 * (if (b.chan l).dout.inrush.isSome then b.cn l 0x1A else b.cn l 0x18)

/-- OC_TRIP (R232, R234): the current has exceeded I_T for 8 µs without interruption, all of it after the switch-on, the end of the
window and the last SET of a threshold (R233, R242). The group is off, the OC latch set; with retries left one falls due after 100 ms.
A thermal trip in the same cycle does not keep it from latching (Table DCH-6). -/
def execOcTrip (x n current held : Nat) (s : State) : Res :=
  let b := s.bay x
  match s.doGroup x n with
  | some l =>
    let c := b.chan l
    let on := c.dout.sw || (c.dout.thermal && !c.dout.oc && c.dout.offAt == s.clk.ticks)
    if on && decide (b.tripLevel l < current) && decide (8 ≤ held) && s.heldSince held c.dout.runFrom then
      let due := if c.dout.retryLeft ≠ 0 then some (s.clk.ticks + 100 * msTicks) else none
      .next ((s.putBay x (b.setChan l { c with dout := { c.dout with oc := true, retryDue := due } })).bumpChan x l 0x25)
    else .next s
  | none => .next s

/-- INRUSH_WINDOW_END (R233): the window has lasted its time; a current above oc_thr starts its 8 µs at the window's end. -/
def execInrushWindowEnd (x n : Nat) (s : State) : Res :=
  let b := s.bay x
  let c := b.chan n
  match c.dout.inrush with
  | some e =>
    whenOk (s.bayActs x n && decide (e ≤ s.clk.ticks)) s
      (s.putBay x (b.setChan n { c with dout := { c.dout with inrush := none, runFrom := max e c.dout.runFrom, quietFrom := e } }))
  | none => .next s

/-- RETRY_DUE (R234): taken when it is due, the drive is on and neither the thermal latch nor the clamp lock is set. -/
def execRetryDue (x n : Nat) (s : State) : Res :=
  let b := s.bay x
  let c := b.chan n
  match c.dout.retryDue with
  | some d =>
    if s.bayActs x n && modeIsDo (b.mode n) && decide (d ≤ s.clk.ticks) && b.driveDo n && !c.dout.thermal && !c.dout.clampLock then
      .next (s.putBay x (b.setChan n
        { c with dout := { c.dout with oc := false, retryDue := none, retryLeft := c.dout.retryLeft - 1 } }))
    else .next s
  | none => .next s

/-- RETRY_RESTORE (R234): 10 s with the switch on. -/
def execRetryRestore (x n : Nat) (s : State) : Res :=
  let b := s.bay x
  let c := b.chan n
  if s.bayActs x n && modeIsDo (b.mode n) && c.dout.sw && decide (10 * secTicks ≤ s.elapsed c.dout.onAt) then
    .next (s.putBay x (b.setChan n { c with dout := { c.dout with retryLeft := b.cn n 0x1B } }))
  else .next s

/-! ### Thermal latch (R236, R278) -/

/-- THERMAL_TRIP: at 170 °C the driver is off and the thermal latch set, at the leader of a group. -/
def execThermalTrip (x n : Nat) (temp : Int) (s : State) : Res :=
  let b := s.bay x
  let l := b.leader n
  let isDo := modeIsDo (b.mode l)
  if s.bayActs x n && (isDo || modeIsAo (b.mode n)) && decide (1700 ≤ temp) then
    let k := b.chan n
    let b1 := b.setChan n { k with reading := { k.reading with temp := temp } }
    let c := b1.chan l
    let t := s.putBay x (b1.setChan l { c with dout := { c.dout with thermal := true } })
    .next (if isDo then t.bumpChan x l 0x26 else t)
  else .next s

/-! ### Inductive clamp (R238, R239) -/

/-- The clamp lock of a group set; each lock counts. -/
def State.clampLock (s : State) (x l : Nat) : State :=
  let b := s.bay x
  let c := b.chan l
  if c.dout.clampLock then s
  else (s.putBay x (b.setChan l { c with dout := { c.dout with clampLock := true } })).bumpChan x l 0x27

/-- The pulse of a member's last switch-off has not ended: the group is off, or switched on in this very cycle (R238). -/
def State.pulseOpen (s : State) (x n l : Nat) : Bool :=
  let b := s.bay x
  let d := (b.chan l).dout
  (b.chan n).dout.pulse.isSome && (!d.sw || d.onAt == s.clk.ticks)

/-- CLAMP_OVER (R238): the running integral of a pulse passes 300 mJ; CLAMP_OVER and the lock are set at once, and the pulse runs on. -/
def execClampOver (x n energy : Nat) (s : State) : Res :=
  let b := s.bay x
  match s.doGroup x n with
  | some l =>
    if s.pulseOpen x n l && decide ((b.chan n).dout.pulse.getD 0 ≤ 300) && decide (300 < energy) then
      let c := (b.chan n).mark 8 true
      .next ((s.putBay x (b.setChan n { c with dout := { c.dout with pulse := some energy } })).clampLock x l)
    else .next s
  | none => .next s

/-- CLAMP_PULSE_END (R238, R239): the current has fallen to zero or the switch is on again; the pulse's whole energy counts, and at or
above the budget, or past 300 mJ, the group locks. -/
def execClampPulseEnd (x n energy : Nat) (s : State) : Res :=
  let b := s.bay x
  match s.doGroup x n with
  | some l =>
    if s.pulseOpen x n l && decide ((b.chan n).dout.pulse.getD 0 ≤ energy) then
      let c := b.chan n
      let acc := c.dout.clampAcc + energy
      let c1 := { c with dout := { c.dout with pulse := none, clampAcc := acc, clampLast := energy } }
      let ovr := decide (300 < energy)
      let t := s.putBay x (b.setChan n (if ovr then c1.mark 8 true else c1))
      .next (if ovr || decide (b.cn l 0x1D ≤ acc) then t.clampLock x l else t)
    else .next s
  | none => .next s

/-- CLAMP_DECAY (R239): every 25 ms of BCLK each accumulator falls by 1 mJ, in every mode. -/
def execClampDecay (x : Nat) (s : State) : Res :=
  let b := s.bay x
  if bayExists s.dev.part x && b.runs && decide (25 * msTicks ≤ s.elapsed b.decayAt) then
    let b1 := dieChans.foldl (fun (a : Bay) n =>
      let c := a.chan n
      a.setChan n { c with dout := { c.dout with clampAcc := c.dout.clampAcc - 1 } }) b
    .next (s.putBay x { b1 with decayAt := s.clk.ticks })
  else .next s

/-! ### Open load and external high (R240) -/

/-- OPENLOAD_SET: on, past its window, below a nonzero ol_i_min for 50 ms. -/
def execOpenloadSet (x n current held : Nat) (s : State) : Res :=
  let b := s.bay x
  match s.doGroup x n with
  | some l =>
    let d := (b.chan l).dout
    let g := d.sw && d.inrush.isNone && b.cn l 0x22 != 0 && decide (current < b.cn l 0x22) && decide (50000 ≤ held) &&
      s.heldSince held d.quietFrom
    whenOk g s (s.putBay x (b.setChan n ((b.chan n).mark 6 true)))
  | none => .next s

/-- OPENLOAD_CLEAR: at or above ol_i_min for 50 ms. -/
def execOpenloadClear (x n current held : Nat) (s : State) : Res :=
  let b := s.bay x
  match s.doGroup x n with
  | some l =>
    whenOk (bit (b.chan n).live 6 && decide (b.cn l 0x22 ≤ current) && decide (50000 ≤ held)) s
      (s.putBay x (b.setChan n ((b.chan n).mark 6 false)))
  | none => .next s

/-- EXT_HIGH_SET: off, no clamp pulse running, sensed high for 10 ms. -/
def execExtHighSet (x n volt held : Nat) (s : State) : Res :=
  let b := s.bay x
  match s.doGroup x n with
  | some l =>
    let d := (b.chan l).dout
    let g := !d.sw && (b.chan n).dout.pulse.getD 0 == 0 && decide (inRise x n 1 < volt) && decide (10000 ≤ held) &&
      s.heldSince held d.offAt
    whenOk g s (s.putBay x (b.setChan n ({ b.chan n with high := true }.mark 7 true)))
  | none => .next s

/-- EXT_HIGH_CLEAR: sensed low for 10 ms. -/
def execExtHighClear (x n volt held : Nat) (s : State) : Res :=
  let b := s.bay x
  match s.doGroup x n with
  | some _ =>
    whenOk (bit (b.chan n).live 7 && decide (volt ≤ inRise x n 1) && decide (10000 ≤ held)) s
      (s.putBay x (b.setChan n ({ b.chan n with high := false }.mark 7 false)))
  | none => .next s

end Sys2Proof.Machine
end

