-- ==== Sys2Proof/Machine/Float.lean ====
section
/-!
DEFINITION. The IEEE 754-2008 arithmetic of R108: binary32 and binary64, correctly rounded to nearest with ties to even,
subnormals kept, one canonical quiet NaN. Operands are taken to exact integers times a power of two, the operation is exact
there, and `FloatFmt.round` narrows once.
-/

namespace Sys2Proof.Machine

/-- The two formats of R108. -/
inductive FloatFmt where
  | b32
  | b64
deriving DecidableEq, Repr

/-- Stored fraction bits. -/
def FloatFmt.mb (f : FloatFmt) : Nat :=
  match f with
  | .b32 => 23
  | .b64 => 52

/-- Exponent bits. -/
def FloatFmt.eb (f : FloatFmt) : Nat :=
  match f with
  | .b32 => 8
  | .b64 => 11

/-- The position of the sign bit. -/
def FloatFmt.signPos (f : FloatFmt) : Nat := f.eb + f.mb

/-- The exponent of the least significant bit of a subnormal. -/
def FloatFmt.lsbMin (f : FloatFmt) : Int := 2 - 2 ^ (f.eb - 1) - (f.mb : Int)

/-- The encoding of infinity without its sign. -/
def FloatFmt.infBits (f : FloatFmt) : Nat := (2 ^ f.eb - 1) * 2 ^ f.mb

/-- The canonical quiet NaN: 0x7FC00000 or 0x7FF8000000000000 (R108). -/
def FloatFmt.nan (f : FloatFmt) : Nat := f.infBits + 2 ^ (f.mb - 1)

/-- A real value taken apart: NaN, a signed infinity, or (-1)^neg × m × 2^e. -/
inductive Unpacked where
  | nan
  | inf (neg : Bool)
  | fin (neg : Bool) (m : Nat) (e : Int)
deriving DecidableEq, Repr

/-- Reads an encoding. -/
def FloatFmt.unpack (f : FloatFmt) (v : Nat) : Unpacked :=
  let neg := bit v f.signPos
  let ex := bits v (f.signPos - 1) f.mb
  let fr := v % 2 ^ f.mb
  if ex = 2 ^ f.eb - 1 then (if fr = 0 then .inf neg else .nan)
  else if ex = 0 then .fin neg fr f.lsbMin
  else .fin neg (2 ^ f.mb + fr) (f.lsbMin + (ex : Int) - 1)

/-- The encoding with sign `neg` of magnitude bits `b`. -/
def FloatFmt.withSign (f : FloatFmt) (neg : Bool) (b : Nat) : Nat := b2n neg * 2 ^ f.signPos + b

/-- The encoding nearest to (-1)^neg × m × 2^e, plus something smaller than one unit of `m`'s last bit where `sticky`
holds; ties go to even, overflow to infinity (R108). -/
def FloatFmt.round (f : FloatFmt) (neg : Bool) (m : Nat) (e : Int) (sticky : Bool) : Nat :=
  if m = 0 then f.withSign neg 0
  else
    let top : Int := (Nat.log2 m : Int) + e
    let q : Int := max (top - (f.mb : Int)) f.lsbMin
    let mant : Nat :=
      if q ≤ e then m * 2 ^ (e - q).toNat
      else
        let k := (q - e).toNat
        let keep := m / 2 ^ k
        let rest := m % 2 ^ k
        let half := 2 ^ (k - 1)
        if half < rest || (rest == half && (sticky || keep % 2 == 1)) then keep + 1 else keep
    let enc := (q - f.lsbMin).toNat * 2 ^ f.mb + mant
    f.withSign neg (min enc f.infBits)

/-- The sum. An exact zero from operands of unlike sign is +0. -/
def FloatFmt.add (f : FloatFmt) (a b : Nat) : Nat :=
  match f.unpack a, f.unpack b with
  | .nan, _ => f.nan
  | _, .nan => f.nan
  | .inf s, .inf t => if s = t then f.withSign s f.infBits else f.nan
  | .inf s, .fin _ _ _ => f.withSign s f.infBits
  | .fin _ _ _, .inf t => f.withSign t f.infBits
  | .fin s m e, .fin t n g =>
    let lo := min e g
    let x : Int := (if s then -1 else 1) * ((m * 2 ^ (e - lo).toNat : Nat) : Int)
    let y : Int := (if t then -1 else 1) * ((n * 2 ^ (g - lo).toNat : Nat) : Int)
    let z := x + y
    if z = 0 then f.withSign (s && t) 0
    else f.round (decide (z < 0)) z.natAbs lo false

/-- The sign bit flipped, whatever the value (FNEG, R108). -/
def FloatFmt.neg (f : FloatFmt) (a : Nat) : Nat :=
  if bit a f.signPos then a - 2 ^ f.signPos else a + 2 ^ f.signPos

/-- The sign bit cleared, whatever the value (FABS, R108). -/
def FloatFmt.abs (f : FloatFmt) (a : Nat) : Nat := clearBit a f.signPos

/-- The difference; a NaN subtrahend stays a NaN. -/
def FloatFmt.sub (f : FloatFmt) (a b : Nat) : Nat := f.add a (f.neg b)

/-- The product. -/
def FloatFmt.mul (f : FloatFmt) (a b : Nat) : Nat :=
  match f.unpack a, f.unpack b with
  | .nan, _ => f.nan
  | _, .nan => f.nan
  | .inf s, .inf t => f.withSign (s != t) f.infBits
  | .inf s, .fin t n _ => if n = 0 then f.nan else f.withSign (s != t) f.infBits
  | .fin s m _, .inf t => if m = 0 then f.nan else f.withSign (s != t) f.infBits
  | .fin s m e, .fin t n g => f.round (s != t) (m * n) (e + g) false

/-- Extra quotient and root bits that make the sticky bit decide correctly. -/
def FloatFmt.guard : Nat := 130

/-- The quotient. -/
def FloatFmt.div (f : FloatFmt) (a b : Nat) : Nat :=
  match f.unpack a, f.unpack b with
  | .nan, _ => f.nan
  | _, .nan => f.nan
  | .inf _, .inf _ => f.nan
  | .inf s, .fin t _ _ => f.withSign (s != t) f.infBits
  | .fin s _ _, .inf t => f.withSign (s != t) 0
  | .fin s m e, .fin t n g =>
    if n = 0 then (if m = 0 then f.nan else f.withSign (s != t) f.infBits)
    else
      let w := m * 2 ^ FloatFmt.guard
      f.round (s != t) (w / n) (e - g - (FloatFmt.guard : Int)) (decide (w % n ≠ 0))

/-- The integer square root, one result bit per unit of fuel. -/
def isqrtGo (fuel n acc : Nat) : Nat :=
  match fuel with
  | 0 => acc
  | k + 1 =>
    let c := acc + 2 ^ k
    if c * c ≤ n then isqrtGo k n c else isqrtGo k n acc

/-- The square root; that of -0 is -0, of any other negative value a NaN. -/
def FloatFmt.sqrt (f : FloatFmt) (a : Nat) : Nat :=
  match f.unpack a with
  | .nan => f.nan
  | .inf s => if s then f.nan else f.infBits
  | .fin s m e =>
    if m = 0 then f.withSign s 0
    else if s then f.nan
    else
      let odd := decide (e % 2 ≠ 0)
      let n := (if odd then 2 * m else m) * 2 ^ FloatFmt.guard
      let e' := (if odd then e - 1 else e) - (FloatFmt.guard : Int)
      let r := isqrtGo 100 n 0
      f.round false r (e' / 2) (decide (r * r ≠ n))

/-- Order of two encodings: none when either is a NaN, else the sign of a - b (the zeros are equal). -/
def FloatFmt.compare (f : FloatFmt) (a b : Nat) : Option Ordering :=
  let key (u : Unpacked) : Option Int :=
    match u with
    | .nan => none
    | .inf s => some (if s then -(2 ^ 2200 : Int) else 2 ^ 2200)
    | .fin s m e => some ((if s then -1 else 1) * ((m * 2 ^ (e - f.lsbMin).toNat : Nat) : Int))
  match key (f.unpack a), key (f.unpack b) with
  | some x, some y => some (if x < y then .lt else if x = y then .eq else .gt)
  | _, _ => none

/-- The nearest integer of a finite magnitude, ties to even. -/
def roundNat (m : Nat) (e : Int) : Nat :=
  if 0 ≤ e then m * 2 ^ e.toNat
  else
    let k := (-e).toNat
    let keep := m / 2 ^ k
    let rest := m % 2 ^ k
    let half := 2 ^ (k - 1)
    if half < rest || (rest == half && keep % 2 == 1) then keep + 1 else keep

/-- FTOI: nearest integer, saturated to 32 bits; the flag is set on a NaN (result 0) or saturation (R108). -/
def FloatFmt.toI32 (f : FloatFmt) (a : Nat) : Int × Bool :=
  match f.unpack a with
  | .nan => (0, true)
  | .inf s => (if s then -(2 ^ 31 : Int) else 2 ^ 31 - 1, true)
  | .fin s m e =>
    let v : Int := (if s then -1 else 1) * (roundNat m e : Int)
    if v < -(2 ^ 31 : Int) then (-(2 ^ 31 : Int), true)
    else if (2 ^ 31 - 1 : Int) < v then (2 ^ 31 - 1, true)
    else (v, false)

/-- ITOF: the nearest real of a signed integer. -/
def FloatFmt.ofInt (f : FloatFmt) (v : Int) : Nat := f.round (decide (v < 0)) v.natAbs 0 false

/-- FCVT: a value of format `g` in format `f`. -/
def FloatFmt.convert (f g : FloatFmt) (a : Nat) : Nat :=
  match g.unpack a with
  | .nan => f.nan
  | .inf s => f.withSign s f.infBits
  | .fin s m e => f.round s m e false

end Sys2Proof.Machine
end

