-- ==== Sys2Proof/Machine/Container.lean ====
section
/-!
DEFINITION. Containers as bytes (Tables EDIT-1 to EDIT-6): the header, the section table and the sections of kinds 1 to 3. Every
failure is the byte offset of the first offending field (R138).
-/

namespace Sys2Proof.Machine

/-- A section-table entry. -/
structure Sec where
  ty : Nat
  off : Nat
  len : Nat
deriving DecidableEq, Repr

/-- A container read: header fields, the signed part, and the sections as the parts of a program. `has` lists the section types
present. -/
structure Parsed where
  kind : Nat
  flags : Nat
  parts : Nat
  baseHash : Nat
  keyId : Nat
  signed : List Byte
  secs : List Sec
  /-- Where the container holds what it supplies: the ranges of CODE (first word, count, offset of the words), the networks' words, and
  the entries of READ by context. -/
  codeAt : List (Nat × Nat × Nat)
  netAt : List (Nat × Nat)
  readAt : List (Nat × Nat)
  prog : Program
  migs : List MigEntry
  units : List UnitEntry
deriving DecidableEq, Repr

/-- Fails at an offset unless `b` holds. -/
def need (b : Bool) (off : Nat) : Except Nat Unit := if b then .ok () else .error off

/-- All bytes of a field are 0. -/
def zeros (bs : List Byte) (o n : Nat) : Bool := leAt bs o n == 0

/-- Every item passes; the first failure stands. -/
def eachOk {α : Type} (l : List α) (f : α → Except Nat Unit) : Except Nat Unit :=
  match l with
  | [] => .ok ()
  | a :: rest =>
    match f a with
    | .error e => .error e
    | .ok _ => eachOk rest f

/-- A section by type. -/
def secOf (secs : List Sec) (ty : Nat) : Option Sec := secs.find? (fun x => x.ty == ty)

/-- Whether a type is present. -/
def Parsed.has (p : Parsed) (ty : Nat) : Bool := (secOf p.secs ty).isSome

/-- The offset of a section's data; 0 where it is absent. -/
def secOff (secs : List Sec) (ty : Nat) : Nat :=
  match secOf secs ty with
  | some x => x.off
  | none => 0

/-- The offset of entry `i` of a section with entries of `size` bytes after `head` bytes. -/
def Parsed.at (p : Parsed) (ty head size i : Nat) : Nat := secOff p.secs ty + head + size * i

/-! ### Header and section table -/

/-- The kinds that a section type occurs in (Table EDIT-2). -/
def secKinds (ty : Nat) : List Nat :=
  if (1 ≤ ty ∧ ty ≤ 10) ∨ ty = 13 ∨ ty = 14 then [1, 2, 3]
  else if ty = 11 then [2]
  else if ty = 12 then [1, 2, 3, 4]
  else if 16 ≤ ty ∧ ty ≤ 18 then [4]
  else []

/-- The section-table entries. -/
def readSecs (bs : List Byte) (n : Nat) : List Sec :=
  (List.range n).map (fun i =>
    { ty := leAt bs (0xC0 + 16 * i) 2, off := leAt bs (0xC0 + 16 * i + 4) 4, len := leAt bs (0xC0 + 16 * i + 8) 4 })

/-- The header's fixed fields and the section table (R128, R130, Table EDIT-1). -/
def headerOk (bs : List Byte) : Except Nat (List Sec) := do
  need (leAt bs 0 4 == 0x4E435053) 0
  need (leAt bs 4 2 == 1) 4
  let kind := leAt bs 6 1
  need (decide (1 ≤ kind) && decide (kind ≤ 4)) 6
  need (decide (leAt bs 7 1 < 2)) 7
  need (decide (leAt bs 8 1 < 8)) 8
  need (zeros bs 9 1) 9
  let n := leAt bs 10 2
  need (decide (1 ≤ n) && decide (n ≤ 32) && decide (0xC0 + 16 * n + 96 ≤ bs.length)) 10
  need (zeros bs 0x24 12) 0x24
  need (kind == 2 || kind == 3 || zeros bs 0x30 48) 0x30
  need (zeros bs 0xA0 32) 0xA0
  let secs := readSecs bs n
  eachOk secs.zipIdx (fun e => do
    let o := 0xC0 + 16 * e.2
    need ((secKinds e.1.ty).contains kind && !((secs.take e.2).any (fun x => x.ty == e.1.ty))) o
    need (zeros bs (o + 2) 2) (o + 2)
    need (e.1.off % 8 == 0 && decide (0xC0 + 16 * n ≤ e.1.off)) (o + 4)
    need (decide (e.1.off + e.1.len + 96 ≤ bs.length)) (o + 8)
    need (zeros bs (o + 12) 4) (o + 12))
  .ok secs

/-! ### Sections -/

/-- The offsets of the entries of a section of `size`-byte entries after `head` bytes; its length must fit. -/
def entryOffs (secs : List Sec) (ty head size : Nat) : Except Nat (List Nat) :=
  match secOf secs ty with
  | none => .ok []
  | some x =>
    if x.len < head ∨ (x.len - head) % size ≠ 0 then .error x.off
    else .ok ((List.range ((x.len - head) / size)).map (fun i => x.off + head + size * i))

/-- CTX (Table EDIT-3). -/
def readCtxs (bs : List Byte) (secs : List Sec) : Except Nat (List CtxEntry) := do
  let offs ← entryOffs secs 1 0 32
  let entry (o : Nat) : CtxEntry :=
    { ctx := leAt bs o 1, dropCap := leAt bs (o + 1) 1, quota := leAt bs (o + 2) 2, period := leAt bs (o + 4) 4,
      pegOffset := leAt bs (o + 8) 4, phase := leAt bs (o + 12) 4, entry := leAt bs (o + 16) 4,
      codeFirst := leAt bs (o + 20) 4, codeLen := leAt bs (o + 24) 4, netFirst := leAt bs (o + 30) 2,
      netCount := leAt bs (o + 28) 2 }
  eachOk offs.zipIdx (fun e => do
    let o := e.1
    let c := leAt bs o 1
    need (decide (1 ≤ c) && decide (c ≤ 63) && !((offs.take e.2).any (fun q => leAt bs q 1 == c))) o
    need (leAt bs (o + 1) 1 != 0) (o + 1)
    need (decide (leAt bs (o + 2) 2 ≤ 240)) (o + 2)
    need (decide (leAt bs (o + 16) 4 < 2 ^ 20)) (o + 16)
    need (decide (leAt bs (o + 20) 4 < 2 ^ 20)) (o + 20))
  .ok (offs.map entry)

/-- Whether two ranges of indices share one. -/
def spansMeet (a n b m : Nat) : Bool := decide (0 < n) && decide (0 < m) && decide (a < b + m) && decide (b < a + n)

/-- CODE from offset `o`: the ranges it supplies, each a first index, a count and its words; `seen` are those before. Table EDIT-2 gives an
entry and not how many there are: a section holds any number that do not overlap (DEDUCED, assumption log 53). -/
def readCode (bs : List Byte) (seen : List (Nat × Nat × Nat)) (fuel o stop : Nat) : Except Nat (List (Nat × Nat × Nat)) :=
  match fuel with
  | 0 => .ok []
  | k + 1 =>
    if o = stop then .ok []
    else
      let first := leAt bs o 4
      let n := leAt bs (o + 4) 4
      if stop < o + 8 + 4 * n then .error (o + 4)
      else if 2 ^ 20 < first + n ∨ seen.any (fun e => spansMeet first n e.1 e.2.1) then .error o
      else
        match readCode bs (seen ++ [(first, n, o + 8)]) k (o + 8 + 4 * n) stop with
        | .error e => .error e
        | .ok rest => .ok ((first, n, o + 8) :: rest)

/-- The first index and the words of the ranges of CODE; a word between them is 0. -/
def codeOfRanges (bs : List Byte) (rs : List (Nat × Nat × Nat)) : Nat × List W32 :=
  match rs with
  | [] => (0, [])
  | r :: rest =>
    let lo := rest.foldl (fun m e => min m e.1) r.1
    let hi := rs.foldl (fun m e => max m (e.1 + e.2.1)) 0
    (lo, (List.range (hi - lo)).map (fun k => match rs.find? (fun e => decide (e.1 ≤ lo + k) && decide (lo + k < e.1 + e.2.1)) with
      | some e => BitVec.ofNat 32 (leAt bs (e.2.2 + 4 * (lo + k - e.1)) 4)
      | none => 0#32))

/-- Indices gathered into ranges. -/
def runsOf (l : List Nat) : List (Nat × Nat) :=
  l.foldr (fun i acc => match acc with
    | (a, n) :: rest => if i + 1 = a then (i, n + 1) :: rest else (i, 1) :: acc
    | [] => [(i, 1)]) []

/-- The ranges between words that CODE does not supply. -/
def codeGaps (rs : List (Nat × Nat × Nat)) (lo n : Nat) : List (Nat × Nat) :=
  runsOf (((List.range n).map (fun k => lo + k)).filter (fun i => !rs.any (fun e => decide (e.1 ≤ i) && decide (i < e.1 + e.2.1))))

/-- `n` networks from offset `o`, each a count and its words, with the offset of its first word; and where they end. -/
def readNetList (bs : List Byte) (n idx o stop : Nat) : Except Nat (List (Network × Nat) × Nat) :=
  match n with
  | 0 => .ok ([], o)
  | k + 1 =>
    let cnt := leAt bs o 4
    if o + 4 ≤ stop ∧ 1 ≤ cnt ∧ cnt ≤ 4096 ∧ o + 4 + 4 * cnt ≤ stop then
      match readNetList bs k (idx + 1) (o + 4 + 4 * cnt) stop with
      | .error e => .error e
      | .ok (rest, e) =>
        .ok (({ idx := idx, words := (List.range cnt).map (fun i => BitVec.ofNat 32 (leAt bs (o + 4 + 4 * i) 4)) }, o + 4) :: rest, e)
    else .error o

/-- NET from offset `o`: entries of a first index, a count and the networks, as in CODE; `seen` are the index ranges before. -/
def readNets (bs : List Byte) (seen : List (Nat × Nat)) (fuel o stop : Nat) : Except Nat (List (Network × Nat)) :=
  match fuel with
  | 0 => .ok []
  | k + 1 =>
    if o = stop then .ok []
    else
      let first := leAt bs o 4
      let n := leAt bs (o + 4) 4
      if stop < o + 8 + n then .error (o + 4)
      else if 65536 < first + n ∨ seen.any (fun e => spansMeet first n e.1 e.2) then .error o
      else
        match readNetList bs n first (o + 8) stop with
        | .error e => .error e
        | .ok (l, next) =>
          match readNets bs (seen ++ [(first, n)]) k next stop with
          | .error e => .error e
          | .ok rest => .ok (l ++ rest)

/-- BOUND. -/
def readBounds (bs : List Byte) (secs : List Sec) : Except Nat (List BoundEntry) := do
  let offs ← entryOffs secs 4 0 8
  .ok (offs.map (fun o => { word := leAt bs o 4, count := leAt bs (o + 4) 4 }))

/-- OWN: areas Q and QW, within the area; user contexts (R36). -/
def readOwns (bs : List Byte) (secs : List Sec) : Except Nat (List OwnEntry) := do
  let offs ← entryOffs secs 5 0 12
  eachOk offs (fun o => do
    let c := leAt bs o 1
    let a := leAt bs (o + 1) 1
    need (decide (1 ≤ c) && decide (c ≤ 63)) o
    need (a == 1 || a == 3) (o + 1)
    need (zeros bs (o + 2) 2) (o + 2)
    need (decide (leAt bs (o + 4) 4 + leAt bs (o + 8) 4 ≤ areaLen 0 a)) (o + 4))
  .ok (offs.map (fun o =>
    { ctx := leAt bs o 1, area := leAt bs (o + 1) 1, first := leAt bs (o + 4) 4, count := leAt bs (o + 8) 4 }))

/-- IND. -/
def readInds (bs : List Byte) (secs : List Sec) : Except Nat (List IndEntry) := do
  let offs ← entryOffs secs 6 0 16
  eachOk offs (fun o => do
    need (decide (leAt bs o 1 < 2)) o
    need (zeros bs (o + 1) 1) (o + 1))
  .ok (offs.map (fun o =>
    { place := leAt bs o 1, net := leAt bs (o + 2) 2, word := leAt bs (o + 4) 4, addr := leAt bs (o + 8) 4,
      len := leAt bs (o + 12) 4 }))

/-- REL. -/
def readRels (bs : List Byte) (secs : List Sec) : Except Nat (List RelEntry) := do
  let offs ← entryOffs secs 7 0 12
  eachOk offs (fun o => do
    need (decide (leAt bs o 1 < 2)) o
    need (decide (leAt bs (o + 1) 1 < 3)) (o + 1))
  .ok (offs.map (fun o =>
    { place := leAt bs o 1, kind := leAt bs (o + 1) 1, net := leAt bs (o + 2) 2, word := leAt bs (o + 4) 4,
      first := leAt bs (o + 8) 2, count := leAt bs (o + 10) 2 }))

/-- Rows of a retentive range (R52). -/
def retRowCount (area len : Nat) : Nat := ceilDiv len (if areaIsBit area then 512 else 32)

/-- Retentive ranges laid into the store in declaration order (R52). -/
def layRets (l : List (Nat × Nat × Nat)) (row : Nat) : List RetRange :=
  match l with
  | [] => []
  | (a, f, n) :: rest => { area := a, first := f, len := n, row := row } :: layRets rest (row + retRowCount a n)

/-- RET. -/
def readRets (bs : List Byte) (secs : List Sec) : Except Nat (List RetRange) := do
  let offs ← entryOffs secs 8 0 12
  eachOk offs (fun o => do
    let a := leAt bs o 1
    need (a == 4 || a == 5 || a == 6) o
    need (zeros bs (o + 1) 3) (o + 1))
  .ok (layRets (offs.map (fun o => (leAt bs o 1, leAt bs (o + 4) 4, leAt bs (o + 8) 4))) 0)

/-- DB: size and blocks; a block lies in the DB area. -/
def readDb (bs : List Byte) (secs : List Sec) : Except Nat (Nat × List DbBlock) := do
  let offs ← entryOffs secs 9 4 16
  let size := if (secOf secs 9).isSome then leAt bs (secOff secs 9) 4 else 0
  need (decide (size ≤ 786432)) (secOff secs 9)
  eachOk offs (fun o => do
    need (zeros bs (o + 2) 2) (o + 2)
    need (decide (leAt bs (o + 4) 4 + leAt bs (o + 8) 4 ≤ size)) (o + 4))
  .ok (size, offs.map (fun o =>
    { num := leAt bs o 2, first := leAt bs (o + 4) 4, len := leAt bs (o + 8) 4, layout := leAt bs (o + 12) 4 }))

/-- MIG (Table EDIT-6). -/
def readMigs (bs : List Byte) (secs : List Sec) : Except Nat (List MigEntry) := do
  let offs ← entryOffs secs 10 0 16
  .ok (offs.map (fun o =>
    { op := leAt bs o 1, conv := leAt bs (o + 1) 1, srcBlock := leAt bs (o + 2) 2, srcWord := leAt bs (o + 4) 4,
      dstBlock := leAt bs (o + 8) 2, count := leAt bs (o + 10) 2, dstWord := leAt bs (o + 12) 4 }))

/-- UNIT (Table EDIT-5). -/
def readUnits (bs : List Byte) (secs : List Sec) : Except Nat (List UnitEntry) := do
  let offs ← entryOffs secs 11 0 20
  eachOk offs (fun o => need (zeros bs (o + 2) 2) (o + 2))
  .ok (offs.map (fun o =>
    { kind := leAt bs o 1, ctx := leAt bs (o + 1) 1, oldFirst := leAt bs (o + 4) 4, oldCount := leAt bs (o + 8) 4,
      newFirst := leAt bs (o + 12) 4, newCount := leAt bs (o + 16) 4 }))

/-- READ entries from offset `o` with their offsets; `fuel` bounds their number. -/
def readReads (bs : List Byte) (fuel o stop : Nat) : Except Nat (List (ReadEntry × Nat)) :=
  match fuel with
  | 0 => .ok []
  | k + 1 =>
    if o = stop then .ok []
    else
      let c := leAt bs o 1
      let n := leAt bs (o + 2) 2
      let pages := (List.range n).map (fun i => leAt bs (o + 4 + 2 * i) 2)
      if o + 4 + 2 * n ≤ stop ∧ 1 ≤ c ∧ c ≤ 63 ∧ zeros bs (o + 1) 1 ∧ pages.all (fun p => decide (p / 4096 < 8)) then
        match readReads bs k (o + 4 + 2 * n) stop with
        | .error e => .error e
        | .ok rest => .ok (({ ctx := c, pages := sortBy (fun a b => decide (a ≤ b)) pages.eraseDups }, o) :: rest)
      else .error o

/-- An INIT entry is legal (R132): M, MW or DB, a multiple of 16 in M, within its area or the declared DB. -/
def initOk (db addr n : Nat) : Bool :=
  let a := ptArea addr
  if a = 4 then ptIndex addr % 16 == 0 && decide (addr < 2 ^ 24) && decide (ptIndex addr + 16 * n ≤ areaLen db 4)
  else if a = 5 ∨ a = 6 then decide (addr < 2 ^ 24) && decide (ptIndex addr + n ≤ areaLen db a)
  else false

/-- INIT entries from offset `o`. The DB size they are held against is known to the caller. -/
def readInits (bs : List Byte) (db fuel o stop : Nat) : Except Nat (List InitEntry) :=
  match fuel with
  | 0 => .ok []
  | k + 1 =>
    if o = stop then .ok []
    else
      let addr := leAt bs o 4
      let n := leAt bs (o + 4) 4
      if o + 8 + 2 * n ≤ stop ∧ initOk db addr n then
        match readInits bs db k (o + 8 + 2 * n) stop with
        | .error e => .error e
        | .ok rest => .ok ({ addr := addr, words := (List.range n).map (fun i => leAt bs (o + 8 + 2 * i) 2) } :: rest)
      else .error o

/-- A container of kinds 1 to 4 read: a FORMAT failure's offset, or its parts; the sections of kind 4 are read apart. `db` is the
DB size in force where the container has no DB section. -/
def parse (bs : List Byte) (db : Nat) : Except Nat Parsed := do
  let secs ← headerOk bs
  let kind := leAt bs 6 1
  let ctxs ← readCtxs bs secs
  let span (ty : Nat) : Nat × Nat := match secOf secs ty with
    | some x => (x.off, x.off + x.len)
    | none => (0, 0)
  let codeAt ← readCode bs [] ((span 2).2 - (span 2).1) (span 2).1 (span 2).2
  let code := codeOfRanges bs codeAt
  let nets ← readNets bs [] ((span 3).2 - (span 3).1) (span 3).1 (span 3).2
  let bounds ← readBounds bs secs
  let owns ← readOwns bs secs
  let inds ← readInds bs secs
  let rels ← readRels bs secs
  let rets ← readRets bs secs
  let dbs ← readDb bs secs
  let migs ← readMigs bs secs
  let units ← readUnits bs secs
  let reads ← readReads bs ((span 13).2 - (span 13).1) (span 13).1 (span 13).2
  let size := if (secOf secs 9).isSome then dbs.1 else if kind = 2 then db else 0
  let inits ← readInits bs size ((span 14).2 - (span 14).1) (span 14).1 (span 14).2
  .ok { kind := kind, flags := leAt bs 7 1, parts := leAt bs 8 1, baseHash := leAt bs 0x30 48, keyId := leAt bs 0x90 16,
        signed := bs.take (0xC0 + 16 * leAt bs 10 2), secs := secs,
        codeAt := codeAt, netAt := nets.map (fun e => (e.1.idx, e.2)), readAt := reads.map (fun e => (e.1.ctx, e.2)),
        prog :=
          { hash := 0, progId := leAt bs 0x10 16, version := leAt bs 0x20 4, ctxs := ctxs, codeFirst := code.1,
            code := code.2, nets := nets.map Prod.fst, bounds := bounds, owns := owns, inds := inds, rels := rels, rets := rets,
            dbSize := dbs.1, dbBlocks := dbs.2, reads := reads.map Prod.fst, inits := inits,
            dead := codeGaps codeAt code.1 code.2.length },
        migs := migs, units := units }

end Sys2Proof.Machine
end

