-- ==== Sys2Proof/Machine/Flags.lean ====
section
/-!
DEFINITION. The results of integer operations with the BA they leave (R106, R107), and of comparisons.
-/

namespace Sys2Proof.Machine

/-- Whether the width is 16 bits. -/
def iw16 (w : IWidth) : Bool :=
  match w with
  | .s16 => true
  | .u16 => true
  | .i32 => false

/-- The low 16 bits extended as the width directs; 32-bit values as they are (R107). -/
def iwExtend (w : IWidth) (v : W32) : W32 :=
  match w with
  | .s16 => (v.setWidth 16).signExtend 32
  | .u16 => (v.setWidth 16).setWidth 32
  | .i32 => v

/-- The number of bits an operation works on. -/
def iwBits (w : IWidth) : Nat := if iw16 w then 16 else 32

/-- A value as the signedness of DIV, MOD and CMP reads it (R107); `v` is extended already. -/
def iwInt (w : IWidth) (v : W32) : Int :=
  match w with
  | .u16 => (v.toNat : Int)
  | _ => v.toInt

/-- The least value of a signed width. -/
def iwMin (w : IWidth) : Int := if iw16 w then -32768 else -2147483648

/-- DIV (R106, R107): the quotient truncated toward zero and BA; 0 and 1 on a zero divisor; the most negative value and 1 on
quotient overflow. -/
def divResult (w : IWidth) (a b : W32) : W32 × Bool :=
  if iwInt w b = 0 then (0#32, true)
  else if w ≠ .u16 ∧ iwInt w a = iwMin w ∧ iwInt w b = -1 then (BitVec.ofInt 32 (iwMin w), true)
  else (iwExtend w (BitVec.ofInt 32 ((iwInt w a).tdiv (iwInt w b))), false)

/-- MOD (R106, R107): the remainder with the sign of Wd and BA; Wd unchanged (`old`) and 1 on a zero divisor; 0 and 1 where
the quotient overflows. -/
def modResult (w : IWidth) (old a b : W32) : W32 × Bool :=
  if iwInt w b = 0 then (old, true)
  else if w ≠ .u16 ∧ iwInt w a = iwMin w ∧ iwInt w b = -1 then (0#32, true)
  else (iwExtend w (BitVec.ofInt 32 ((iwInt w a).tmod (iwInt w b))), false)

/-- The shift or rotate count: the source modulo 16 or 32 (R107). -/
def shiftCount (w : IWidth) (b : W32) : Nat := b.toNat % iwBits w

/-- SHL: zero fill, cut to the width. -/
def shlResult (w : IWidth) (a b : W32) : W32 := iwExtend w (a <<< shiftCount w b)

/-- SHR: a logical shift right of the operand taken under the width rule, computed in 32 bits and cut to the width
(R107; assumption log 8). -/
def shrResult (w : IWidth) (a b : W32) : W32 := iwExtend w (a >>> shiftCount w b)

/-- ROL within the width. -/
def rolResult (w : IWidth) (a b : W32) : W32 :=
  if iw16 w then iwExtend w (((a.setWidth 16).rotateLeft (shiftCount w b)).setWidth 32) else a.rotateLeft (shiftCount w b)

/-- ROR within the width. -/
def rorResult (w : IWidth) (a b : W32) : W32 :=
  if iw16 w then iwExtend w (((a.setWidth 16).rotateRight (shiftCount w b)).setWidth 32)
  else a.rotateRight (shiftCount w b)

/-- The six conditions of CMP and FCMP. -/
inductive Cond where
  | eq
  | ne
  | lt
  | le
  | gt
  | ge
deriving DecidableEq, Repr

/-- A condition on an ordering. -/
def Cond.holds (k : Cond) (o : Ordering) : Bool :=
  match k, o with
  | .eq, .eq => true
  | .ne, .lt => true
  | .ne, .gt => true
  | .lt, .lt => true
  | .le, .lt => true
  | .le, .eq => true
  | .gt, .gt => true
  | .ge, .gt => true
  | .ge, .eq => true
  | _, _ => false

/-- CMP (R107). -/
def cmpResult (k : Cond) (w : IWidth) (a b : W32) : Bool := k.holds (compare (iwInt w a) (iwInt w b))

/-- FCMP: an unordered comparison holds for NE only (R108). -/
def fcmpResult (k : Cond) (o : Option Ordering) : Bool :=
  match o with
  | some o => k.holds o
  | none => k == .ne

/-- The decimal digits of a BCD value of `n` digits, least significant first, or none where a digit is invalid. -/
def bcdValue (n v : Nat) : Option Nat :=
  match n with
  | 0 => some 0
  | k + 1 =>
    if v % 16 < 10 then
      match bcdValue k (v / 16) with
      | some r => some (v % 16 + 10 * r)
      | none => none
    else none

/-- The BCD code of `v` on `n` digits. -/
def bcdCode (n v : Nat) : Nat :=
  match n with
  | 0 => 0
  | k + 1 => v % 10 + 16 * bcdCode k (v / 10)

/-- BTOI: w = 0b01 takes 4 digits and 0b10 takes 8 (R106). -/
def btoiResult (w : IWidth) (src : W32) : W32 × Bool :=
  let n := if iw16 w then 4 else 8
  match bcdValue n (src.toNat % 16 ^ n) with
  | some v => (BitVec.ofNat 32 v, false)
  | none => (0#32, true)

/-- ITOB: 0 and BA = 1 where the source is below 0 or too large (R106). -/
def itobResult (w : IWidth) (src : W32) : W32 × Bool :=
  let n := if iw16 w then 4 else 8
  let v := if iw16 w then (src.toNat : Int) else src.toInt
  if v < 0 ∨ (10 : Int) ^ n ≤ v then (0#32, true) else (BitVec.ofNat 32 (bcdCode n v.toNat), false)

end Sys2Proof.Machine
end

