-- ==== Sys2Proof/Machine/Operands.lean ====
section
/-!
DEFINITION. Operand forms of core instructions (R95, R96, R107, R111), the shot's view (R42), and the write into the shot
buffer with its checks (R34, R37, R42, R54, R56, R57).
-/

namespace Sys2Proof.Machine

/-! ### The shot's view -/

/-- A point in the shot's view: its own written value, else the snapshot's (R35, R42). -/
def State.viewPt (s : State) (sh : Shot) (pt : Nat) : Nat :=
  match tfind sh.writes pt with
  | some v => v
  | none => if sh.pins.any (fun p => p.page == ptPage pt) then readPt sh.snap pt else s.committed pt

/-- The points that an operand of `n` 16-bit units at `pt` covers, lowest first (R33, R96): bits of a bit area, words of a
word area. -/
def operandPts (pt n : Nat) : List Nat :=
  (List.range (if areaIsBit (ptArea pt) then 16 * n else n)).map (fun k => pt + k)

/-- The value of an operand of `n` 16-bit units. -/
def State.viewValue (s : State) (sh : Shot) (pt n : Nat) : Nat :=
  let w := if areaIsBit (ptArea pt) then 1 else 16
  (operandPts pt n).foldr (fun p acc => s.viewPt sh p + 2 ^ w * acc) 0

/-- The point values that store `v` as an operand of `n` units. -/
def storeList (pt n v : Nat) : List (Nat × Nat) :=
  let w := if areaIsBit (ptArea pt) then 1 else 16
  (operandPts pt n).zipIdx.map (fun e => (e.1, v / 2 ^ (w * e.2) % 2 ^ w))

/-! ### Checks of an operand -/

/-- The alignment of R96: a multiple of the width in points. -/
def aligned (pt n : Nat) : Bool :=
  ptIndex pt % (if areaIsBit (ptArea pt) then 16 * n else n) == 0

/-- Whether an operand's points lie in its area. -/
def inArea (dbSize pt n : Nat) : Bool :=
  decide (ptIndex pt + (operandPts pt n).length ≤ areaLen dbSize (ptArea pt))

/-- Areas a W-format operand may read: all but DG and the reserved codes (R34, R96). -/
def readableArea (code : Nat) : Bool := decide (code ≤ 6)

/-- Areas a program may write (Table SHOT-1). -/
def writableArea (code : Nat) : Bool := code == 1 || code == 3 || code == 4 || code == 5 || code == 6

/-- The IND range of a core instruction (Table EDIT-2): the `k`-th entry at its word index. -/
def Program.indAt (p : Program) (pc k : Nat) : Option IndEntry :=
  (p.inds.filter (fun e => e.place == 0 && e.word == pc))[k]?

/-- Whether `cnt` points from `pt` lie in a declared range. -/
def IndEntry.covers (e : IndEntry) (pt cnt : Nat) : Bool :=
  decide (e.addr ≤ pt) && decide (pt + cnt ≤ e.addr + e.len) && ptArea e.addr == ptArea pt

/-- Whether context `c` owns an output point (R36). -/
def Program.owns_ (p : Program) (c pt : Nat) : Bool :=
  p.owns.any (fun o => o.ctx == c && o.area == ptArea pt && decide (o.first ≤ ptIndex pt) &&
    decide (ptIndex pt < o.first + o.count))

/-- The retentive row of a point, if it lies in a declared range (R52). -/
def Program.rowOf (p : Program) (pt : Nat) : Option Nat :=
  match p.rets.find? (fun r => r.area == ptArea pt && decide (r.first ≤ ptIndex pt) &&
      decide (ptIndex pt < r.first + r.len)) with
  | some r => some (r.row + (ptIndex pt - r.first) / (if areaIsBit r.area then 512 else 32))
  | none => none

/-- The address an index register and an offset name; none where the index leaves the 20-bit range. -/
def indirectAddr (a : PointAddr) (off : Int) : Option Nat :=
  let ix := (ptIndex a.toNat : Int) + off
  if 0 ≤ ix ∧ ix < 2 ^ 20 then some (mkPt (ptArea a.toNat) ix.toNat) else none

/-- A memory operand of `n` units found legal: its address. A direct operand that the loader refuses belongs to no program
(`none`); an indirect one that fails drops the shot with ADDR (R34, R96, R111). -/
def State.readOperand (s : State) (g : CoreRegs) (src : Src) (n : Nat) (real : Bool) : Option (Except DropReason Nat) :=
  let db := s.program.dbSize
  match src with
  | .dir p =>
    let pt := p.toNat
    if readableArea (ptArea pt) && aligned pt n && inArea db pt n && !(real && areaIsBit (ptArea pt)) then
      some (.ok pt) else none
  | .ind an off =>
    some (match indirectAddr g.a[an.toNat] off.toInt with
      | none => .error .addr
      | some pt =>
        let declared := match s.program.indAt g.pc.toNat 0 with
          | some e => e.covers pt (operandPts pt n).length
          | none => false
        if readableArea (ptArea pt) && aligned pt n && inArea db pt n && !(real && areaIsBit (ptArea pt)) && declared
        then .ok pt else .error .addr)
  | _ => none

/-- A store's address found legal (R34, R36, R37): areas, alignment and range as for a read, then ownership of Q and QW. -/
def State.writeOperand (s : State) (c : Nat) (g : CoreRegs) (dst : Src) (n : Nat) (real : Bool) :
    Option (Except DropReason Nat) :=
  let owned (pt : Nat) : Bool :=
    (ptArea pt != 1 && ptArea pt != 3) || (operandPts pt n).all (fun p => s.program.owns_ c p)
  match s.readOperand g dst n real, dst with
  | some (.ok pt), .dir _ => if writableArea (ptArea pt) && owned pt then some (.ok pt) else none
  | some (.ok pt), .ind _ _ =>
    some (if !writableArea (ptArea pt) then .error .addr else if owned pt then .ok pt else .error .owner)
  | r, _ => r

/-- The words an instruction occupies: one more for an extension word (R93). -/
def srcLen (src : Src) : Nat :=
  match src with
  | .dir _ => 2
  | _ => 1

/-- Units of 16 bits of an integer operand. -/
def iwUnits (w : IWidth) : Nat := if iw16 w then 1 else 2

/-- Units of 16 bits of a real operand. -/
def fwUnits (w : FWidth) : Nat :=
  match w with
  | .b32 => 2
  | .b64 => 4

/-- The source of an integer operation on 32 bits (R95, R107). `narrow` marks the operations under the width rule. -/
def State.intSrc (s : State) (sh : Shot) (g : CoreRegs) (w : IWidth) (narrow : Bool) (src : Src) :
    Option (Except DropReason W32) :=
  match src with
  | .reg r => some (.ok (if narrow then iwExtend w g.w[r.toNat] else g.w[r.toNat]))
  | .imm v => some (.ok (match w with
      | .u16 => v.setWidth 32
      | _ => v.signExtend 32))
  | _ =>
    match s.readOperand g src (iwUnits w) false with
    | some (.ok pt) => some (.ok (iwExtend w (BitVec.ofNat 32 (s.viewValue sh pt (iwUnits w)))))
    | some (.error r) => some (.error r)
    | none => none

/-- The source of a real operation: bits of precision `w`, from a register's low half for binary32 (R108). -/
def State.realSrc (s : State) (sh : Shot) (g : CoreRegs) (w : FWidth) (src : Src) : Option (Except DropReason Nat) :=
  let cut (v : Nat) : Nat := match w with
    | .b32 => v % 2 ^ 32
    | .b64 => v
  match src with
  | .reg r => if r.toNat < 8 then some (.ok (cut (g.f[r.toNat % 8]'(Nat.mod_lt _ (by decide))).toNat)) else none
  | .imm _ => none
  | _ =>
    match s.readOperand g src (fwUnits w) true with
    | some (.ok pt) => some (.ok (s.viewValue sh pt (fwUnits w)))
    | some (.error r) => some (.error r)
    | none => none

/-! ### What a core instruction does -/

/-- The answer of a core instruction: not an instruction a program can hold (the command leaves the state as it is, log 9);
a drop; new registers; new registers with points to write. -/
inductive CoreAns where
  | illegal
  | drop (r : DropReason)
  | regs (g : CoreRegs)
  | store (g : CoreRegs) (ws : List (Nat × Nat))

/-- The shot that runs core code: context `c` holds the cores, and no first-write copy is awaited. -/
def State.onCores (s : State) (c : Nat) : Option Shot :=
  match (s.ctx c).shot with
  | some sh => if s.sched.cores == some c && c != 0 && sh.phase == .core && sh.waiting.isNone then some sh else none
  | none => none

/-- Frames a new buffer page takes: the page, and a mask frame in Q and M (R42). -/
def pageFrames (page : Nat) : Nat := if page / 4096 == 1 || page / 4096 == 4 then 2 else 1

/-- Points written into the shot buffer (R42, R53). -/
def Shot.put (sh : Shot) (p : Program) (ws : List (Nat × Nat)) : Shot :=
  { sh with writes := ws.foldl (fun acc w => tset acc w.1 w.2) sh.writes,
            rows := (sh.rows ++ ws.filterMap (fun w => p.rowOf w.1)).eraseDups,
            waiting := none }

/-- The pages that writes touch and the buffer does not hold yet. -/
def Shot.newPages (sh : Shot) (ws : List (Nat × Nat)) : List Nat :=
  ((ws.map (fun w => ptPage w.1)).eraseDups).filter (fun p => !sh.buf.any (fun b => b.page == p))

/-- The version a buffer page is copied from: the snapshot's, else the committed one (R42). -/
def State.baseVer (s : State) (sh : Shot) (page : Nat) : Nat :=
  match sh.pins.find? (fun p => p.page == page) with
  | some p => p.ver
  | none => s.pageVer page

/-- Takes frames for new buffer pages and their masks. -/
def State.takePages (s : State) (sh : Shot) (pages : List Nat) : Shot :=
  { sh with buf := sh.buf ++ pages.map (fun p => { page := p, base := s.baseVer sh p }),
            masks := sh.masks ++ pages.filter (fun p => p / 4096 == 1 || p / 4096 == 4) }

/-- The code range that a jump at `pc` stays in (R112): that of the context whose range holds it; for a function block outside every
context's range, the core code (assumption log 31). -/
def Program.codeRange (p : Program) (pc : Nat) : Nat × Nat :=
  match p.ctxs.find? (fun c => decide (c.codeFirst ≤ pc) && decide (pc < c.codeFirst + c.codeLen)) with
  | some c => (c.codeFirst, c.codeFirst + c.codeLen)
  | none => (p.codeFirst, p.codeFirst + p.code.length)

/-- The quota of a context. -/
def State.quota (s : State) (c : Nat) : Nat :=
  match (s.ctx c).cfg with
  | some e => e.quota
  | none => 0

/-- Why writes cannot take place: the retentive row cap (R54), then the frame quota (R57). -/
def State.writeRefused (s : State) (c : Nat) (sh : Shot) (ws : List (Nat × Nat)) : Option DropReason :=
  let rows := (sh.rows ++ ws.filterMap (fun w => s.program.rowOf w.1)).eraseDups.length
  let need := (sh.newPages ws).foldl (fun n p => n + pageFrames p) 0
  if sh.rows.length < rows && decide (s.pn 0x605 < rows) then some .retcap
  else if need ≠ 0 && decide (s.quota c < s.framesUsed c + need) then some .quota
  else none

/-- A core write (R42): at once where the buffer holds every page; otherwise the first-write copies start and the instruction
waits for them; a write beyond the row cap or the quota drops the shot. -/
def State.coreStore (s : State) (c : Nat) (sh : Shot) (g : CoreRegs) (ws : List (Nat × Nat)) : State :=
  match s.writeRefused c sh ws with
  | some r => s.dropAndDispatch c r
  | none =>
    let pages := sh.newPages ws
    if pages.isEmpty then s.setCtx c { s.ctx c with regs := g, shot := some (sh.put s.program ws) }
    else
      let sh1 := s.takePages sh pages
      (s.setCtx c { s.ctx c with
        shot := some { sh1 with waiting := some { pages := pages, writes := ws, after := g } } }).notePool

/-- Runs a core instruction of context `c`. -/
def State.coreDo (s : State) (c : Nat) (f : CoreRegs → Shot → CoreAns) : Res :=
  match s.onCores c with
  | none => .next s
  | some sh =>
    match f (s.ctx c).regs sh with
    | .illegal => .next s
    | .drop r => .next (s.dropAndDispatch c r)
    | .regs g => .next (s.setCtx c { s.ctx c with regs := g })
    | .store g ws => .next (s.coreStore c sh g ws)

/-! ### Register writes -/

/-- PC moved on by `n` words. -/
def CoreRegs.adv (g : CoreRegs) (n : Nat) : CoreRegs := { g with pc := g.pc + BitVec.ofNat 20 n }

/-- Wd := v. -/
def CoreRegs.setW (g : CoreRegs) (d : BitVec 4) (v : W32) : CoreRegs := { g with w := g.w.set d.toNat v }

/-- An := v. -/
def CoreRegs.setA (g : CoreRegs) (d : BitVec 2) (v : PointAddr) : CoreRegs := { g with a := g.a.set d.toNat v }

/-- Fd := v; a binary32 result clears F[63:32] (R108). -/
def CoreRegs.setF (g : CoreRegs) (d : BitVec 3) (v : Nat) : CoreRegs :=
  { g with f := g.f.set d.toNat (BitVec.ofNat 64 v) }

/-- BA := b. -/
def CoreRegs.setBA (g : CoreRegs) (b : Bool) : CoreRegs := { g with ba := b }

/-- An integer operation of Wd and a source: its result and, where the operation sets BA, the new BA. -/
def State.intOp (s : State) (c : Nat) (w : IWidth) (narrow : Bool) (d : BitVec 4) (src : Src)
    (f : W32 → W32 → W32 × Option Bool) : Res :=
  s.coreDo c (fun g sh =>
    match s.intSrc sh g w narrow src with
    | none => .illegal
    | some (.error r) => .drop r
    | some (.ok b) =>
      let a := if narrow then iwExtend w g.w[d.toNat] else g.w[d.toNat]
      let r := f a b
      let g1 := g.setW d r.1
      .regs ((match r.2 with
        | some x => g1.setBA x
        | none => g1).adv (srcLen src)))

/-- A real operation of Fd and a source in precision `w`. -/
def State.realOp (s : State) (c : Nat) (w : FWidth) (d : BitVec 3) (src : Src) (f : FloatFmt → Nat → Nat → Nat) : Res :=
  s.coreDo c (fun g sh =>
    match s.realSrc sh g w src with
    | none => .illegal
    | some (.error r) => .drop r
    | some (.ok b) =>
      let a := g.f[d.toNat].toNat
      let r := match w with
        | .b32 => f .b32 (a % 2 ^ 32) b
        | .b64 => f .b64 a b
      .regs ((g.setF d r).adv (srcLen src)))

end Sys2Proof.Machine
end

