-- ==== Sys2Proof/Machine/CoreInt.lean ====
section
/-!
DEFINITION. The integer instructions of the cores (R106, R107, R109, R110, R111).
-/

namespace Sys2Proof.Machine

/-- MOV: Wd := src, cut to the width (R106, R107). -/
def execMov (c : Nat) (w : IWidth) (d : BitVec 4) (src : Src) (s : State) : Res :=
  s.intOp c w false d src (fun _ b => (iwExtend w b, none))

/-- MOV (store): memory := Wd, 16 or 32 bits (R106, R111). -/
def execMovStore (c : Nat) (w : IWidth) (d : BitVec 4) (dst : Src) (s : State) : Res :=
  s.coreDo c (fun g _ =>
    match s.writeOperand c g dst (iwUnits w) false with
    | none => .illegal
    | some (.error r) => .drop r
    | some (.ok pt) =>
      .store (g.adv (srcLen dst)) (storeList pt (iwUnits w) (g.w[d.toNat].toNat % 2 ^ iwBits w)))

/-- ADD (R106, R107). -/
def execAdd (c : Nat) (w : IWidth) (d : BitVec 4) (src : Src) (s : State) : Res :=
  s.intOp c w false d src (fun a b => (iwExtend w (a + b), none))

/-- SUB (R106, R107). -/
def execSub (c : Nat) (w : IWidth) (d : BitVec 4) (src : Src) (s : State) : Res :=
  s.intOp c w false d src (fun a b => (iwExtend w (a - b), none))

/-- MUL, low bits (R106, R107). -/
def execMul (c : Nat) (w : IWidth) (d : BitVec 4) (src : Src) (s : State) : Res :=
  s.intOp c w false d src (fun a b => (iwExtend w (a * b), none))

/-- DIV (R106, R107). -/
def execDiv (c : Nat) (w : IWidth) (d : BitVec 4) (src : Src) (s : State) : Res :=
  s.intOp c w true d src (fun a b => ((divResult w a b).1, some (divResult w a b).2))

/-- MOD (R106, R107); on a zero divisor Wd keeps its 32 bits. -/
def execMod (c : Nat) (w : IWidth) (d : BitVec 4) (src : Src) (s : State) : Res :=
  let old := (s.ctx c).regs.w[d.toNat]
  s.intOp c w true d src (fun a b => ((modResult w old a b).1, some (modResult w old a b).2))

/-- AND (R106). -/
def execAndWord (c : Nat) (w : IWidth) (d : BitVec 4) (src : Src) (s : State) : Res :=
  s.intOp c w false d src (fun a b => (iwExtend w (a &&& b), none))

/-- OR (R106). -/
def execOrWord (c : Nat) (w : IWidth) (d : BitVec 4) (src : Src) (s : State) : Res :=
  s.intOp c w false d src (fun a b => (iwExtend w (a ||| b), none))

/-- XOR (R106). -/
def execXorWord (c : Nat) (w : IWidth) (d : BitVec 4) (src : Src) (s : State) : Res :=
  s.intOp c w false d src (fun a b => (iwExtend w (a ^^^ b), none))

/-- SHL (R106, R107). -/
def execShl (c : Nat) (w : IWidth) (d : BitVec 4) (src : Src) (s : State) : Res :=
  s.intOp c w false d src (fun a b => (shlResult w a b, none))

/-- SHR (R106, R107). -/
def execShr (c : Nat) (w : IWidth) (d : BitVec 4) (src : Src) (s : State) : Res :=
  s.intOp c w true d src (fun a b => (shrResult w a b, none))

/-- ROL (R106, R107). -/
def execRol (c : Nat) (w : IWidth) (d : BitVec 4) (src : Src) (s : State) : Res :=
  s.intOp c w true d src (fun a b => (rolResult w a b, none))

/-- ROR (R106, R107). -/
def execRor (c : Nat) (w : IWidth) (d : BitVec 4) (src : Src) (s : State) : Res :=
  s.intOp c w true d src (fun a b => (rorResult w a b, none))

/-- LEA: An := Ws[23:0]; or Ak's area with its index plus the offset modulo 2^20; or the extension address; nothing is checked
(R106, R107). There is no immediate form. -/
def execLea (c : Nat) (d : BitVec 2) (src : Src) (s : State) : Res :=
  s.coreDo c (fun g _ =>
    match src with
    | .reg r => .regs ((g.setA d (g.w[r.toNat].setWidth 24)).adv 1)
    | .imm _ => .illegal
    | .ind an off =>
      let a := g.a[an.toNat]
      let ix := ((a.setWidth 20 : BitVec 20) + off.signExtend 20).setWidth 24
      .regs ((g.setA d ((a &&& 0xF00000#24) ||| ix)).adv 1)
    | .dir p => .regs ((g.setA d p).adv 2))

/-- A comparison of Wd with the source sets BA and changes no register (R106, R107). -/
def State.cmpOp (s : State) (k : Cond) (c : Nat) (w : IWidth) (d : BitVec 4) (src : Src) : Res :=
  s.coreDo c (fun g sh =>
    match s.intSrc sh g w true src with
    | none => .illegal
    | some (.error r) => .drop r
    | some (.ok b) => .regs ((g.setBA (cmpResult k w (iwExtend w g.w[d.toNat]) b)).adv (srcLen src)))

/-- CMP.EQ (R106). -/
def execCmpEq (c : Nat) (w : IWidth) (d : BitVec 4) (src : Src) (s : State) : Res := s.cmpOp .eq c w d src

/-- CMP.NE (R106). -/
def execCmpNe (c : Nat) (w : IWidth) (d : BitVec 4) (src : Src) (s : State) : Res := s.cmpOp .ne c w d src

/-- CMP.LT (R106). -/
def execCmpLt (c : Nat) (w : IWidth) (d : BitVec 4) (src : Src) (s : State) : Res := s.cmpOp .lt c w d src

/-- CMP.LE (R106). -/
def execCmpLe (c : Nat) (w : IWidth) (d : BitVec 4) (src : Src) (s : State) : Res := s.cmpOp .le c w d src

/-- CMP.GT (R106). -/
def execCmpGt (c : Nat) (w : IWidth) (d : BitVec 4) (src : Src) (s : State) : Res := s.cmpOp .gt c w d src

/-- CMP.GE (R106). -/
def execCmpGe (c : Nat) (w : IWidth) (d : BitVec 4) (src : Src) (s : State) : Res := s.cmpOp .ge c w d src

/-- BTOI and ITOB (R106). Table ISA-9 gives the digits for w = 0b01 and 0b10 and the loader takes w = 0b00 as well: its result and BA
are not stated, so they are free values and the instruction goes on (DESIGN CHOICE, assumption log 58). -/
def State.bcdOp (s : State) (c : Nat) (w : IWidth) (d : BitVec 4) (src : Src) (f : W32 → W32 × Bool) : Res :=
  if w = .s16 then
    if (s.onCores c).isNone then .next s
    else
      let (v, t) := s.draw
      t.intOp c w false d src (fun _ _ => (BitVec.ofNat 32 v, some (bit v 32)))
  else s.intOp c w false d src (fun _ b => ((f b).1, some (f b).2))

/-- BTOI: Wd := binary value of a BCD source (R106). -/
def execBtoi (c : Nat) (w : IWidth) (d : BitVec 4) (src : Src) (s : State) : Res := s.bcdOp c w d src (btoiResult w)

/-- ITOB: Wd := BCD of the source (R106). -/
def execItob (c : Nat) (w : IWidth) (d : BitVec 4) (src : Src) (s : State) : Res := s.bcdOp c w d src (itobResult w)

/-! ### CRD (R110) -/

/-- Whether a network's words name a cell absolutely; `skip` marks an extension word, which follows every T-format word but
CRES (R97). -/
def namesCell (counter : Bool) (cell : Nat) (ws : List W32) (skip : Bool) : Bool :=
  match ws with
  | [] => false
  | w :: rest =>
    let v := w.toNat
    let op := bits v 29 27
    if skip then namesCell counter cell rest false
    else
      (bits v 31 30 == 2 && (if counter then decide (4 ≤ op) else decide (1 ≤ op) && decide (op ≤ 3)) && !bit v 26 &&
        bits v 25 13 == cell) || namesCell counter cell rest (bits v 31 30 == 2 && op != 7)

/-- Whether context `c` owns a timer (`kind` false) or counter cell: a T-format instruction of one of its networks names it
absolutely, or it lies in a relative range declared for one of them (R102). -/
def Program.ownsCell (p : Program) (netFirst netCount : Nat) (counter : Bool) (cell : Nat) : Bool :=
  let mine (n : Nat) : Bool := decide (netFirst ≤ n) && decide (n < netFirst + netCount)
  p.nets.any (fun n => mine n.idx && namesCell counter cell n.words false) ||
    p.rels.any (fun r => r.place == 1 && mine r.net && r.kind == (if counter then 2 else 1) &&
      decide (r.first ≤ cell) && decide (cell < r.first + r.count))

/-- Whether a context owns a cell in the active program. -/
def State.ownsCell (s : State) (c : Nat) (counter : Bool) (cell : Nat) : Bool :=
  match (s.ctx c).cfg with
  | none => false
  | some e => s.program.ownsCell e.netFirst e.netCount counter cell

/-- The timer cell in the shot's view. -/
def State.viewTimer (s : State) (sh : Shot) (cell : Nat) : TimerCell :=
  match tfind sh.cells.timers cell with
  | some t => t
  | none => tget TimerCell.init s.img.cells.timers cell

/-- The counter cell in the shot's view. -/
def State.viewCounter (s : State) (sh : Shot) (cell : Nat) : CounterCell :=
  match tfind sh.cells.counters cell with
  | some t => t
  | none => tget CounterCell.init s.img.cells.counters cell

/-- The edge bit in the shot's view. -/
def State.viewEdge (s : State) (sh : Shot) (e : Nat) : Bool :=
  match tfind sh.cells.edges e with
  | some b => b
  | none => tget false s.img.cells.edges e

/-- CRD: ET of a timer in µs or CV of a counter in the shot's view; a register form that names a cell the context does not own
drops the shot with ADDR, an immediate one belongs to no program (R110). -/
def execCrd (c : Nat) (d : BitVec 4) (src : Src) (s : State) : Res :=
  s.coreDo c (fun g sh =>
    let go (v : Nat) (viaReg : Bool) : CoreAns :=
      let counter := bit v 15
      let cell := v % 8192
      if bits v 14 13 = 0 && s.ownsCell c counter cell then
        .regs ((g.setW d (if counter then BitVec.ofInt 32 (s.viewCounter sh cell).cv
                          else BitVec.ofNat 32 (s.viewTimer sh cell).et)).adv 1)
      else if viaReg then .drop .addr else .illegal
    match src with
    | .reg r => go (g.w[r.toNat].toNat % 65536) true
    | .imm v => go v.toNat false
    | _ => .illegal)

/-! ### BMOV (R109) -/

/-- The most words a unit moves. -/
def bmovUnit : Nat := 188

/-- Adds words to the index of a point address, modulo 2^20. -/
def addIndex (a : PointAddr) (n : Nat) : PointAddr :=
  BitVec.ofNat 24 (mkPt (ptArea a.toNat) ((ptIndex a.toNat + n) % 2 ^ 20))

/-- One unit of BMOV: the whole remaining range is checked, then at most 188 words are copied; As, Ad and the count describe
what remains; the PC moves on when the count is 0 (R109, R125). -/
def execBmov (c : Nat) (w : IWidth) (d : BitVec 4) (asrc : BitVec 2) (adst : BitVec 2) (s : State) : Res :=
  s.coreDo c (fun g sh =>
    let cnt := if iw16 w then g.w[d.toNat].toNat % 65536 else g.w[d.toNat].toNat
    let rest (n : Nat) : W32 :=
      if iw16 w then (g.w[d.toNat] &&& 0xFFFF0000#32) ||| BitVec.ofNat 32 n else BitVec.ofNat 32 n
    let src := g.a[asrc.toNat].toNat
    let dst := g.a[adst.toNat].toNat
    let db := s.program.dbSize
    let wordArea (code : Nat) : Bool := code == 2 || code == 3 || code == 5 || code == 6
    let declared (k pt : Nat) : Bool := match s.program.indAt g.pc.toNat k with
      | some e => e.covers pt cnt
      | none => false
    if cnt = 0 then .regs (g.adv 1)
    else if !(wordArea (ptArea src) && wordArea (ptArea dst) && ptArea dst != 2 &&
        decide (ptIndex src + cnt ≤ areaLen db (ptArea src)) && decide (ptIndex dst + cnt ≤ areaLen db (ptArea dst)) &&
        declared 0 src && declared 1 dst) then .drop .addr
    else if ptArea dst == 3 && !((List.range cnt).all (fun k => s.program.owns_ c (dst + k))) then .drop .owner
    else
      let n := min cnt bmovUnit
      let down := ptArea src == ptArea dst && decide (src < dst) && decide (dst < src + cnt)
      let from_ := if down then cnt - n else 0
      let ws := (List.range n).map (fun k => (dst + from_ + k, s.viewPt sh (src + from_ + k)))
      let g1 := g.setW d (rest (cnt - n))
      let g2 := if down then g1
                else (g1.setA asrc (addIndex g.a[asrc.toNat] n)).setA adst (addIndex g.a[adst.toNat] n)
      .store (if cnt = n then g2.adv 1 else g2) ws)

/-- The first-write copy that a write of context `c` waits for is done. When all are, the instruction completes if the context
still holds the cores, and is restarted from its beginning otherwise (R42, R125). -/
def execFirstWriteCopyDone (c : Nat) (s : State) : Res :=
  match (s.ctx c).shot with
  | none => .next s
  | some sh =>
    match sh.waiting with
    | none => .next s
    | some wt =>
      match wt.pages with
      | _ :: p :: more =>
        .next (s.setCtx c { s.ctx c with shot := some { sh with waiting := some { wt with pages := p :: more } } })
      | _ =>
        if s.sched.cores == some c then
          .next (s.setCtx c { s.ctx c with regs := wt.after, shot := some (sh.put s.program wt.writes) })
        else .next (s.setCtx c { s.ctx c with shot := some { sh with waiting := none } })

end Sys2Proof.Machine
end

