-- ==== Sys2Proof/Machine/CodeWords.lean ====
section
/-!
DEFINITION. Core instruction words as the loader reads them (R93, R95-R98, R106), with the worst-case cost of each (R124).
-/

namespace Sys2Proof.Machine

/-- Where control goes after a core instruction (R112, R113). -/
inductive Flow where
  | next
  | jmp (t : Nat)
  | jcc (t : Nat)
  | call (t : Nat)
  | ret
deriving DecidableEq, Repr

/-- The memory operand of a core instruction: none, a direct one of `n` units of 16 bits, one under an IND entry, or the two
ranges of a BMOV. -/
inductive MemUse where
  | none
  | dir (pt n : Nat)
  | ind
  | block
deriving DecidableEq, Repr

/-- What else the loader asks of an instruction. -/
inductive Extra where
  | none
  | crd (cell : Nat)
  | junction (first count : Nat)
  | urgent (bay ch : Nat)
deriving DecidableEq, Repr

/-- A core instruction as the loader reads it: words occupied, flow, memory operand, whether it stores, whether the operand is a
real one, whether it is a DIAG, and its worst-case CCLK cycles without those of a junction, of the units of a BMOV or of a
callee (R124). -/
structure CoreWord where
  len : Nat
  flow : Flow
  mem : MemUse
  stores : Bool
  real : Bool
  diag : Bool
  extra : Extra
  cost : Nat
deriving DecidableEq, Repr

/-! ### W format -/

/-- The source modes of Table ISA-9 for an opcode; an opcode with none is reserved. -/
def wMode (op m : Nat) : Bool :=
  if op = 0x02 ∨ op = 0x21 then decide (2 ≤ m)
  else if op = 0x0F then m != 1
  else if (1 ≤ op ∧ op ≤ 0x0E) ∨ (0x10 ≤ op ∧ op ≤ 0x15) ∨ op = 0x1B ∨ op = 0x1C then true
  else if 0x18 ≤ op ∧ op ≤ 0x1A then m == 0
  else if op = 0x1D then decide (m ≤ 1)
  else if op = 0x20 ∨ (0x22 ≤ op ∧ op ≤ 0x28) ∨ (0x2A ≤ op ∧ op ≤ 0x2F) then m != 1
  else if op = 0x30 then m == 2
  else false

/-- The real operations of Table ISA-9. -/
def wReal (op : Nat) : Bool := (decide (0x18 ≤ op) && decide (op ≤ 0x1A)) || (decide (0x20 ≤ op) && decide (op < 0x30))

/-- The register fields are within their files: F0-F7 for reals, A0-A3 for LEA (R95). -/
def wRegsOk (op d m src : Nat) : Bool :=
  let dOk := if op = 0x0F then decide (d < 4)
    else if op = 0x18 ∨ op = 0x1A ∨ (0x20 ≤ op ∧ op < 0x30) then decide (d < 8) else true
  let sF := op == 0x19 || op == 0x1A || (decide (0x20 ≤ op) && decide (op < 0x30))
  let sOk := if m = 0 then decide (src < (if sF then 8 else 16))
    else if m = 3 then src == 0
    else if op = 0x30 then src % 4096 == 0
    else if op = 0x1D then bits src 14 13 == 0
    else true
  dOk && sOk

/-- Base costs of Table ISA-16, CCLK; for BMOV the worst case of one unit (R124). -/
def wBase (op w : Nat) : Nat :=
  if op = 0x05 ∨ (0x18 ≤ op ∧ op ≤ 0x1A) then 3
  else if op = 0x06 ∨ op = 0x07 then (if w < 2 then 12 else 18)
  else if 0x1B ≤ op ∧ op ≤ 0x1D then 6
  else if op = 0x22 ∨ op = 0x23 then (if w = 2 then 4 else 5)
  else if op = 0x24 then (if w = 2 then 4 else 6)
  else if op = 0x25 then (if w = 2 then 14 else 28)
  else if op = 0x26 then (if w = 2 then 16 else 32)
  else if 0x2A ≤ op ∧ op ≤ 0x2F then 2
  else if op = 0x30 then 800
  else 1

/-- A W-format word and the word after it; none where the encoding is refused (R93, R95, R106, R109, R110). -/
def decodeW (v ext : Nat) : Option CoreWord :=
  let op := bits v 29 24
  let d := bits v 23 20
  let w := bits v 19 18
  let m := bits v 17 16
  let src := v % 65536
  let real := wReal op
  let wOk := if real then decide (2 ≤ w) else decide (w ≤ 2)
  let extOk := m != 3 || decide (ext < 2 ^ 24)
  if wMode op m && wOk && wRegsOk op d m src && extOk then
    let n := if real then (if w = 2 then 2 else 4) else if w < 2 then 1 else 2
    let lea := op == 0x0F
    let bmov := op == 0x30
    let crd := op == 0x1D
    let mem := if lea || crd then MemUse.none
      else if bmov then MemUse.block
      else if m = 3 then MemUse.dir ext n
      else if m = 2 then MemUse.ind
      else MemUse.none
    let len := if m = 3 then 2 else 1
    let touch := if mem == .none || bmov then 0 else 8
    some { len := len, flow := .next, mem := mem, stores := op == 0x02 || op == 0x21 || bmov, real := real, diag := false,
           extra := if crd && m == 1 then .crd src else .none,
           cost := if bmov then 804 else wBase op w + touch + 4 * len }
  else none

/-! ### C format -/

/-- A C-format word (R98); none where the encoding is refused. -/
def decodeC (v : Nat) : Option CoreWord :=
  let op := bits v 29 26
  let t := v % 2 ^ 20
  let plain (flow : Flow) (cost : Nat) : CoreWord :=
    { len := 1, flow := flow, mem := .none, stores := false, real := false, diag := false, extra := .none, cost := cost }
  let far := bits v 25 20 == 0
  match op with
  | 1 => if far then some (plain (.jmp t) 14) else none
  | 2 => if far then some (plain (.jcc t) 14) else none
  | 3 => if far then some (plain (.jcc t) 14) else none
  | 4 => if far then some (plain (.call t) 20) else none
  | 5 => if v % 2 ^ 26 = 0 then some (plain .ret 18) else none
  | 6 => some { plain .next 4 with extra := .junction (v % 65536) (bits v 25 16 + 1) }
  | 7 =>
    let w := bits v 21 20
    let wide := w == 2
    if (w == 0 || wide) && (if bit v 19 then bits v 16 13 == 0 else bits v 18 13 == 0) then
      some { plain .next 13 with
        mem := if bit v 19 then .ind else .dir (mkPt 7 (v % 8192)) (if wide then 2 else 1), diag := true }
    else none
  | 8 =>
    if bits v 25 21 = 0 ∧ v % 65536 = 0 then some { plain .next 8 with extra := .urgent (bits v 20 20) (bits v 19 16) }
    else none
  | _ => none

/-- A core instruction from its word and the next one: W and C formats only (R90). -/
def decodeCore (v ext : Nat) : Option CoreWord :=
  match bits v 31 30 with
  | 1 => decodeW v ext
  | 3 => decodeC v
  | _ => none

/-- Whether a word, legal or not, is followed by an extension word (Table ISA-2). -/
def coreHasExt (v : Nat) : Bool := bits v 31 30 == 1 && bits v 17 16 == 3

/-- Core code from index `pc` on, but for the words that hold none: each instruction's index with what it is, none where the encoding is
refused. -/
def scanCode (dead : Nat → Bool) (pc : Nat) (ws : List W32) (skip : Bool) : List (Nat × Option CoreWord) :=
  match ws with
  | [] => []
  | w :: rest =>
    if skip || dead pc then scanCode dead (pc + 1) rest false
    else
      let ext := match rest with
        | e :: _ => if dead (pc + 1) then 2 ^ 32 else e.toNat
        | [] => 2 ^ 32
      (pc, decodeCore w.toNat ext) :: scanCode dead (pc + 1) rest (coreHasExt w.toNat)

/-- A word that holds no code of the program. -/
def Program.isDead (p : Program) (i : Nat) : Bool := p.dead.any (fun d => decide (d.1 ≤ i) && decide (i < d.1 + d.2))

/-- The instructions of a program's core code. -/
def Program.scan (p : Program) : List (Nat × Option CoreWord) := scanCode p.isDead p.codeFirst p.code false

/-- The instructions that decode. -/
def Program.instrs (p : Program) : List (Nat × CoreWord) :=
  p.scan.filterMap (fun e => match e.2 with
    | some k => some (e.1, k)
    | none => none)

/-- The instruction at a word index. -/
def instrAt (is : List (Nat × CoreWord)) (pc : Nat) : Option CoreWord := tfind is pc

/-! ### Paths -/

/-- The indices that may follow an instruction; a call's target only where `calls`. -/
def CoreWord.succs (k : CoreWord) (pc : Nat) (calls : Bool) : List Nat :=
  match k.flow with
  | .next => [pc + k.len]
  | .jmp t => [t]
  | .jcc t => [t, pc + k.len]
  | .call t => if calls then [t, pc + k.len] else [pc + k.len]
  | .ret => []

/-- The indices that may follow, with what the way there costs: a jump not taken costs its base of 1 and its fetch (R124). -/
def CoreWord.edges (k : CoreWord) (pc : Nat) : List (Nat × Nat) :=
  match k.flow with
  | .jcc t => [(t, k.cost), (pc + k.len, 5)]
  | _ => (k.succs pc false).map (fun t => (t, k.cost))

/-- One round of reachability: the instructions that follow those already reached. -/
def reachRound (is : List (Nat × CoreWord)) (calls : Bool) (seen : List Nat) : List Nat :=
  let more := seen.flatMap (fun pc => match instrAt is pc with
    | some k => k.succs pc calls
    | none => [])
  (seen ++ more.filter (fun t => (instrAt is t).isSome)).eraseDups

/-- `n` rounds of reachability. -/
def reachN (is : List (Nat × CoreWord)) (calls : Bool) (n : Nat) (seen : List Nat) : List Nat :=
  match n with
  | 0 => seen
  | k + 1 =>
    let next := reachRound is calls seen
    if next.length = seen.length then seen else reachN is calls k next

/-- The instructions reachable from `start`, in ascending order. -/
def reachFrom (is : List (Nat × CoreWord)) (calls : Bool) (start : Nat) : List (Nat × CoreWord) :=
  let seen := reachN is calls (is.length + 1) (if (instrAt is start).isSome then [start] else [])
  is.filter (fun e => seen.contains e.1)

end Sys2Proof.Machine
end

