-- ==== Sys2Proof/Machine/TmrOps.lean ====
section
/-!
DEFINITION. The mismatch record (R371), the count of differences within 1 s (R360, R366) and what a differing truss lane does.
-/

namespace Sys2Proof.Machine

/-- tmr.mode. -/
def modeCode (m : ExecMode) : Nat :=
  match m with
  | .triple => 0
  | .dual => 1
  | .split => 2

/-- The 32 bytes of a mismatch record (Table TMR-5). -/
def Mismatch.bytes (m : Mismatch) : List Byte :=
  leBytes 8 m.stime ++ leBytes 1 m.source ++ leBytes 1 m.syndrome ++ leBytes 1 m.field ++ leBytes 1 m.mode ++
    leBytes 4 m.place ++ leBytes 8 m.voted ++ leBytes 8 m.odd

/-- Bytes 0x08-0x13 of the record, the source data of a fault record. -/
def Mismatch.data (m : Mismatch) : Nat := leNat ((m.bytes.drop 8).take 12)

/-- Keeps a mismatch in tmr.last, logs it, and raises its fault source with the core or lane as index (R371). -/
def State.mismatch (s : State) (source syndrome field place voted odd src index : Nat) : State :=
  let m : Mismatch :=
    { stime := s.now, source := source, syndrome := syndrome, field := field, mode := modeCode s.tmr.mode, place := place,
      voted := voted, odd := odd }
  let t := { s with tmr := { s.tmr with last := some m } }
  (t.log 0x11 m.bytes).raise src index m.data

/-- The mode in force becomes `m`: DUAL releases C2 as a free core; with a core retired TRIPLE is DUAL by retirement
(Tables TMR-3 and TMR-4). -/
def Tmr.setMode (t : Tmr) (m : ExecMode) : Tmr :=
  let one := !t.retired.isEmpty
  let m' := if one && m == .triple then ExecMode.dual else m
  { t with mode := m', byRetirement := one && m' == .dual, freeCore := m' == .dual && !one, requested := none }

/-- A join of `pause` ns is kept in tmr.join.last and tmr.join.worst (R359). -/
def State.joined (s : State) (pause : Nat) : State := (s.setPv 0x80A (pause : Nat)).worst 0x80B pause

/-- Cores from SPLIT or a released core join as under R358, not counted as a resync: the pause, at most 1 µs, is a free value
(Table TMR-4). -/
def State.rejoin (s : State) : State :=
  let (v, t) := s.draw
  t.joined (v % 1001)

/-- A mode comes into force, unless a core is isolated for its resync: leaving released DUAL first waits for C2's work to come back
(R364, R365). -/
def State.changeMode (s : State) (m : ExecMode) : State :=
  if s.tmr.isolated.isSome then s
  else if s.tmr.freeCore && m != .dual then
    { s with tmr := { s.tmr with returning := some (s.tmr.returning.getD s.clk.ticks) } }
  else
    let t := if s.tmr.mode == .split && m != .split then s.rejoin else s
    State.setPv { t with
      tmr := t.tmr.setMode m } 0x801 (modeCode m : Nat)

/-! ### The vote (R356) -/

/-- The bitwise two-of-three vote. -/
def majority (a b c : Nat) : Nat := (a &&& b) ||| (a &&& c) ||| (b &&& c)

/-- Which of three copies differ: none, the one that differs alone, or all three. -/
def oddOf (a b c : Nat) : List Nat :=
  if a = b then (if b = c then [] else [2])
  else if a = c then [1]
  else if b = c then [0]
  else [0, 1, 2]

/-- A core's copy of a signal. -/
def coreCopy (g : CmpSignal) (c : Nat) : Nat := if c = 0 then g.c0 else if c = 1 then g.c1 else g.c2

/-- The cores that a mode compares: TRIPLE the unisolated ones, DUAL its voted pair, SPLIT none (Table TMR-3). -/
def Tmr.voted (t : Tmr) : List Nat :=
  match t.mode with
  | .triple => [0, 1, 2].filter (fun c => t.isolated != some c)
  | .dual => if t.byRetirement then [0, 1, 2].filter (fun c => !t.retired.contains c) else [0, 1]
  | .split => []

/-- The compared cores whose copy of a signal differs: of three the odd ones, of a pair both. -/
def oddOn (g : CmpSignal) (cores : List Nat) : List Nat :=
  match cores with
  | [_, _, _] => oddOf g.c0 g.c1 g.c2
  | [a, b] => if coreCopy g a = coreCopy g b then [] else [a, b]
  | _ => []

/-- The compared cores that differ on some signal of the cycle. -/
def oddCores (e : CmpEvent) (cores : List Nat) : List Nat := cores.filter (fun c => e.signals.any (fun g => (oddOn g cores).contains c))

/-- The first signal in the order of Table TMR-1 that differs. -/
def firstOdd (e : CmpEvent) (cores : List Nat) : CmpSignal :=
  (e.signals.find? (fun g => !(oddOn g cores).isEmpty)).getD { field := 0, c0 := 0, c1 := 0, c2 := 0 }

/-- The core that is isolated differs from the pair on some signal (Table TMR-7). -/
def coreApart (e : CmpEvent) (cores : List Nat) (c : Nat) : Bool :=
  e.signals.any (fun g => cores.all (fun d => coreCopy g d != coreCopy g c))

/-- The differences of a core or lane within the last second, the present one included (R360). -/
def recentDiffs (past : List Ns) (now : Ns) : List Ns := now :: past.filter (fun t => decide (now < t + 1000000000))

/-- A truss lane odd at write-back (R366): counted, TRUSS_ODD raised, and the lane retired at the fourth time within 1 s. -/
def State.laneOdd (s : State) (lane net field voted value : Nat) : State :=
  let diffs := recentDiffs (tget [] s.tmr.laneDiffs lane) s.now
  let t := (s.bump (0x81A + lane) 32).mismatch 5 (2 ^ lane) field net voted value 14 lane
  let t := { t with tmr := { t.tmr with laneDiffs := tset t.tmr.laneDiffs lane diffs } }
  if 4 ≤ diffs.length then
    let u := { t with tmr := { t.tmr with laneRetired := t.tmr.laneRetired ++ [lane] } }
    u.raise 15 lane (match u.tmr.last with
      | some m => m.data
      | none => 0)
  else t

/-- The truss lanes that are not retired. -/
def Tmr.lanes (t : Tmr) : List Nat := [0, 1, 2].filter (fun l => !t.laneRetired.contains l)

/-- No majority at a truss write-back among lanes with the bits `lanes`: the write-back is suppressed and TRUSS_NOMAJ raised (R366). The
record has the bitwise vote where three lanes vote; no odd value, and no vote of two, is defined, and free values stand there. -/
def State.laneNoMajority (s : State) (net field : Nat) (lanes : List Nat) (v0 v1 v2 : Nat) : State :=
  let (f, t) := s.draw
  let (g, u) := t.draw
  u.mismatch 6 (ofBits ([0, 1, 2].map (fun l => lanes.contains l))) field net
    (if lanes.length = 3 then majority v0 v1 v2 else f % 2 ^ 64) (g % 2 ^ 64) 16 0

end Sys2Proof.Machine
end

