-- ==== Sys2Proof/Machine/Truss.lean ====
section
/-!
DEFINITION. The truss engine: bit, timer and counter instructions (R94, R97, R99-R104), the start of a network with its
pre-copy, gather, evaluation and write-back (R121, R122), and the return to the cores (Table ISA-14).
-/

namespace Sys2Proof.Machine

/-! ### Resolved network instructions -/

/-- A preset: immediate, or the signed 32-bit value of a point (Table ISA-5). -/
inductive Preset where
  | imm (v : Nat)
  | pt (p : Nat)
deriving DecidableEq, Repr

/-- A network instruction with its operands resolved. -/
inductive NetOp where
  | point (op : Nat) (pt : Nat)
  | stack (op : Nat)
  | edge (op : Nat) (e : Nat)
  | timer (op : Nat) (cell : Nat) (pv : Preset)
  | counter (op : Nat) (cell : Nat) (pv : Preset)
deriving DecidableEq, Repr

/-- Whether an opcode of Table ISA-6 writes its point. -/
def bitWrites (op : Nat) : Bool := decide (12 ≤ op) && decide (op ≤ 15)

/-- The IND range of a network's instruction. -/
def Program.indNet (p : Program) (net word : Nat) : Option IndEntry :=
  p.inds.find? (fun e => e.place == 1 && e.net == net && e.word == word)

/-- Whether a relative number lies in the range declared for it (R101, R102). -/
def Program.relOk (p : Program) (net word kind n : Nat) : Bool :=
  p.rels.any (fun r => r.place == 1 && r.net == net && r.word == word && r.kind == kind && decide (r.first ≤ n) &&
    decide (n < r.first + r.count))

/-- A point operand in mode 1: in An's area, at An's index plus the offset, in I, Q or M and in the declared range; a write
neither in I nor, in Q, outside the context's own points (R34, R37, R94). -/
def State.netIndirect (s : State) (c net word op : Nat) (a : Vector PointAddr 4) (v : Nat) : Except DropReason Nat :=
  let an := bits v 23 22
  match indirectAddr (a.toList.getD an 0#24) (toInt 20 v) with
  | none => .error .addr
  | some pt =>
    let declared := match s.program.indNet net word with
      | some e => e.covers pt 1
      | none => false
    if !(areaIsBit (ptArea pt) && decide (ptIndex pt < areaLen 0 (ptArea pt)) && declared) then .error .addr
    else if bitWrites op && ptArea pt == 0 then .error .addr
    else if bitWrites op && ptArea pt == 1 && !s.program.owns_ c pt then .error .owner
    else .ok pt

/-- Resolves one word of a network, with its extension word where it has one (R94, R97, R121). -/
def State.netResolve (s : State) (c net word : Nat) (j : JunctionReq) (w ext : Nat) : Except DropReason NetOp :=
  if bits w 31 30 == 0 then
    let op := bits w 29 25
    if 8 ≤ op ∧ op ≤ 11 then .ok (.stack op)
    else if op = 16 ∨ op = 17 then
      let e := w % 32768 + (if bit w 24 then j.w14.toNat % 32768 else 0)
      if bit w 24 && !(decide (e < 32768) && s.program.relOk net word 0 e) then .error .addr else .ok (.edge op e)
    else if bit w 24 then
      match s.netIndirect c net word op j.a (w % 2 ^ 24) with
      | .ok pt => .ok (.point op pt)
      | .error r => .error r
    else .ok (.point op (w % 2 ^ 24))
  else
    let op := bits w 29 27
    let cell := bits w 25 13 + (if bit w 26 then bits j.w14.toNat 28 16 else 0)
    let kind := if 4 ≤ op then 2 else 1
    let pv : Preset := if bit ext 31 then .pt (ext % 2 ^ 24) else .imm (ext % 2 ^ 31)
    if bit w 26 && !(decide (cell < 8192) && s.program.relOk net word kind cell) then .error .addr
    else if 4 ≤ op then .ok (.counter op cell pv) else .ok (.timer op cell pv)

/-- Whether a word is followed by an extension word (R97). -/
def netHasExt (w : Nat) : Bool := bits w 31 30 == 2 && bits w 29 27 != 7

/-- Resolves a whole network from word `ix` on. -/
def State.netGather (s : State) (c net : Nat) (j : JunctionReq) (ws : List W32) (ix : Nat) (skip : Bool) :
    Except DropReason (List NetOp) :=
  match ws with
  | [] => .ok []
  | w :: rest =>
    if skip then s.netGather c net j rest (ix + 1) false
    else
      match s.netResolve c net ix j w.toNat (match rest with
          | e :: _ => e.toNat
          | [] => 0) with
      | .error r => .error r
      | .ok op =>
        match s.netGather c net j rest (ix + 1) (netHasExt w.toNat) with
        | .error r => .error r
        | .ok ops => .ok (op :: ops)

/-! ### Evaluation, one instruction after another (R100) -/

/-- What a network has computed so far. -/
structure NetEval where
  ba : Bool
  bs : List Bool
  writes : List (Nat × Nat)
  cells : Cells
deriving DecidableEq, Repr

/-- A point as the network reads it: written earlier in the same network, else the shot's view (R100). -/
def State.netRead (s : State) (sh : Shot) (e : NetEval) (pt : Nat) : Nat :=
  match tfind e.writes pt with
  | some v => v
  | none => s.viewPt sh pt

/-- A preset's value; signed. -/
def State.netPreset (s : State) (sh : Shot) (e : NetEval) (p : Preset) : Int :=
  match p with
  | .imm v => (v : Int)
  | .pt q => toInt 32 (s.netRead sh e q + 65536 * s.netRead sh e (q + 1))

/-- The point instructions of Table ISA-6. -/
def State.evalPoint (s : State) (sh : Shot) (e : NetEval) (op pt : Nat) : NetEval :=
  let x := s.netRead sh e pt % 2 == 1
  match op with
  | 1 => { e with ba := x }
  | 2 => { e with ba := !x }
  | 3 => { e with ba := e.ba && x }
  | 4 => { e with ba := e.ba && !x }
  | 5 => { e with ba := e.ba || x }
  | 6 => { e with ba := e.ba || !x }
  | 7 => { e with ba := e.ba != x }
  | 12 => { e with writes := tset e.writes pt (b2n e.ba) }
  | 13 => { e with writes := tset e.writes pt (b2n !e.ba) }
  | 14 => if e.ba then { e with writes := tset e.writes pt 1 } else e
  | 15 => if e.ba then { e with writes := tset e.writes pt 0 } else e
  | _ => e

/-- BPUSH, BPOP, ANDB and ORB (Table ISA-6). -/
def evalStack (e : NetEval) (op : Nat) : NetEval :=
  match op, e.bs with
  | 8, bs => { e with bs := e.ba :: bs }
  | 9, b :: bs => { e with ba := b, bs := bs }
  | 10, b :: bs => { e with ba := e.ba && b, bs := bs }
  | 11, b :: bs => { e with ba := e.ba || b, bs := bs }
  | _, _ => e

/-- REDGE and FEDGE (Table ISA-6). -/
def State.evalEdge (s : State) (sh : Shot) (e : NetEval) (op n : Nat) : NetEval :=
  let old := match tfind e.cells.edges n with
    | some b => b
    | none => s.viewEdge sh n
  { e with ba := if op = 16 then e.ba && !old else !e.ba && old,
           cells := { e.cells with edges := tset e.cells.edges n e.ba } }

/-- ET saturates at 2^31 - 1 µs (R103). -/
def satEt (v : Nat) : Nat := min v (2 ^ 31 - 1)

/-- e = t - start on the 48 bits of a timer's start (R103). -/
def timerSince (t start : Nat) : Nat := (t + 2 ^ 48 - start % 2 ^ 48) % 2 ^ 48

/-- TON, TOF and TP at time `t` in µs with input `x` and preset `pv` (Table ISA-7): the new cell and Q. -/
def timerEval (op : Nat) (k : TimerCell) (t pv : Nat) (x : Bool) : TimerCell × Bool :=
  match op with
  | 1 =>
    let start := if x && !k.prev then t else k.start
    let el := timerSince t start
    ({ start := start, started := k.started || (x && !k.prev), prev := x, run := k.run,
       et := satEt (if x then min el pv else 0) }, x && decide (pv ≤ el))
  | 2 =>
    let fall := !x && k.prev
    let start := if fall then t else k.start
    let el := timerSince t start
    let run0 := (fall || k.run) && !x
    let run := run0 && decide (el < pv)
    ({ start := start, started := k.started || fall, prev := x, run := run,
       et := satEt (if x then 0 else if run then el else pv) }, x || run)
  | _ =>
    let rise := x && !k.prev && !k.run
    let start := if rise then t else k.start
    let started := k.started || rise
    let el := timerSince t start
    let run := (rise || k.run) && decide (el < pv)
    ({ start := start, started := started, prev := x, run := run,
       et := satEt (if run then el else if x && started then pv else 0) }, run)

/-- A counter value, saturated (R104). -/
def satCv (v : Int) : Int := clampInt (-2147483648) 2147483647 v

/-- The counter instructions of Table ISA-8. CTUD with both inputs rising at a limit: the net change is applied, and then CV is held to its
range (R104 says 'both apply in the same evaluation': DESIGN CHOICE, assumption log 58). -/
def State.evalCounter (s : State) (sh : Shot) (e : NetEval) (op cell : Nat) (pv : Int) : NetEval :=
  let k := match tfind e.cells.counters cell with
    | some k => k
    | none => s.viewCounter sh cell
  let put (k' : CounterCell) (ba : Bool) (bs : List Bool) : NetEval :=
    { e with ba := ba, bs := bs, cells := { e.cells with counters := tset e.cells.counters cell k' } }
  match op, e.bs with
  | 4, bs =>
    let cv := satCv (k.cv + (if e.ba && !k.prevU then 1 else 0))
    put { k with cv := cv, prevU := e.ba } (decide (pv ≤ cv)) bs
  | 5, bs =>
    let cv := satCv (k.cv - (if e.ba && !k.prevD then 1 else 0))
    put { k with cv := cv, prevD := e.ba, lastPv := pv, down := true } (decide (cv ≤ 0)) bs
  | 6, u :: bs =>
    let cv := satCv (k.cv + (if u && !k.prevU then 1 else 0) - (if e.ba && !k.prevD then 1 else 0))
    put { k with cv := cv, prevU := u, prevD := e.ba } (decide (pv ≤ cv)) bs
  | 7, bs => if e.ba then put { k with cv := if k.down then k.lastPv else 0 } e.ba bs else e
  | _, _ => e

/-- One network instruction. -/
def State.netStep (s : State) (sh : Shot) (e : NetEval) (o : NetOp) : NetEval :=
  match o with
  | .point op pt => s.evalPoint sh e op pt
  | .stack op => evalStack e op
  | .edge op n => s.evalEdge sh e op n
  | .timer op cell p =>
    let k := match tfind e.cells.timers cell with
      | some k => k
      | none => s.viewTimer sh cell
    let r := timerEval op k (sh.t0 / 1000 % 2 ^ 48) (s.netPreset sh e p).toNat e.ba
    { e with ba := r.2, cells := { e.cells with timers := tset e.cells.timers cell r.1 } }
  | .counter op cell p => s.evalCounter sh e op cell (s.netPreset sh e p)

/-! ### Pre-copy (R42, R121) -/

/-- The pages of a declared range. -/
def rangePages (addr len : Nat) : List Nat :=
  if len = 0 then [] else
    let lo := ptPage addr
    let hi := ptPage (addr + len - 1)
    (List.range (hi + 1 - lo)).map (fun k => lo + k)

/-- The pages a network can write: those of its direct sinks and the declared pages of its indirect ones. -/
def Program.netPages (p : Program) (net : Nat) (ws : List W32) (ix : Nat) (skip : Bool) : List Nat :=
  match ws with
  | [] => []
  | w :: rest =>
    let v := w.toNat
    if skip then p.netPages net rest (ix + 1) false
    else
      (if bits v 31 30 == 0 && bitWrites (bits v 29 25) then
        (if bit v 24 then
          (match p.indNet net ix with
           | some e => rangePages e.addr e.len
           | none => [])
         else [ptPage (v % 2 ^ 24)])
       else []) ++ p.netPages net rest (ix + 1) (netHasExt v)

/-! ### The rows -/

/-- The words of a network of the active program. -/
def Program.netWords (p : Program) (ix : Nat) : List W32 :=
  match p.nets.find? (fun n => n.idx == ix) with
  | some n => n.words
  | none => []

/-- The active half of the configuration store holds a network's cells (R90, R118). -/
def Prog.trussHolds (p : Prog) (idx : Nat) : Bool :=
  (if p.bank = 0 then p.truss.h0 else p.truss.h1).descrs.any (fun d => d.idx == idx)

/-- The context whose network the truss may start: the highest-priority one waiting, no lower-numbered context having a
released shot that is not complete (R74, R122). PD_TRUSS is on (R25), and the store holds the network (R118). -/
def State.trussChoice (s : State) : Option Nat :=
  if !s.pwr.truss then none
  else
  let live := s.configured.find? (fun c =>
    match (s.ctx c).shot with
    | some sh => sh.phase != .done
    | none => false)
  match live with
  | none => none
  | some c =>
    match (s.ctx c).shot with
    | some sh =>
      (match sh.junction with
       | some j => if sh.phase == .truss && decide (0 < j.left) && s.prog.trussHolds j.next then some c else none
       | none => none)
    | none => none

/-- A network's cell updates become the shot's pending copies. -/
def Cells.merge (a b : Cells) : Cells :=
  { timers := b.timers.foldl (fun t e => tset t e.1 e.2) a.timers,
    counters := b.counters.foldl (fun t e => tset t e.1 e.2) a.counters,
    edges := b.edges.foldl (fun t e => tset t e.1 e.2) a.edges }

/-- A network of context `c` is evaluated on the shot's view and its results are written back (R100, R117, R121). -/
def State.runNetwork (s : State) (c : Nat) (sh : Shot) (j : JunctionReq) (ops : List NetOp) : State :=
  let e := ops.foldl (fun e o => s.netStep sh e o)
    { ba := j.ba, bs := [], writes := [], cells := Cells.init }
  let rows := (sh.rows ++ e.writes.filterMap (fun w => s.program.rowOf w.1)).eraseDups.length
  if sh.rows.length < rows && decide (s.pn 0x605 < rows) then s.dropAndDispatch c .retcap
  else
    let sh1 := sh.put s.program e.writes
    s.setCtx c { s.ctx c with shot := some { sh1 with
      cells := sh1.cells.merge e.cells,
      junction := some { j with next := j.next + 1, left := j.left - 1, ba := e.ba } } }

/-- NETWORK_START: the truss starts the next eligible network; pre-copy, gather (a failed check drops the shot before any
evaluation), evaluation, the comparison of the lanes, and write-back of the majority (R117, R121, R122, R366). -/
def execNetworkStart (lanes : LaneVerdict) (s : State) : Res :=
  match s.trussChoice with
  | none => .next s
  | some c =>
    match (s.ctx c).shot with
    | none => .next s
    | some sh =>
      match sh.junction with
      | none => .next s
      | some j =>
        let ws := s.program.netWords j.next
        let pages := ((s.program.netPages j.next ws 0 false).eraseDups).filter
          (fun p => !sh.buf.any (fun b => b.page == p))
        let need := pages.foldl (fun n p => n + pageFrames p) 0
        if need ≠ 0 && decide (s.quota c < s.framesUsed c + need) then .next (s.dropAndDispatch c .quota)
        else
          let sh1 := s.takePages sh pages
          let s1 := (s.setCtx c { s.ctx c with shot := some sh1 }).notePool
          let s2 := { s1 with sched := { s1.sched with trussLast := some c } }
          match s2.netGather c j.next j ws 0 false with
          | .error r => .next (s2.dropAndDispatch c r)
          | .ok ops =>
            match lanes with
            | .agree => .next (s2.runNetwork c sh1 j ops)
            | .odd lane field voted value =>
              if s2.tmr.laneRetired.contains lane then .next (s2.runNetwork c sh1 j ops)
              else if s2.tmr.laneRetired.isEmpty then .next ((s2.runNetwork c sh1 j ops).laneOdd lane j.next field voted value)
              else .next (s2.laneNoMajority j.next field s2.tmr.lanes voted voted value)
            | .noMajority field v0 v1 v2 => .next (s2.laneNoMajority j.next field s2.tmr.lanes v0 v1 v2)

/-- TRUSS_COMPLETION: the last network of a junction has ended; the context enters READY with BA as the last network left it,
and the cores are dispatched (R70, R75, R114, Table ISA-14). -/
def execTrussCompletion (c : Nat) (s : State) : Res :=
  match (s.ctx c).shot with
  | none => .next s
  | some sh =>
    match sh.junction with
    | none => .next s
    | some j =>
      if sh.phase == .truss && j.left == 0 then
        let x := s.ctx c
        .next (s.setCtx c { x with regs := x.regs.setBA j.ba,
                                   shot := some { sh with phase := .ready, junction := none } }).dispatch
      else .next s

end Sys2Proof.Machine
end

