-- ==== Sys2Proof/Machine/Levels.lean ====
section
/-!
DEFINITION. Networks as the loader reads them: encoding and operands (R93, R94, R97), the bit stack (R92), levelling (R119), the
limits of Table ISA-12 (R120) and the worst-case cost (R123).
-/

namespace Sys2Proof.Machine

/-! ### Words of a network -/

/-- A network instruction as the loader reads it: its word index, the word and the extension word. -/
structure NetWord where
  ix : Nat
  v : Nat
  ext : Nat
deriving DecidableEq, Repr

/-- The format is B (bit) rather than T. -/
def NetWord.isBit (x : NetWord) : Bool := bits x.v 31 30 == 0

/-- The opcode. -/
def NetWord.op (x : NetWord) : Nat := if x.isBit then bits x.v 29 25 else bits x.v 29 27

/-- Mode 1 of a B-format word, or rel of a T-format word. -/
def NetWord.rel (x : NetWord) : Bool := if x.isBit then bit x.v 24 else bit x.v 26

/-- A bit instruction with a point operand. -/
def NetWord.isPoint (x : NetWord) : Bool :=
  x.isBit && ((decide (1 ≤ x.op) && decide (x.op ≤ 7)) || (decide (12 ≤ x.op) && decide (x.op ≤ 15)))

/-- REDGE or FEDGE. -/
def NetWord.isEdge (x : NetWord) : Bool := x.isBit && (x.op == 16 || x.op == 17)

/-- OUT, OUTN, SET or RST. -/
def NetWord.isSink (x : NetWord) : Bool := x.isBit && bitWrites x.op

/-- The preset is read from a point. -/
def NetWord.ptPreset (x : NetWord) : Bool := !x.isBit && x.op != 7 && bit x.ext 31

/-- The encoding is legal: opcodes and fields marked 0 (R93, R94, R97). -/
def NetWord.encodingOk (x : NetWord) : Bool :=
  if bits x.v 31 30 = 0 then
    (if x.isPoint then !x.rel || bits x.v 21 20 == 0
     else if x.isEdge then bits x.v 23 15 == 0
     else if 8 ≤ x.op ∧ x.op ≤ 11 then x.v % 2 ^ 25 == 0
     else false)
  else if bits x.v 31 30 = 2 then
    x.op != 0 && x.v % 2 ^ 13 == 0 && (x.op == 7 || !bit x.ext 31 || bits x.ext 30 24 == 0)
  else false

/-- A direct operand is legal: a bit of I, Q or M, no sink in I; a preset point in IW, MW or DB at an even index within its area
(R34, R94, R97). -/
def NetWord.operandOk (x : NetWord) (db : Nat) : Bool :=
  if x.isPoint then
    x.rel || (let pt := x.v % 2 ^ 24
              areaIsBit (ptArea pt) && decide (ptIndex pt < areaLen db (ptArea pt)) && !(x.isSink && ptArea pt == 0))
  else if x.ptPreset then
    let pt := x.ext % 2 ^ 24
    (ptArea pt == 2 || ptArea pt == 5 || ptArea pt == 6) && pt % 2 == 0 && decide (ptIndex pt + 1 < areaLen db (ptArea pt))
  else true

/-- The instructions of a network from word `ix` on. -/
def netScan (ix : Nat) (ws : List W32) (skip : Bool) : List NetWord :=
  match ws with
  | [] => []
  | w :: rest =>
    if skip then netScan (ix + 1) rest false
    else
      let ext := match rest with
        | e :: _ => e.toNat
        | [] => 2 ^ 31 + 2 ^ 24
      { ix := ix, v := w.toNat, ext := if netHasExt w.toNat then ext else 0 } :: netScan (ix + 1) rest (netHasExt w.toNat)

/-! ### Levelling (R119) -/

/-- To invert a reference is to flip its flag. -/
def LRef.invert (r : LRef) : LRef := { r with inv := !r.inv }

/-- The levelling in progress: cells in order of creation, the current reference, the stack, written points, the words gathered
and written, indirect ones counted apart, operand points, sinks, cells of kinds EDGE, TIMER and COUNTER, and whether the bit
stack was misused (R92). -/
structure Leveller where
  cells : List LCell
  cur : LRef
  stack : List LRef
  written : List (Nat × LRef)
  gWords : List Nat
  gInd : Nat
  wWords : List Nat
  wInd : Nat
  points : List Nat
  sinks : List LSink
  t : Nat
  bad : Bool
deriving DecidableEq, Repr

/-- Before the first instruction. -/
def Leveller.start : Leveller :=
  { cells := [], cur := { tgt := .baIn, inv := false }, stack := [], written := [], gWords := [], gInd := 0, wWords := [],
    wInd := 0, points := [], sinks := [], t := 0, bad := false }

/-- Adds `n` to a list of distinct numbers. -/
def addOnce (l : List Nat) (n : Nat) : List Nat := if l.contains n then l else l ++ [n]

/-- A new cell; the current reference becomes its output. -/
def Leveller.newCell (k : Leveller) (fn : Nat) (ins : List LRef) : Leveller × LRef :=
  ({ k with cells := k.cells ++ [{ fn := fn, ins := ins, marked := false }] }, { tgt := .cell k.cells.length, inv := false })

/-- Marks the cell of the current reference. -/
def Leveller.mark (k : Leveller) : Leveller :=
  match k.cur.tgt with
  | .cell n =>
    { k with cells := match k.cells[n]? with
        | some c => k.cells.set n { c with marked := true }
        | none => k.cells }
  | _ => k

/-- rd(x): the reference written in this network, else the operand bit, gathered (R119, R120). g and the distinct operand points count what
is gathered: a point that the network reads only after writing it is not, and the point of a SET or RST, which R119 reads
with rd(x), is (R120 says 'direct operand': DEDUCED, assumption log 58). -/
def Leveller.rd (k : Leveller) (x : NetWord) : Leveller × LRef :=
  let key := x.v % 2 ^ 25
  match tfind k.written key with
  | some r => (k, r)
  | none =>
    let k1 := { k with points := addOnce k.points key }
    let k2 := if x.rel then { k1 with gInd := k1.gInd + 1 }
      else { k1 with gWords := addOnce k1.gWords (key / 64) }
    (k2, { tgt := .operand key, inv := false })

/-- combine(c, op, r) of R119: `fn` 0 AND, 1 OR, 2 XOR. -/
def Leveller.combine (k : Leveller) (fn : Nat) (r : LRef) : Leveller :=
  match k.cur.tgt, k.cur.inv with
  | .cell n, false =>
    (match k.cells[n]? with
     | some c =>
       if c.fn = fn ∧ !c.marked ∧ c.ins.length < 8 then
         { k with cells := k.cells.set n { c with ins := c.ins ++ [r] } }
       else
         let (k1, o) := k.newCell fn [k.cur, r]
         { k1 with cur := o }
     | none => k)
  | _, _ =>
    let (k1, o) := k.newCell fn [k.cur, r]
    { k1 with cur := o }

/-- Pops the stack; an empty one is a misuse. -/
def Leveller.pop (k : Leveller) : Leveller × LRef :=
  match k.stack with
  | r :: rest => ({ k with stack := rest }, r)
  | [] => ({ k with bad := true }, k.cur)

/-- A sink with the reference it writes and the one that enables it. -/
def Leveller.sink (k : Leveller) (x : NetWord) (r : LRef) (enable : Option LRef) : Leveller :=
  let key := x.v % 2 ^ 25
  let k1 := { k with written := tset k.written key r, sinks := k.sinks ++ [LSink.mk key r enable] }
  if x.rel then { k1 with wInd := k1.wInd + 1 } else { k1 with wWords := addOnce k1.wWords (key / 64) }

/-- One bit instruction with a point. -/
def Leveller.point (k : Leveller) (x : NetWord) : Leveller :=
  match x.op with
  | 1 => let (k1, r) := k.rd x; { k1 with cur := r }
  | 2 => let (k1, r) := k.rd x; { k1 with cur := r.invert }
  | 3 => let (k1, r) := k.rd x; k1.combine 0 r
  | 4 => let (k1, r) := k.rd x; k1.combine 0 r.invert
  | 5 => let (k1, r) := k.rd x; k1.combine 1 r
  | 6 => let (k1, r) := k.rd x; k1.combine 1 r.invert
  | 7 => let (k1, r) := k.rd x; k1.combine 2 r
  | 12 => let k1 := k.mark; k1.sink x k1.cur none
  | 13 => let k1 := k.mark; k1.sink x k1.cur.invert none
  | 14 =>
    let (k1, r) := k.mark.rd x
    let (k2, o) := k1.newCell 1 [r, k1.cur]
    k2.sink x o (some k1.cur)
  | _ =>
    let (k1, r) := k.mark.rd x
    let (k2, o) := k1.newCell 0 [r, k1.cur.invert]
    k2.sink x o (some k1.cur)

/-- One instruction of the network (R119). -/
def Leveller.step (k : Leveller) (x : NetWord) : Leveller :=
  if x.isPoint then k.point x
  else if x.isEdge then
    let (k1, o) := k.newCell x.op [k.cur]
    { k1 with cur := o, t := k1.t + 1 }
  else if x.isBit then
    match x.op with
    | 8 => let k1 := k.mark; { k1 with stack := k1.cur :: k1.stack, bad := k1.bad || decide (8 ≤ k1.stack.length) }
    | 9 => let (k1, r) := k.pop; { k1 with cur := r }
    | 10 => let (k1, r) := k.pop; k1.combine 0 r
    | _ => let (k1, r) := k.pop; k1.combine 1 r
  else
    let k0 := if x.ptPreset then
        let p := x.ext % 2 ^ 24
        { k with points := addOnce k.points (2 ^ 25 + p), gWords := addOnce k.gWords (2 ^ 25 + p / 4) }
      else k
    match x.op with
    | 6 =>
      let (k1, r) := k0.pop
      let (k2, o) := k1.newCell (32 + x.op) [r, k1.cur]
      { k2 with cur := o, t := k2.t + 1 }
    | 7 =>
      let k1 := k0.mark
      let (k2, _) := k1.newCell (32 + x.op) [k1.cur]
      { k2 with t := k2.t + 1 }
    | _ =>
      let (k1, o) := k0.newCell (32 + x.op) [k0.cur]
      { k1 with cur := o, t := k1.t + 1 }

/-! ### Levels -/

/-- The level a cell takes from its inputs, at least its floor. -/
def cellLevel (levels : List Nat) (c : LCell) (floor : Nat) : Nat :=
  c.ins.foldl (fun m r => match r.tgt with
    | .cell n => max m (levels.getD n 0 + 1)
    | _ => max m 1) (max floor 1)

/-- One round of levels; a level past 33 stays at 33: such a network is refused. -/
def levelRound (cells : List LCell) (floors levels : List Nat) : List Nat :=
  (cells.zip floors).map (fun e => min 33 (cellLevel levels e.1 e.2))

/-- Levels once settled: every chain that matters has at most 33 links. -/
def settle (n : Nat) (cells : List LCell) (floors levels : List Nat) : List Nat :=
  match n with
  | 0 => levels
  | k + 1 => settle k cells floors (levelRound cells floors levels)

/-- Capacity (R119): from level `k` on, more than 64 cells at a level push the later ones up. `n` levels are left. -/
def capacity (n k : Nat) (cells : List LCell) (floors levels : List Nat) : List Nat :=
  match n with
  | 0 => levels
  | m + 1 =>
    let at_ := (levels.zipIdx.filter (fun e => e.1 == k)).map Prod.snd
    if at_.length ≤ 64 then capacity m (k + 1) cells floors levels
    else
      let up := at_.drop 64
      let floors' := floors.zipIdx.map (fun e => if up.contains e.2 then k + 1 else e.1)
      capacity m (k + 1) cells floors' (settle 34 cells floors' levels)

/-- What the loader keeps of a network: L, g, w and t of Table ISA-12, cells, inputs, sinks, operand points, and whether R92
holds. -/
structure NetShape where
  l : Nat
  g : Nat
  w : Nat
  t : Nat
  cells : Nat
  inputs : Nat
  sinks : Nat
  points : Nat
  stackOk : Bool
deriving DecidableEq, Repr

/-- A network levelled (R119). -/
def levelled (ws : List W32) : Leveller := (netScan 0 ws false).foldl Leveller.step Leveller.start

/-- The level of each cell, capacity applied. -/
def Leveller.levels (k : Leveller) : List Nat :=
  let zero := List.replicate k.cells.length 0
  capacity 33 1 k.cells zero (settle 34 k.cells zero zero)

/-- The shape of a network. -/
def netShape (ws : List W32) : NetShape :=
  let k := levelled ws
  let n := k.cells.length
  { l := k.levels.foldl max 0, g := k.gWords.length + k.gInd, w := k.wWords.length + k.wInd, t := k.t, cells := n,
    inputs := k.cells.foldl (fun a c => a + c.ins.length) 0, sinks := k.sinks.length, points := k.points.length,
    stackOk := !k.bad && k.stack.isEmpty }

/-- The limits of Table ISA-12 for one network (R120). -/
def NetShape.fits (x : NetShape) : Bool :=
  decide (x.l ≤ 32) && decide (x.cells ≤ 2048) && decide (x.points ≤ 1024) && decide (x.g ≤ 256) && decide (x.sinks ≤ 512) &&
    decide (x.w ≤ 128) && decide (x.t ≤ 64)

/-- The configuration of a program's networks as the loader writes it into a half of the store, with a descriptor for each (R90,
R118, R119). -/
def Program.trussHalf (p : Program) : TrussHalf :=
  p.nets.foldl (fun h n =>
    let k := levelled n.words
    let x := netShape n.words
    { cells := h.cells ++ k.levels.zip k.cells, sinks := h.sinks ++ k.sinks.map (fun e => (n.idx, e)),
      descrs := h.descrs ++ [{ idx := n.idx, place := h.cells.length, l := x.l, g := x.g, w := x.w, t := x.t }] }) TrussHalf.init

/-- A program's configuration in half `i` of the store. -/
def TrussStore.load (t : TrussStore) (i : Nat) (p : Program) : TrussStore :=
  if i = 0 then { t with h0 := p.trussHalf } else { t with h1 := p.trussHalf }

/-- The worst-case time of a network in FCLK cycles (Table ISA-15). -/
def NetShape.cost (x : NetShape) : Nat := 6 + 4 * x.g + x.l + 4 * x.w + x.t

end Sys2Proof.Machine
end

