-- ==== Sys2Proof/Machine/NetCalc.lean ====
section
/-!
DEFINITION. Windows, transport bounds and step bounds of the network's segments (R296-R298).
-/

namespace Sys2Proof.Machine

/-- A node's output length in bytes (Table RIO-9). -/
def NodeCfg.outLen (d : NodeCfg) : Nat := d.qBits / 8 + 2 * d.qwWords

/-- A node's input length in bytes. -/
def NodeCfg.inLen (d : NodeCfg) : Nat := d.iBits / 8 + 2 * d.iwWords

/-- Whether an output point is mapped to a node. -/
def NodeCfg.drives (d : NodeCfg) (pt : Nat) : Bool :=
  (decide (d.qBase ≤ pt) && decide (pt < d.qBase + d.qBits)) || (decide (d.qwBase ≤ pt) && decide (pt < d.qwBase + d.qwWords))

/-- Whether a context of a program owns a point in a range. -/
def Program.ownsIn (p : Program) (c lo cnt : Nat) : Bool :=
  p.owns.any (fun o => o.ctx == c && o.area == ptArea lo && decide (0 < o.count) && decide (0 < cnt) &&
    decide (o.first < ptIndex lo + cnt) && decide (ptIndex lo < o.first + o.count))

/-- The step bound k_n of a node under a program (R298). -/
def Program.stepBound (p : Program) (d : NodeCfg) (lead : Nat) : Nat :=
  p.ctxs.foldl (fun k e =>
    if p.ownsIn e.ctx d.qBase d.qBits || p.ownsIn e.ctx d.qwBase d.qwWords then k + ceilDiv lead e.period else k) 0

/-- The wire time of a frame with a payload of `n` bytes, ns (R296). -/
def wireNs (ring : Bool) (n : Nat) : Nat := ((if ring then 76 else 70) + n + 20) * 8

/-- The nodes of a segment in ascending node number. -/
def NetConfig.nodesOf (c : NetConfig) (sg : Nat) : List NodeCfg :=
  sortBy (fun a b => decide (a.num ≤ b.num)) (c.nodes.filter (fun d => d.seg == sg))

/-- The window W_s of a segment, ns (R296). -/
def NetConfig.window (c : NetConfig) (p : Program) (g : SegCfg) : Nat :=
  let ring := g.port == 3
  (c.nodesOf g.seg).foldl (fun t d =>
    let k := p.stepBound d g.lead
    t + wireNs ring (4 + d.outLen + k * (8 + d.outLen)) + wireNs ring (8 + d.inLen)) (2 * g.hops * g.hopDelay + 4000)

/-- The transport bound B_s, ns (R297). -/
def NetConfig.bound (c : NetConfig) (p : Program) (g : SegCfg) : Nat := g.cycle * 1000 + c.window p g + 3000

/-- The segment entry of a segment. -/
def NetConfig.seg (c : NetConfig) (sg : Nat) : Option SegCfg := c.segs.find? (fun g => g.seg == sg)

end Sys2Proof.Machine
end

