-- ==== Sys2Proof/Machine/Wcet.lean ====
section
/-!
DEFINITION. Worst-case accounting of a program (R82-R84), the schedulability check (R85, R86, R89) and the apply-lead check
(R50). Readings of R82 and R84 are in assumption log 30.
-/

namespace Sys2Proof.Machine

/-! ### What a context reads and writes -/

/-- A run of points: first address and count. -/
structure Span where
  pt : Nat
  cnt : Nat
deriving DecidableEq, Repr

/-- The logical pages of a span. -/
def Span.pages (x : Span) : List Nat := rangePages x.pt x.cnt

/-- Whether two spans share a point. -/
def Span.meets (x y : Span) : Bool :=
  decide (0 < x.cnt) && decide (0 < y.cnt) && decide (x.pt < y.pt + y.cnt) && decide (y.pt < x.pt + x.cnt)

/-- The span of a direct operand. -/
def dirSpan (pt n : Nat) : Span := { pt := pt, cnt := (operandPts pt n).length }

/-- The span of an IND entry. -/
def IndEntry.span (e : IndEntry) : Span := { pt := e.addr, cnt := e.len }

/-- IND entries at a code word. -/
def Program.indsAt (p : Program) (pc : Nat) : List IndEntry := p.inds.filter (fun e => e.place == 0 && e.word == pc)

/-- The entry of a context. -/
def Program.entry (p : Program) (c : Nat) : Option CtxEntry := p.ctxs.find? (fun e => e.ctx == c)

/-- The core code of a context: what it can reach from its entry, calls followed. The rules of R34, R36, R56, R110 and R114 speak of a
context's code, operands and writes; the model takes the instructions its shots can execute, and a word of its code range that
no path reaches is none of them (DESIGN CHOICE, assumption log 57). -/
def Program.codeOf (p : Program) (e : CtxEntry) : List (Nat × CoreWord) := reachFrom p.instrs true e.entry

/-- The networks of a context (ctx.n.networks). -/
def Program.netsOf (p : Program) (e : CtxEntry) : List Network :=
  p.nets.filter (fun n => decide (e.netFirst ≤ n.idx) && decide (n.idx < e.netFirst + e.netCount))

/-- What a core instruction writes: direct points or the declared range; the second range of a BMOV (R56, R109). -/
def Program.coreWrites (p : Program) (pc : Nat) (k : CoreWord) : List Span :=
  if k.stores then
    match k.mem with
    | .dir pt n => [dirSpan pt n]
    | .ind => ((p.indsAt pc).take 1).map IndEntry.span
    | .block => (((p.indsAt pc).drop 1).take 1).map IndEntry.span
    | .none => []
  else []

/-- What a core instruction reads. -/
def Program.coreReads (p : Program) (pc : Nat) (k : CoreWord) : List Span :=
  match k.mem with
  | .dir pt n => if k.stores then [] else [dirSpan pt n]
  | .ind => if k.stores then [] else ((p.indsAt pc).take 1).map IndEntry.span
  | .block => ((p.indsAt pc).take 1).map IndEntry.span
  | .none => []

/-- What a network's instruction writes. -/
def Program.netWrites (p : Program) (net : Nat) (x : NetWord) : List Span :=
  if x.isSink then
    if x.rel then
      match p.indNet net x.ix with
      | some e => [e.span]
      | none => []
    else [{ pt := x.v % 2 ^ 24, cnt := 1 }]
  else []

/-- What a network's instruction reads: its point, the range declared for it, or its point preset; a SET or RST reads nothing
that its write does not name. -/
def Program.netReads (p : Program) (net : Nat) (x : NetWord) : List Span :=
  if x.isPoint && !x.isSink then
    if x.rel then
      match p.indNet net x.ix with
      | some e => [e.span]
      | none => []
    else [{ pt := x.v % 2 ^ 24, cnt := 1 }]
  else if x.ptPreset then [{ pt := x.ext % 2 ^ 24, cnt := 2 }]
  else []

/-- Everything a context can write. -/
def Program.writesOf (p : Program) (e : CtxEntry) : List Span :=
  (p.codeOf e).flatMap (fun k => p.coreWrites k.1 k.2) ++
    (p.netsOf e).flatMap (fun n => (netScan 0 n.words false).flatMap (fun x => p.netWrites n.idx x))

/-- Everything a context can read through its operands. -/
def Program.readsOf (p : Program) (e : CtxEntry) : List Span :=
  (p.codeOf e).flatMap (fun k => p.coreReads k.1 k.2) ++
    (p.netsOf e).flatMap (fun n => (netScan 0 n.words false).flatMap (fun x => p.netReads n.idx x))

/-- The pages of a list of spans, each once. -/
def spanPages (l : List Span) : List Nat := (l.flatMap Span.pages).eraseDups

/-- Pages of Q and M. -/
def pageIsQM (p : Nat) : Bool := p / 4096 == 1 || p / 4096 == 4

/-- The pages a context can write. -/
def Program.writePages (p : Program) (e : CtxEntry) : List Nat := spanPages (p.writesOf e)

/-! ### Costs -/

/-- The longest core step of a context that cannot be interrupted, CCLK (R84, R125). -/
def Program.coreStep (p : Program) (e : CtxEntry) : Nat :=
  (p.codeOf e).foldl (fun m k => max m (if k.2.mem == .block then 800 else k.2.cost)) 0

/-- The words one execution of a BMOV moves at most: the shorter declared range, or a smaller BOUND entry (R82). -/
def Program.bmovMax (p : Program) (pc : Nat) : Option Nat :=
  match p.indsAt pc with
  | a :: b :: _ =>
    let n := min a.len b.len
    some (match p.bounds.find? (fun x => x.word == pc) with
      | some x => min n x.count
      | none => n)
  | _ => none

/-- The cost of a junction's handshake and networks, in CCLK (R123, R126); none where a network is missing. -/
def Program.junctionCost (p : Program) (first count above : Nat) : Option Nat :=
  let nets := (List.range count).map (fun i => (p.nets.find? (fun n => n.idx == first + i)).map (fun n => (netShape n.words).cost))
  if nets.all Option.isSome then
    some (2 * (52 + 15 + (nets.filterMap id).foldl (fun a b => a + b) 0) + 400 + above)
  else none

/-- Longest forward distances from `t` over instructions in ascending order: the cost of every way from `t` to an index, the
instruction at the index not included. -/
def forwardFrom (is : List (Nat × CoreWord)) (extra : Nat → Nat) (t : Nat) : List (Nat × Nat) :=
  is.foldl (fun d e =>
    if e.1 < t then d else
    match tfind d e.1 with
    | none => d
    | some v =>
      (e.2.edges e.1).foldl (fun d' x =>
        if e.1 < x.1 then tset d' x.1 (max (tget 0 d' x.1) (v + x.2 + extra e.1)) else d') d) [(t, 0)]

/-- The distance from where `d` starts to the end of the instruction at `j`, a jump there taken. -/
def endCost (is : List (Nat × CoreWord)) (extra : Nat → Nat) (d : List (Nat × Nat)) (j : Nat) : Option Nat :=
  match tfind d j, tfind is j with
  | some v, some k => some (v + k.cost + extra j)
  | _, _ => none

/-- The greater of two ways, where there is one. -/
def longer (a b : Option Nat) : Option Nat :=
  match a, b with
  | some x, some y => some (max x y)
  | some x, none => some x
  | none, y => y

/-- What a routine costs (R82): its longest way to a RET, and for each backward jump on its ways or in a routine it calls the
greatest cost of one time round. -/
structure Routine where
  path : Nat
  loops : List (Nat × Nat)
deriving DecidableEq, Repr

/-- Each jump once, with its greatest cost. -/
def mergeLoops (l : List (Nat × Nat)) : List (Nat × Nat) := l.foldl (fun t e => tset t e.1 (max (tget 0 t e.1) e.2)) []

/-- One round over the backward jumps: the longest way from each one's target to a RET, a way through a further jump counted without
the time round that its bound already pays for. `hop i j` is the way from the target of jump i through jump j. -/
def relaxHome (backs : List Nat) (hop : Nat → Nat → Option Nat) (round : Nat → Nat) (home : List (Nat × Option Nat)) :
    List (Nat × Option Nat) :=
  backs.map (fun i => (i, backs.foldl (fun best j =>
    match hop i j, tget none home j with
    | some d, some g => longer best (some (d + g - round j))
    | _, _ => best) (tget none home i)))

/-- `n` rounds. -/
def relaxN (n : Nat) (backs : List Nat) (hop : Nat → Nat → Option Nat) (round : Nat → Nat) (home : List (Nat × Option Nat)) :
    List (Nat × Option Nat) :=
  match n with
  | 0 => home
  | k + 1 => relaxN k backs hop round (relaxHome backs hop round home)

/-- The longest path of the routine entered at `start`, in CCLK, with what its loops cost a time; none where it cannot be bounded
(result PATH) or calls nest deeper than `fuel` allows (R82, R112, R113). Every way is a way forward, a backward jump, a way
forward, and so on; each jump is taken as often as its bound says in the whole shot (R112), so a time round is charged once a
taken jump, and the rest is the longest way to a RET. Where rounds do not settle (loops that overlap without nesting) every
stretch is charged at its longest (assumption log 30). -/
def Program.routine (p : Program) (above fuel start : Nat) : Option Routine :=
  match fuel with
  | 0 => none
  | k + 1 =>
    let nodes := reachFrom p.instrs false start
    let extraOf (pc : Nat) (w : CoreWord) : Option Routine :=
      match w.flow, w.mem, w.extra with
      | .call t, _, _ => p.routine above k t
      | _, .block, _ => (p.bmovMax pc).map (fun n => { path := (max 1 (ceilDiv n 188) - 1) * 800, loops := [] })
      | _, _, .junction f n => (p.junctionCost f n above).map (fun c => { path := c, loops := [] })
      | _, _, _ => some { path := 0, loops := [] }
    let extras := nodes.map (fun e => (e.1, extraOf e.1 e.2))
    let backs := nodes.filterMap (fun e =>
      match e.2.flow with
      | .jmp t => if t ≤ e.1 then some (e.1, t) else none
      | .jcc t => if t ≤ e.1 then some (e.1, t) else none
      | _ => none)
    if nodes.isEmpty || extras.any (fun e => e.2.isNone) || backs.any (fun b => !p.bounds.any (fun x => x.word == b.1)) then none
    else
      let extra (pc : Nat) : Nat := match tfind extras pc with
        | some (some v) => v.path
        | _ => 0
      let inner := extras.flatMap (fun e => match e.2 with
        | some v => v.loops
        | none => [])
      let rets := (nodes.filter (fun e => e.2.flow == .ret)).map Prod.fst
      let ways := (start :: backs.map Prod.snd).eraseDups.map (fun x => (x, forwardFrom nodes extra x))
      let way (x j : Nat) : Option Nat := endCost nodes extra (tget [] ways x) j
      let toRet (x : Nat) : Option Nat := rets.foldl (fun b r => longer b (way x r)) none
      let jumps := backs.map Prod.fst
      let hop (i j : Nat) : Option Nat := way (tget 0 backs i) j
      let round (j : Nat) : Nat := (hop j j).getD 0
      let home := relaxN jumps.length jumps hop round (jumps.map (fun j => (j, toRet (tget 0 backs j))))
      let settled := relaxHome jumps hop round home == home
      let best := jumps.foldl (fun b j => match way start j, tget none home j with
        | some d, some g => longer b (some (d + g - round j))
        | _, _ => b) (toRet start)
      let far (x : Nat) : Nat := ((rets ++ jumps).foldl (fun b j => longer b (way x j)) none).getD 0
      best.map (fun v =>
        if settled then { path := v, loops := mergeLoops (inner ++ jumps.map (fun j => (j, round j))) }
        else { path := far start, loops := mergeLoops (inner ++ backs.map (fun b => (b.1, far b.2))) })

/-- The cost of a routine with every jump taken as often as its bound says (R112). -/
def Program.routineCost (p : Program) (r : Routine) : Nat :=
  r.loops.foldl (fun a l => a + l.2 * ((p.bounds.find? (fun b => b.word == l.1)).map BoundEntry.count).getD 0) r.path

/-- CCLK cycles in ns, rounded up. -/
def cclkNs (n : Nat) : Nat := ceilDiv (5 * n) 4

/-- FCLK cycles in ns, rounded up. -/
def fclkNs (n : Nat) : Nat := ceilDiv (5 * n) 2

/-- C_n (R82): the longest path, a first-write copy for each page the context can write, the registration cycle. -/
def Program.budgetNs (p : Program) (e : CtxEntry) : Option Nat :=
  let above := (p.ctxs.filter (fun x => decide (e.ctx < x.ctx))).foldl (fun m x => max m (p.coreStep x)) 0
  (p.routine above 17 e.entry).map (fun r => cclkNs (p.routineCost r + 2 * ((p.writePages e).length * 2048 + 1)))

/-- The worst-case peg of pages, FCLK (Table SHOT-3). -/
def pegCycles (pages : List Nat) : Nat := pages.foldl (fun n p => n + (if pageIsQM p then 3072 else 2560)) 16

/-- F_n (R83); the delta is read by the link in the PRIMARY role. -/
def Program.fabricNs (p : Program) (e : CtxEntry) (primary : Bool) : Nat :=
  let reads := p.readSet e.ctx
  let pages := p.writePages e
  let live := (reads.filter (fun g => g / 4096 == 0 || g / 4096 == 2 || g / 4096 == 7)).length
  let delta := if primary then pages.foldl (fun n g => n + (if pageIsQM g then 8192 else 4352)) 0 else 0
  fclkNs (pegCycles pages + 2 * reads.length + 2048 * live + delta / 8 * 4)

/-- B_n (R84). -/
def Program.blockingNs (p : Program) (e : CtxEntry) : Nat :=
  let above := p.ctxs.filter (fun x => decide (e.ctx < x.ctx))
  if above.isEmpty then 0
  else
    above.foldl (fun m x =>
      max m (max (cclkNs (p.coreStep x)) ((p.netsOf x).foldl (fun a n => max a (fclkNs (netShape n.words).cost)) 0))) 0 + 2000

/-! ### The check of R85 -/

/-- A configured context as the check sees it, times in ns. -/
structure Task where
  n : Nat
  c : Nat
  t : Nat
  d : Nat
  f : Nat
  b : Nat
deriving DecidableEq, Repr

/-- One round of R85's iteration for context `x`. -/
def respRound (ts : List Task) (period budget : Nat) (x : Task) (r : Nat) : Nat :=
  ts.foldl (fun a i =>
    a + (if i.n < x.n then ceilDiv r i.t * (i.c + 500) else 0) + ceilDiv r i.t * i.f) (x.b + x.c) +
    ceilDiv r period * (budget + 500)

/-- R_n: the iteration of R85; none on DEADLINE. -/
def respTime (fuel : Nat) (ts : List Task) (period budget : Nat) (x : Task) (r : Nat) : Option Nat :=
  match fuel with
  | 0 => none
  | k + 1 =>
    let new := respRound ts period budget x r
    if new = r then (if 1000 * (x.d - r) < x.d ∨ x.d < r then none else some r)
    else if x.d < new then none
    else respTime k ts period budget x new

/-- Enough rounds: every round but the last counts one more release or server window within the peg offset. -/
def respFuel (ts : List Task) (period : Nat) (x : Task) : Nat :=
  ts.foldl (fun a i => a + 2 * (x.d / max 1 i.t + 2)) (x.d / max 1 period + 4)

/-- The outcome of a check: result code of Table TASK-7, failing context, C_n and R_n by context, utilisation, least slack. -/
structure SchedResult where
  code : Nat
  ctx : Nat
  budgets : List (Nat × Nat)
  bounds : List (Nat × Nat)
  util : Nat
  slack : Nat
deriving DecidableEq, Repr

/-- A failure. -/
def SchedResult.fail (code ctx : Nat) : SchedResult :=
  { code := code, ctx := ctx, budgets := [], bounds := [], util := 0, slack := 0 }

/-- sched.check.result. -/
def SchedResult.word (r : SchedResult) : Nat := r.code + 256 * r.ctx

/-- sched.util_worst (R89): the sum of shares in per-mille, halves up, at most 1,000. -/
def utilWorst (ts : List Task) (period budget : Nat) : Nat :=
  let last := ts.foldl (fun m i => max m i.n) 0
  let q := ts.foldl (fun (q : Nat × Nat) i =>
    (q.1 * i.t + (i.c + (if i.n = last then 0 else 500) + i.f) * q.2, q.2 * max 1 i.t)) (budget + 500, max 1 period)
  min 1000 ((2000 * q.1 + q.2) / (2 * q.2))

/-- The ranges of Table TASK-1 for a context's timing. -/
def CtxEntry.gridOk (e : CtxEntry) : Bool :=
  decide (100 ≤ e.period) && decide (e.period ≤ 10000000) && e.period % 25 == 0 && decide (25 ≤ e.pegOffset) &&
    decide (e.pegOffset ≤ e.period) && e.pegOffset % 25 == 0 && decide (e.phase + 25 ≤ e.period) && e.phase % 25 == 0

/-- The check of R85 for the configured contexts of a program, `extra` ns added to every B_n (R152). Where several kinds fail in
different contexts the result is GRID before SERVER before PATH before DEADLINE, each for the lowest context it fails in (R89 says
'the first failure' and gives no order among the kinds: DESIGN CHOICE, assumption log 56). -/
def State.schedCheck (s : State) (p : Program) (extra : Nat) : SchedResult :=
  let es := sortBy (fun a b => decide (a.ctx ≤ b.ctx)) p.ctxs
  let period := s.pn 0x703 * 1000
  let budget := s.pn 0x704 * 1000
  match es.find? (fun e => !e.gridOk) with
  | some e => SchedResult.fail 3 e.ctx
  | none =>
    if period < 2 * budget then SchedResult.fail 4 0
    else
      let cs := es.map (fun e => (e.ctx, p.budgetNs e))
      match cs.find? (fun c => c.2.isNone) with
      | some c => SchedResult.fail 2 c.1
      | none =>
        let ts := es.map (fun e =>
          { n := e.ctx, c := ((tget none cs e.ctx).getD 0), t := e.period * 1000, d := e.pegOffset * 1000,
            f := p.fabricNs e (s.dev.role == .primary), b := p.blockingNs e + extra : Task })
        let rs := ts.map (fun x => (x, respTime (respFuel ts period x) ts period budget x (x.b + x.c)))
        match rs.find? (fun r => r.2.isNone) with
        | some r => SchedResult.fail 1 r.1.n
        | none =>
          let slacks := rs.map (fun r => r.1.d - r.2.getD 0)
          { code := 0, ctx := 0, budgets := ts.map (fun x => (x.n, x.c)), bounds := rs.map (fun r => (r.1.n, r.2.getD 0)),
            util := utilWorst ts period budget,
            slack := match slacks with
              | [] => 0
              | a :: as => as.foldl min a }

/-! ### The apply-lead check of R50 -/

/-- NVM time of a commit with `d` dirty rows, ns, rounded up (R55). -/
def nvmNs (d : Nat) : Nat := 1000 + ceilDiv ((1 + ceilDiv d 32 + d) * 1526) 10

/-- The retentive rows that a context's writable points occupy (R50, R52). -/
def Program.retRows (p : Program) (e : CtxEntry) : Nat :=
  let ws := p.writesOf e
  ((p.rets.flatMap (fun r =>
    let per := if areaIsBit r.area then 512 else 32
    (List.range (ceilDiv r.len per)).filter (fun i =>
      let row : Span := { pt := mkPt r.area (r.first + i * per), cnt := min per (r.len - i * per) }
      ws.any (fun w => w.meets row)) |>.map (fun i => r.row + i))).eraseDups).length

/-- E (R50): pegs and NVM times of every context, and in a pair the acknowledgements (R65). -/
def State.emitBound (s : State) (p : Program) : Nat :=
  let pair := s.dev.role == .primary || s.dev.role == .standby
  p.ctxs.foldl (fun t e =>
    let pages := p.writePages e
    let ack := if pair then 8000 + ceilDiv (pages.foldl (fun n g => n + (if pageIsQM g then 8192 else 4352)) 0 * 5) 6 else 0
    t + fclkNs (pegCycles pages) + nvmNs (min (s.pn 0x605) (p.retRows e)) + ack) 0

/-- Segment 0 is written: a context owns a point of a bay's Q or QW block (R50). -/
def State.writesSeg0 (s : State) (p : Program) : Bool :=
  s.bayList.any (fun x => p.ctxs.any (fun e => p.ownsIn e.ctx (s.bayN x 6) 16 || p.ownsIn e.ctx (s.bayN x 8) 16))

/-- A network segment is written. -/
def NetConfig.writesSeg (c : NetConfig) (p : Program) (g : SegCfg) : Bool :=
  (c.nodesOf g.seg).any (fun d => p.ctxs.any (fun e => p.ownsIn e.ctx d.qBase d.qBits || p.ownsIn e.ctx d.qwBase d.qwWords))

/-- The check of R50, `extra` ns added to E (R152), under a network configuration. -/
def State.leadOk (s : State) (p : Program) (net : Option NetConfig) (extra : Nat) : Bool :=
  let e := s.emitBound p + extra
  (!s.writesSeg0 p || decide (e + 30000 ≤ s.pn 0x610 * 1000)) &&
    (match net with
     | none => true
     | some c => c.segs.all (fun g => !c.writesSeg p g || decide (e + c.bound p g ≤ g.lead * 1000)))

end Sys2Proof.Machine
end

