-- ==== Sys2Proof/Machine/LoadChecks.lean ====
section
/-!
DEFINITION. The checks of Table EDIT-7 that bind a program, from PART to QUOTA (R34, R36, R52, R56, R90-R98, R101, R102, R106,
R109-R116, R118, R120, R131), each with the place of the first offending field.
-/

namespace Sys2Proof.Machine

/-- A place in a program's sections. -/
inductive Loc where
  | word (pc : Nat)
  | net (idx ix : Nat)
  /-- A field of a context's entry (Table EDIT-3). -/
  | ctx (c field : Nat)
  | own (i : Nat)
  | rel (i : Nat)
  | ret (i field : Nat)
  | read (c : Nat)
  | whole
deriving DecidableEq, Repr

/-- A program with what the checks read of it: instructions with their encodings, and networks scanned. -/
structure Scan where
  p : Program
  all : List (Nat × Option CoreWord)
  is : List (Nat × CoreWord)
  nets : List (Nat × List NetWord)
deriving DecidableEq, Repr

/-- A program scanned. -/
def Program.scanned (p : Program) : Scan :=
  { p := p, all := p.scan, is := p.instrs, nets := p.nets.map (fun n => (n.idx, netScan 0 n.words false)) }

/-- Every instruction of every network with its network. -/
def Scan.netAll (k : Scan) : List (Nat × NetWord) := k.nets.flatMap (fun n => n.2.map (fun x => (n.1, x)))

/-- The first failing item's place. -/
def firstBad {α : Type} (l : List α) (bad : α → Bool) (at_ : α → Loc) : Option Loc := (l.find? bad).map at_

/-! ### PART -/

/-- A URGENT that names a bay or channel that the part does not have (R2, R3, R116). -/
def Scan.partBad (k : Scan) (part : Part) : Option Loc :=
  firstBad k.is (fun e => match e.2.extra with
    | .urgent b ch => !(bayExists part b && decide (ch < bayChannels part))
    | _ => false) (fun e => .word e.1)

/-! ### ENCODING -/

/-- Whether an index holds an extension word. -/
def Scan.isExt (k : Scan) (pc : Nat) : Bool :=
  decide (k.p.codeFirst ≤ pc) && decide (pc < k.p.codeFirst + k.p.code.length) && (tfind k.all pc).isNone && !k.p.isDead pc

/-- The target of a jump or call. -/
def CoreWord.target (k : CoreWord) : Option Nat :=
  match k.flow with
  | .jmp t => some t
  | .jcc t => some t
  | .call t => some t
  | _ => none

/-- A reserved opcode or a nonzero field, a format in the wrong code kind, a target or entry at an extension word. -/
def Scan.encodingBad (k : Scan) : Option Loc :=
  firstBad k.all (fun e => e.2.isNone) (fun e => .word e.1) <|>
    firstBad k.netAll (fun e => !e.2.encodingOk) (fun e => .net e.1 e.2.ix) <|>
    firstBad k.is (fun e => match e.2.target with
      | some t => k.isExt t
      | none => false) (fun e => .word e.1) <|>
    firstBad k.p.ctxs (fun e => k.isExt e.entry) (fun e => .ctx e.ctx 0x10)

/-! ### OPERAND -/

/-- A direct operand that breaks R34, R95 or R96. -/
def CoreWord.operandBad (k : CoreWord) (db : Nat) : Bool :=
  match k.mem with
  | .dir pt n =>
    if k.diag then n == 2 && pt % 2 == 1
    else !(readableArea (ptArea pt) && aligned pt n && inArea db pt n && !(k.real && areaIsBit (ptArea pt)) &&
      (!k.stores || writableArea (ptArea pt)))
  | _ => false

/-- A direct operand or an immediate CRD names what it may not (R34, R94-R97, R110, R111). -/
def Scan.operandBad (k : Scan) : Option Loc :=
  firstBad k.is (fun e => e.2.operandBad k.p.dbSize) (fun e => .word e.1) <|>
    firstBad k.netAll (fun e => !e.2.operandOk k.p.dbSize) (fun e => .net e.1 e.2.ix) <|>
    k.p.ctxs.findSome? (fun c => firstBad (k.p.codeOf c) (fun e => match e.2.extra with
      | .crd v => !k.p.ownsCell c.netFirst c.netCount (bit v 15) (v % 8192)
      | _ => false) (fun e => .word e.1))

/-! ### OWNERSHIP -/

/-- Every Q or QW point of a span is owned by the context. -/
def Program.ownsSpan (p : Program) (c : Nat) (x : Span) : Bool :=
  (ptArea x.pt != 1 && ptArea x.pt != 3) || (List.range x.cnt).all (fun i => p.owns_ c (x.pt + i))

/-- Two contexts' owned ranges overlap, or a write operand lies outside its context's (R36). -/
def Scan.ownershipBad (k : Scan) : Option Loc :=
  firstBad k.p.owns.zipIdx (fun e => (k.p.owns.take e.2).any (fun o =>
      o.ctx != e.1.ctx && o.area == e.1.area && decide (o.first < e.1.first + e.1.count) &&
      decide (e.1.first < o.first + o.count))) (fun e => .own e.2) <|>
    k.p.ctxs.findSome? (fun c =>
      firstBad (k.p.codeOf c) (fun e => (k.p.coreWrites e.1 e.2).any (fun x => !k.p.ownsSpan c.ctx x)) (fun e => .word e.1) <|>
      (k.p.netsOf c).findSome? (fun n => firstBad (netScan 0 n.words false)
        (fun x => (k.p.netWrites n.idx x).any (fun y => !k.p.ownsSpan c.ctx y)) (fun x => .net n.idx x.ix)))

/-! ### STACK -/

/-- The call depth of the routine at `start`; none at recursion or beyond `fuel` (R113). -/
def callDepth (is : List (Nat × CoreWord)) (fuel start : Nat) : Option Nat :=
  match fuel with
  | 0 => none
  | k + 1 =>
    (reachFrom is false start).foldl (fun d e =>
      match e.2.flow, d with
      | .call t, some m => (callDepth is k t).map (fun x => max m (x + 1))
      | _, _ => d) (some 0)

/-- R92 fails in a network, or a context's calls recur or nest deeper than 16 (R113). -/
def Scan.stackBad (k : Scan) : Option Loc :=
  firstBad k.p.nets (fun n => !(netShape n.words).stackOk) (fun n => .net n.idx 0) <|>
    firstBad k.p.ctxs (fun c => match callDepth k.is 17 c.entry with
      | some d => decide (16 < d)
      | none => true) (fun c => .ctx c.ctx 0x10)

/-! ### BOUND -/

/-- A word lies in some context's code range. -/
def Program.inCtxCode (p : Program) (pc : Nat) : Bool :=
  p.ctxs.any (fun c => decide (c.codeFirst ≤ pc) && decide (pc < c.codeFirst + c.codeLen))

/-- Where the function blocks outside every context's range end at the latest: the first words of blocks entered by CALL and of the
contexts' ranges (R113, assumption log 31). -/
def Scan.blockStarts (k : Scan) : List Nat :=
  (k.is.filterMap (fun e => match e.2.flow with
    | .call t => if k.p.inCtxCode t then none else some t
    | _ => none)).eraseDups ++ k.p.ctxs.map CtxEntry.codeFirst

/-- Going on from a function block's word at `pc` to `t` passes its last word. -/
def Scan.pastBlock (k : Scan) (pc t : Nat) : Bool :=
  !k.p.inCtxCode pc && k.blockStarts.any (fun x => decide (pc < x) && decide (x ≤ t))

/-- A jump's target is outside its range, or it goes back without a bound; a context's entry is outside its code range; a path can
run past the end of a code range or of a function block (R112, R113, R131). -/
def Scan.boundBad (k : Scan) : Option Loc :=
  let inside (pc t : Nat) : Bool :=
    decide ((k.p.codeRange pc).1 ≤ t) && decide (t < (k.p.codeRange pc).2) && (tfind k.is t).isSome
  firstBad k.is (fun e => match e.2.flow with
    | .jmp t => !inside e.1 t || (decide (t ≤ e.1) && !k.p.bounds.any (fun b => b.word == e.1))
    | .jcc t => !inside e.1 t || (decide (t ≤ e.1) && !k.p.bounds.any (fun b => b.word == e.1))
    | .call t => (tfind k.is t).isNone
    | _ => false) (fun e => .word e.1) <|>
  firstBad k.p.ctxs (fun c => !(decide (c.codeFirst ≤ c.entry) && decide (c.entry < c.codeFirst + c.codeLen) &&
    (tfind k.is c.entry).isSome)) (fun c => .ctx c.ctx 0x10) <|>
  k.p.ctxs.findSome? (fun c => firstBad (k.p.codeOf c) (fun e => match e.2.flow with
    | .jmp _ => false
    | .ret => false
    | _ => !inside e.1 (e.1 + e.2.len) || k.pastBlock e.1 (e.1 + e.2.len)) (fun e => .word e.1))

/-! ### RANGE -/

/-- The kind of cell or edge a network instruction names: 0 edge, 1 timer, 2 counter; none for the others. -/
def NetWord.cellKind (x : NetWord) : Option Nat :=
  if x.isEdge then some 0 else if x.isBit then none else if x.op ≤ 3 then some 1 else some 2

/-- The number an absolute edge or cell operand names. -/
def NetWord.cellNum (x : NetWord) : Nat := if x.isBit then x.v % 32768 else bits x.v 25 13

/-- The contexts whose networks hold a network. -/
def Program.netCtxs (p : Program) (idx : Nat) : List Nat :=
  (p.ctxs.filter (fun c => decide (c.netFirst ≤ idx) && decide (idx < c.netFirst + c.netCount))).map CtxEntry.ctx

/-- The first of them. -/
def Program.netCtx (p : Program) (idx : Nat) : Option Nat := (p.netCtxs idx).head?

/-- More than one context uses a cell of two networks (R102). -/
def Program.cellShared (p : Program) (a b : Nat) : Bool := decide (1 < (p.netCtxs a ++ p.netCtxs b).eraseDups.length)

/-- How many edges, timer cells or counter cells there are. -/
def relLimit (kind : Nat) : Nat := if kind = 0 then 32768 else 8192

/-- Absolute uses of edges and cells: kind, number, network, opcode. -/
def Scan.cellUses (k : Scan) : List (Nat × Nat × Nat × Nat) :=
  k.netAll.filterMap (fun e => match e.2.cellKind with
    | some kd => if e.2.rel then none else some (kd, e.2.cellNum, e.1, e.2.op)
    | none => none)

/-- Two uses of one edge or cell that R101 and R102 do not allow together: any for an edge; another context, another kind of
timer or counter, or the same network for a cell. -/
def Scan.useClash (k : Scan) (a b : Nat × Nat × Nat × Nat) : Bool :=
  a.1 == b.1 && a.2.1 == b.2.1 &&
    (a.1 == 0 || a.2.2.1 == b.2.2.1 || k.p.cellShared a.2.2.1 b.2.2.1 ||
      (a.2.2.2 != b.2.2.2 && a.2.2.2 != 7 && b.2.2.2 != 7))

/-- IND entries that an instruction needs (R34, R109). -/
def CoreWord.indNeed (k : CoreWord) : Nat :=
  match k.mem with
  | .ind => 1
  | .block => 2
  | _ => 0

/-- R101, R102 or R114 fails, an IND entry is missing, or a READ section omits a page (R34). -/
def Scan.rangeBad (k : Scan) : Option Loc :=
  let uses := k.cellUses
  let clash (e : Nat × NetWord) : Bool := match e.2.cellKind with
    | none => false
    | some kd =>
      if kd != 0 && k.p.cellShared e.1 e.1 then true
      else if e.2.rel then !k.p.rels.any (fun r => r.place == 1 && r.net == e.1 && r.word == e.2.ix && r.kind == kd)
      else
        let me := (kd, e.2.cellNum, e.1, e.2.op)
        let same := uses.filter (fun u => u.1 == me.1 && u.2.1 == me.2.1)
        decide (1 < (same.filter (fun u => u.2.2.1 == e.1)).length) ||
          same.any (fun u => u.2.2.1 != e.1 && k.useClash me u)
  firstBad k.netAll (fun e => clash e || (e.2.isPoint && e.2.rel && (k.p.indNet e.1 e.2.ix).isNone))
      (fun e => .net e.1 e.2.ix) <|>
  firstBad k.p.rels.zipIdx (fun e =>
      decide (relLimit e.1.kind < e.1.first + e.1.count) ||
      (k.p.rels.take e.2).any (fun r => r.kind == e.1.kind && decide (r.first < e.1.first + e.1.count) &&
        decide (e.1.first < r.first + r.count)) ||
      uses.any (fun u => u.1 == e.1.kind && decide (e.1.first ≤ u.2.1) && decide (u.2.1 < e.1.first + e.1.count)))
      (fun e => .rel e.2) <|>
  firstBad k.is (fun e => decide ((k.p.indsAt e.1).length < e.2.indNeed)) (fun e => .word e.1) <|>
  k.p.ctxs.findSome? (fun c => firstBad (k.p.codeOf c) (fun e => match e.2.extra with
    | .junction f n => !(decide (c.netFirst ≤ f) && decide (f + n ≤ c.netFirst + c.netCount) &&
        (List.range n).all (fun i => k.p.nets.any (fun x => x.idx == f + i)))
    | _ => false) (fun e => .word e.1)) <|>
  firstBad k.p.ctxs (fun c => (spanPages (k.p.readsOf c)).any (fun g => !(k.p.readSet c.ctx).contains g)) (fun c => .read c.ctx)

/-! ### TRUSS, RETENTIVE, QUOTA -/

/-- A network breaks Table ISA-12, or the program the totals of R118. -/
def Scan.trussBad (k : Scan) : Option Loc :=
  let shapes := k.p.nets.map (fun n => (n.idx, netShape n.words))
  let total (f : NetShape → Nat) : Nat := shapes.foldl (fun a x => a + f x.2) 0
  firstBad shapes (fun x => !x.2.fits) (fun x => .net x.1 0) <|>
    (if total NetShape.cells ≤ 1048576 ∧ total NetShape.inputs ≤ 2097152 ∧ total NetShape.g ≤ 262144 ∧
        total NetShape.sinks ≤ 262144 then none
     else some .whole)

/-- A retentive declaration breaks R52. -/
def Scan.retBad (k : Scan) : Option Loc :=
  firstBad k.p.rets.zipIdx (fun e =>
    decide (64 ≤ e.2) || decide (8192 < e.1.row + retRowCount e.1.area e.1.len) ||
    decide (areaLen k.p.dbSize e.1.area < e.1.first + e.1.len) ||
    (k.p.rets.take e.2).any (fun r => r.area == e.1.area && spansMeet r.first r.len e.1.first e.1.len))
    (fun e => .ret e.2 (if 64 ≤ e.2 then 0 else if 8192 < e.1.row + retRowCount e.1.area e.1.len then 8 else 4))

/-- A quota is below W + B + S + K, or the quotas sum to more than 240 (R56). -/
def Scan.quotaBad (k : Scan) : Option Loc :=
  let retPages := k.p.rets.flatMap (fun r => rangePages (mkPt r.area r.first) r.len)
  let least (c : CtxEntry) : Nat :=
    let pages := k.p.writePages c
    pages.length + (pages.filter pageIsQM).length + (k.p.readSet c.ctx).length + (pages.filter (fun g => retPages.contains g)).length
  firstBad k.p.ctxs.zipIdx (fun e => decide (e.1.quota < least e.1) ||
      decide (240 < (k.p.ctxs.take (e.2 + 1)).foldl (fun a c => a + c.quota) 0)) (fun e => .ctx e.1.ctx 2)

/-- The checks of a program from ENCODING on, in the order of Table EDIT-7: the status and the place. -/
def Scan.check (k : Scan) : Option (Nat × Loc) :=
  let tag (st : Nat) (l : Option Loc) : Option (Nat × Loc) := l.map (fun x => (st, x))
  tag 0x10 k.encodingBad <|> tag 0x11 k.operandBad <|> tag 0x12 k.ownershipBad <|> tag 0x13 k.stackBad <|>
    tag 0x14 k.boundBad <|> tag 0x15 k.rangeBad <|> tag 0x16 k.trussBad <|> tag 0x17 k.retBad <|> tag 0x18 k.quotaBad

end Sys2Proof.Machine
end

