-- ==== Sys2Proof/Machine/Migrate.lean ====
section
/-!
DEFINITION. Migration (R146), the merge of a kind 2 container into the active program (R143, R144), and the affected contexts
(R145).
-/

namespace Sys2Proof.Machine

/-! ### Migration -/

/-- Words an element of a migration entry reads and writes (R146; R96 for the widths of a conversion). -/
def MigEntry.widths (e : MigEntry) : Nat × Nat :=
  if e.op = 1 then (1, 1)
  else if e.op = 2 then (0, 1)
  else match e.conv with
    | 1 => (1, 2)
    | 2 => (1, 2)
    | 3 => (2, 1)
    | 4 => (2, 2)
    | 5 => (2, 4)
    | 6 => (4, 2)
    | _ => (2, 2)

/-- A conversion (R107, R108): signed and zero extension, saturation, and the real conversions. -/
def migConvert (conv v : Nat) : Nat :=
  match conv with
  | 1 => ofInt 32 (toInt 16 v)
  | 2 => v
  | 3 => ofInt 16 (clampInt (-32768) 32767 (toInt 32 v))
  | 4 => FloatFmt.ofInt .b32 (toInt 32 v)
  | 5 => FloatFmt.convert .b32 .b64 v
  | 6 => FloatFmt.convert .b64 .b32 v
  | _ => ofInt 32 (FloatFmt.toI32 .b32 v).1

/-- The block of a number. -/
def blockOf (bs : List DbBlock) (num : Nat) : Option DbBlock := bs.find? (fun b => b.num == num)

/-- The DB words an entry reads: first and count; none where it leaves the old layout. -/
def MigEntry.source (e : MigEntry) (old : Program) : Option (Nat × Nat) :=
  let n := e.count * e.widths.1
  if n = 0 then some (0, 0)
  else match blockOf old.dbBlocks e.srcBlock with
    | some b => if e.srcWord + n ≤ b.len then some (b.first + e.srcWord, n) else none
    | none => none

/-- The DB words an entry writes; none where it leaves the new layout. -/
def MigEntry.dest (e : MigEntry) (new : Program) : Option (Nat × Nat) :=
  match blockOf new.dbBlocks e.dstBlock with
  | some b => if e.dstWord + e.count * e.widths.2 ≤ b.len then some (b.first + e.dstWord, e.count * e.widths.2) else none
  | none => none

/-- The words that entries write, with their values, later entries over earlier ones; `word` reads the old layout. -/
def migTable (old new : Program) (word : Nat → Nat) (migs : List MigEntry) : List (Nat × Nat) :=
  migs.foldl (fun t e =>
    match e.source old, e.dest new with
    | some (src, _), some (dst, _) =>
      (List.range e.count).foldl (fun t' i =>
        let v := (List.range e.widths.1).foldr (fun k a => word (src + i * e.widths.1 + k) + 65536 * a) 0
        let r := if e.op = 2 then e.srcWord % 65536 else if e.op = 1 then v else migConvert e.conv v
        (List.range e.widths.2).foldl (fun t'' k => tset t'' (dst + i * e.widths.2 + k) (r / 65536 ^ k % 65536)) t') t
    | _, _ => t) []

/-- The INIT value of a point of MW or DB, or of a bit of M; 0 where INIT gives none (R132). -/
def Program.initVal (p : Program) (pt : Nat) : Nat :=
  p.inits.foldl (fun v e =>
    if ptArea e.addr = ptArea pt then
      if areaIsBit (ptArea pt) then
        (if e.addr ≤ pt ∧ pt < e.addr + 16 * e.words.length then b2n (bit (e.words.getD ((pt - e.addr) / 16) 0) ((pt - e.addr) % 16))
         else v)
      else if e.addr ≤ pt ∧ pt < e.addr + e.words.length then e.words.getD (pt - e.addr) 0 else v
    else v) 0

/-- Where a DB word of the new layout that no entry writes takes its value: the same word of its block where the layout ID is unchanged,
none where it takes its INIT value; a word of no block keeps its place (R146). -/
def keptWord (old new : Program) (i : Nat) : Option Nat :=
  match new.dbBlocks.find? (fun b => decide (b.first ≤ i) && decide (i < b.first + b.len)) with
  | some b =>
    (match blockOf old.dbBlocks b.num with
     | some a => if a.layout = b.layout ∧ i - b.first < a.len then some (a.first + (i - b.first)) else none
     | none => none)
  | none => if i < old.dbSize then some i else none

/-- The DB words that entries write. -/
def migDests (new : Program) (migs : List MigEntry) : List Nat :=
  (migs.flatMap (fun e => match e.dest new with
    | some (a, n) => (List.range n).map (fun i => a + i)
    | none => [])).eraseDups

/-- The DB words that an edit moves or initialises beside its entries, each with the word it is read from (R146). -/
def movedWords (old new : Program) (migs : List MigEntry) : List (Nat × Option Nat) :=
  if old.dbBlocks = new.dbBlocks ∧ old.dbSize = new.dbSize then []
  else
    let written := migDests new migs
    (List.range new.dbSize).filterMap (fun i =>
      if written.contains i || keptWord old new i == some i then none else some (i, keptWord old new i))

/-- Every DB point that a migration writes, with the value. -/
def migWrites (old new : Program) (word : Nat → Nat) (migs : List MigEntry) : List (Nat × Nat) :=
  (migTable old new word migs).map (fun e => (mkPt 6 e.1, e.2)) ++
    (movedWords old new migs).map (fun e => (mkPt 6 e.1, match e.2 with
      | some j => word j
      | none => new.initVal (mkPt 6 e.1)))

/-- The rows that hold retentive points of a list. -/
def Program.rowsOf (p : Program) (ws : List (Nat × Nat)) : List Nat :=
  sortBy (fun a b => decide (a ≤ b)) (ws.filterMap (fun w => p.rowOf w.1)).eraseDups

/-- A migration entry that R146 refuses, by index: its form, a word outside the layouts, or the totals of 512 entries, 64 KB and
1,024 rows. -/
def migBad (old new : Program) (migs : List MigEntry) : Option Nat :=
  let bytes (e : MigEntry) : Nat := 2 * e.count * (e.widths.1 + e.widths.2)
  let formOk (e : MigEntry) : Bool :=
    (e.op == 1 || e.op == 2 || (e.op == 3 && decide (1 ≤ e.conv) && decide (e.conv ≤ 7))) && decide (1 ≤ e.count) &&
      decide (e.count ≤ 4096) && (e.source old).isSome && (e.dest new).isSome
  let dirty (es : List MigEntry) : Nat :=
    (new.rowsOf (es.flatMap (fun e => match e.dest new with
      | some (d, n) => (List.range n).map (fun i => (mkPt 6 (d + i), 0))
      | none => []))).length
  (migs.zipIdx.find? (fun e =>
    decide (512 ≤ e.2) || !formOk e.1 || decide (65536 < (migs.take (e.2 + 1)).foldl (fun a x => a + bytes x) 0) ||
      decide (1024 < dirty (migs.take (e.2 + 1))))).map Prod.snd

/-- The DB words that a migration writes, words that move with their block or take INIT among them. -/
def migWritten (old new : Program) (migs : List MigEntry) : List Nat :=
  migDests new migs ++ (movedWords old new migs).map Prod.fst

/-- M_f, the edit step's fabric time in FCLK cycles (R152): 64 + 2,048 a DB page written + 8 a 64-bit word read or written. -/
def migCycles (old new : Program) (migs : List MigEntry) : Nat :=
  let src := migs.flatMap (fun e => match e.source old with
    | some (a, n) => (List.range n).map (fun i => a + i)
    | none => []) ++ (movedWords old new migs).filterMap Prod.snd
  let dst := migWritten old new migs
  64 + 2048 * ((dst.map (fun i => i / 2048)).eraseDups).length +
    8 * (((src.map (fun i => i / 4)).eraseDups).length + ((dst.map (fun i => i / 4)).eraseDups).length)

/-! ### Kind 2: replaced units (R143, R144) -/

/-- Whether `i` lies in [first, first + count). -/
def inRange (i first count : Nat) : Bool := decide (first ≤ i) && decide (i < first + count)

/-- The code ranges an edit takes away and supplies: function blocks and tasks. -/
def UnitEntry.isCode (u : UnitEntry) : Bool := u.kind == 2

/-- The code words of the active program that a unit replaces or removes. -/
def UnitEntry.oldCode (u : UnitEntry) (old : Program) (i : Nat) : Bool :=
  if u.kind = 2 then inRange i u.oldFirst u.oldCount
  else if u.kind = 3 ∨ u.kind = 4 then
    match old.entry u.ctx with
    | some e => inRange i e.codeFirst e.codeLen
    | none => false
  else false

/-- The code words that a unit supplies. -/
def UnitEntry.newCode (u : UnitEntry) (box : Program) (i : Nat) : Bool :=
  if u.kind = 2 then inRange i u.newFirst u.newCount
  else if u.kind = 3 ∨ u.kind = 5 then
    match box.entry u.ctx with
    | some e => inRange i e.codeFirst e.codeLen
    | none => false
  else false

/-- The networks of the active program that a unit replaces or removes. -/
def UnitEntry.oldNet (u : UnitEntry) (old : Program) (i : Nat) : Bool :=
  if u.kind = 1 then inRange i u.oldFirst u.oldCount
  else if u.kind = 3 ∨ u.kind = 4 then
    match old.entry u.ctx with
    | some e => inRange i e.netFirst e.netCount
    | none => false
  else false

/-- The networks that a unit supplies. -/
def UnitEntry.newNet (u : UnitEntry) (box : Program) (i : Nat) : Bool :=
  if u.kind = 1 then inRange i u.newFirst u.newCount
  else if u.kind = 3 ∨ u.kind = 5 then
    match box.entry u.ctx with
    | some e => inRange i e.netFirst e.netCount
    | none => false
  else false

/-- The word of a program's code at an index. -/
def Program.wordAt (p : Program) (i : Nat) : Option W32 := if p.codeFirst ≤ i then p.code[i - p.codeFirst]? else none

/-- The active bank's words from `lo` with the new units written in (R144). -/
def mergeCode (old box : Program) (us : List UnitEntry) (lo n : Nat) : List W32 :=
  (List.range n).map (fun k => ((if us.any (fun u => u.newCode box (lo + k)) then box.wordAt (lo + k) else none).orElse
    (fun _ => old.wordAt (lo + k))).getD 0#32)

/-- The words of the merged code that belong to no unit: those of replaced and removed units that no new unit takes, and those that held
no code before. -/
def mergeDead (old box : Program) (us : List UnitEntry) (lo n : Nat) : List (Nat × Nat) :=
  runsOf (((List.range n).map (fun k => lo + k)).filter (fun i => !us.any (fun u => u.newCode box i) &&
    (us.any (fun u => u.oldCode old i) || (old.wordAt i).isNone || old.isDead i)))

/-- Entries of a table at code words or networks: the container's for what units supply, the active program's for the rest. -/
def mergeAt {α : Type} (os bs : List α) (gone fresh : α → Bool) : List α := os.filter (fun a => !gone a && !fresh a) ++ bs.filter fresh

/-- What a kind 2 container's REL section says of a unit that it supplies. -/
def Parsed.freshRel (box : Parsed) (r : RelEntry) : Bool :=
  box.units.any (fun u => if r.place = 0 then u.newCode box.prog r.word else u.newNet box.prog r.net)

/-- The active program with the units of a kind 2 container written in (R143, R144, assumption log 32). -/
def mergeEdit (old : Program) (box : Parsed) (hash : Nat) : Program :=
  let b := box.prog
  let us := box.units
  let lo := if old.code.isEmpty then b.codeFirst else if b.code.isEmpty then old.codeFirst else min old.codeFirst b.codeFirst
  let hi := max (old.codeFirst + old.code.length) (b.codeFirst + b.code.length)
  let gone (c : Nat) : Bool := us.any (fun u => u.ctx == c && u.kind == 4)
  let freshCtx (c : Nat) : Bool := us.any (fun u => u.ctx == c && (u.kind == 3 || u.kind == 5))
  let goneW (i : Nat) : Bool := us.any (fun u => u.oldCode old i)
  let freshW (i : Nat) : Bool := us.any (fun u => u.newCode b i)
  let goneN (i : Nat) : Bool := us.any (fun u => u.oldNet old i)
  let freshN (i : Nat) : Bool := us.any (fun u => u.newNet b i)
  let ctxs := sortBy (fun x y => decide (x.ctx ≤ y.ctx))
    (old.ctxs.filter (fun e => !gone e.ctx && !freshCtx e.ctx) ++ b.ctxs.filter (fun e => freshCtx e.ctx))
  { hash := hash, progId := b.progId, version := b.version, ctxs := ctxs, codeFirst := lo,
    code := mergeCode old b us lo (hi - lo),
    nets := sortBy (fun x y => decide (x.idx ≤ y.idx)) (mergeAt old.nets b.nets (fun n => goneN n.idx) (fun n => freshN n.idx)),
    bounds := mergeAt old.bounds b.bounds (fun e => goneW e.word) (fun e => freshW e.word),
    owns := old.owns.filter (fun o => !gone o.ctx && !b.owns.any (fun x => x.ctx == o.ctx)) ++ b.owns,
    inds := mergeAt old.inds b.inds (fun e => if e.place = 0 then goneW e.word else goneN e.net)
      (fun e => if e.place = 0 then freshW e.word else freshN e.net),
    rels := mergeAt old.rels b.rels (fun e => if e.place = 0 then goneW e.word else goneN e.net) box.freshRel,
    rets := if box.has 8 then b.rets else old.rets,
    dbSize := if box.has 9 then b.dbSize else old.dbSize,
    dbBlocks := if box.has 9 then b.dbBlocks else old.dbBlocks,
    reads := old.reads.filter (fun r => !gone r.ctx && !b.reads.any (fun x => x.ctx == r.ctx)) ++ b.reads,
    inits := if box.has 14 then b.inits else old.inits,
    dead := mergeDead old b us lo (hi - lo) }

/-- The offset of a place of the program `new` in its container; 0 where the container does not hold it (an edit's unchanged parts).
Where two ranges meet, the field is the later one's start (R138, assumption log 53). -/
def Parsed.locate (p : Parsed) (new : Program) (l : Loc) : Nat :=
  match l with
  | .word pc => match p.codeAt.find? (fun e => inRange pc e.1 e.2.1) with
      | some e => e.2.2 + 4 * (pc - e.1)
      | none => 0
  | .net idx ix => match tfind p.netAt idx with
      | some o => o + 4 * ix
      | none => 0
  | .ctx c field => match p.prog.ctxs.findIdx? (fun e => e.ctx == c) with
      | some i => p.at 1 0 32 i + field
      | none => 0
  | .own i =>
    let kept := new.owns.length - p.prog.owns.length
    if i < kept then 0 else p.at 5 0 12 (i - kept) + 4
  | .rel i =>
    let mine := (p.prog.rels.zipIdx.filter (fun e => p.kind != 2 || p.freshRel e.1)).map Prod.snd
    let kept := new.rels.length - mine.length
    if i < kept then 0 else p.at 7 0 12 (mine.getD (i - kept) 0) + 8
  | .ret i field => if p.has 8 then p.at 8 0 12 i + field else 0
  | .read c => (tfind p.readAt c).getD 0
  | .whole => 0

/-- The unit entries that R143 or R144 refuses: a kind outside 1 to 5, a task that is not as its kind says, content that the
container does not supply, a new unit over unchanged code or networks, or unchanged code that jumps into a replaced or removed
unit. -/
def unitBad (old : Program) (box : Parsed) : Option Nat :=
  let b := box.prog
  let us := box.units
  let goneW (i : Nat) : Bool := us.any (fun u => u.oldCode old i)
  let goneN (i : Nat) : Bool := us.any (fun u => u.oldNet old i)
  let taskOk (u : UnitEntry) : Bool :=
    match u.kind with
    | 3 => (old.entry u.ctx).isSome && (b.entry u.ctx).isSome
    | 4 => (old.entry u.ctx).isSome
    | 5 => (old.entry u.ctx).isNone && (b.entry u.ctx).isSome
    | _ => (u.kind == 1 || u.kind == 2) && u.ctx == 0
  let codeIx := (List.range old.code.length).map (fun k => old.codeFirst + k)
  let boxIx := (List.range b.code.length).map (fun k => b.codeFirst + k)
  let supplied (u : UnitEntry) : Bool :=
    match u.kind with
    | 1 => (List.range u.newCount).all (fun k => b.nets.any (fun n => n.idx == u.newFirst + k))
    | 2 => (List.range u.newCount).all (fun k => (b.wordAt (u.newFirst + k)).isSome && !b.isDead (u.newFirst + k))
    | 4 => true
    | _ =>
      match b.entry u.ctx with
      | some e => (List.range e.codeLen).all (fun k => (b.wordAt (e.codeFirst + k)).isSome && !b.isDead (e.codeFirst + k)) &&
          (List.range e.netCount).all (fun k => b.nets.any (fun n => n.idx == e.netFirst + k))
      | none => false
  let overlaps (u : UnitEntry) : Bool :=
    codeIx.any (fun i => u.newCode b i && !goneW i && !old.isDead i) ||
      old.nets.any (fun n => u.newNet b n.idx && !goneN n.idx)
  let jumped (u : UnitEntry) : Bool :=
    old.instrs.any (fun e => !goneW e.1 && !boxIx.any (fun i => i == e.1 && us.any (fun x => x.newCode b i)) &&
      (match e.2.target with
       | some t => u.oldCode old t
       | none => false))
  (us.zipIdx.find? (fun e => !taskOk e.1 || !supplied e.1 || overlaps e.1 || jumped e.1)).map Prod.snd

/-! ### Affected contexts (R145) -/

/-- Whether two contexts' code reaches an index in a set. -/
def Program.reaches (p : Program) (c : Nat) (f : Nat → Bool) : Bool :=
  match p.entry c with
  | some e => (p.codeOf e).any (fun k => f k.1)
  | none => false

/-- Blocks that the MIG section touches or whose layout ID changes. -/
def touchedBlocks (old new : Program) (migs : List MigEntry) : List Nat :=
  (migs.flatMap (fun e => if e.op = 2 then [e.dstBlock] else [e.srcBlock, e.dstBlock]) ++
    ((old.dbBlocks ++ new.dbBlocks).filter (fun b =>
      (blockOf old.dbBlocks b.num).map DbBlock.layout != (blockOf new.dbBlocks b.num).map DbBlock.layout)).map DbBlock.num).eraseDups

/-- Whether a context's operands name a DB block. -/
def Program.namesBlock (p : Program) (c num : Nat) : Bool :=
  match p.entry c, blockOf p.dbBlocks num with
  | some e, some b =>
    (p.readsOf e ++ p.writesOf e).any (fun x => x.meets { pt := mkPt 6 b.first, cnt := b.len })
  | _, _ => false

/-- The affected contexts of an edit, in ascending order; every configured one for kind 3. -/
def affectedBy (old new : Program) (box : Parsed) : List Nat :=
  let all := userCtxs.filter (fun c => (old.entry c).isSome || (new.entry c).isSome)
  if box.kind = 3 then all
  else
    let us := box.units
    let blocks := touchedBlocks old new box.migs
    all.filter (fun c =>
      us.any (fun u => decide (3 ≤ u.kind) && u.ctx == c) ||
      us.any (fun u => u.kind == 1 &&
        ((match old.entry c with
          | some e => old.nets.any (fun n => inRange n.idx e.netFirst e.netCount && u.oldNet old n.idx)
          | none => false) ||
         (match new.entry c with
          | some e => new.nets.any (fun n => inRange n.idx e.netFirst e.netCount && u.newNet box.prog n.idx)
          | none => false))) ||
      us.any (fun u => u.kind == 2 && (old.reaches c (fun i => u.oldCode old i) || new.reaches c (fun i => u.newCode box.prog i))) ||
      old.entry c != new.entry c ||
      old.owns.filter (fun o => o.ctx == c) != new.owns.filter (fun o => o.ctx == c) ||
      old.readSet c != new.readSet c ||
      blocks.any (fun b => old.namesBlock c b || new.namesBlock c b))

end Sys2Proof.Machine
end

