-- ==== Sys2Proof/Machine/ParamOps.lean ====
section
/-!
DEFINITION. Which parameter a pid names on this unit, what kind it is, and which values the settings keep (R68, R216, R244, R271,
R290, R322, R346, R349, R354, R435).
-/

namespace Sys2Proof.Machine

/-! ### Pids -/

/-- What a pid names. -/
inductive PidKind where
  | plain
  | ctx (c off : Nat)
  | range (n : Nat)
  | fault (src off : Nat)
  | seg (sg off : Nat)
  | bay (x off : Nat)
  | chan (x n off : Nat)
  | modl (x m off : Nat)
  | none
deriving DecidableEq, Repr

/-- The kind of a pid on a part (R2, R3, R68, R349). -/
def pidKind (part : Part) (pid : Nat) : PidKind :=
  if 0x200 ≤ pid ∧ pid < 0x600 then
    let c := (pid - 0x200) / 16
    let off := pid % 16
    if c = 0 ∧ !(off == 0 || off == 10 || off == 11 || off == 14 || off == 15) then .none else .ctx c off
  else if 0x640 ≤ pid ∧ pid < 0x680 then .range (pid - 0x640)
  else if 0x980 ≤ pid ∧ pid < 0xA00 then
    let n := (pid - 0x980) / 4
    if n = 20 ∧ part ≠ .p7232 then .none else .fault n (pid % 4)
  else if 0xC40 ≤ pid ∧ pid < 0xCC0 then
    let off := pid % 16
    if off < 12 then .seg ((pid - 0xC40) / 16 + 1) off else .none
  else if 0x1000 ≤ pid ∧ pid < 0x2000 then
    let x := (pid - 0x1000) / 0x800
    let o := (pid - 0x1000) % 0x800
    if !bayExists part x then .none
    else if o < 0x100 then (if o < 0x18 then .bay x o else .none)
    else if o < 0x500 then
      let n := (o - 0x100) / 0x40
      if n < bayChannels part ∧ o % 0x40 < 0x30 then .chan x n (o % 0x40) else .none
    else if 0x600 ≤ o ∧ o < 0x640 then
      let m := (o - 0x600) / 0x20
      if (m = 0 ∨ bayChannels part = 16) ∧ (pfind ptModl (o % 0x20)).isSome then .modl x m (o % 0x20) else .none
    else .none
  else match pfind ptPlain pid with
    | some _ => .plain
    | Option.none => .none

/-- The row that gives a pid's type and rules; a channel offset depends on the mode (R216). -/
def State.pidRow (s : State) (pid : Nat) : Option PRow :=
  match pidKind s.dev.part pid with
  | .plain => pfind ptPlain pid
  | .ctx c off =>
    if c = 0 ∧ (off = 10 ∨ off = 11) then some (prow off 5 .ro .now 0 0 1 0) else pfind ptCtx off
  | .range _ => some (prow 0 5 .ro .now 0 0 1 0)
  | .fault n off =>
    match pfind ptFltSrc off with
    | some r =>
      some (if off = 0 ∧ (faultClass n = 4 ∨ n = 0 ∨ (n = 29 ∧ s.dev.part ≠ .p7232)) then { r with acc := .ro } else r)
    | Option.none => Option.none
  | .seg _ off => pfind ptSeg off
  | .bay _ off => pfind ptBay off
  | .chan x n off => chanRow (s.mode x n) off
  | .modl _ _ off => pfind ptModl off
  | .none => Option.none

/-- Whether a pid exists: it is neither reserved nor absent on the part; a channel offset exists when some mode defines it. -/
def pidExists (part : Part) (pid : Nat) : Bool :=
  match pidKind part pid with
  | .none => false
  | .chan _ _ off =>
    (pfind ptChan off).isSome || (pfind ptDin off).isSome || (pfind ptCnt off).isSome || (pfind ptDout off).isSome ||
      (pfind ptAin off).isSome || (pfind ptAout off).isSome
  | _ => true

/-! ### Keys of the parameter store -/

/-- The row behind a key of the store: a channel value of a chapter carries the chapter's number above bit 15. -/
def keyRow (key : Nat) : Option PRow :=
  let g := key / 0x10000
  let k := key % 0x10000
  if g = 1 then
    (match pfind ptDin (k % 0x40) with
     | some r => some r
     | none => match pfind ptCnt (k % 0x40) with
       | some r => some r
       | none => pfind ptDout (k % 0x40))
  else if g = 2 then pfind ptAin (k % 0x40)
  else if g = 3 then pfind ptAout (k % 0x40)
  else if 0x200 ≤ k ∧ k < 0x600 then pfind ptCtx (k % 16)
  else if 0x980 ≤ k ∧ k < 0xA00 then pfind ptFltSrc (k % 4)
  else if 0xC40 ≤ k ∧ k < 0xCC0 then pfind ptSeg (k % 16)
  else if 0x1000 ≤ k ∧ k < 0x2000 then
    let o := (k - 0x1000) % 0x800
    if o < 0x100 then pfind ptBay o else if o < 0x500 then pfind ptChan (o % 0x40) else pfind ptModl (o % 0x20)
  else pfind ptPlain k

/-- The settings keep every value that can be set and is read back, and the two counters of R354 and R435. -/
def keyKept (key : Nat) : Bool :=
  key == 0x104 || key == 0xB1A ||
    (match keyRow key with
     | some r => r.acc == .rw || r.acc == .rwl
     | none => false)

/-- The execution mode that tmr.mode.request names. -/
def modeOf (v : Int) : ExecMode := if v = 1 then .dual else if v = 2 then .split else .triple

/-- The value of tmr.mode.request for a mode. -/
def ExecMode.request (m : ExecMode) : Int :=
  match m with
  | .triple => 0
  | .dual => 1
  | .split => 2

/-- What a settings copy holds: the values kept, and for a value accepted and not yet in force that one (R9, R435). -/
def State.settingsContent (s : State) : List (Nat × Int) :=
  let boot := s.bootParams.foldl (fun t e => tset t e.1 e.2) (s.params.filter (fun e => keyKept e.1))
  match s.tmr.requested with
  | some m => tset boot 0x801 m.request
  | none => boot

/-- Counters start again at their defaults. -/
def State.resetPids (s : State) (l : List Nat) : State := { s with params := s.params.filter (fun e => !l.contains e.1) }

end Sys2Proof.Machine
end

