-- ==== Sys2Proof/Machine/SrxOps.lean ====
section
/-!
DEFINITION. SRX frames and keys (R300-R305, Table RIO-1): building a frame and handing it to the ports.
-/

namespace Sys2Proof.Machine

/-! ### Keys (R304) -/

/-- "SRX root", "SRX cyc" and "SRX claim" in ASCII. -/
def srxRootLabel : List Byte := [0x53#8, 0x52#8, 0x58#8, 0x20#8, 0x72#8, 0x6F#8, 0x6F#8, 0x74#8]
/-- See `srxRootLabel`. -/
def srxCycLabel : List Byte := [0x53#8, 0x52#8, 0x58#8, 0x20#8, 0x63#8, 0x79#8, 0x63#8]
/-- See `srxRootLabel`. -/
def srxClaimLabel : List Byte := [0x53#8, 0x52#8, 0x58#8, 0x20#8, 0x63#8, 0x6C#8, 0x61#8, 0x69#8, 0x6D#8]

/-- The segment root SR_s that a network secret gives. -/
def segRootKey (ns : List Byte) (sg : Nat) : Nat := Config.kdf (leNat ns) 0 (leNat (srxRootLabel ++ leBytes 1 sg))

/-- K_cyc of a segment root for an epoch and a generation. -/
def cycKey (root epoch gen : Nat) : Nat := Config.kdf root 0 (leNat (srxCycLabel ++ leBytes 4 epoch ++ leBytes 4 gen))

/-- K_claim of a segment root. -/
def claimKey (root : Nat) : Nat := Config.kdf root 0 (leNat srxClaimLabel)

/-! ### Frames -/

/-- The header of an SRX frame (Table RIO-1). -/
structure SrxHdr where
  ty : Nat
  seg : Nat
  flags : Nat
  sender : Nat
  len : Nat
  epoch : Nat
  gen : Nat
  nonce : Nat
  seq : Nat
  instant : Nat
deriving DecidableEq, Repr

/-- The 32 bytes of a header. -/
def SrxHdr.bytes (h : SrxHdr) : List Byte :=
  leBytes 1 1 ++ leBytes 1 h.ty ++ leBytes 1 h.seg ++ leBytes 1 h.flags ++ leBytes 2 h.sender ++ leBytes 2 h.len ++
    leBytes 4 h.epoch ++ leBytes 4 h.gen ++ leBytes 4 h.nonce ++ leBytes 4 h.seq ++ leBytes 8 h.instant

/-- The header that bytes spell; the version is checked apart. -/
def readSrxHdr (bs : List Byte) : SrxHdr :=
  { ty := leAt bs 1 1, seg := leAt bs 2 1, flags := leAt bs 3 1, sender := leAt bs 4 2, len := leAt bs 6 2, epoch := leAt bs 8 4,
    gen := leAt bs 12 4, nonce := leAt bs 16 4, seq := leAt bs 20 4, instant := leAt bs 24 8 }

/-- The IV of a frame (R303). -/
def SrxHdr.iv (h : SrxHdr) : List Byte :=
  leBytes 2 h.sender ++ leBytes 1 h.seg ++ leBytes 1 h.ty ++ leBytes 4 h.nonce ++ leBytes 4 h.seq

/-- A frame under a key: the tag covers the IV, both MAC addresses, the header and the payload (R303). -/
def srxFrame (key ports dest pcp : Nat) (h : SrxHdr) (payload : List Byte) : TxFrame :=
  let h1 := { h with len := payload.length }
  { ports := ports, dest := dest, pcp := pcp, rtag := none, bytes := h1.bytes ++ payload,
    tag := Config.macTag key (h1.iv ++ leBytes 6 dest ++ leBytes 6 Config.srxMac ++ h1.bytes ++ payload) }

/-! ### The master's side -/

/-- stby.unit: the sender field of a master (Table RIO-1). -/
def State.unit (s : State) : Nat := s.pn 0xE01

/-- SRX frames can be sent: PD_NET is on, a configuration is active and the owner store holds NS, and the SRX keys are not
zeroised (R304, R316, R421). -/
def State.srxOn (s : State) : Bool := s.pwr.net && s.net.cfg.isSome && s.sec.ns.isSome && !s.sec.srxZero

/-- SR_s of a segment on this unit. -/
def State.segRoot (s : State) (sg : Nat) : Nat := segRootKey (s.sec.ns.getD []) sg

/-- A segment as the master runs it. -/
def State.seg (s : State) (sg : Nat) : SegState := tget SegState.init s.net.segs sg

/-- The state with a segment replaced. -/
def State.setSeg (s : State) (sg : Nat) (x : SegState) : State := { s with net := { s.net with segs := tset s.net.segs sg x } }

/-- The master's node. -/
def State.node (s : State) (n : Nat) : NodeState := tget NodeState.init s.net.nodes n

/-- The state with a node replaced. -/
def State.setNode (s : State) (n : Nat) (y : NodeState) : State := { s with net := { s.net with nodes := tset s.net.nodes n y } }

/-- The header fields that every frame of the master carries: its unit, its epoch, and the generation in two fields. -/
def State.masterHdr (s : State) (sg ty flags seq instant : Nat) : SrxHdr :=
  { ty := ty, seg := sg, flags := flags, sender := s.unit, len := 0, epoch := s.stby.epoch, gen := s.sec.keyGen,
    nonce := s.sec.keyGen, seq := seq, instant := instant }

/-- A frame of a stream: on a ring it leaves on both ports under one R-TAG with the stream's next sequence (R294). -/
def TxFrame.ofStream (f : TxFrame) (seq : Nat) : TxFrame := if f.ports = 3 then { f with rtag := some seq } else f

/-- The R-TAG sequence after one, of 16 bits. -/
def nextRtag (seq : Nat) : Nat := (seq + 1) % 65536

/-- A CLAIM frame of one segment (R315): the new epoch, under K_claim, to the group address. -/
def State.claimFrame (s : State) (g : SegCfg) : TxFrame :=
  (srxFrame (claimKey (s.segRoot g.seg)) g.port g.group g.pcp
    (s.masterHdr g.seg 3 0 ((s.seg g.seg).claimSeq + 1) s.now) (leBytes 4 s.stby.epoch ++ leBytes 4 0)).ofStream (s.seg g.seg).txRtag

/-- The token is claimed (R172, R315): the epoch becomes one more than the greater of both units' epochs, one CLAIM frame goes to
every configured segment, and the epoch is queued for the sill journal. -/
def State.claimToken (s : State) : State :=
  let e := max s.stby.epoch s.stby.partnerEpoch + 1
  let t := { s with stby := { s.stby with epoch := e } }
  let segs := match t.net.cfg with
    | some c => c.segs
    | none => []
  let k : Commit :=
    { kind := .record, extra := { CommitExtra.none with epoch := some e }, seq := t.img.pegSeq, pegAt := t.now, rows := [], data := [],
      changed := [], owned := [], frames := [], full := false, started := false, durable := false, acked := true, emitted := true }
  let u := { t with img := { t.img with commits := t.img.commits ++ [k] } }
  if u.srxOn then
    let v := segs.foldl (fun w g => w.setSeg g.seg { w.seg g.seg with
      claimSeq := (w.seg g.seg).claimSeq + 1, txRtag := nextRtag (w.seg g.seg).txRtag }) u
    { v with net := { v.net with tx := segs.map u.claimFrame } }
  else u

end Sys2Proof.Machine
end

