-- ==== Sys2Proof/Machine/RunOps.lean ====
section
/-!
DEFINITION. Entry into RUN (R27, R49, R66, R68, R78, R89, R105, R132, R148, R172) and the instants that contexts share (R71, R147).
-/

namespace Sys2Proof.Machine

/-! ### Non-retentive points -/

/-- The output points in an SRAM byte: area and first index, for Q, QW, M, MW and DB; none elsewhere. -/
def outputByte (a : Nat) : Option (Nat × Nat) :=
  if 0xC02000 ≤ a ∧ a < 0xC04000 then some (1, 8 * (a - 0xC02000))
  else if 0xC0C000 ≤ a ∧ a < 0xC14000 then some (3, (a - 0xC0C000) / 2)
  else if 0xC14000 ≤ a ∧ a < 0xC1C000 then some (4, 8 * (a - 0xC14000))
  else if 0xC1C000 ≤ a ∧ a < 0xC3C000 then some (5, (a - 0xC1C000) / 2)
  else if 0xC3C000 ≤ a ∧ a < 0xDBC000 then some (6, (a - 0xC3C000) / 2)
  else none

/-- The bits of an SRAM byte that stay when the non-retentive points are initialised. -/
def Program.keepByte (p : Program) (a : Nat) (b : Byte) : Byte :=
  match outputByte a with
  | none => b
  | some (area, ix) =>
    if areaIsBit area then
      BitVec.ofNat 8 (ofBits ((List.range 8).map (fun i => b.getLsbD i && (p.rowOf (mkPt area (ix + i))).isSome)))
    else if (p.rowOf (mkPt area ix)).isSome then b else 0#8

/-- The points that the INIT section names, with their values (R132). -/
def Program.initPts (p : Program) : List (Nat × Nat) :=
  p.inits.flatMap (fun e =>
    if areaIsBit (ptArea e.addr) then
      (List.range (16 * e.words.length)).map (fun i => (e.addr + i, b2n (bit (e.words.getD (i / 16) 0) (i % 16))))
    else e.words.zipIdx.map (fun w => (e.addr + w.2, w.1)))

/-- Non-retentive points of Q, QW, M, MW and DB at their INIT values, 0 where INIT names none; retentive points, cells and edges
apart: every cell and edge starts in its initial state (R78, R101, R105, R132). -/
def State.initImage (s : State) : State :=
  let p := s.program
  let kept := (s.sram.map (fun c => (c.1, p.keepByte c.1 c.2))).filter (fun c => c.2 != Memory.blank)
  { s with sram := writePts kept (p.initPts.filter (fun w => (p.rowOf w.1).isNone)),
           img := { s.img with cells := Cells.init } }

/-! ### Counters and releases -/

/-- The pids of Tables SHOT-9 and TASK-6 that start again on entry into RUN (R66, R89). R66 says 'Counters' and lists none: the model
takes every read-out that counts or keeps an extreme or a last value of the run (DESIGN CHOICE, assumption log 56). -/
def runPids : List Nat :=
  [0x603, 0x604, 0x609, 0x611, 0x612, 0x620, 0x621, 0x622, 0x623, 0x630, 0x631, 0x705, 0x707, 0x708, 0x709, 0x70A, 0x70B]

/-- A context's counters start again (R68, R69). -/
def Ctx.clearCounts (x : Ctx) : Ctx := { x with drops := 0, consec := 0, capRaised := false, watchCount := 0, execWorst := 0 }

/-- Every counter that an entry into RUN resets, and the measuring windows. ctx.0.exec_worst, the largest use of the server budget in
any window, stays: R68 says 'Counters', and it is an extreme of the firmware server and not of the run (DESIGN CHOICE, assumption
log 56). -/
def State.clearRunCounts (s : State) : State :=
  let t := s.resetPids runPids
  ({ t with ctxs := t.ctxs.map (fun (e : Nat × Ctx) => (e.1, e.2.clearCounts)),
            sched := { t.sched with fwWatchCount := 0, bankWin := t.now / 1000000, bankCycles := 0, bankHits := 0,
                                    idleWin := t.now / 100000000, idleCycles := 0, idleHits := 0 } }).dropCapOver

/-- Configured contexts release from their first grid instants at or after `from_`, and each one's next commit emits in full
(R49, R71). -/
def State.placeReleases (s : State) (from_ : Ns) : State :=
  s.configured.foldl (fun t c =>
    let x := t.ctx c
    t.setCtx c { x with nextRelease := gridNext (x.ns CtxEntry.period) (x.ns CtxEntry.phase) from_, releasing := true,
                        fullEmission := true }) s

/-- Grid instants of a context after `from_` and before its next release. -/
def Ctx.gridBetween (x : Ctx) (from_ : Ns) : Nat :=
  match x.cfg with
  | some e =>
    let first := gridNext (e.period * 1000) (e.phase * 1000) (from_ + 1)
    (x.nextRelease - first) / (max 1 (e.period * 1000))
  | none => 0

/-- Grid instants passed over, counted in sched.releases.skipped. -/
def State.countSkipped (s : State) (from_ : Ns) : State :=
  let n := s.configured.foldl (fun k c => k + (s.ctx c).gridBetween from_) 0
  (List.range n).foldl (fun t _ => t.bump 0x70B 32) s

/-! ### Common peg instants (R71, R147, R148) -/

/-- The peg instants of a context are the numbers ≡ phase + peg offset modulo its period (R71). -/
def CtxEntry.pegClass (e : CtxEntry) : Nat × Nat := ((e.phase + e.pegOffset) * 1000, e.period * 1000)

/-- The first instant ≥ `t`, of the class `r` mod `m`, that is of class `r2` mod `m2`; at most `fuel` candidates are tried. -/
def classStep (fuel t m r2 m2 : Nat) : Option Nat :=
  match fuel with
  | 0 => none
  | k + 1 => if (t + m2 - r2 % m2) % m2 = 0 then some t else classStep k (t + m) m r2 m2

/-- The first peg instant at or after `t` of every context listed; a context pegs no earlier than a release at or after `from_`
lets it. -/
def State.pegInstant (s : State) (affected : List Nat) (t from_ : Ns) : Option (Nat × Nat) :=
  let es := affected.filterMap (fun c => (s.ctx c).cfg)
  let low := es.foldl (fun m e => max m (gridNext (e.period * 1000) (e.phase * 1000) from_ + e.pegOffset * 1000)) t
  match es with
  | [] => some (t, 1)
  | e :: rest =>
    let (r, m) := e.pegClass
    let m1 := max 1 m
    let start := low + (m1 - (low + m1 - r % m1) % m1) % m1
    let step (acc : Option (Nat × Nat)) (x : CtxEntry) : Option (Nat × Nat) :=
      match acc with
      | none => none
      | some (a, q) =>
        let m2 := max 1 x.pegClass.2
        (classStep (m2 / Nat.gcd q m2 + 1) a q x.pegClass.1 m2).map (fun b => (b, Nat.lcm q m2))
    rest.foldl step (some (start, m1))

/-! ### Entry -/

/-- STIME may be stepped: in every state but RUN and HALT (R466). -/
def State.mayStep (s : State) : Bool := s.dev.state != .run && s.dev.state != .halt

/-- STIME moved by `-offset`, a count of 64 bits (R26). -/
def Clock.step (k : Clock) (offset : Int) : Clock := { k with stime := (((k.stime : Int) - offset) % (stimeMod : Int)).toNat, frac := 0 }

/-- A step that is due before an entry into RUN from STOP (R466): the offset that the last measurement left, in RUN or HALT, exceeds
time.step_thr. -/
def State.stepDue (s : State) : State :=
  if s.clk.source != 0 && s.dev.state == .stop && decide (s.pv 0x744 < s.clk.owed.natAbs) then
    ({ s with clk := { s.clk.step s.clk.owed with owed := 0 } }).bump 0x746 32
  else s

/-- An edit that waits in HALT gets its instant from an entry into RUN at `at_` (R148). -/
def State.armFromHalt (s : State) (at_ : Ns) : State :=
  match s.prog.armed with
  | none => s
  | some e =>
    let a := match s.pegInstant e.affected (at_ + e.lead) (at_ + s.pn 0x706 * 1000) with
      | some x => x.1
      | none => 0
    { s with prog := { s.prog with armed := some { e with at_ := a } } }

/-- The device enters RUN at the present instant, after a step of STIME that is due (R27, R78, R172, R466). -/
def State.enterRun (s : State) (who : Nat) : State :=
  let s := s.stepDue
  let t := if s.dev.state == .halt then s else s.initImage
  let u := ((t.enter .run who false).clearRunCounts).placeReleases (s.now + s.pn 0x706 * 1000)
  let v := u.armFromHalt s.now
  if v.dev.role == .solo || v.dev.role == .primary then v.claimToken else v

/-- A standby takes the primary's state (R164). -/
def State.followTo (s : State) (st : Nat) : State :=
  let dest := if st = 4 then DevState.run else if st = 5 then DevState.halt else DevState.stop
  let t := { s with stby := { s.stby with follow := none } }
  if t.dev.state == dest then t
  else
    let u := if dest == .run && t.dev.state == .stop then t.initImage else t
    let v := u.enter dest 0 false
    if dest == .run then v.clearRunCounts else v

/-- The state to follow at an instant that has come; an activation on its way ends first (R139, R164). -/
def State.followDue (s : State) : State :=
  match s.stby.follow with
  | some (at_, st) => if at_ ≤ s.now ∧ s.dev.role = .standby ∧ s.prog.activation.isNone then s.followTo st else s
  | none => s

/-- RUN cannot be entered: no program is active, the last check did not pass, or an activation is under way (R78). -/
def State.runNotReady (s : State) : Bool :=
  s.prog.active.isNone || s.pn 0x701 % 256 != 0 || s.prog.activation.isSome || s.dev.role == .node

end Sys2Proof.Machine
end

