-- ==== Sys2Proof/Machine/Watchdog.lean ====
section
/-!
DEFINITION. The watchdog, its ladder and the core-complex restart (R383, R385-R392), clock loss (R387), and the firmware heartbeat.
-/

namespace Sys2Proof.Machine

/-! ### Firmware -/

/-- The voted core complex executes: it is powered and clocked, and no restart is in progress. -/
def State.coresRun (s : State) : Bool :=
  s.pwr.core && s.fclkUp && s.wdg.restarting.isNone && decide (s.pwr.pfStep < 4)

/-- A record of class RESET or LOCKOUT is pending. -/
def State.severePending (s : State) : Bool := s.flt.pending.any (fun r => decide (3 ≤ r.cls))

/-- The firmware heartbeat is at most 2 ms old. -/
def State.heartbeatRecent (s : State) : Bool :=
  match s.flt.heartbeat with
  | some t => decide (s.elapsed t < 2 * msTicks)
  | none => false

/-- Firmware writes its heartbeat; HEARTBEAT's condition is over (R374, R383). -/
def execFirmwareHeartbeat (s : State) : Res :=
  if s.coresRun && s.dev.state != .lockout then
    let t := { s with flt := { s.flt with heartbeat := some s.clk.ticks } }
    .next (if bit t.flt.live 31 then t.condOver 31 else t)
  else .next s

/-- No heartbeat for 2 ms (Table FLT-1). -/
def execHeartbeatLoss (s : State) : Res :=
  if s.flt.heartbeat.isSome && !s.heartbeatRecent && !bit s.flt.live 31 then .next (s.raise 31 0 0) else .next s

/-- At a multiple of 1 ms of STIME, ALIVE changes its level while firmware is alive and no RESET or LOCKOUT record is pending; else
it stops (R383). -/
def execAliveToggle (s : State) : Res :=
  if s.fclkUp && decide (s.now % 1000000 < 3) then
    let ok := s.heartbeatRecent && !s.severePending && s.wdg.restarting.isNone && s.dev.state != .lockout
    .next { s with flt := { s.flt with alive := if ok then !s.flt.alive else s.flt.alive, aliveOn := ok } }
  else .next s

/-- DSTATE.HBEAT advances every 1 ms while the heartbeat is recent (Table HOST-4). -/
def execHbeatAdvance (s : State) : Res :=
  whenOk (s.pwr.host && s.fclkUp && s.heartbeatRecent && decide (msTicks ≤ s.elapsed s.hp.hbeatAt)) s
    { s with hp := { s.hp with hbeat := (s.hp.hbeat + 1) % 65536, hbeatAt := s.clk.ticks } }

/-! ### The core-complex restart (R389) -/

/-- What becomes of the request that mailbox `m` executes (R342): a STATE RUN whose state is entered and a SET whose values are
in force have passed their commit points; any other request that has no response yet has not. The restarted firmware answers in
clear. -/
def State.restartMailbox (s : State) (m : Nat) : State :=
  let x := s.mailbox m
  if x.state != .busy then s
  else
    match x.resp with
    | some r => s.setMailbox m { x with resp := some (Response.mk r.completion r.status r.detail [] false 0 true none) }
    | none =>
      if x.waitFrom.isSome then s.answerClear m 0x0B
      else
        let done := s.dev.runMbx == some m || s.nvm.setWaiting.contains m || s.nvm.setRunMbx.contains m
        let t := if done then s.ok m [] else s.abort m
        t.answerClear m (if done then 0 else 0x0B)

/-- A program record that has not started leaves the commit queue with its activation; one that has is completed without its
request. -/
def State.restartActivation (s : State) : State :=
  match s.prog.activation with
  | none => s
  | some a =>
    let mine (k : Commit) : Bool := (match k.kind with | .activation => true | _ => false) && !k.started
    if s.img.commits.any mine then
      { s with prog := { s.prog with activation := none }, img := { s.img with commits := s.img.commits.filter (fun k => !mine k) } }
    else { s with prog := { s.prog with activation := some { a with mbx := none } } }

/-- The core complex and the truss are reset: shots are abandoned without a count, an armed edit and an update before UPD_ACTIVATE
go, sessions end, the mode returns to TRIPLE or DUAL by retirement, and a pair dissolves (R389, R396). -/
def State.coreRestart (s : State) : State :=
  let t := ((s.dropAll .state).stopReleases).restartActivation
  let u := (List.range 16).foldl (fun v m => v.restartMailbox m) t
  let v := ((u.abandonEdit 4).endSessions false).bump 0x106 32
  let v := match v.upd.stage with
    | .download | .verified => v.updDiscard 9 0
    | _ => v
  let w := v.leavePair false
  State.mirror { w with
    wdg := { w.wdg with restarting := some w.clk.ticks, key1 := none },
    ctxs := w.ctxs.map (fun (e : Nat × Ctx) => (e.1, { e.2 with pegDue := none })),
    sched := { w.sched with cores := none, paused := true, trussLast := none },
    dev := { w.dev with drain := none, drainMbx := none, runMbx := none },
    nvm := { w.nvm with setWaiting := [], setRunMbx := [] },
    tmr := { w.tmr with mode := if w.tmr.retired.isEmpty then .triple else .dual, byRetirement := !w.tmr.retired.isEmpty,
                        freeCore := false, requested := none, returning := none, isolated := none, scrubbed := false,
                        skewed := false, irqPending := 0 },
    flt := { w.flt with aliveOn := false, intDue := false, nmiDue := false } }

/-- The restart is complete: in RUN, releases resume at each context's first grid instant, those passed over are counted, and each
context's next commit emits in full (R49, R80, R389). -/
def execCoreRestartComplete (s : State) : Res :=
  match s.wdg.restarting with
  | none => .next s
  | some t0 =>
    if s.fclkUp && s.pwr.core then
      let ns := (s.clk.ticks - t0) * 5 / 2
      let from_ := s.now - ns
      let t := { s with wdg := { s.wdg with restarting := none }, sched := { s.sched with paused := false } }
      let u := t.setPv 0x918 (min 25000000 ns : Nat)
      let v := if u.dev.state == .run then (u.placeReleases u.now).countSkipped from_ else u
      .next v.dispatch.mirror
    else .next s

/-! ### Expiries and the ladder (R386, R388, R390) -/

/-- What caused an expiry. -/
inductive Expiry where
  | timeout
  | early
  | keyError
deriving DecidableEq, Repr

/-- Evidence, counters and the position after one more ladder increment; the count restarts at 0 (R386, R388, R390, R397). -/
def State.ladderStep (s : State) (pc : Nat) (early keyErr clk : Bool) : State :=
  let t := s.bump 0x915 32
  let t := if early || keyErr then t.bump 0x916 32 else t
  { t with wdg := { t.wdg with
      ladder := min 7 (t.wdg.ladder + 1), count := 0, key1 := none, early := early, keyErr := keyErr, clkLoss := clk,
      evdPc := pc % 2 ^ 32, evdSvc := t.wdg.lastSvc, cleanFrom := t.clk.ticks, expiredAt := some t.clk.ticks } }

/-- The ladder's top: wdg.ladder.n. -/
def State.ladderTop (s : State) : Nat := s.pn 0x912

/-- An update is between UPD_ACTIVATE and its confirmation or revert (R392, R438). -/
def State.updInProgress (s : State) : Bool :=
  s.upd.stage == .activating || s.upd.stage == .activated || s.upd.stage == .trial || s.upd.stage == .reverting

/-- An expiry and its step of Table FLT-8: the record of WDG_EXPIRY, then LOCKOUT at p = N, a core-complex restart at p = 1 where
firmware state exists, else a chip reset; while a chip reset awaits durability only LOCKOUT goes beyond it (R388, R392, R396). -/
def State.expire (s : State) (e : Expiry) (pc : Nat) : State :=
  let t := s.ladderStep pc (e == .early) (e == .keyError) false
  let p := t.wdg.ladder
  let data := t.wdg.evdPc + shl (t.wdg.evdSvc % 2 ^ 64) 32
  let waiting := !s.flt.awaiting.isEmpty
  let starting := s.dev.state == .boot || s.dev.state == .init
  let again := s.wdg.restarting.isSome
  if s.dev.state == .lockout then t
  else if t.ladderTop ≤ p then t.raiseWith 0 0 data p 16 2
  else if waiting then t.raiseWith 0 0 data p 16 0
  else if p = 1 ∧ !starting ∧ !t.updInProgress ∧ !again then (t.raiseWith 0 0 data p 16 0).coreRestart
  else t.raiseWith 0 0 data p 16 1

/-- The watchdog counts: FCLK runs and B1 has ended (R385). -/
def State.wdgRuns (s : State) : Bool := s.fclkUp && s.pwr.core && decide (s.pwr.pfStep < 4)

/-- FCLK cycles of T and of the open time. -/
def Watchdog.limit (w : Watchdog) : Nat := w.cfgT * msTicks

/-- FCLK cycles of the open time. -/
def Watchdog.openAt (w : Watchdog) : Nat := w.cfgOpen * (msTicks / 10)

/-- KEY1 opens a service sequence of 64 cycles (R385). A KEY1 in an open sequence opens it anew. -/
def execWdgKey1 (s : State) : Res :=
  whenOk (s.wdgRuns && s.wdg.restarting.isNone && decide (s.wdg.count < s.wdg.limit)) s
    { s with wdg := { s.wdg with key1 := some s.wdg.count } }

/-- KEY2 lands: a valid service inside the window, an early one below the open time, a key error without KEY1 or after its 64
cycles (R386). -/
def execWdgService (pc : Nat) (s : State) : Res :=
  if s.wdgRuns && s.wdg.restarting.isNone then
    if s.wdg.limit ≤ s.wdg.count then .next (s.expire .timeout pc)
    else
      match s.wdg.key1 with
      | none => .next (s.expire .keyError pc)
      | some k =>
        if 64 < s.wdg.count - k then .next (s.expire .keyError pc)
        else if s.wdg.count < s.wdg.openAt then .next (s.expire .early pc)
        else .next { s with wdg := { s.wdg with count := 0, key1 := none, serviced := true, lastSvc := s.now } }
  else .next s

/-- A value other than the keys is written to WDG_KEY, or KEY2 without KEY1 (R386). -/
def execWdgKeyError (value : W32) (pc : Nat) (s : State) : Res :=
  let bad := value != 0x0000C35A#32 && (value != 0x00005AC3#32 || s.wdg.key1.isNone)
  if s.wdgRuns && s.wdg.restarting.isNone && bad then .next (s.expire .keyError pc) else .next s

/-- KEY1 was not followed by KEY2 within 64 cycles (R386). -/
def execWdgKey1Timeout (pc : Nat) (s : State) : Res :=
  match s.wdg.key1 with
  | some k => if s.wdgRuns && decide (64 < s.wdg.count - k) then .next (s.expire .keyError pc) else .next s
  | none => .next s

/-- The count reaches T (R386). -/
def execWdgExpiry (pc : Nat) (s : State) : Res :=
  if s.wdgRuns && decide (s.wdg.limit ≤ s.wdg.count) then .next (s.expire .timeout pc) else .next s

/-- WDG_CFG is written; ignored after the first valid service (R385, Table FLT-7). A value outside the fields' ranges is ignored. -/
def execWdgCfgWrite (value : W32) (s : State) : Res :=
  let t := bits value.toNat 9 0
  let o := bits value.toNat 29 16
  whenOk (s.wdgRuns && s.wdg.restarting.isNone && !s.wdg.serviced && decide (1 ≤ t) && decide (t ≤ 1000) && decide (1 ≤ o) &&
      decide (o < 10 * t)) s
    { s with wdg := { s.wdg with cfgT := t, cfgOpen := o } }

/-- A write of 1 clears EARLY, KEYERR or CLKLOSS (Table FLT-7). -/
def execWdgStatClear (value : W32) (s : State) : Res :=
  whenOk s.coresRun s
    { s with wdg := { s.wdg with early := s.wdg.early && !value.getLsbD 3, keyErr := s.wdg.keyErr && !value.getLsbD 4,
                                 clkLoss := s.wdg.clkLoss && !value.getLsbD 5 } }

/-- 60 s without a break in STOP, RUN, HALT or SAFE and no expiry: the ladder position is cleared (R388). -/
def execWdgCleanRun (s : State) : Res :=
  let clean := s.dev.state == .stop || s.dev.state == .run || s.dev.state == .halt || s.dev.state == .safe
  whenOk (clean && s.fclkUp && decide (60 * secTicks ≤ s.elapsed s.wdg.cleanFrom)) s
    { s with wdg := { s.wdg with ladder := 0 } }

/-! ### Clock loss (R387) -/

/-- No FCLK edge for 100 µs of a running ACLK, or PLL unlock: one ladder increment, of the step that an expiry of the same cycle
took; the record is kept in PD_AON; LOCKOUT at the ladder's top, else a chip reset that is held (R387, R396, R463). -/
def execClkLoss (pll : Bool) (s : State) : Res :=
  if s.dev.state != .off && !s.pwr.nresetLow && !s.pwr.clkLost && (pll || s.clk.aclk) then
    let s := if pll then s.bump 0x78B 32 else s
    let s := (s.bump 0x919 32).bump 0x987 32
    let t := if s.wdg.expiredAt == some s.clk.ticks then { s with wdg := { s.wdg with clkLoss := true } }
      else
        let (pc, u) := s.draw
        u.ladderStep pc false false true
    let t := { t with pwr := { t.pwr with clkRecord := true, clkAt := t.clk.ticks, clkTime := t.now, clkState := devCode t.dev.state } }
    if t.dev.state == .lockout then .next { t with pwr := { t.pwr with clkLost := true } }
    else if t.ladderTop ≤ t.wdg.ladder then
      let u := t.enterLockout
      .next { u with pwr := { u.pwr with clkLost := true }, flt := { u.flt with awaiting := [], queue := [] } }
    else
      let u := t.chipReset 3
      .next { u with pwr := { u.pwr with clkLost := true } }
  else .next s

/-- FCLK has run for 1 ms: the chip reset is released, and boot starts at B1 (R387). -/
def execClkResetRelease (s : State) : Res :=
  whenOk (s.pwr.clkLost && decide (msTicks ≤ s.elapsed s.pwr.clkAt)) s { s with pwr := { s.pwr with clkLost := false } }

end Sys2Proof.Machine
end

