-- ==== Sys2Proof/Machine/AnalogIn.lean ====
section
/-!
DEFINITION. The events of analog inputs (R247, R250-R264).
-/

namespace Sys2Proof.Machine

/-! ### Sinc outputs and conversions (R250, R254-R257) -/

/-- A modulator's visit in progress on a bay that converts. -/
def State.visitOf (s : State) (x m : Nat) : Option Visit :=
  if modExists s.dev.part x m && (s.bay x).runs && !((s.bay x).modl m).stopped then ((s.bay x).modl m).visit else none

/-- SINC_OUTPUT (R252, R255, R256): one output of the sinc filter, of the bloom or of a result's decimation passes; a step in an ordinary
or urgent visit withholds this output and the next N_s − 1. -/
def execSincOutput (x m : Nat) (y : Int) (s : State) : Res :=
  match s.visitOf x m with
  | none => .next s
  | some v =>
    let b := s.bay x
    let z := clampCode y
    let delivers := v.kind == .scan || v.kind == .urgent
    let step := delivers && (match v.outs with
      | p :: _ => b.isStep v.ch z p
      | [] => false)
    let v1 := { v with skip := if step then v.filt.settling else v.skip - 1, outs := (z :: v.outs).take 32 }
    let b1 := b.setModl m { b.modl m with visit := some v1 }
    .next (s.setBay x (if step then b1.setChan v.ch ((b1.chan v.ch).mark 4 true) else b1))

/-- The visit ends with this conversion: an urgent request waits, the settings have changed, it was an urgent visit, or its dwell
is over and some other visit can follow (R250, R257). -/
def Bay.visitEnds (b : Bay) (m tick : Nat) (v : Visit) : Bool :=
  let y := b.modl m
  let alone := b.takesPart m v.ch && (modChans m).all (fun ch => ch == v.ch || !b.takesPart m ch) && (y.mostDue tick).isNone
  !y.queue.isEmpty || y.cutAfter || v.kind == .urgent || (decide (v.left ≤ 1) && !alone)

/-- CONVERSION_END (R250, R252, R254): the filter output is a result, which waits 4 µs for its delivery; the visit goes on or the next one
starts. -/
def execConversionEnd (x m : Nat) (s : State) : Res :=
  match s.visitOf x m with
  | none => .next s
  | some v =>
    let b := s.bay x
    let y := b.modl m
    if v.skip == 0 && (v.kind == .scan || v.kind == .urgent) then
      let p : Pending :=
        { ch := v.ch, code := v.code, urgent := v.kind == .urgent, first := v.first, eoc := b.local_ s.clk.ticks, at_ := s.clk.ticks }
      let b1 := b.setChan v.ch ((b.chan v.ch).mark 4 false)
      if b.visitEnds m s.clk.ticks v then
        let resume := if v.kind = .scan then v.ch + 1 else y.resume
        .next ((s.setBay x (b1.setModl m { y with pend := y.pend ++ [p], visit := none, resume := resume })).modNext x m)
      else
        let left := if v.left ≤ 1 then b.cn v.ch 9 else v.left - 1
        let v1 := { v with left := left, skip := v.filt.a, first := false }
        .next (s.setBay x (b1.setModl m { y with pend := y.pend ++ [p], visit := some v1 }))
    else .next s

/-! ### Results (R259-R264) -/

/-- value = scaled × gain / 1,000,000 + offset, saturating (R259). -/
def Bay.userValue (b : Bay) (n : Nat) (scaled : Int) : Int :=
  clampInt (-2147483648) 2147483647 (divOpen (scaled * b.cv n 0x1C) 1000000 + b.cv n 0x1B)

/-- Open wire as the channel's methods found it: its live bit; `declared` says that one of them has just declared it, and each
declaration counts (R264). -/
def State.openWire (s : State) (x n : Nat) (declared : Bool) : State :=
  let b := s.bay x
  let c := b.chan n
  let t := s.putBay x (b.setChan n (c.mark 2 (c.ain.owResult || c.ain.owTest || c.ain.owLead || c.ain.owCurrent)))
  if declared then t.bumpChan x n 0x22 else t

/-- Thresholds evaluated on a valid result (R262, R263): the HIGH and LOW states and their crossings. -/
def Bay.thresholds (b : Bay) (n : Nat) (v : Int) : Bay :=
  let c := b.chan n
  let h := b.cv n 0x12
  let high := if b.cv n 0x10 ≤ v then true else if v < b.cv n 0x10 - h then false else bit c.live 5
  let low := if v ≤ b.cv n 0x11 then true else if b.cv n 0x11 + h < v then false else bit c.live 6
  let c1 := (c.mark 5 high).mark 6 low
  let c2 := if high && !bit c.live 5 then c1.event 7 else c1
  b.setChan n (if low && !bit c.live 6 then c2.event 8 else c2)

/-- RESULT_DELIVERY (R254, R257, R259-R264): the value of the code, its validity and the thresholds; the stream frame; the result counts.
`compliance`: the excitation source reported compliance during the conversion. -/
def execResultDelivery (x m : Nat) (compliance : Bool) (s : State) : Res :=
  let b := s.bay x
  let y := b.modl m
  match y.pend with
  | [] => .next s
  | p :: rest =>
    if modExists s.dev.part x m && b.runs && modeIsAin (b.mode p.ch) && decide (4 * usTicks ≤ s.elapsed p.at_) then
      let n := p.ch
      let c := b.chan n
      let r := b.scaledOf x n p.code
      let byResult := decide (11 ≤ b.mode n) && compliance
      let out := r.ovr || r.under
      let v := b.userValue n r.scaled
      let newOut := (r.ovr && !bit c.live 0) || (r.under && !bit c.live 1)
      let a1 := { c.ain with value := v, code := p.code, seq := (c.ain.seq + 1) % 65536, eoc := some p.eoc, newSample := true,
                             owResult := byResult }
      let c1 := (({ c with ain := a1 }.mark 0 r.ovr).mark 1 r.under)
      let c2 := if c.ain.eoc.isNone then c1.event 10 else c1
      let c3 := if p.urgent then c2.event 9 else c2
      let f : Stream :=
        { ch := n, seq := (y.seq + 1) % 65536, code := p.code, urgent := p.urgent, outRange := out, first := p.first, eoc := p.eoc }
      let b1 := (b.setChan n c3).setModl m { y with pend := rest, seq := (y.seq + 1) % 65536, streams := y.streams ++ [f] }
      let t := (s.setBay x b1).openWire x n (byResult && !c.ain.owResult)
      let b2 := t.bay x
      let valid := !b2.invalid n s.clk.ticks
      let k := b2.chan n
      let b3 := if valid then (b2.setChan n { k with ain := { k.ain with lastValid := v } }).thresholds n v else b2
      let t1 := ((t.putBay x b3).bumpChan x n 0x24).bump (bayPid x (modOff m 4)) 32
      let t2 := if newOut then t1.bumpChan x n 0x21 else t1
      .next (if p.urgent then t2.bump (bayPid x (modOff m 8)) 32 else t2)
    else .next s

/-- THRESHOLD_EVENT (R263): firmware takes the interrupt: each crossing counts, and is logged where thr.log is set. -/
def execThresholdEvent (x : Nat) (s : State) : Res :=
  let e := s.engBay x
  if s.coresRun && !e.crossed.isEmpty then
    let t := s.setEngBay x { e with crossed := [] }
    .next (e.crossed.foldl (fun (u : State) k =>
      let u1 := u.bumpChan x k.1 0x15
      if u.chanN x k.1 0x14 = 1 then
        u1.log 0x13 (leBytes 1 x ++ leBytes 1 k.1 ++ leBytes 1 (b2n (!k.2.1)) ++ leBytes 1 0 ++ leBytes 4 (ofInt 32 k.2.2))
      else u1) t)
  else .next s

/-! ### Maintenance visits (R251, R264) -/

/-- LEAD_VISIT_END: the lead resistance in mΩ that the code stands for is stored; more than 50 Ω, or over-range, is an open wire. -/
def execLeadVisitEnd (x m : Nat) (code : Int) (s : State) : Res :=
  match s.visitOf x m with
  | none => .next s
  | some v =>
    if v.kind == .lead && v.skip == 0 then
      let b := s.bay x
      let c := b.chan v.ch
      let lead := b.measured x v.ch (clampCode code)
      let open_ := decide (50000 < lead) || decide ((ainLimits (b.mode v.ch) false).2 < lead)
      let a := { c.ain with leadMeas := lead.toNat, owLead := open_ }
      let b1 := (b.setChan v.ch { c with ain := a }).setModl m { b.modl m with visit := none }
      .next (((s.setBay x b1).openWire x v.ch (open_ && !c.ain.owLead)).modNext x m)
    else .next s

/-- TEST_VISIT_END: the test result differs from the last valid value by more than ow.thr, or is out of range (Table AIN-6). -/
def execTestVisitEnd (x m : Nat) (code : Int) (s : State) : Res :=
  match s.visitOf x m with
  | none => .next s
  | some v =>
    if v.kind == .test && v.skip == 0 then
      let b := s.bay x
      let c := b.chan v.ch
      let r := b.scaledOf x v.ch (clampCode code)
      let d := b.userValue v.ch r.scaled - c.ain.lastValid
      let fails := r.ovr || r.under || decide (b.cv v.ch 0x18 * 1000 < d.natAbs)
      let b1 := (b.setChan v.ch { c with ain := { c.ain with owTest := fails } }).setModl m { b.modl m with visit := none }
      .next (((s.setBay x b1).openWire x v.ch (fails && !c.ain.owTest)).modNext x m)
    else .next s

/-! ### The current shunt (R247) and its open wire (R264) -/

/-- SHUNT_TRIP: a shunt current above 30 mA (in µA) for 1 ms, or within 1 ms of a reclose, opens the shunt; SHUNT_OFF is live and the
trip counts. -/
def execShuntTrip (x n current held : Nat) (s : State) : Res :=
  let b := s.bay x
  let c := b.chan n
  let again := bit c.live 3 && decide (s.elapsed c.ain.shuntAt ≤ msTicks)
  if s.bayActs x n && b.mode n == 10 && !c.ain.shuntOpen && decide (30000 < current) && (again || decide (1000 ≤ held)) then
    let c1 := { c with ain := { c.ain with shuntOpen := true, shuntAt := s.clk.ticks } }
    .next ((s.putBay x (b.setChan n (c1.mark 3 true))).bumpChan x n 0x23)
  else .next s

/-- SHUNT_RECLOSE: an open shunt recloses every 1 s. -/
def execShuntReclose (x n : Nat) (s : State) : Res :=
  let b := s.bay x
  let c := b.chan n
  whenOk (s.bayActs x n && b.mode n == 10 && c.ain.shuntOpen && decide (secTicks ≤ s.elapsed c.ain.shuntAt)) s
    (s.putBay x (b.setChan n { c with ain := { c.ain with shuntOpen := false, shuntAt := s.clk.ticks } }))

/-- SHUNT_OFF_CLEAR: the shunt has stayed closed for 100 ms. -/
def execShuntOffClear (x n current : Nat) (s : State) : Res :=
  let b := s.bay x
  let c := b.chan n
  let g := s.bayActs x n && b.mode n == 10 && !c.ain.shuntOpen && bit c.live 3 &&
    decide (100 * msTicks ≤ s.elapsed c.ain.shuntAt) && decide (current ≤ 30000)
  whenOk g s (s.putBay x (b.setChan n (c.mark 3 false)))

/-- CURRENT_OPEN_WIRE: a current (µA) below a nonzero ow.i_min for 100 ms declares open wire; one that reaches ow.i_min for 100 ms
clears it, and so does an ow.i_min of 0 with a current of 0 or more. -/
def execCurrentOpenWire (x n : Nat) (current : Int) (held : Nat) (s : State) : Res :=
  let b := s.bay x
  let c := b.chan n
  let min_ := b.cv n 0x19
  let declares := min_ != 0 && decide (current < min_)
  if s.bayActs x n && b.mode n == 10 && decide (100000 ≤ held) && (declares || decide (min_ ≤ current)) then
    let b1 := b.setChan n { c with ain := { c.ain with owCurrent := declares } }
    .next ((s.setBay x b1).openWire x n (declares && !c.ain.owCurrent))
  else .next s

end Sys2Proof.Machine
end

