-- ==== Sys2Proof/Machine/AnalogOut.lean ====
section
/-!
DEFINITION. The events of analog outputs (R276-R281).
-/

namespace Sys2Proof.Machine

/-- The stage is saturated at a terminal voltage: headroom below 1.5 V (R276). -/
def Bay.saturated (b : Bay) (n volt : Nat) : Bool := decide (b.headroom n volt < 150)

/-- The next higher available tap. -/
def Bay.tapAbove (b : Bay) (n : Nat) : Option Nat :=
  let t := b.tapInUse n
  [1, 2, 3].find? (fun k => decide (t < k) && b.tapAvail k)

/-- The next lower available tap. -/
def Bay.tapBelow (b : Bay) (n : Nat) : Option Nat :=
  let t := b.tapInUse n
  [2, 1, 0].find? (fun k => decide (k < t) && b.tapAvail k)

/-- The lowest available tap above the present one that gives 2.0 V of headroom, else the L+ tap: what R277 selects. -/
def Bay.tapSelect (b : Bay) (n volt : Nat) : Nat :=
  let t := b.tapInUse n
  ([1, 2].find? (fun k => decide (t < k) && b.tapAvail k && decide (volt + 200 ≤ b.tapVolt k))).getD 3

/-- A tap change: it counts, and the qualification for a step down starts afresh (R277). -/
def State.moveTap (s : State) (x n t : Nat) (forced : Bool) (volt : Nat) : State :=
  let b := s.bay x
  let c := (b.chan n).mark 7 forced
  (s.putBay x (b.setChan n { c with reading := { c.reading with volt := volt } })).setTap x n t

/-- The tap rules act on a channel: mode 16 or 18, with automatic selection (R277). -/
def State.tapActs (s : State) (x n : Nat) : Bool :=
  let b := s.bay x
  s.bayActs x n && (b.mode n == 16 || b.mode n == 18) && b.cn n 8 == 0

/-- TAP_STEP_UP (R277, R278): headroom below 2.0 V; while TAP_FORCED is set only saturation steps up, and lifts it. -/
def execTapStepUp (x n volt : Nat) (s : State) : Res :=
  let b := s.bay x
  if s.tapActs x n && decide (b.headroom n volt < 200) then
    if bit (b.chan n).live 7 then
      (if b.saturated n volt && b.tapInUse n != 3 then .next (s.moveTap x n (b.tapSelect n volt) false volt) else .next s)
    else
      match b.tapAbove n with
      | some t => .next (s.moveTap x n t false volt)
      | none => .next s
  else .next s

/-- TAP_STEP_DOWN (R277): the next lower tap would have given 2.5 V for 100 ms without a break, all of it since the last step. -/
def execTapStepDown (x n volt held : Nat) (s : State) : Res :=
  let b := s.bay x
  match b.tapBelow n with
  | some t =>
    if s.tapActs x n && decide (volt + 250 ≤ b.tapVolt t) && decide (100000 ≤ held) &&
        s.heldSince held (b.chan n).aout.tapAt then
      .next (s.moveTap x n t (bit (b.chan n).live 7) volt)
    else .next s
  | none => .next s

/-- The tap of a forced step down: the next lower one, if it leaves 1.5 V (R278). -/
def Bay.forcedTap (b : Bay) (n volt : Nat) : Option Nat :=
  match b.tapBelow n with
  | some t => if volt + 150 ≤ b.tapVolt t then some t else none
  | none => none

/-- TAP_FORCED (R278): at 150 °C. -/
def execTapForced (x n : Nat) (temp : Int) (volt : Nat) (s : State) : Res :=
  let b := s.bay x
  match b.forcedTap n volt with
  | some t =>
    if s.tapActs x n && decide (1500 ≤ temp) then
      let c := b.chan n
      let s1 := s.setBay x (b.setChan n { c with reading := { c.reading with temp := temp } })
      .next (s1.moveTap x n t true volt)
    else .next s
  | none => .next s

/-- TAP_FORCED_CLEAR (R278): below 140 °C. -/
def execTapForcedClear (x n : Nat) (temp : Int) (s : State) : Res :=
  let b := s.bay x
  let c := b.chan n
  whenOk (s.bayActs x n && modeIsAo (b.mode n) && bit c.live 7 && decide (temp < 1400)) s
    (s.putBay x (b.setChan n ({ c with reading := { c.reading with temp := temp } }.mark 7 false)))

/-- What step 4 gives without the limiter, in QW units. -/
def Bay.unlimited (b : Bay) (n : Nat) : Nat :=
  let c := b.chan n
  match (b.setChan n { c with aout := { c.aout with ceiling := none } }).aoForm n with
  | some f => f.driven
  | none => 0

/-- LIMITER_STEP (R278): each millisecond the ceiling falls by 1 % of the driven value at 150 °C or more where no lower tap serves,
and rises by 1 % below 145 °C until it no longer acts. -/
def execLimiterStep (x n : Nat) (temp : Int) (s : State) : Res :=
  let b := s.bay x
  let k := b.chan n
  if s.bayActs x n && modeIsAo (b.mode n) && decide (msTicks ≤ s.elapsed k.aout.limitAt) then
    let c := { k with reading := { k.reading with temp := temp } }
    let d := c.aout.driven
    let lower := s.tapActs x n && (b.forcedTap n c.reading.volt).isSome
    let put (l : Option Nat) : State :=
      s.putBay x (b.setChan n { c with aout := { c.aout with ceiling := l, limitAt := s.clk.ticks } })
    if decide (1500 ≤ temp) && !lower && d != 0 then
      match c.aout.ceiling with
      | none => .next ((put (some (100 * d - d))).bumpChan x n 0x18)
      | some l => .next (put (some (l - d)))
    else if temp < 1450 then
      match c.aout.ceiling with
      | some l =>
        let l1 := l + max 1 d
        .next (put (if 100 * b.unlimited n ≤ l1 then none else some l1))
      | none => .next s
    else .next s
  else .next s

/-! ### Compliance and open loop (R279-R281) -/

/-- The current limit of a mode 18 channel in µA (Table ELEC-16). -/
def aoLimit (x n : Nat) : Nat := 12000 + Config.aoLimit x n % 4001

/-- A compliance condition at a terminal voltage (10 mV) and an output current (µA) (R279). -/
def Bay.shortfall (b : Bay) (x n volt current : Nat) : Bool :=
  let sat := b.tapInUse n == 3 && b.saturated n volt
  let d := (b.chan n).aout.driven
  if b.mode n = 16 then sat
  else if b.mode n = 17 then decide (volt < 200) && d != 0
  else sat || decide (aoLimit x n ≤ current)

/-- COMPLIANCE_ONSET (R279). -/
def execComplianceOnset (x n volt current : Nat) (s : State) : Res :=
  let b := s.bay x
  let c := b.chan n
  if s.bayActs x n && modeIsAo (b.mode n) && c.aout.compSince.isNone && (b.aoForm n).isSome && b.shortfall x n volt current then
    let c1 := { c with reading := { c.reading with volt := volt }, aout := { c.aout with compSince := some s.clk.ticks } }
    .next ((s.putBay x (b.setChan n (c1.mark 0 true))).bumpChan x n 0x16)
  else .next s

/-- COMPLIANCE_CLEAR (R279): its condition has been absent for 1 ms. -/
def execComplianceClear (x n volt current held : Nat) (s : State) : Res :=
  let b := s.bay x
  let c := b.chan n
  whenOk (s.bayActs x n && modeIsAo (b.mode n) && c.aout.compSince.isSome && !b.shortfall x n volt current && decide (1000 ≤ held)) s
    (s.putBay x (b.setChan n ({ c with aout := { c.aout with compSince := none } }.mark 0 false)))

/-- ALARM_FORCED_LOW (R280): COMPLIANCE live for 50 ms without a break, in modes 16 and 17; firmware logs it. -/
def execAlarmForcedLow (x n : Nat) (s : State) : Res :=
  let b := s.bay x
  let c := b.chan n
  let long := match c.aout.compSince with
    | some t => decide (50 * msTicks ≤ s.elapsed t)
    | none => false
  if s.bayActs x n && (b.mode n == 16 || b.mode n == 17) && long && !c.aout.forcedLow && (b.aoForm n).isSome then
    let t := (s.putBay x (b.setChan n { c with aout := { c.aout with forcedLow := true } })).bumpChan x n 0x19
    .next (if t.coresRun then t.log 0x14 (leBytes 1 x ++ leBytes 1 n) else t)
  else .next s

/-- The condition of OPENLOOP (R281): at least 1 mA driven; mode 16: saturated on the L+ tap with a readback (nA) below 0.2 mA; mode 17:
below 0.5 V. -/
def Bay.loopOpen (b : Bay) (n volt : Nat) (readback : Int) : Bool :=
  decide (2500 ≤ (b.chan n).aout.driven) &&
    ((b.mode n == 16 && b.tapInUse n == 3 && b.saturated n volt && decide (readback < 200000)) ||
     (b.mode n == 17 && decide (volt < 50)))

/-- OPENLOOP_SET (R281): the condition has stood for 10 ms. -/
def execOpenloopSet (x n volt : Nat) (readback : Int) (held : Nat) (s : State) : Res :=
  let b := s.bay x
  let c := b.chan n
  if s.bayActs x n && b.loopOpen n volt readback && decide (10000 ≤ held) && !bit c.live 2 then
    let c1 := { c with reading := { c.reading with volt := volt, out := readback } }
    .next ((s.putBay x (b.setChan n (c1.mark 2 true))).bumpChan x n 0x17)
  else .next s

/-- OPENLOOP_CLEAR (R281): the condition has been absent for 10 ms. -/
def execOpenloopClear (x n volt : Nat) (readback : Int) (held : Nat) (s : State) : Res :=
  let b := s.bay x
  let c := b.chan n
  whenOk (s.bayActs x n && modeIsAo (b.mode n) && bit c.live 2 && !b.loopOpen n volt readback && decide (10000 ≤ held)) s (s.putBay x (b.setChan n (c.mark 2 false)))

end Sys2Proof.Machine
end

