-- ==== Sys2Proof/Machine/Fabric.lean ====
section
/-!
DEFINITION. The fabric: the SRAM regions of Table ARCH-4, the accesses that Table ARCH-5 lets each master make, and the outcome of a
read under ECC (R20-R22).
-/

namespace Sys2Proof.Machine

/-- The masters of Table ARCH-5. -/
inductive Master where
  | core
  | freeCore
  | truss
  | bayLink
  | mac
  | host
  | scarf
  | sec
deriving DecidableEq, Repr

/-- The regions of Table ARCH-4, the two banks of a kind apart. -/
inductive Region where
  | fwBank (n : Nat)
  | userBank (n : Nat)
  | image
  | db
  | pool
  | tables
  | netBuf
  | adc
  | mailboxes
  | fwMisc
deriving DecidableEq, Repr

/-- The region of a byte offset within the 16 MB SRAM (Table ARCH-4). -/
def sramRegion (a : Nat) : Region :=
  if a < 0x200000 then .fwBank 0
  else if a < 0x400000 then .fwBank 1
  else if a < 0x800000 then .userBank 0
  else if a < 0xC00000 then .userBank 1
  else if a < 0xC3C000 then .image
  else if a < 0xDBC000 then .db
  else if a < 0xEBC000 then .pool
  else if a < 0xF00000 then .tables
  else if a < 0xFC0000 then .netBuf
  else if a < 0xFD0000 then .adc
  else if a < 0xFE0000 then .mailboxes
  else .fwMisc

/-- The image input area: I and IW (Table ARCH-5, R33). -/
def inputByte (a : Nat) : Bool :=
  (decide (areaBase 0 ≤ a) && decide (a < areaBase 1)) || (decide (areaBase 2 ≤ a) && decide (a < areaBase 3))

/-- The diagnostic area DG (R33, R208). -/
def diagByte (a : Nat) : Bool := decide (areaBase 7 ≤ a) && decide (a < areaBase 7 + 0x4000)

/-- What a master reads (Table ARCH-5). The bay part of the system tables is not placed by the spec: the bay link engine reads that
region whole here, and the pool stands for snapshots and shot buffers alike (assumption log 58). -/
def State.mayRead (s : State) (m : Master) (a : Nat) : Bool :=
  let r := sramRegion a
  match m with
  | .core => true
  | .sec => true
  | .freeCore => r == .netBuf || r == .mailboxes || r == .fwMisc || r == .fwBank (s.pn 0x10B)
  | .truss => r == .userBank s.prog.bank || r == .pool || r == .image
  | .bayLink => r == .image || r == .tables
  | .mac => r == .netBuf
  | .host => r == .mailboxes
  | .scarf => r == .pool || r == .image || r == .db

/-- What a master writes (Table ARCH-5). -/
def State.mayWrite (s : State) (m : Master) (a : Nat) : Bool :=
  let r := sramRegion a
  match m with
  | .core => r != .fwBank (s.pn 0x10B)
  | .sec => r == .fwBank 0 || r == .fwBank 1 || r == .userBank 0 || r == .userBank 1 || r == .netBuf || r == .mailboxes
  | .freeCore => r == .netBuf || r == .mailboxes || r == .fwMisc
  | .truss => r == .pool
  | .bayLink => inputByte a || r == .adc || diagByte a
  | .mac => r == .netBuf
  | .host => r == .mailboxes
  | .scarf => r == .pool && s.dev.role == .standby

/-- A blocked access raises FABRIC (R21). -/
def State.blocked (s : State) : State := s.raise 8 0 0

/-- An error corrected: it counts, and SRAM_CE rises when more than 16 fall within 1 s (R22, Table FLT-1). -/
def State.corrected (s : State) : State :=
  let recent := (s.clk.ticks :: s.flt.ceTimes).filter (fun t => decide (s.clk.ticks - t < secTicks))
  let t := { s with flt := { s.flt with ceTimes := recent.take 17 } }
  if 16 < recent.length then t.raise 6 0 0 else t

/-- What a 64-bit word with `flips` bits in error does on a read: one is corrected, two raise SRAM_UE (R22). -/
def State.eccRead (s : State) (flips : Nat) : State :=
  if flips = 0 then s else if flips = 1 then s.corrected else s.raise 5 0 0

/-- The byte that a master reads from a word with `flips` bits in error: 0 of a blocked read (R21); nothing where two bits are in error
(R22). -/
def State.fabricByte (s : State) (m : Master) (flips a : Nat) : Option Byte :=
  if !s.mayRead m a then some 0#8 else if flips < 2 then some (s.sram.read a) else none

/-- Bytes of one 64-bit word read by a master (R21, R22). -/
def State.fabricRead (s : State) (m : Master) (flips : Nat) (as : List Nat) : List (Option Byte) × State :=
  (as.map (s.fabricByte m flips), if as.all (s.mayRead m) then s.eccRead flips else s.blocked)

/-- A byte written by a master; a blocked write changes nothing (R21). -/
def State.fabricWrite (s : State) (m : Master) (a : Nat) (b : Byte) : State :=
  if s.mayWrite m a then { s with sram := s.sram.write a b } else s.blocked

/-- Bytes written by a master from address `a` on. -/
def State.fabricWrites (s : State) (m : Master) (a : Nat) (bs : List Byte) : State :=
  if (List.range bs.length).all (fun i => s.mayWrite m (a + i)) then { s with sram := s.sram.writeL a bs } else s.blocked

end Sys2Proof.Machine
end

