-- ==== Sys2Proof/Machine/LaneFrames.lean ====
section
/-!
DEFINITION. The frames of the coupler lanes as bytes, what a receiver accepts of them and what it reads from them (R187, R188, R194,
R195, R261, Tables BAY-3 and AIN-5).
-/

namespace Sys2Proof.Machine

/-! ### Sync, CRC and errors on the way -/

/-- A frame: its bytes from sync on, and the CRC-16 over all but the sync (R187). -/
def laneFrame (bs : List Byte) : List Byte := bs ++ leBytes 2 (crc16 (bs.drop 1)).toNat

/-- A frame of the right length, sync and CRC (R189). -/
def frameOk (sync len : Nat) (bs : List Byte) : Bool :=
  decide (bs.length = len) && leAt bs 0 1 == sync && leAt bs (len - 2) 2 == (crc16 ((bs.take (len - 2)).drop 1)).toNat

/-- A frame with an error pattern on it: bytes past the end of the pattern arrive as sent. -/
def flipBytes (bs err : List Byte) : List Byte :=
  match bs, err with
  | b :: bs, e :: es => (b ^^^ e) :: flipBytes bs es
  | bs, _ => bs

/-- What arrives of a frame `x` sent as `bs`: `x` where it arrives as sent, what `read` finds in it where it still has sync and CRC, none
where it is discarded. -/
def received {α : Type} (sync : Nat) (x : α) (bs err : List Byte) (read : List Byte → α) : Option α :=
  let r := flipBytes bs err
  if r = bs then some x else if frameOk sync bs.length r then some (read r) else none

/-! ### Command frames (Table BAY-3) -/

/-- A command frame as bytes. -/
def CmdFrame.bytes (f : CmdFrame) : List Byte :=
  let flags := 16 + 8 * b2n f.fresh + 4 * b2n f.cur.isSome + 2 * b2n f.next.isSome + b2n f.urgent
  laneFrame (leBytes 1 0xD3 ++ leBytes 1 flags ++ leBytes 2 f.cycle ++ leBytes 4 (f.cur.getD 0) ++
    leBytes 4 ((f.next.map (fun (e : Nat × Nat) => e.1)).getD 0) ++ leBytes 2 ((f.next.map (fun (e : Nat × Nat) => e.2)).getD 0))

/-- A command frame read from bytes; `f` is what was sent, for the instant of its cycle, which no byte carries. -/
def CmdFrame.read (f : CmdFrame) (bs : List Byte) : CmdFrame :=
  let flags := leAt bs 1 1
  { cycle := leAt bs 2 2, c := f.c, fresh := bit flags 3, cur := if bit flags 2 then some (leAt bs 4 4) else none,
    next := if bit flags 1 then some (leAt bs 8 4, leAt bs 12 2) else none, urgent := bit flags 0 }

/-- What a bay takes of a command frame. -/
def CmdFrame.receive (f : CmdFrame) (err : List Byte) : Option CmdFrame := received 0xD3 f f.bytes err f.read

/-! ### Sample frames (R188) -/

/-- A sample frame as bytes. -/
def Sample.bytes (f : Sample) : List Byte :=
  let flags := 32 + 8 * b2n f.late + 4 * b2n f.safe + 2 * b2n f.limp + b2n f.newSample
  laneFrame (leBytes 1 0x5C ++ leBytes 1 flags ++ leBytes 2 f.cycle ++ leBytes 4 f.value ++ leBytes 4 f.aux ++ leBytes 2 f.status)

/-- A sample frame read from bytes; the I bit goes with the frame `f` that was sent. -/
def Sample.read (f : Sample) (bs : List Byte) : Sample :=
  let flags := leAt bs 1 1
  { cycle := leAt bs 2 2, late := bit flags 3, safe := bit flags 2, limp := bit flags 1, newSample := bit flags 0,
    value := leAt bs 4 4, aux := leAt bs 8 4, status := leAt bs 12 2, ibit := f.ibit }

/-- What the engine takes of a sample frame. -/
def Sample.receive (f : Sample) (err : List Byte) : Option Sample := received 0x5C f f.bytes err f.read

/-! ### Stream frames (Table AIN-5) -/

/-- A stream frame as bytes. -/
def Stream.bytes (f : Stream) : List Byte :=
  laneFrame (leBytes 1 0x6A ++ leBytes 1 0x30 ++ leBytes 2 f.seq ++ leBytes 3 (ofInt 24 f.code) ++
    leBytes 1 (b2n f.urgent + 2 * b2n f.outRange + 4 * b2n f.first) ++ leBytes 4 (f.eoc / 1000 % 2 ^ 32) ++ leBytes 2 0)

/-- A stream frame read from bytes: the end of conversion in µs of the bay's local time mod 2^32, taken to the latest such instant that
is not after `now` (R265). -/
def Stream.read (f : Stream) (now : Ns) (bs : List Byte) : Stream :=
  let us := leAt bs 8 4
  { ch := f.ch, seq := leAt bs 2 2, code := toInt 24 (leAt bs 4 3), urgent := bit (leAt bs 7 1) 0, outRange := bit (leAt bs 7 1) 1,
    first := bit (leAt bs 7 1) 2, eoc := (now / 1000 - (now / 1000 + 2 ^ 32 - us) % 2 ^ 32) * 1000 }

/-- What the engine takes of a stream frame: what its bytes say. -/
def Stream.receive (f : Stream) (now : Ns) (err : List Byte) : Option Stream :=
  let r := flipBytes f.bytes err
  if frameOk 0x6A 16 r then some (f.read now r) else none

/-! ### Cycle-start messages (R194) -/

/-- A cycle-start message as bytes. -/
def CycleMsg.bytes (m : CycleMsg) : List Byte :=
  laneFrame (leBytes 1 0x9E ++ leBytes 1 (b2n m.fresh + 2 * b2n m.safeNow) ++ leBytes 2 m.cycle ++ leBytes 8 m.c ++ leBytes 2 0)

/-- A cycle-start message read from bytes. -/
def CycleMsg.read (m : CycleMsg) (bs : List Byte) : CycleMsg :=
  { cycle := leAt bs 2 2, c := leAt bs 4 8, sentAt := m.sentAt, fresh := bit (leAt bs 1 1) 0, safeNow := bit (leAt bs 1 1) 1 }

/-- What a bay takes of a cycle-start message. -/
def CycleMsg.receive (m : CycleMsg) (err : List Byte) : Option CycleMsg := received 0x9E m m.bytes err m.read

/-! ### Management frames (R194) -/

/-- A request or response of 64 bytes: type, tag, length, 58 data bytes. -/
def mgmtFrame (ty tag : Nat) (data : List Byte) : List Byte :=
  laneFrame (leBytes 1 0x9F ++ leBytes 1 ty ++ leBytes 1 tag ++ leBytes 1 data.length ++ (data ++ List.replicate 58 0#8).take 58)

/-- Type, tag and data of a management frame. -/
def readMgmt (bs : List Byte) : Nat × Nat × List Byte := (leAt bs 1 1, leAt bs 2 1, (bs.drop 4).take (min 58 (leAt bs 3 1)))

/-! ### Status words (R195) -/

/-- The status word of a bay with heartbeat level `hb`: bits [15:8] are the complement of bits [7:0]. -/
def Bay.statusWord (b : Bay) (hb : Bool) : Nat :=
  let low := b2n hb + 2 * b2n b.common + 4 * b2n b.uv + 8 * b2n b.warn + 16 * b2n b.limp + 32 * b2n b.silent + 64 * b2n b.resetSeen
  low + 256 * (255 - low)

end Sys2Proof.Machine
end

