-- ==== Sys2Proof/Machine/NetOps.lean ====
section
/-!
DEFINITION. What the SRX master shares among its events (R293-R314): images and steps of a node (R301), failures of received frames
(R306), sequence recovery (R294), node states and NODEFLT (R312, R313), acyclic exchanges (R310) and the loss of the token (R173).
-/

namespace Sys2Proof.Machine

/-! ### Images (R301, R302) -/

/-- Bits packed eight to a byte, bit j of byte i the (8i + j)-th. -/
def packBits (l : List Bool) : List Byte :=
  (List.range (ceilDiv l.length 8)).map (fun i => BitVec.ofNat 8 (ofBits ((l.drop (8 * i)).take 8)))

/-- An output image: the mapped Q bits, then the QW words. -/
def NodeCfg.outImage (d : NodeCfg) (vals : List (Nat × Nat)) : List Byte :=
  packBits ((List.range d.qBits).map (fun i => tget 0 vals (d.qBase + i) % 2 == 1)) ++
    (List.range d.qwWords).flatMap (fun i => leBytes 2 (tget 0 vals (d.qwBase + i)))

/-- The points of an input image: I bits, then IW words. -/
def NodeCfg.inPoints (d : NodeCfg) (img : List Byte) : List (Nat × Nat) :=
  (List.range d.iBits).map (fun i => (d.iBase + i, b2n ((img.getD (i / 8) 0#8).getLsbD (i % 8)))) ++
    (List.range d.iwWords).map (fun i => (d.iwBase + i, leAt img (d.iBits / 8 + 2 * i) 2))

/-- Pending changes applied in order of their instants. -/
def applyPend (vals : List (Nat × Nat)) (ps : List PendOut) : List (Nat × Nat) :=
  (sortBy (fun a b => decide (a.applyAt ≤ b.applyAt)) ps).foldl (fun t p => tset t p.pt p.val) vals

/-- The steps of a frame of cycle `c`: the full image in force from each distinct pending instant after `c`, up to 3. -/
def NodeCfg.steps (d : NodeCfg) (vals : List (Nat × Nat)) (later : List PendOut) : List (Ns × List Byte) :=
  let ts := (sortBy (fun a b => decide (a ≤ b)) (later.map PendOut.applyAt)).eraseDups.take 3
  ts.map (fun t => (t, d.outImage (applyPend vals (later.filter (fun p => decide (p.applyAt ≤ t))))))

/-- The OUT payload (R301). -/
def outPayload (img : List Byte) (steps : List (Ns × List Byte)) : List Byte :=
  leBytes 1 steps.length ++ leBytes 1 0 ++ leBytes 2 img.length ++ img ++ steps.flatMap (fun (e : Ns × List Byte) => leBytes 8 e.1 ++ e.2)

/-! ### Segments -/

/-- The segment entry of a configured segment. -/
def State.segCfg (s : State) (sg : Nat) : Option SegCfg :=
  match s.net.cfg with
  | some c => c.seg sg
  | none => none

/-- The nodes of a segment, ascending. -/
def State.segNodes (s : State) (sg : Nat) : List NodeCfg :=
  match s.net.cfg with
  | some c => c.nodesOf sg
  | none => []

/-- The descriptor of a node. -/
def State.nodeCfg (s : State) (n : Nat) : Option NodeCfg :=
  match s.net.cfg with
  | some c => c.nodes.find? (fun d => d.num == n)
  | none => none

/-- A pid of a segment (Table RIO-13). -/
def segPid (sg off : Nat) : Nat := 0xC40 + 16 * (sg - 1) + off

/-- The contexts whose pegs make a segment fresh: those that own points mapped to it, or any configured one where none does. -/
def State.segCtxs (s : State) (sg : Nat) : List Nat × Bool :=
  let own := s.configured.filter (fun c =>
    (s.segNodes sg).any (fun d => s.program.ownsIn c d.qBase d.qBits || s.program.ownsIn c d.qwBase d.qwWords))
  if own.isEmpty then (s.configured, false) else (own, true)

/-- F_s in µs (R314). -/
def State.segFresh (s : State) (sg : Nat) : Nat :=
  let (cs, own) := s.segCtxs sg
  let ps := cs.filterMap (fun c => (s.ctx c).cfg.map CtxEntry.period)
  match ps with
  | [] => 0
  | p :: r => min 20000000 (2 * (if own then r.foldl max p else r.foldl min p))

/-- fresh of an OUT frame of the cycle at `at_`: RUN as SOLO or PRIMARY, and a committed peg within F_s (R314). -/
def State.outFresh (s : State) (sg : Nat) (at_ : Ns) : Bool :=
  let f := s.segFresh sg * 1000
  s.dev.state == .run && (s.dev.role == .solo || s.dev.role == .primary) && (s.segCtxs sg).1.any (fun c =>
    match (s.ctx c).lastPegAt with
    | some p => decide (p ≤ at_) && decide (at_ ≤ p + f)
    | none => false)

/-- The segment state (Table RIO-13). -/
def State.segState (s : State) (sg : Nat) : Nat :=
  if (s.segCfg sg).isNone then 0
  else if s.dev.state == .safe || s.dev.state == .lockout then 3
  else if (s.segNodes sg).all (fun d => (s.node d.num).state == 2) then 1
  else 2

/-! ### Failures of received frames (R306, Table FLT-1) -/

/-- A frame fails a check: the counter grows; 64 within 1 s are a NET_AUTH fault. -/
def State.netFail (s : State) (pid : Nat) : State :=
  let t := s.bump pid 32
  let ts := (t.clk.ticks :: t.net.authTimes).take 64
  let u := { t with net := { t.net with authTimes := ts } }
  if ts.length = 64 ∧ t.clk.ticks - ts.getD 63 0 ≤ secTicks then
    ({ u with net := { u.net with authTimes := [] } }).raise 23 0 0
  else u

/-- A frame of a segment fails for authentication. -/
def State.authFail (s : State) (sg : Nat) : State :=
  let x := s.seg sg
  let t := if (s.segCfg sg).isSome then s.setSeg sg { x with authFail := x.authFail + 1 } else s
  t.netFail 0xC0A

/-- Version and type known and length consistent (R306, Table RIO-1). -/
def srxWellFormed (bs : List Byte) (ty : Nat) : Bool :=
  decide (32 ≤ bs.length) && leAt bs 0 1 == 1 && leAt bs 1 1 == ty && leAt bs 6 2 + 32 == bs.length

/-! ### Sequence recovery (R294) -/

/-- What the vector recovery algorithm finds of a frame. -/
inductive Recovery where
  /-- The frame is taken: the history after it, and how many frames were lost. -/
  | take (seen : List Nat) (lost : Nat)
  | duplicate
  /-- Outside the history: discarded, and no duplicate. -/
  | rogue
deriving DecidableEq, Repr

/-- How far an R-TAG sequence lies behind another, modulo 2^16. -/
def seqBehind (high q : Nat) : Nat := (high + 65536 - q % 65536) % 65536

/-- The vector recovery algorithm with a history of `hist` sequences (R294): `seen` holds the newest sequence and then the others of the
history that were seen. After a reset any sequence is taken and nothing before it counts as lost. -/
def recoverSeq (hist : Nat) (seen : List Nat) (q : Nat) : Recovery :=
  match seen with
  | [] => .take ((List.range hist).map (fun i => seqBehind (q % 65536) i)) 0
  | high :: _ =>
    let behind := seqBehind high q
    let ahead := seqBehind (q % 65536) high
    if behind < 32768 then
      (if hist ≤ behind then .rogue
       else if seen.contains (q % 65536) then .duplicate
       else .take (seen ++ [q % 65536]) 0)
    else if hist ≤ ahead then .rogue
    else
      let gone := (List.range ahead).map (fun i => seqBehind high (hist - 1 - i))
      .take (q % 65536 :: seen.filter (fun k => decide (seqBehind (q % 65536) k < hist)))
        (gone.filter (fun k => !seen.contains k)).length

/-- A frame that a node's stream brings, through the recovery of a ring (R294): none where it is eliminated or outside the history, with
the duplicates and the lost frames counted. -/
def State.recover (s : State) (d : NodeCfg) (ring : Bool) (rtag : Nat) : Option State × State :=
  if !ring then (some s, s)
  else
    let y := s.node d.num
    let hist := match s.net.cfg with
      | some c => c.ports.cbHist
      | none => 2
    match recoverSeq hist y.recovered rtag with
    | .rogue => (none, s)
    | .duplicate => (none, s.bump 0xC08 64)
    | .take seen lost =>
      let t := s.setNode d.num { y with recovered := seen, recoverAt := s.clk.ticks }
      let u := (List.range lost).foldl (fun (u : State) _ => u.bump 0xC09 64) t
      (some u, u)

/-! ### Node states (R312, R313) -/

/-- NODEFLT of a node (R313). -/
def NodeState.fltPoint (y : NodeState) : Bool := y.state != 2 || bit y.status 0 || bit y.status 1 || bit y.status 3

/-- The NODEFLT point as the node's state has it, written to the live area. -/
def State.writeNodeFlt (s : State) (d : NodeCfg) : State :=
  if d.fltPt = 0xFFFFFFFF ∨ !s.pwr.sram then s else s.liveWrite [(d.fltPt, b2n (s.node d.num).fltPoint)]

/-- No configured node is out of LIVE and no port of a segment without its link: the condition of NET is over. -/
def State.netOver (s : State) : State :=
  match s.net.cfg with
  | none => s
  | some c =>
    let links := c.segs.all (fun g => (g.port == 2 || s.net.linkA) && (g.port == 1 || s.net.linkB))
    if bit s.flt.live 22 && links && c.nodes.all (fun d => (s.node d.num).state == 2) then s.condOver 22 else s

/-- A node takes a state; one that leaves LIVE is a NET fault. -/
def State.nodeTo (s : State) (d : NodeCfg) (st : Nat) : State :=
  let y := s.node d.num
  let t := (s.setNode d.num { y with state := st }).writeNodeFlt d
  if y.state = 2 ∧ st ≠ 2 then t.raise 22 d.num 0 else if st = 2 then t.netOver else t

/-- An IN frame missed (R299, R312): it counts; at the miss limit a LIVE node is LOST and its start-up is repeated. -/
def State.missIn (s : State) (d : NodeCfg) : State :=
  let y := s.node d.num
  if y.inSeen then s
  else
    let t := (s.setNode d.num { y with inSeen := true, misses := y.misses + 1, missed := y.missed + 1 }).bump (segPid d.seg 0xA) 32
    if y.state = 2 ∧ d.missLimit ≤ y.misses + 1 then
      let u := t.nodeTo d 3
      u.setNode d.num { u.node d.num with step := 1, retryAt := none }
    else t

/-! ### The token lost (R173) -/

/-- A response reports a greater epoch: the node is STALE; the unit leaves PRIMARY or SOLO for STOP, logs TOKEN_LOST and stays
SOLO. -/
def State.tokenLost (s : State) (d : NodeCfg) (epoch : Nat) : State :=
  let t := s.nodeTo d 5
  if t.dev.role == .solo || t.dev.role == .primary then
    let u := t.log 0x31 (leBytes 4 t.stby.epoch ++ leBytes 4 epoch ++ leBytes 2 d.num)
    let v := if u.dev.state == .run || u.dev.state == .halt then u.enter .stop 0 true else u
    v.leavePair true
  else t

/-! ### Acyclic exchanges (R310, R312) -/

/-- The node key of a node, as a number. -/
def State.nodeKey (s : State) (n : Nat) : Option Nat := (tfind s.sec.nodeKeys n).map leNat

/-- The AREQ frame of an exchange. -/
def State.areqFrame (s : State) (d : NodeCfg) (g : SegCfg) (nk : Nat) (e : Exchange) (retry : Bool) : TxFrame :=
  let pcp := match s.net.cfg with
    | some c => c.ports.acycPcp
    | none => 0
  (srxFrame nk g.port d.mac pcp (s.masterHdr d.seg 0x10 (2 * b2n retry) e.seq 0)
    (leBytes 2 e.id ++ leBytes 1 e.op ++ leBytes 1 0 ++ leBytes 2 e.index ++ leBytes 2 e.data.length ++ e.data)).ofStream
    (s.node d.num).txRtag

/-- A request to a node: a free exchange ID, the next sequence under its key, the frame sent. Nothing is sent without a slot, the
node's key or SRX; at most 128 exchanges are outstanding, 4 of them to one node. -/
def State.sendAreq (s : State) (n op index : Nat) (data : List Byte) : Option State :=
  match s.nodeCfg n with
  | none => none
  | some d =>
    match s.segCfg d.seg, s.nodeKey n with
    | some g, some nk =>
      let used := s.net.exchanges.map Exchange.id
      let mine := (s.net.exchanges.filter (fun e => e.node == n)).length
      (match (List.range 128).find? (fun i => !used.contains i) with
       | some id =>
         if s.srxOn && decide (mine < 4) then
           let y := s.node n
           let e : Exchange :=
             { id := id, node := n, op := op, index := index, data := data, first := y.txSeq + 1, seq := y.txSeq + 1, retries := 0, sentAt := s.clk.ticks }
           let t := s.setNode n { y with txSeq := y.txSeq + 1, txRtag := nextRtag y.txRtag }
           let xs := s.net.exchanges ++ [e]
           some { t with net := { t.net with exchanges := xs, acycWorst := max t.net.acycWorst xs.length, tx := [s.areqFrame d g nk e false] } }
         else none
       | none => none)
    | _, _ => none

/-- The request of a start-up step (R312). -/
def State.stepRequest (s : State) (d : NodeCfg) (g : SegCfg) (step : Nat) : Nat × Nat × List Byte :=
  match step with
  | 1 => (1, 0x1000, [])
  | 2 => (1, 0x1001, [])
  | 3 => (2, 0x1003, leBytes 2 d.timeout)
  | 4 => (2, 0x1004, leBytes 1 d.seg ++ leBytes 3 0 ++ leBytes 4 g.cycle ++ leBytes 4 g.phase)
  | _ => (2, 0x1010, Config.keyWrap ((s.nodeKey d.num).getD 0) (s.segRoot d.seg))

/-- Start-up is repeated after 1 s. -/
def State.startupLater (s : State) (n : Nat) : State :=
  s.setNode n { s.node n with step := 1, retryAt := some (s.clk.ticks + secTicks) }

/-- The exchange of the node's start-up step goes out; where it cannot, start-up is repeated after 1 s. -/
def State.startupSend (s : State) (n : Nat) : State :=
  match s.nodeCfg n with
  | none => s
  | some d =>
    match s.segCfg d.seg with
    | none => s
    | some g =>
      let (op, ix, data) := s.stepRequest d g (s.node n).step
      match s.sendAreq n op ix data with
      | some t => t.setNode n { t.node n with retryAt := none }
      | none => s.startupLater n

/-- The answer to a start-up step judged: IDENT and IMAGES against the descriptor. -/
def NodeCfg.stepOk (d : NodeCfg) (step : Nat) (data : List Byte) : Bool :=
  match step with
  | 1 => data.length == 32 && leAt data 0 4 == d.vendor && leAt data 4 4 == d.product && decide (d.minRev ≤ leAt data 8 4)
  | 2 => data.length == 4 && leAt data 0 2 == d.outLen && leAt data 2 2 == d.inLen
  | _ => true

/-- An exchange completes with a status and data: a DIAG word is kept; a start-up step leads to the next, to REFUSED, to ABSENT where
IDENT is not answered, or to a repetition. -/
def State.exchangeDone (s : State) (e : Exchange) (status : Nat) (data : List Byte) : State :=
  let t := { s with net := { s.net with exchanges := s.net.exchanges.filter (fun k => k.id != e.id) } }
  match t.nodeCfg e.node with
  | none => t
  | some d =>
    let y := t.node e.node
    if e.index = 0x1005 then
      if status = 0 ∧ 2 ≤ data.length then t.setNode e.node { y with diag := leAt data 0 2 } else t
    else if y.step = 0 then t
    else if status ≠ 0 then
      let u := t.startupLater e.node
      if y.step ≤ 2 ∧ status ≠ 0x10 then u.nodeTo d 4
      else if y.step = 1 ∧ y.state ≠ 4 then u.nodeTo d 0
      else u
    else if !d.stepOk y.step data then (t.startupLater e.node).nodeTo d 4
    else
      let u := if y.step = 1 ∧ y.state ≠ 1 then t.nodeTo d 1 else t
      if y.step = 5 then u.setNode e.node { u.node e.node with step := 0, retryAt := none }
      else (u.setNode e.node { u.node e.node with step := y.step + 1 }).startupSend e.node

/-! ### Diagnostic area of the network (R321) -/

/-- The segment and node records in DG. -/
def State.netDiag (s : State) : List (Nat × Nat) :=
  match s.net.cfg with
  | none => []
  | some c =>
    let t := s.now / 1000 % 2 ^ 32
    let seg (g : SegCfg) : List (Nat × Nat) :=
      let b := mkPt 7 (0x400 + 16 * (g.seg - 1))
      let ns := c.nodesOf g.seg
      [(b, s.segState g.seg), (b + 1, (ns.filter (fun d => (s.node d.num).state == 2)).length),
       (b + 2, (ns.filter (fun d => (s.node d.num).state == 3)).length), (b + 3, s.pn (segPid g.seg 0xA) % 65536),
       (b + 4, s.pn (segPid g.seg 0xB) % 65536), (b + 5, (s.seg g.seg).authFail % 65536), (b + 14, t % 65536), (b + 15, t / 65536)]
    let node (d : NodeCfg) : List (Nat × Nat) :=
      let b := mkPt 7 (0x800 + 4 * (d.num - 2))
      let y := s.node d.num
      [(b, y.state), (b + 1, y.status % 65536), (b + 2, y.missed % 65536), (b + 3, y.diag % 65536)]
    c.segs.flatMap seg ++ c.nodes.flatMap node

/-- Firmware reads the DIAG object of each LIVE node every net.diag.period (R321). -/
def State.readNodeDiags (s : State) : State :=
  match s.net.cfg with
  | none => s
  | some c => c.nodes.foldl (fun (t : State) d =>
      let y := t.node d.num
      if y.state = 2 ∧ t.pn 0xC11 * msTicks ≤ t.elapsed y.diagAt then
        (match (t.setNode d.num { y with diagAt := t.clk.ticks }).sendAreq d.num 1 0x1005 [] with
         | some u => { u with net := { u.net with tx := t.net.tx ++ u.net.tx } }
         | none => t)
      else t) s

end Sys2Proof.Machine
end

