-- ==== Sys2Proof/Machine/NodeOps.lean ====
section
/-!
DEFINITION. The NODE role's side of SRX: a bay as a node, its images, replay check and frames (R306-R311, R317).
-/

namespace Sys2Proof.Machine

/-! ### The node of a bay (R180, R317) -/

/-- The node that bay `x` is. -/
def State.slave (s : State) (x : Nat) : Slave := tget Slave.init s.net.slaves x

/-- The state with the node of bay `x` replaced. -/
def State.setSlave (s : State) (x : Nat) (k : Slave) : State := { s with net := { s.net with slaves := tset s.net.slaves x k } }

/-- The node number of bay `x` (R15). -/
def State.slaveNum (s : State) (x : Nat) : Nat := s.pn 0xE20 + x

/-- Bay `x` answers SRX: the NODE role, PD_NET and FCLK. -/
def State.slaveOn (s : State) (x : Nat) : Bool :=
  bayExists s.dev.part x && s.dev.role == .node && s.pwr.net && s.fclkUp && s.dev.state != .boot

/-- The output length (R317): the Q block, then the QW block. -/
def slaveOutLen : Nat := 34

/-- The input length (R317): the I block, then the IW block. -/
def slaveInLen : Nat := 68

/-- The input image of bay `x`: its points as the frames `fresh` give them, else as the live area holds them (R302, R317). -/
def State.slaveInputs (s : State) (x : Nat) (fresh : List (Nat × Nat)) : List Byte :=
  let pt (p : Nat) : Nat :=
    match tfind fresh p with
    | some v => v
    | none => s.committed p
  packBits ((List.range 32).map (fun i => pt (s.bayN x 5 + i) % 2 == 1)) ++
    (List.range 32).flatMap (fun i => leBytes 2 (pt (s.bayN x 7 + i)))

/-- The instant lies on the grid of object 0x1004. -/
def Slave.onGrid (k : Slave) (c : Ns) : Bool :=
  decide (0 < k.cycle) && decide (k.phase * 1000 ≤ c) && (c - k.phase * 1000) % (k.cycle * 1000) == 0

/-! ### Replay (R306) -/

/-- The replay check of a frame: none where it fails, else what is remembered after it. -/
def Slave.fresher (k : Slave) (key : Nat × Nat × Nat) (gen seq : Nat) : Option Slave :=
  match k.replay.find? (fun (e : (Nat × Nat × Nat) × Replay) => e.1 == key) with
  | none => some { k with replay := (key, Replay.mk gen seq [seq]) :: k.replay }
  | some (_, r) =>
    let put (r1 : Replay) : Option Slave :=
      some { k with replay := (key, r1) :: k.replay.filter (fun (e : (Nat × Nat × Nat) × Replay) => e.1 != key) }
    if r.gen < gen then put (Replay.mk gen seq [seq])
    else if gen < r.gen then none
    else if r.seq < seq then put (Replay.mk gen seq (seq :: r.seen.filter (fun q => decide (seq ≤ q + 64))))
    else if r.seq ≤ seq + 64 ∧ !r.seen.contains seq then put { r with seen := seq :: r.seen }
    else none

/-- The checks of R306 on a frame of a segment under K_cyc (`kind` 0) or K_claim (1): the frame's node after them, or the counter
to which the failure goes. -/
def State.slaveChecks (s : State) (x ty kind : Nat) (f : SrxFrame) : Slave ⊕ Nat :=
  let k := s.slave x
  let h := readSrxHdr f.bytes
  if !(srxWellFormed f.bytes ty && h.seg == k.seg && k.segRoot.isSome && f.tagOk) then .inr 0xC0A
  else
    match k.fresher (h.sender, kind, if kind = 0 then h.epoch else 0) h.gen h.seq with
    | some k1 => .inl k1
    | none => .inr 0xC0B

/-- A greater epoch, or one where none is held, is latched (R171, R308). -/
def Slave.latchEpoch (k : Slave) (e : Nat) : Slave :=
  match k.epoch with
  | none => { k with epoch := some e }
  | some old => if old < e then { k with epoch := some e } else k

/-- The frame carries an epoch below the latched one. -/
def Slave.staleEpoch (k : Slave) (e : Nat) : Bool :=
  match k.epoch with
  | none => false
  | some old => decide (e < old)

/-! ### Outputs (R301, R307, R317) -/

/-- The value that an output image of the bay gives channel `n` in a mode: a Q bit or a QW word. -/
def imageValue (img : List Byte) (mode n : Nat) : Nat :=
  if modeIsAo mode then leAt img (2 + 2 * n) 2 else b2n ((img.getD (n / 8) 0#8).getLsbD (n % 8))

/-- The k steps of an OUT payload with images of `m` bytes. -/
def readSteps (pl : List Byte) (k m : Nat) : List (Ns × List Byte) :=
  (List.range k).map (fun i =>
    let at_ := 4 + m + i * (8 + m)
    (leAt pl at_ 8, ((pl.drop (at_ + 8)).take m)))

/-- The current image and the steps go to the output table of the bay: current in force, each step a pending value (R191, R317). -/
def State.slaveOutputs (s : State) (x : Nat) (img : List Byte) (steps : List (Ns × List Byte)) : State :=
  let e := s.engBay x
  let entry (n : Nat) : Nat × OutEntry :=
    let mode := s.mode x n
    (n, { cur := imageValue img mode n, valid := true,
          queue := steps.map (fun (g : Ns × List Byte) =>
            { applyAt := g.1, pt := 0, val := imageValue g.2 mode n, written := s.now }) })
  let ns := (List.range (bayChannels s.dev.part)).filter (fun n => modeIsOut (s.mode x n))
  s.setEngBay x { e with out := ns.foldl (fun t n => tset t n (entry n).2) e.out }

/-- The applied image once every due step is applied. -/
def Slave.afterSteps (k : Slave) (now : Ns) : List Byte :=
  (k.steps.filter (fun (g : Ns × List Byte) => decide (g.1 ≤ now))).foldl (fun _ g => g.2) k.applied

/-! ### Frames of the node (R300-R303) -/

/-- The next sequence under K_cyc of an epoch and a generation. -/
def Slave.nextCyc (k : Slave) (key : Nat × Nat) : Nat := if k.txKey = key then k.txSeq + 1 else 1

/-- The IN status word (R302): a fault of the bay live, the safe state, late, inputs invalid. -/
def State.slaveStatus (s : State) (x : Nat) (k : Slave) : Nat :=
  b2n (s.engBay x).bayflt + 2 * b2n k.silent + 4 * b2n k.late + 8 * b2n ((s.engBay x).lost || !(s.bay x).runs)

/-- Sends the IN that answers an OUT (R302, R308): a stale one carries no input image; late has been reported with it. -/
def State.sendIn (s : State) (x : Nat) (h : SrxHdr) (stale : Bool) : State :=
  let k := s.slave x
  let epoch := k.epoch.getD 0
  let key := (epoch, h.gen)
  let seq := k.nextCyc key
  let img := if stale then [] else if k.inputs.isEmpty then s.slaveInputs x [] else k.inputs
  let f := srxFrame (cycKey (k.segRoot.getD 0) epoch h.gen) (Config.nodePorts x) (Config.masterMac h.sender) (Config.nodePcp x)
    { ty := 2, seg := k.seg, flags := 4 * b2n stale, sender := s.slaveNum x, len := 0, epoch := epoch, gen := h.gen,
      nonce := s.net.boot, seq := seq, instant := h.instant }
    (leBytes 4 h.seq ++ leBytes 2 (s.slaveStatus x k) ++ leBytes 2 0 ++ img)
  let t := s.setSlave x { k with txKey := key, txSeq := seq, late := false }
  { t with net := { t.net with tx := [f] } }

/-- Sends an ARSP with a payload. -/
def State.sendArsp (s : State) (x : Nat) (h : SrxHdr) (nk : Nat) (payload : List Byte) : State :=
  let k := s.slave x
  let f := srxFrame nk (Config.nodePorts x) (Config.masterMac h.sender) (Config.nodePcp x)
    { ty := 0x11, seg := h.seg, flags := 0, sender := s.slaveNum x, len := 0, epoch := k.epoch.getD 0, gen := h.gen,
      nonce := s.net.boot, seq := k.nkSeq + 1, instant := 0 }
    payload
  let t := s.setSlave x { k with nkSeq := k.nkSeq + 1 }
  { t with net := { t.net with tx := [f] } }

/-! ### Objects (R310, R311, Tables RIO-3, RIO-4) -/

/-- A READ: status and data. -/
def State.readObject (s : State) (x index : Nat) : Nat × List Byte :=
  let k := s.slave x
  match index with
  | 0x1000 =>
    (0, leBytes 4 0x4844 ++ leBytes 4 (match s.dev.part with | .p7232 => 7232 | .p7216 => 7216 | .p7208 => 7208) ++
      leBytes 4 s.sec.fwVersion ++ leBytes 4 1 ++ leBytes 16 Config.serial)
  | 0x1001 => (0, leBytes 2 slaveOutLen ++ leBytes 2 slaveInLen)
  | 0x1002 => (0, leBytes 1 3 ++ leBytes 1 4 ++ leBytes 1 (Config.nodeCaps % 2) ++ leBytes 1 0 ++ leBytes 4 (Config.nodeCaps / 2))
  | 0x1003 => (0, leBytes 2 k.timeout)
  | 0x1004 => (0, leBytes 1 k.seg ++ leBytes 3 0 ++ leBytes 4 k.cycle ++ leBytes 4 k.phase)
  | 0x1005 => (0, leBytes 2 (s.bayState x))
  | 0x1010 => (3, [])
  | _ => (1, [])

/-- A WRITE: status and the node after it. `unwrapped` is what RFC 3394 finds in SEGROOT's data, none where the check fails. -/
def Slave.writeObject (k : Slave) (index : Nat) (data : List Byte) (unwrapped : Option Nat) : Nat × Slave :=
  match index with
  | 0x1000 | 0x1001 | 0x1002 | 0x1005 => (3, k)
  | 0x1003 =>
    let v := leAt data 0 2
    if data.length ≠ 2 then (4, k) else if v = 0 ∨ 1000 < v then (5, k) else (0, { k with timeout := v })
  | 0x1004 =>
    let sg := leAt data 0 1
    let cy := leAt data 4 4
    let ph := leAt data 8 4
    if data.length ≠ 12 then (4, k)
    else if sg = 0 ∨ 8 < sg ∨ cy < 50 ∨ 100000 < cy ∨ cy % 25 ≠ 0 ∨ cy ≤ ph ∨ ph % 25 ≠ 0 then (5, k)
    else (0, { k with seg := sg, cycle := cy, phase := ph })
  | 0x1010 =>
    if data.length ≠ 40 then (4, k)
    else
      match unwrapped with
      | some r => (0, { k with segRoot := some r })
      | none => (8, k)
  | _ => (1, k)

end Sys2Proof.Machine
end

