-- ==== Sys2Proof/Machine/Bay.lean ====
section
/-!
DEFINITION. The bay cycle, the lanes, management requests, freshness and silence, field supply, reset and limp-home of the field
bays (R184-R216).
-/

namespace Sys2Proof.Machine

/-- The bay cycle in ns (R185). -/
def cycleNs : Ns := 25000

/-- The start of the bay cycle that an instant lies in. -/
def cycleOf (t : Ns) : Ns := t / cycleNs * cycleNs

/-- The cycle number that frames carry (R187). -/
def cycleNum (c : Ns) : Nat := c / cycleNs % 65536

/-! ### BAY_CYCLE_START (R185, R187, R190, R198) -/

/-- An output table entry as the frame of cycle `c` finds it: values due by `c` move to current; an entry written less than 1.0 µs
before `c` waits for the next frame (R190). -/
def OutEntry.advance (e : OutEntry) (c : Ns) : OutEntry :=
  let due (p : PendOut) : Bool := decide (p.written + 1000 ≤ c) && decide (p.applyAt ≤ c)
  let newest := (e.queue.filter due).foldl (fun (acc : Option PendOut) p =>
    match acc with
    | some a => if a.applyAt ≤ p.applyAt then some p else some a
    | none => some p) none
  match newest with
  | some p => { cur := p.val, valid := true, queue := e.queue.filter (fun q => !due q) }
  | none => e

/-- The earliest pending value whose instant is after `c`, with its offset in µs (R187, R190). -/
def OutEntry.nextOf (e : OutEntry) (c : Ns) : Option (Nat × Nat) :=
  let later := e.queue.filter (fun p => decide (p.written + 1000 ≤ c) && decide (c < p.applyAt))
  let first := later.foldl (fun (acc : Option PendOut) p =>
    match acc with
    | some a => if p.applyAt < a.applyAt then some p else some a
    | none => some p) none
  match first with
  | some p =>
    let off := ceilDiv (p.applyAt - c) 1000
    if off ≤ 65535 then some (p.val, off) else none
  | none => none

/-- An instant lies at or after c − f, and not after c. -/
def within (at_ : Option Ns) (c f : Ns) : Bool :=
  match at_ with
  | some p => decide (p ≤ c) && decide (c ≤ p + f)
  | none => false

/-- Freshness (R181, R198): RUN with a committed peg, or the NODE role with an accepted cyclic frame, at or after c − F. -/
def State.bayFresh (s : State) (x : Nat) (c : Ns) : Bool :=
  let f := s.freshEff x * 1000
  if s.dev.role == .node then within (s.slave x).lastOut c f
  else s.dev.state == .run && s.configured.any (fun k => within (s.ctx k).lastPegAt c f)

/-- Safe-now (R29, R200, R308): in SAFE and LOCKOUT; in the NODE role while the bay's node is silent or was sent SAFE. -/
def State.baySafeNow (s : State) (x : Nat) : Bool :=
  s.dev.state == .safe || s.dev.state == .lockout ||
    (s.dev.role == .node && (s.slave x).silent && (s.slave x).lastOut.isSome)

/-- The command frame of a channel (Table BAY-3): a FOLLOWER's lane carries its leader's frame; input modes carry no value
(R218, R260). -/
def State.cmdFrame (s : State) (x n : Nat) (c : Ns) (fresh : Bool) (out : List (Nat × OutEntry)) : CmdFrame :=
  let l := (s.bay x).leader n
  let e := tget OutEntry.init out l
  let carries := modeIsOut (s.mode x l)
  { cycle := cycleNum c, c := c, fresh := fresh, cur := if carries && e.valid then some e.cur else none,
    next := if carries then e.nextOf c else none, urgent := (s.engBay x).urgent.contains n }

/-- BAY_CYCLE_START (R185): at `c` the engine starts the cycle-start message and a command frame on every lane, once in each cycle. -/
def execBayCycleStart (x : Nat) (s : State) : Res :=
  let c := cycleOf s.now
  let e := s.engBay x
  if bayExists s.dev.part x && s.engineOn && s.dev.state != .boot && e.lastCycle != some c && !(tget false s.eng.restart x) then
    let fresh := s.bayFresh x c
    let out := e.out.map (fun (o : Nat × OutEntry) => (o.1, o.2.advance c))
    let cmds := (List.range (bayChannels s.dev.part)).map (fun n => (n, s.cmdFrame x n c fresh out))
    .next (s.setEngBay x { e with
      out := out, lastCycle := some c, cmds := cmds, urgent := [],
      msg := some { cycle := cycleNum c, c := c, sentAt := s.clk.ticks - (s.now - c) * 2 / 5, fresh := fresh, safeNow := s.baySafeNow x } })
  else .next s

/-! ### CYCLE_START_MESSAGE, COMMAND_FRAME, APPLY_NEXT -/

/-- CYCLE_START_MESSAGE (R185, R189, R199, R200): a good message sets the local time to the STIME of c, corrected for the time since
then; a fresh one ends silence and safe-now. -/
def execCycleStartMessage (x : Nat) (err : List Byte) (s : State) : Res :=
  let e := s.engBay x
  let b := s.bay x
  match e.msg with
  | none => .next s
  | some m0 =>
    let t := s.setEngBay x { e with msg := none }
    if !b.runs then .next t
    else match m0.receive err with
      | none => .next (t.bumpBay x 0x12)
      | some m =>
        let b1 := { b with timeSet := true, timeBase := m.c, timeTick := m.sentAt, fresh := m.fresh,
                           safeNow := m.safeNow || (b.safeNow && !m.fresh), silent := b.silent && !m.fresh,
                           lastFresh := if m.fresh then s.clk.ticks else b.lastFresh }
        .next (t.putBay x b1)

/-- A value applied (R191): the stored drive of a safe state ends; a fall from 1 to 0 with clear_on_low clears the OC latch and a
pending retry (R235). -/
def Bay.applyValue (b : Bay) (n v : Nat) : Bay :=
  let c := b.chan n
  let falls := modeIsDo (b.mode n) && c.applied % 2 == 1 && v % 2 == 0 && b.cn n 0x21 == 1
  let d := if falls then { c.dout with oc := false, retryDue := none } else c.dout
  b.setChan n { c with applied := v, resuming := false, holdOff := false, dout := d }

/-- A stored next that is due by the bay's local time is applied. -/
def Bay.applyDue (b : Bay) (n tick : Nat) : Bay :=
  match (b.chan n).next with
  | some (t, v) =>
    if b.timeSet && decide (t ≤ b.local_ tick) then
      let c := b.chan n
      (b.setChan n { c with next := none }).applyValue n v
    else b
  | none => b

/-- What an output channel does with a good command frame (R191). -/
def Bay.takeCommand (b : Bay) (n tick : Nat) (f : CmdFrame) : Bay :=
  let c0 := b.chan n
  let c1 := match f.next with
    | some (v, off) => { c0 with next := some (f.c + off * 1000, v) }
    | none => c0
  let due := match c0.next with
    | some (t, _) => b.timeSet && decide (t ≤ b.local_ tick)
    | none => false
  let b1 := if due then (b.applyDue n tick).setChan n { (b.applyDue n tick).chan n with next := c1.next } else b.setChan n c1
  let b2 := match f.next with
    | some _ => b1
    | none => if due then b1.setChan n { b1.chan n with next := none } else b1
  match f.cur with
  | some v =>
    let c := b2.chan n
    if c.resuming then b2.applyValue n v
    else if c.applied ≠ v then
      let b3 := b2.applyValue n v
      b3.setChan n { b3.chan n with late := true }
    else b2
  | none => b2

/-- COMMAND_FRAME (R189, R191, R257): the lane's silence timer restarts; an output channel stores next or applies current; an
urgent flag goes to the modulator. -/
def execCommandFrame (x n : Nat) (err : List Byte) (s : State) : Res :=
  let e := s.engBay x
  match tfind e.cmds n with
  | none => .next s
  | some f0 =>
    let t := s.setEngBay x { e with cmds := tdel e.cmds n }
    let b := s.bay x
    if !b.runs then .next t
    else match f0.receive err with
      | none => .next (t.bumpBay x 0x12)
      | some f =>
        let c := b.chan n
        let b1 := b.setChan n { c with lastFrame := s.clk.ticks, laneSilent := false }
        let b2 := b1.settle s.clk.ticks
        let takes := modeIsOut (b.mode n) && (b2.chan n).aout.trimState == 0
        let u := t.putBay x (if takes then b2.takeCommand n s.clk.ticks f else b2)
        .next (if f.urgent then u.urgentIn x n f.c else u)

/-- APPLY_NEXT (R191): the local time reaches the stored instant. -/
def execApplyNext (x n : Nat) (s : State) : Res :=
  let b := s.bay x
  whenOk (b.runs && (b.chan n).aout.trimState == 0) s (s.putBay x (b.applyDue n s.clk.ticks))

/-! ### BAY_LATCH (R193, R218, R260, R273) -/

/-- The debounced state that a latch takes: as it stood before a change in that BCLK cycle (R221). -/
def Bay.debLatched (b : Bay) (n tick : Nat) : Bool :=
  let d := (b.chan n).din
  d.deb != (d.debAt == tick && d.debAt != 0)

/-- The debounced state or its substitute (R222). -/
def Bay.dinValue (b : Bay) (n tick : Nat) : Bool :=
  let d := (b.chan n).din
  if b.dinValid n tick then b.debLatched n tick
  else if b.cn n 6 = 1 then true else if b.cn n 6 = 2 then d.lastValid else false

/-- The I bit of a channel (Tables BAY-6, DCH-1; R262). -/
def Bay.ibitOf (b : Bay) (n tick : Nat) : Bool :=
  let c := b.chan n
  let mode := b.mode n
  if modeIsDi mode then b.dinValue n tick
  else if mode = 3 then c.raw
  else if mode = 4 then c.din.dirUp
  else if modeIsDo mode then c.high
  else if modeIsAin mode then
    (if b.cn n 0x13 = 0 then bit c.live 5 else if b.cn n 0x13 = 1 then bit c.live 6 else bit c.live 5 || bit c.live 6)
  else false

/-- The value field of a sample frame. -/
def Bay.valueOf (b : Bay) (n tick : Nat) : Nat :=
  let c := b.chan n
  let mode := b.mode n
  if modeIsDi mode then b2n (b.dinValue n tick) + 2 * b2n c.raw
  else if modeIsCnt mode then c.din.count
  else if modeIsDo mode then b2n c.dout.sw + 2 * b2n c.high
  else if modeIsAin mode then ofInt 32 (b.ainValue n tick)
  else if modeIsAo mode then ofInt 32 c.reading.out
  else if mode = 0xFF then
    (if b.mode (b.leader n) = 4 then b2n c.raw else b2n (b.chan (b.leader n)).dout.sw + 2 * b2n c.high)
  else 0

/-- The aux field of the sample frame of cycle `at_`. -/
def Bay.auxOf (b : Bay) (n tick : Nat) (at_ : Ns) : Nat :=
  let c := b.chan n
  let mode := b.mode n
  if modeIsDi mode then c.reading.current % 65536 + 65536 * (c.reading.volt % 65536)
  else if modeIsCnt mode then c.countAux tick
  else if modeIsDo mode then b.groupCurrent n % 65536 + 65536 * word16 (b.groupTemp n)
  else if modeIsAin mode then
    let age := match c.ain.eoc with
      | some e => min 65535 ((at_ - e) / 1000)
      | none => Config.noAge % 65536
    c.ain.seq % 65536 + 65536 * age
  else if modeIsAo mode then c.reading.volt % 65536 + 65536 * b.tapWord n
  else if mode = 0xFF then
    (if b.mode (b.leader n) = 4 then c.countAux tick else c.reading.current % 65536 + 65536 * word16 c.reading.temp)
  else 0

/-- The sample frame of a channel for cycle `c` (R188). -/
def Bay.sampleOf (b : Bay) (n tick : Nat) (c : Ns) : Sample :=
  let l := b.leader n
  let k := b.chan n
  { cycle := cycleNum c, late := k.late, safe := modeIsOut (b.mode l) && (b.chan l).inSafe, limp := b.limpActive l,
    newSample := if modeIsAin (b.mode n) then k.ain.newSample else true, value := b.valueOf n tick, aux := b.auxOf n tick c,
    status := lor64 k.live k.events % 4096 + b.statusTop n tick, ibit := b.ibitOf n tick }

/-- What the front end shows goes into a channel (R217, R220): its comparator's raw state, but a counter's once it follows the edges;
the hard limit stops acting once the current is below it (R231). -/
def Bay.readFront (b : Bay) (x n : Nat) (r : Reading) : Bay :=
  let c := b.chan n
  let l := b.leader n
  let own := modeIsCnt (b.mode l) && (b.chan l).din.synced
  let c1 := { c with reading := r, high := decide (inRise x n 1 < r.volt),
                     raw := if own then c.raw else comparator x n (b.inType n) r.volt c.raw }
  b.setChan n (if modeIsDo (b.mode l) && decide (r.current < 6000) then c1.mark 5 false else c1)

/-- The counters follow the edges from the raw states of this latch on. -/
def Bay.syncCounters (b : Bay) : Bay :=
  dieChans.foldl (fun (a : Bay) n =>
    let c := a.chan n
    if modeIsCnt (a.mode n) then a.setChan n { c with din := { c.din with synced := true } } else a) b

/-- Events, late and new-sample flags go with one frame. -/
def Bay.afterLatch (b : Bay) (n : Nat) : Bay :=
  let c := b.chan n
  b.setChan n { c with late := false, events := 0, din := { c.din with edges := 0 }, ain := { c.ain with newSample := false } }

/-- A modulator without a visit takes a maintenance visit that has fallen due. -/
def State.modIdle (s : State) (x m : Nat) : State :=
  let y := (s.bay x).modl m
  if !y.stopped && y.visit.isNone && (y.mostDue s.clk.ticks).isSome then s.modNext x m else s

/-- The stream frames of a modulator that go with a latch: one of each lane, and what stays for the next (R261). -/
def Modulator.sends (y : Modulator) : List (Nat × Stream) × List Stream :=
  y.streams.foldl (fun (t : List (Nat × Stream) × List Stream) f =>
    if t.1.any (fun e => e.1 == f.ch) then (t.1, t.2 ++ [f]) else (t.1 ++ [(f.ch, f)], t.2)) ([], [])

/-- The image writes of a good frame: the I bit, and the IW pair that the mode uses, 0 where it uses none (R196, R197). -/
def State.unitOf (s : State) (x n : Nat) (f : Sample) : List (Nat × Nat) :=
  let mode := s.mode x n
  let iw := s.bayN x 7 + 2 * n
  let v := if modeIsCnt mode || modeIsAin mode || modeIsAo mode then f.value else 0
  [(s.bayN x 5 + n, b2n f.ibit), (iw, v % 65536), (iw + 1, v / 65536 % 65536)]

/-- In the NODE role the bay's node latches its inputs at the instants of its grid (R309): what the frames of the cycle carry, but for
lanes with a fault. -/
def State.latchNode (s : State) (x : Nat) (c : Ns) : State :=
  let k := s.slave x
  if s.slaveOn x && k.onGrid c then
    let e := s.engBay x
    let ws := e.samples.flatMap (fun (f : Nat × Sample) =>
      if (tget Lane.init e.lanes f.1).fault then [] else s.unitOf x f.1 f.2)
    s.setSlave x { k with inputs := s.slaveInputs x ws }
  else s

/-- BAY_LATCH (R193, R261): at its local `c` the bay latches every channel's input and sends the sample frames of the cycle and the
stream frames of the results that the latch meets. It measures its L+ and its die temperature as it goes (R206, R208). -/
def execBayLatch (x : Nat) (r : List Reading) (lp : Nat) (temp : Int) (s : State) : Res :=
  let b := (s.bay x)
  let c := cycleOf (b.local_ s.clk.ticks)
  if bayExists s.dev.part x && b.runs && b.timeSet && b.latched != some c then
    let s1 := s.supply x lp
    let tick := s.clk.ticks
    let chans := List.range (bayChannels s.dev.part)
    let b0 := (s1.bay x).noteValid tick
    let b1 := ((List.range r.length).zip r).foldl (fun (a : Bay) (e : Nat × Reading) =>
      if chans.contains e.1 then a.readFront x e.1 e.2 else a) { b0 with temp := temp }
    let b2 := b1.syncCounters.settle tick
    let frames := chans.map (fun n => (n, b2.sampleOf n tick c))
    let (f0, r0) := b2.m0.sends
    let (f1, r1) := b2.m1.sends
    let b3 := { chans.foldl Bay.afterLatch b2 with
      latched := some c, m0 := { b2.m0 with streams := r0 }, m1 := { b2.m1 with streams := r1 } }
    let t := s1.setBay x (b3.settle tick)
    let u := if s.engineOn then t.setEngBay x { t.engBay x with samples := frames, streams := f0 ++ f1 } else t
    .next (((u.modIdle x 0).modIdle x 1).latchNode x c)
  else .next s

/-! ### SAMPLE_FRAME, STREAM_FRAME (R189, R193, R265) -/

/-- The lane state after a good or a bad frame: eight bad or missing frames in a row make a lane fault, eight good ones clear it. -/
def Lane.count (l : Lane) (good : Bool) : Lane :=
  if good then { bad := 0, good := l.good + 1, fault := l.fault && decide (l.good + 1 < 8) }
  else { bad := l.bad + 1, good := 0, fault := l.fault || decide (8 ≤ l.bad + 1) }

/-- What the engine takes of the frame on a lane: none where none arrives, `some none` where it is discarded (R189). -/
def EngBay.frame (e : EngBay) (errs : List (Nat × List Byte)) (n : Nat) : Option (Option Sample) :=
  (tfind e.samples n).map (fun f => f.receive (tget [] errs n))

/-- One lane's frame taken: its lane state, its late flag and its crossings; a new lane fault is a BAYLINK fault. -/
def State.takeSample (s : State) (x : Nat) (errs : List (Nat × List Byte)) (n : Nat) : State :=
  let e := s.engBay x
  let f := e.frame errs n
  let good := (f.bind id).isSome
  let old := tget Lane.init e.lanes n
  let l := old.count good
  let t := s.setEngBay x { e with lanes := tset e.lanes n l }
  let t1 := if f.isSome && !good then t.bumpBay x 0x12 else t
  let t2 := if l.fault && !old.fault then t1.raise 21 (x + 256 * n) 0 else t1
  match f with
  | some (some k) =>
    let t3 := if k.late then (t2.bumpBay x 0x13).bump 0x611 32 else t2
    let ai := modeIsAin (s.mode x n)
    let hits := (if ai && bit k.status 7 then [(n, true, toInt 32 k.value)] else []) ++
                (if ai && bit k.status 8 then [(n, false, toInt 32 k.value)] else [])
    t3.setEngBay x { t3.engBay x with crossed := (t3.engBay x).crossed ++ hits }
  | _ => t2

/-- The input points of a bay that no channel of the part uses, written 0: I bits above the channels' but BAYFLT's, IW words above theirs
(R3, R196, R197). -/
def State.unusedPts (s : State) (x : Nat) : List (Nat × Nat) :=
  let n := bayChannels s.dev.part
  (((List.range 32).filter (fun i => decide (n ≤ i) && i != 16)).map (fun i => (s.bayN x 5 + i, 0))) ++
  ((List.range 32).filter (fun i => decide (2 * n ≤ i))).map (fun i => (s.bayN x 7 + i, 0))

/-- SAMPLE_FRAME (R189, R193): lanes are judged, then the inputs of every good lane without a lane fault, BAYFLT and the late and safe
flags are written as one unit. -/
def execSampleFrame (x : Nat) (errs : List (Nat × List Byte)) (s : State) : Res :=
  let e := s.engBay x
  if bayExists s.dev.part x && s.engineOn && e.lastCycle.isSome && e.taken != e.lastCycle then
    let chans := List.range (bayChannels s.dev.part)
    let t := chans.foldl (fun (u : State) n => u.takeSample x errs n) s
    let t1 := (t.formBayflt x).baylinkOver
    let e1 := t1.engBay x
    let unit_ : List (Nat × Sample) := chans.filterMap (fun n =>
      match e.frame errs n with
      | some (some f) => if (tget Lane.init e1.lanes n).fault then none else some (n, f)
      | _ => none)
    let ws := unit_.flatMap (fun (f : Nat × Sample) => s.unitOf x f.1 f.2)
    let flags := unit_.foldl (fun (t : List (Nat × Bool × Bool)) f => tset t f.1 (f.2.late, f.2.safe)) e1.flags
    let t2 := t1.setEngBay x { e1 with taken := e.lastCycle, samples := [], flags := flags }
    .next (if s.pwr.sram then t2.liveWrite (ws ++ [(s.bayN x 5 + 16, b2n e1.bayflt)] ++ s.unusedPts x) else t2)
  else .next s

/-- The circular buffer of a modulator (Table ARCH-4, R265). -/
def dmaBase (x m : Nat) : Nat := 0xFC0000 + 0x8000 * x + 0x4000 * m

/-- The buffer entry of a result (R265). -/
def Stream.entry (f : Stream) : Nat :=
  ofInt 24 f.code + shl (f.ch % 8) 24 + shl (b2n f.urgent) 27 + shl (b2n f.outRange) 28 + shl (b2n f.first) 29 + shl (f.seq % 4) 30

/-- STREAM_FRAME (R265): the result of a lane goes into its modulator's buffer at the head; a frame with a bad CRC leaves no entry. -/
def execStreamFrame (x n : Nat) (err : List Byte) (s : State) : Res :=
  let e := s.engBay x
  let m := n / 8
  match tfind e.streams n with
  | none => .next s
  | some f0 =>
    let t := s.setEngBay x { e with streams := tdel e.streams n }
    if !(s.engineOn && modExists s.dev.part x m) then .next t
    else match f0.receive s.now err with
      | none => .next (t.bumpBay x 0x12)
      | some f =>
        let head := s.pn (bayPid x (modOff m 5))
        let u := if s.pwr.sram then t.fabricWrites .bayLink (dmaBase x m + 4 * head) (leBytes 4 f.entry) else t
        .next ((u.setPv (bayPid x (modOff m 5)) ((head + 1) % 4096 : Nat)).setPv (bayPid x (modOff m 7)) f.eoc)

/-! ### Management requests (R194) -/

/-- The levels of the SEL and ALMSEL pins, and what else IDENT names (Table BAY-5; byte layout: assumption log 41). -/
def State.identBytes (s : State) (x : Nat) : List Byte :=
  let b := s.bay x
  leBytes 2 (partNumber s.dev.part) ++ leBytes 1 (0x41 + x) ++ leBytes 1 (Config.bayDieRev x) ++ leBytes 1 (Config.bayLayout x) ++
    leBytes 4 b.cfgSeq ++ leBytes 4 b.cfgCrc ++ leBytes 1 (b2n b.almsel) ++ leBytes 1 b.sel

/-- A refusal status other than those that the spec names: any value but 0 (assumption log 5). -/
def State.badStatus (s : State) : State × List Byte :=
  let (r, t) := s.draw
  (t, leBytes 1 (1 + r % 255))

/-- The words of a record as 32 bytes. -/
def recordBytes (ws : List Nat) : List Byte := ws.flatMap (leBytes 2)

/-- What a bay answers to a request: the state after it and the response data, status first; nothing while it is in reset or
without its clock. -/
def State.serveMgmt (s : State) (x ty : Nat) (data : List Byte) : State × Option (List Byte) :=
  let b := s.bay x
  let tick := s.clk.ticks
  let fail : State × Option (List Byte) := (s.badStatus.1, some s.badStatus.2)
  let okb : Byte := 0#8
  if !b.runs then (s, none)
  else
    match ty with
    | 0x11 => (s, some (okb :: s.identBytes x))
    | 0x12 =>
      let off := leAt data 0 2
      let n := leAt data 2 1
      let k := if b.cfgCopy = 0 then 1 else 0
      if 1 ≤ n ∧ n ≤ 48 ∧ off + n ≤ 0x1000 ∧ data.length = n + 3 then
        (s.setBay x { b with feram := b.feram.writeL (copyBase k + off) (data.drop 3) }, some [okb])
      else fail
    | 0x13 =>
      (match s.commitCopy x (leAt data 0 4) with
       | some t => (t, some (okb :: leBytes 4 (t.bay x).cfgSeq))
       | none => fail)
    | 0x14 =>
      let off := leAt data 0 2
      let n := leAt data 2 1
      if 1 ≤ n ∧ n ≤ 48 ∧ off + n ≤ 0x1000 then
        (s, some (okb :: b.feram.readN (copyBase (if b.cfgCopy = 1 then 1 else 0) + off) n))
      else fail
    | 0x15 =>
      let rec_ := leAt data 0 1
      if rec_ = 0 then
        let (ws, t) := s.bayRecord x
        (t, some (okb :: recordBytes ws))
      else if rec_ ≤ bayChannels s.dev.part then (s, some (okb :: recordBytes (s.chanRecord x (rec_ - 1))))
      else fail
    | 0x16 =>
      let (st, b1) := b.protClear (leAt data 0 1) (leAt data 1 1) tick
      (s.putBay x b1, some (leBytes 1 st))
    | 0x17 =>
      let (st, b1) := b.trimWrite (leAt data 0 1) (leAt data 1 1) (toInt 32 (leAt data 4 4)) tick s.now
      (s.putBay x b1, some (leBytes 1 st))
    | _ => (s, none)

/-- A request on its way to the bay: one without sync or CRC is discarded and counted; any other is served, and its response, with the
request's tag and the status first, comes back in the same cycle (R189, R194). -/
def State.request64 (s : State) (x ty tag : Nat) (data err : List Byte) : State × Option (List Byte) :=
  let bs := mgmtFrame ty tag data
  if !(s.bay x).runs then (s, none)
  else match received 0x9F (ty, tag, data) bs err readMgmt with
    | none => (s.bumpBay x 0x12, none)
    | some q =>
      let (t, r) := s.serveMgmt x q.1 q.2.2
      (t, r.map (mgmtFrame q.1 q.2.1))

/-- A request sent: at most one is outstanding at a bay. -/
def State.sendMgmt (s : State) (x ty : Nat) (data err : List Byte) : State :=
  if bayExists s.dev.part x && s.engineOn && (s.engBay x).mgmt.isNone && !(tget false s.eng.restart x) then
    let tag := ((s.engBay x).tag + 1) % 256
    let (t, r) := s.request64 x ty tag data err
    let e := t.engBay x
    t.setEngBay x { e with tag := tag, mgmt := some { ty := ty, tag := tag, data := data, tries := 0, resp := r } }
  else s

/-- BAY_IDENT (Table BAY-5). -/
def execBayIdent (x : Nat) (err : List Byte) (s : State) : Res := .next (s.sendMgmt x 0x11 [] err)

/-- CFG_WRITE (R213): bytes into the copy that is not newest. -/
def execCfgWrite (x off : Nat) (data err : List Byte) (s : State) : Res :=
  .next (s.sendMgmt x 0x12 (leBytes 2 off ++ leBytes 1 data.length ++ data) err)

/-- CFG_COMMIT (R213). -/
def execCfgCommit (x crc : Nat) (err : List Byte) (s : State) : Res := .next (s.sendMgmt x 0x13 (leBytes 4 crc) err)

/-- CFG_READ (Table BAY-5): bytes of the newest copy. -/
def execCfgRead (x off count : Nat) (err : List Byte) (s : State) : Res :=
  .next (s.sendMgmt x 0x14 (leBytes 2 off ++ leBytes 1 count) err)

/-- DIAG_READ (R208). -/
def execDiagRead (x rec : Nat) (err : List Byte) (s : State) : Res := .next (s.sendMgmt x 0x15 (leBytes 1 rec) err)

/-- PROT_CLEAR (R241, R289). -/
def execProtClear (x n kind : Nat) (err : List Byte) (s : State) : Res :=
  .next (s.sendMgmt x 0x16 (leBytes 1 n ++ leBytes 1 kind) err)

/-- TRIM_WRITE (R286). -/
def execTrimWrite (x n op : Nat) (data : Int) (err : List Byte) (s : State) : Res :=
  .next (s.sendMgmt x 0x17 (leBytes 1 n ++ leBytes 1 op ++ leBytes 2 0 ++ leBytes 4 (ofInt 32 data)) err)

/-- MGMT_RESPONSE (R189, R194): a good response with the request's tag completes the request; a bad one is discarded and counted, and
leaves the request without a response. -/
def execMgmtResponse (x : Nat) (err : List Byte) (s : State) : Res :=
  let e := s.engBay x
  match e.mgmt with
  | some g =>
    (match g.resp with
     | some r =>
       if !s.engineOn then .next s
       else
         let q := flipBytes r err
         let waiting := s.setEngBay x { e with mgmt := some { g with resp := none } }
         if !(q == r || frameOk 0x9F 64 q) then .next (waiting.bumpBay x 0x12)
         else if (readMgmt q).2.1 ≠ g.tag then .next waiting
         else .next (s.setEngBay x { e with mgmt := none, lastResp := (readMgmt q).2.2, mgmtFailed := false })
     | none => .next s)
  | none => .next s

/-- MGMT_TIMEOUT (R194): a request without response in its cycle is repeated up to 3 times, then fails with BAYTIMEOUT. -/
def execMgmtTimeout (x : Nat) (err : List Byte) (s : State) : Res :=
  let e := s.engBay x
  match e.mgmt with
  | some g =>
    if !s.engineOn then .next s
    else if g.tries < 3 then
      let (t, r) := s.request64 x g.ty g.tag g.data err
      .next (t.setEngBay x { t.engBay x with mgmt := some { g with tries := g.tries + 1, resp := r } })
    else .next (s.setEngBay x { e with mgmt := none, mgmtFailed := true })
  | none => .next s

/-- DIAG_POLL (R208, R321): firmware reads every record of every bay, and the network's records, into DG; it asks LIVE nodes for
their DIAG objects. -/
def execDiagPoll (s : State) : Res :=
  if s.coresRun && s.engineOn && s.pwr.sram then
    let t := { s with eng := { s.eng with diagAt := s.clk.ticks } }
    let u := s.bayList.foldl (fun (u : State) x => if (u.engBay x).mgmt.isNone then u.readDiag x else u) t
    let v := if s.pwr.net then u.liveWrite u.netDiag else u
    .next (if v.srxOn && v.dev.role != .standby then v.readNodeDiags else v)
  else .next s

/-! ### The alive/fault lane (R195) -/

/-- ALIVE_STATUS_WORD (R195): the bay forms its word with the heartbeat toggled, and it arrives with the bits of `err` flipped. A valid
word whose heartbeat has toggled keeps the bay alive; a bay that leaves DOWN, or whose lanes were reset, goes through bay link start
(R214, R375). -/
def execAliveStatusWord (x : Nat) (err : W16) (s : State) : Res :=
  let b := s.bay x
  if !(bayExists s.dev.part x && b.runs) then .next s
  else
    let w := (BitVec.ofNat 16 (b.statusWord (!b.hb)) ^^^ err).toNat
    let s1 := s.setBay x { b with hb := !b.hb }
    let e := s.engBay x
    let valid := w % 256 + w / 256 == 255 && !bit w 7
    if s.engineOn && s.dev.state != .boot && valid then
      let toggled := bit w 0 != e.hb || e.lost
      let back := toggled && (e.lost || tget false s.eng.restart x)
      let e1 := { e with word := w, hb := bit w 0, wordAt := if toggled then s.clk.ticks else e.wordAt, lost := e.lost && !toggled,
                         lanes := if toggled && tget false s.eng.restart x then [] else e.lanes }
      let t := s1.setEngBay x e1
      let t1 := if toggled then { t with eng := { t.eng with restart := tdel t.eng.restart x } } else t
      let t2 := (t1.formBayflt x).baylinkOver
      .next (if back then t2.linkStart x else t2)
    else .next s1

/-- BAY_LOST (R195): 100 µs without a valid toggling word. -/
def execBayLost (x : Nat) (s : State) : Res :=
  let e := s.engBay x
  if bayExists s.dev.part x && s.engineOn && !e.lost && decide (100 * usTicks ≤ s.elapsed e.wordAt) then
    let t := (s.setEngBay x { e with lost := true }).raise 21 (x + 256 * 17) 0
    .next (t.formBayflt x)
  else .next s

/-! ### Silence and clock loss (R199, R200) -/

/-- The silent timeout of a bay in ticks. -/
def Bay.silentTicks (b : Bay) : Nat :=
  (match tfind b.par 1 with
   | some v => v.toNat
   | none => 10) * msTicks

/-- BAY_SILENT (R199): no fresh cycle-start for the silent timeout. -/
def execBaySilent (x : Nat) (s : State) : Res :=
  let b := s.bay x
  if b.runs && !b.silent && decide (b.silentTicks ≤ s.elapsed b.lastFresh) then
    .next ((s.putBay x { b with silent := true, fresh := false }).bumpBay x 0xF)
  else .next s

/-- LANE_SILENT (R189, R200): the lane has carried no valid command frame for the silent timeout. -/
def execLaneSilent (x n : Nat) (s : State) : Res :=
  let b := s.bay x
  let c := b.chan n
  if b.runs && decide (n < bayChannels s.dev.part) && !c.laneSilent && decide (b.silentTicks ≤ s.elapsed c.lastFrame) then
    .next (s.putBay x (b.setChan n { c with laneSilent := true }))
  else .next s

/-- BAY_CLOCK_LOSS (R200): channels go to their safe states, inputs stop, the local time is unset. -/
def execBayClockLoss (x : Nat) (s : State) : Res :=
  let b := s.bay x
  if b.runs then
    .next (s.putBay x ((({ (b.noteValid s.clk.ticks) with clockLost := true, timeSet := false, lostAt := s.clk.ticks }).modStop 0).modStop 1))
  else .next s

/-- The inputs start again (R200, R228): the samples of digital inputs and counters begin afresh. -/
def Bay.restartInputs (b : Bay) (tick : Nat) : Bay :=
  dieChans.foldl (fun (a : Bay) n =>
    let c := a.chan n
    a.setChan n { c with din := { c.din with since := tick, synced := false } }) b

/-- BAY_CLOCK_RETURN (R200): BCLK has run for 1 ms: silent until a fresh cycle-start; digital inputs invalid for their filter time,
modulators restart; what BCLK times goes on where it stood (R239). -/
def execBayClockReturn (x : Nat) (s : State) : Res :=
  let b := s.bay x
  if b.clockLost && !b.inReset && decide (msTicks ≤ s.elapsed b.lostAt) then
    let b1 := { b with clockLost := false, silent := true, fresh := false, lastFresh := s.clk.ticks,
                       decayAt := b.decayAt + s.elapsed b.lostAt }
    let t := s.putBay x ((b1.restartInputs s.clk.ticks).revalidateAll s.clk.ticks)
    .next (if (t.bay x).converts then t.modsStart x else t)
  else .next s

/-! ### Field supply (R206) -/

/-- LP_WARNING: L+ below 19.2 V for 1 ms. -/
def execLpWarning (x lp : Nat) (s : State) : Res :=
  let b := s.bay x
  if !b.inReset && decide (lp < 1920) && decide (msTicks ≤ s.elapsed b.highAt) then
    let t := s.supply x lp
    .next (t.putBay x { t.bay x with warn := true })
  else .next s

/-- LP_UNDERVOLT: outputs off, inputs invalid, modulators stopped; the qualification starts again. -/
def execLpUndervolt (x lp : Nat) (s : State) : Res :=
  if !(s.bay x).inReset && decide (lp < 1600) then .next (s.supply x lp) else .next s

/-- LP_QUALIFIED: L+ above 17.5 V for 10 ms after a fall below 16.0 V: inputs valid after their filter time, modulators restart,
restoration begins. -/
def execLpQualified (x lp : Nat) (s : State) : Res :=
  let b := s.bay x
  if !b.inReset && !b.qualified && decide (1750 < lp) && decide (10 * msTicks ≤ s.elapsed b.lowAt) then
    let s1 := s.supply x lp
    let t := s1.putBay x ({ s1.bay x with qualified := true, qualifiedAt := s.clk.ticks }.revalidateAll s.clk.ticks)
    .next (if (t.bay x).converts then t.modsStart x else t)
  else .next s

/-- CHANNEL_RESTORE: channel k is restored k × 200 µs after qualification; an analog output starts on the L+ tap (R277, R283). -/
def execChannelRestore (x n : Nat) (s : State) : Res :=
  let b := s.bay x
  let c := b.chan n
  if b.qualified && !b.inReset && decide (n < 16) && !c.restored && decide (200 * n * usTicks ≤ s.elapsed b.qualifiedAt) then
    .next (s.putBay x (b.setChan n { c with restored := true, aout := { c.aout with tap := 3, tapAt := s.clk.ticks } }))
  else .next s

/-! ### Bay reset (R202, R206, R212, R228, R268, R283) -/

/-- A channel in bay reset: everything but the protection state, the sticky bits and the front end's reading starts again. -/
def Bay.resetChan (b : Bay) (tick n : Nat) : Bay :=
  let c := b.chan n
  let mode := b.mode n
  let c1 : Chan := { Chan.init with
    reading := c.reading, raw := c.raw, high := c.high, sticky := c.sticky, restored := false, lastFrame := tick,
    dout := { c.dout with sw := false, offAt := tick, inrush := none, pulse := none },
    aout := { AoutCh.init with forcedLow := c.aout.forcedLow, tapAt := tick } }
  b.setChan n (if modeIsCnt mode then c1.event 1 else if modeIsAo mode then c1.event 10 else c1)

/-- BAY_RESET: the bay logic supply falls below 12 V. While the bay is in reset the command reports L+ alone. -/
def execBayReset (x lp : Nat) (s : State) : Res :=
  let b := s.bay x
  if bayExists s.dev.part x && decide (lp < 1200) then
    if b.inReset then .next (s.putBay x { b with lp := lp, uv := true, lowAt := s.clk.ticks })
    else
      let b1 := dieChans.foldl (fun (a : Bay) n => a.resetChan s.clk.ticks n) b
      let b2 := { b1 with inReset := true, resetSeen := true, timeSet := false, latched := none, fresh := false, silent := true,
                          safeNow := false, clockLost := false, limp := false, warn := false, lp := lp, uv := true, qualified := false,
                          lowAt := s.clk.ticks, lastFresh := s.clk.ticks, m0 := Modulator.init, m1 := Modulator.init }
      .next ((s.putBay x b2).bumpBay x 0x11)
  else .next s

/-- BAY_CONFIG_LOADED: L+ above 13 V; the strap is read, the configuration and the trims loaded, and the engine starts the bay link
(R206, R212, R213, R214, R283). -/
def execBayConfigLoaded (x lp : Nat) (almsel : Bool) (s : State) : Res :=
  let b := s.bay x
  if b.inReset && decide (1300 < lp) then
    let b1 := { (((b.withLp lp s.clk.ticks).loadTrims).restartInputs s.clk.ticks) with
      almsel := almsel, lpMin := lp, decayAt := s.clk.ticks }
    .next (((s.setBay x b1).loadBay x).linkStart x)
  else .next s

/-! ### Limp-home and the sense pins (R205, R211) -/

/-- The level of the LIMP pin, a 24 V input with Type 1 thresholds (R205). -/
def limpLevel (x volt : Nat) (old : Bool) : Bool := comparator x 16 1 volt old

/-- LIMP_ASSERT: the pin is high past its 5 ms filter; mapped channels follow the map. -/
def execLimpAssert (x volt held : Nat) (s : State) : Res :=
  let b := s.bay x
  whenOk (bayExists s.dev.part x && b.runs && limpLevel x volt b.limp && decide (5000 ≤ held)) s (s.putBay x { b with limp := true })

/-- LIMP_RELEASE: the pin is low past its filter; mapped channels return to rows 4 or 5 of Table BAY-9. -/
def execLimpRelease (x volt held : Nat) (s : State) : Res :=
  let b := s.bay x
  whenOk (bayExists s.dev.part x && b.runs && !limpLevel x volt b.limp && decide (5000 ≤ held)) s (s.putBay x { b with limp := false })

/-- SEL_CODE_CHANGE (R211): bay.x.sel takes the code of the select pins, and A_ISNS mirrors the newly selected channel. -/
def execSelCodeChange (x : Nat) (code : BitVec 4) (s : State) : Res :=
  whenOk (bayExists s.dev.part x) s (s.putBay x { s.bay x with sel := code.toNat })

end Sys2Proof.Machine
end

