-- ==== Sys2Proof/Machine/NetLoad.lean ====
section
/-!
DEFINITION. The network configuration of a kind 4 container and the checks that refuse it with NETCONFIG (R13, R293, R296, R298,
R314, R319, R320). Every failure is the offset of the offending field.
-/

namespace Sys2Proof.Machine

/-! ### The sections (Tables RIO-7 to RIO-9) -/

/-- The PORTS entry at an offset. -/
def readPorts (bs : List Byte) (o : Nat) : PortsCfg :=
  { gptp := leAt bs o 1, prio1 := leAt bs (o + 1) 1, prio2 := leAt bs (o + 2) 1, logSync := toInt 8 (leAt bs (o + 3) 1),
    ether := leAt bs (o + 4) 2, cbHist := leAt bs (o + 6) 1, cbReset := leAt bs (o + 7) 1, vlan := leAt bs (o + 8) 2,
    acycPcp := leAt bs (o + 10) 1 }

/-- A SEGMENTS entry at an offset. -/
def readSeg (bs : List Byte) (o : Nat) : SegCfg :=
  { seg := leAt bs o 1, port := leAt bs (o + 1) 1, hops := leAt bs (o + 2) 1, pcp := leAt bs (o + 3) 1,
    cycle := leAt bs (o + 4) 4, phase := leAt bs (o + 8) 4, lead := leAt bs (o + 12) 4, hopDelay := leAt bs (o + 16) 4,
    group := leAt bs (o + 20) 6 }

/-- A node descriptor at an offset. -/
def readNode (bs : List Byte) (o : Nat) : NodeCfg :=
  { num := leAt bs o 2, seg := leAt bs (o + 2) 1, missLimit := leAt bs (o + 3) 1, mac := leAt bs (o + 4) 6,
    timeout := leAt bs (o + 10) 2, vendor := leAt bs (o + 12) 4, product := leAt bs (o + 16) 4, minRev := leAt bs (o + 20) 4,
    qBase := leAt bs (o + 24) 4, qBits := leAt bs (o + 28) 2, qwWords := leAt bs (o + 30) 2, qwBase := leAt bs (o + 32) 4,
    iBase := leAt bs (o + 36) 4, iBits := leAt bs (o + 40) 2, iwWords := leAt bs (o + 42) 2, iwBase := leAt bs (o + 44) 4,
    fltPt := leAt bs (o + 48) 4 }

/-- EtherTypes that the PORTS entry may not name. -/
def etherTaken : List Nat := [0x0800, 0x0806, 0x8100, 0x86DD, 0x88F7, 0xF1C1]

/-- The ranges of the PORTS entry. -/
def portsOk (bs : List Byte) (o : Nat) : Except Nat Unit := do
  let p := readPorts bs o
  need (decide (1 ≤ p.gptp) && decide (p.gptp ≤ 3)) o
  need (decide (-5 ≤ p.logSync) && decide (p.logSync ≤ 0)) (o + 3)
  need (decide (0x600 ≤ p.ether) && !etherTaken.contains p.ether) (o + 4)
  need (decide (2 ≤ p.cbHist) && decide (p.cbHist ≤ 32)) (o + 6)
  need (decide (1 ≤ p.cbReset)) (o + 7)
  need (decide (p.vlan ≤ 4094)) (o + 8)
  need (decide (p.acycPcp ≤ 7)) (o + 10)
  need (zeros bs (o + 11) 5) (o + 11)

/-- The ranges of a SEGMENTS entry (R295, R297, Table RIO-8); a multicast address has bit 0 of its first byte set. -/
def segOk (bs : List Byte) (o : Nat) : Except Nat Unit := do
  let g := readSeg bs o
  need (decide (1 ≤ g.seg) && decide (g.seg ≤ 8)) o
  need (decide (1 ≤ g.port) && decide (g.port ≤ 3)) (o + 1)
  need (decide (g.pcp ≤ 7)) (o + 3)
  need (decide (50 ≤ g.cycle) && decide (g.cycle ≤ 100000) && g.cycle % 25 == 0) (o + 4)
  need (decide (g.phase + 25 ≤ g.cycle) && g.phase % 25 == 0) (o + 8)
  need (decide (25 ≤ g.lead) && decide (g.lead ≤ 100000) && g.lead % 25 == 0) (o + 12)
  need (g.group % 2 == 1) (o + 20)
  need (zeros bs (o + 26) 6) (o + 26)

/-- A range of an area: it lies in the area wholly; an empty range has no place. -/
def rangeIn (area base cnt : Nat) : Bool :=
  cnt == 0 || (ptArea base == area && decide (ptIndex base + cnt ≤ areaLen 0 area))

/-- The ranges of a node descriptor (Table RIO-9, R320). -/
def nodeOk (bs : List Byte) (o : Nat) : Except Nat Unit := do
  let d := readNode bs o
  need (decide (2 ≤ d.num) && decide (d.num ≤ 1023)) o
  need (decide (1 ≤ d.missLimit)) (o + 3)
  need (decide (1 ≤ d.timeout) && decide (d.timeout ≤ 1000)) (o + 10)
  need (rangeIn 1 d.qBase d.qBits) (o + 24)
  need (d.qBits % 8 == 0 && decide (d.outLen ≤ 256)) (o + 28)
  need (rangeIn 3 d.qwBase d.qwWords) (o + 32)
  need (rangeIn 0 d.iBase d.iBits) (o + 36)
  need (d.iBits % 8 == 0 && decide (d.inLen ≤ 1024)) (o + 40)
  need (rangeIn 2 d.iwBase d.iwWords) (o + 44)
  need (d.fltPt == 0xFFFFFFFF || rangeIn 0 d.fltPt 1) (o + 48)
  need (zeros bs (o + 52) 12) (o + 52)

/-! ### Ranges that may not meet -/

/-- Whether two ranges of points share one. -/
def rangesMeet (a b : Nat × Nat) : Bool :=
  decide (0 < a.2) && decide (0 < b.2) && decide (a.1 < b.1 + b.2) && decide (b.1 < a.1 + a.2)

/-- The mapped ranges of a node. -/
def NodeCfg.ranges (d : NodeCfg) : List (Nat × Nat) :=
  [(d.qBase, d.qBits), (d.qwBase, d.qwWords), (d.iBase, d.iBits), (d.iwBase, d.iwWords)]

/-- The blocks of the bays of the part (Table BAY-6). -/
def State.bayBlocks (s : State) : List (Nat × Nat) :=
  s.bayList.flatMap (fun x => [(s.bayN x 5, 32), (s.bayN x 6, 16), (s.bayN x 7, 32), (s.bayN x 8, 16)])

/-! ### The gate control list of a port (R293) -/

/-- The segments that transmit on a port: 1 A, 2 B. -/
def NetConfig.onPort (c : NetConfig) (port : Nat) : List SegCfg := c.segs.filter (fun g => g.port == port || g.port == 3)

/-- The cycle of a port's gate control list in µs. -/
def NetConfig.listCycle (c : NetConfig) (port : Nat) : Nat := (c.onPort port).foldl (fun l g => Nat.lcm l g.cycle) 1

/-- A window of a port: its start and length in ns, and the segment's PCP. -/
structure GateWindow where
  at_ : Nat
  len : Nat
  pcp : Nat
deriving DecidableEq, Repr

/-- The windows of a port in one list cycle, in order. -/
def NetConfig.windows (c : NetConfig) (p : Program) (port : Nat) : List GateWindow :=
  sortBy (fun a b => decide (a.at_ ≤ b.at_)) ((c.onPort port).flatMap (fun g =>
    (List.range (c.listCycle port / max 1 g.cycle)).map (fun k =>
      GateWindow.mk ((g.phase + k * g.cycle) * 1000) (c.window p g) g.pcp)))

/-- The guard before a window: one frame of 1,522 bytes, ns. -/
def guardNs : Nat := 12336

/-- Each window with the next one, around the cycle. -/
def NetConfig.windowPairs (c : NetConfig) (p : Program) (port : Nat) : List (GateWindow × GateWindow) :=
  let ws := c.windows p port
  ws.zip (ws.drop 1 ++ (ws.take 1).map (fun w => { w with at_ := w.at_ + c.listCycle port * 1000 }))

/-- The time from a window's end to the start of the next one; a negative gap is an overlap. -/
def windowGap (e : GateWindow × GateWindow) : Int := (e.2.at_ : Int) - (e.1.at_ + e.1.len : Nat)

/-- The gaps of a port's list. -/
def NetConfig.gaps (c : NetConfig) (p : Program) (port : Nat) : List Int := (c.windowPairs p port).map windowGap

/-- An entry of the gate control list: its start in the list's cycle, its length in ns, and the queues whose gates are open. -/
structure GateEntry where
  at_ : Nat
  len : Nat
  gates : Nat
deriving DecidableEq, Repr

/-- The queue of a PCP with eight queues, in the default manner of IEEE 802.1Q: PCP 1 below PCP 0 (R293). -/
def pcpQueue (pcp : Nat) : Nat := if pcp = 0 then 1 else if pcp = 1 then 0 else pcp

/-- The entries from one window to the next: the window with the gate of its class alone; then, where there is room, every gate open, and
the guard before the next window with only that one's gate open (R293; what becomes of a gap with no room for the guard is assumption log
33). -/
def gateEntries (cycle : Nat) (e : GateWindow × GateWindow) : List GateEntry :=
  let stop := e.1.at_ + e.1.len
  let gap := (windowGap e).toNat
  let guard := min gap guardNs
  [GateEntry.mk e.1.at_ e.1.len (2 ^ pcpQueue e.1.pcp)] ++
    (if guardNs < gap then [GateEntry.mk (stop % cycle) (gap - guardNs) 255] else []) ++
    (if 0 < gap then [GateEntry.mk ((stop + gap - guard) % cycle) guard (2 ^ pcpQueue e.2.pcp)] else [])

/-- The gate control list of a port, which the segment table gives (R293). -/
def NetConfig.gateList (c : NetConfig) (p : Program) (port : Nat) : List GateEntry :=
  (c.windowPairs p port).flatMap (gateEntries (max 1 (c.listCycle port * 1000)))

/-- The entries of the list. -/
def NetConfig.listEntries (c : NetConfig) (p : Program) (port : Nat) : Nat := (c.gateList p port).length

/-! ### Freshness (R314) -/

/-- F_s of a segment under a program, µs. -/
def NetConfig.freshSpan (c : NetConfig) (p : Program) (sg : Nat) : Nat :=
  let own := p.ctxs.filter (fun e => (c.nodesOf sg).any (fun d => p.ownsIn e.ctx d.qBase d.qBits || p.ownsIn e.ctx d.qwBase d.qwWords))
  let least := match p.ctxs.map CtxEntry.period with
    | [] => 0
    | a :: as => as.foldl min a
  min 20000000 (2 * (if own.isEmpty then least else own.foldl (fun m e => max m e.period) 0))

/-! ### The whole -/

/-- The configuration that the sections spell, unchecked; the hash stays 0. -/
def netOf (bs : List Byte) (secs : List Sec) : NetConfig :=
  let len (ty : Nat) : Nat := match secOf secs ty with
    | some x => x.len
    | none => 0
  { hash := 0, ports := readPorts bs (secOff secs 0x10),
    segs := (List.range (len 0x11 / 32)).map (fun i => readSeg bs (secOff secs 0x11 + 32 * i)),
    nodes := (List.range (len 0x12 / 64)).map (fun i => readNode bs (secOff secs 0x12 + 64 * i)) }

/-- Reads the sections of a kind 4 container and makes the checks of R320 under the active program; the hash stays 0. -/
def State.readNet (s : State) (bs : List Byte) (secs : List Sec) : Except Nat NetConfig := do
  let p := s.program
  let po := secOff secs 0x10
  let len (ty : Nat) : Nat := match secOf secs ty with
    | some x => x.len
    | none => 1
  need (len 0x10 == 16 && len 0x11 % 32 == 0 && len 0x12 % 64 == 0) 10
  let so (i : Nat) : Nat := secOff secs 0x11 + 32 * i
  let no (i : Nat) : Nat := secOff secs 0x12 + 64 * i
  let nseg := len 0x11 / 32
  let nnode := len 0x12 / 64
  portsOk bs po
  eachOk (List.range nseg) (fun i => segOk bs (so i))
  eachOk (List.range nnode) (fun i => nodeOk bs (no i))
  let c := netOf bs secs
  let segs := c.segs
  let nodes := c.nodes
  need (decide (nnode ≤ 1022)) (no 1022)
  eachOk segs.zipIdx (fun e => do
    need (!(segs.take e.2).any (fun g => g.seg == e.1.seg) && nodes.any (fun d => d.seg == e.1.seg)) (so e.2)
    need (decide (2 * c.window p e.1 ≤ 1000 * e.1.cycle)) (so e.2 + 4))
  eachOk nodes.zipIdx (fun e => do
    let d := e.1
    let before := nodes.take e.2
    need (!before.any (fun x => x.num == d.num)) (no e.2)
    need (segs.any (fun g => g.seg == d.seg)) (no e.2 + 2)
    let taken := before.flatMap NodeCfg.ranges ++ s.bayBlocks
    need (!d.ranges.any (fun r => taken.any (fun t => rangesMeet r t))) (no e.2 + 24)
    let g := c.seg d.seg
    let lead := (g.map SegCfg.lead).getD 0
    let cycle := (g.map SegCfg.cycle).getD 0
    need (decide (p.stepBound d lead ≤ 3)) (no e.2)
    need (decide (c.freshSpan p d.seg + 2 * cycle < d.timeout * 1000)) (no e.2 + 10))
  eachOk [1, 2] (fun port => do
    need (decide (c.listCycle port ≤ 100000)) (secOff secs 0x11)
    need ((c.gaps p port).all (fun g => decide (0 ≤ g)) && decide (c.listEntries p port ≤ 64)) (secOff secs 0x11))
  .ok c

end Sys2Proof.Machine
end

