-- ==== Sys2Proof/Machine/OwnerOps.lean ====
section
/-!
DEFINITION. The owner key and what an owner change does once its record is durable (R408).
-/

namespace Sys2Proof.Machine

/-- A key ID: the first 16 bytes of SHA-384 of a public key in its 97-byte encoding (R408). -/
def keyIdOf (key : List Byte) : Nat := Config.sha384 key % 2 ^ 128

/-- The owner key ID, 0 while unclaimed. -/
def SecState.ownerKeyId (k : SecState) : Nat :=
  match k.owner with
  | some key => keyIdOf key
  | none => 0

/-- The retentive points of a program, at 0. -/
def Program.retZeros (p : Program) : List (Nat × Nat) :=
  p.rets.flatMap (fun r => (List.range r.len).map (fun i => (mkPt r.area (r.first + i), 0)))

/-- What transfer and release clear (R408): the program store is invalid, the network configurations, the retentive store, the
policy, NS, the node keys and the key generation are gone; settings in 0x0B00-0x0BFF, which are not among those that are kept, return to
their defaults at the next restart (DEDUCED, assumption log 60). -/
def State.clearOwned (s : State) : State :=
  { s with
    sram := writePts s.sram s.program.retZeros,
    prog := { s.prog with active := none, slot := 255, chain := 0, slotBytes := 0, netCopy := 255, netHash := 0 },
    net := { s.net with cfg := none, nodes := [], segs := [] },
    bootParams := [0xB10, 0xB11, 0xB12].foldl (fun b p => tset b p (paramDefault p)) s.bootParams,
    nvm := { s.nvm with setDirty := true },
    sec := { s.sec with storeInvalid := true, ns := none, nodeKeys := [], keyGen := 0 } }

/-- The record of an owner change is durable: the new owner is in place, with the default policy, the owner lock open and no network
keys; OWNER_CHANGED is logged, and the request completes (R408, Table SEC-6). -/
def State.applyOwner (s : State) : State :=
  match s.sec.change with
  | none => s
  | some c =>
    let old := s.sec.ownerKeyId
    let t := if c.clear then s.clearOwned else s
    let u := { t with sec := { t.sec with
      change := none, owner := c.owner, policy := [], policySerial := 0, lockSet := false, lockOpenUntil := none } }
    let v := u.log 0x40 (leBytes 16 old ++ leBytes 16 u.sec.ownerKeyId)
    (v.ok c.mbx (match c.owner with
      | some key => leBytes 16 (keyIdOf key)
      | none => [])).mirror

end Sys2Proof.Machine
end

