-- ==== Sys2Proof/Machine/StbyOps.lean ====
section
/-!
DEFINITION. Frames of the scarf link and the delta of a peg (R158, R166-R169).
-/

namespace Sys2Proof.Machine

/-! ### Frames -/

/-- A scarf frame's bytes: header, payload, and CRC-32C over both (Table STBY-1). -/
def ScarfTx.bytes (f : ScarfTx) : List Byte :=
  let body := leBytes 1 f.kind ++ leBytes 1 f.flags ++ leBytes 2 f.payload.length ++ leBytes 4 f.seq ++ leBytes 4 f.peg ++ f.payload
  body ++ leBytes 4 (crc32c body).toNat

/-- Bytes in segments of 4,352, each with the count of bytes that follow it: with its prefix a segment fits a payload of 4,360 (R158,
Table STBY-3; how a segment says where it stands is not given: DESIGN CHOICE, assumption log 36). -/
def segments (bs : List Byte) : List (Nat × List Byte) :=
  (List.range (max 1 (ceilDiv bs.length 4352))).map (fun i => (bs.length - 4352 * (i + 1), (bs.drop (4352 * i)).take 4352))

/-- CTRL EDIT_OFFER of a container: purpose (0 staged, 1 the current slot, 2 the network configuration), bytes to come, the segment. -/
def offerFrames (purpose : Nat) (bs : List Byte) : List ScarfOut :=
  (segments bs).map (fun e => ctrlFrame 4 (leBytes 1 purpose ++ leBytes 4 e.1 ++ e.2))

/-- CTRL UPD_OFFER of an image. -/
def updFrames (bs : List Byte) : List ScarfOut := (segments bs).map (fun e => ctrlFrame 6 (leBytes 4 e.1 ++ e.2))

/-- CTRL FORCE: the complete force list (R169). -/
def State.ctrlForceFrame (s : State) : ScarfOut :=
  ctrlFrame 2 (s.img.forces.flatMap (fun f => leBytes 4 f.1 ++ leBytes 2 f.2 ++ leBytes 2 0))

/-- DROP of context `c` (Table STBY-2). -/
def State.dropFrameOf (s : State) (c reason : Nat) : ScarfOut :=
  ScarfOut.mk 0x15 0 0 (leBytes 1 c ++ leBytes 1 reason ++ leBytes 2 0 ++ leBytes 4 (s.ctx c).drops)

/-- The primary forwards a change to its standby (R164, R169). -/
def State.forward (s : State) (f : ScarfOut) : State := if s.dev.role == .primary then s.scarfSend [f] else s

/-! ### Cell records (assumption log 21: the packing of the eight bytes) -/

/-- A timer cell as a record's state. -/
def TimerCell.pack (k : TimerCell) : Nat :=
  k.start % 2 ^ 48 + shl (b2n k.started) 48 + shl (b2n k.prev) 49 + shl (b2n k.run) 50 + shl k.et 64

/-- A counter cell as a record's state. -/
def CounterCell.pack (k : CounterCell) : Nat :=
  ofInt 32 k.cv + shl (b2n k.prevU) 32 + shl (b2n k.prevD) 33 + shl (b2n k.down) 34 + shl (ofInt 32 k.lastPv) 64

/-- The timer cell that a record's state spells. -/
def TimerCell.unpack (v : Nat) : TimerCell :=
  { start := bits v 47 0, started := bit v 48, prev := bit v 49, run := bit v 50, et := v / 2 ^ 64 }

/-- The counter cell that a record's state spells. -/
def CounterCell.unpack (v : Nat) : CounterCell :=
  { cv := toInt 32 v, prevU := bit v 32, prevD := bit v 33, down := bit v 34, lastPv := toInt 32 (v / 2 ^ 64) }

/-- The 64-bit word that holds an edge-memory bit. -/
def edgeWord (k : Cells) (w : Nat) : Nat := ofBits ((List.range 64).map (fun i => tget false k.edges (64 * w + i)))

/-- Edge words that a table of cells touches. -/
def edgeWords (k : Cells) : List Nat := (k.edges.map (fun e => e.1 / 64)).eraseDups

/-- The cell record of a shot's updates over the committed cells `base` (R166). -/
def cellRecords (base upd : Cells) : List CellRec :=
  upd.timers.map (fun e => CellRec.mk 0 e.1 e.2.pack) ++ upd.counters.map (fun e => CellRec.mk 1 e.1 e.2.pack) ++
    (edgeWords upd).map (fun w => CellRec.mk 2 w (edgeWord base w))

/-- One record written into committed cells. -/
def Cells.take (k : Cells) (r : CellRec) : Cells :=
  match r.kind with
  | 0 => { k with timers := tset k.timers r.num (TimerCell.unpack r.state) }
  | 1 => { k with counters := tset k.counters r.num (CounterCell.unpack r.state) }
  | _ =>
    { k with edges := (List.range 64).foldl (fun t i => tset t (64 * r.num + i) (bit r.state i)) k.edges }

/-- A cell entry of 12 bytes (R166). -/
def CellRec.bytes (r : CellRec) : List Byte :=
  leBytes 2 (r.kind * 16384 + r.num) ++ leBytes 2 0 ++ leBytes 8 r.state

/-! ### Deltas -/

/-- The dirty mask of a page: one bit a point (R42). -/
def maskBytes (page : Nat) (writes : List (Nat × Nat)) : List Byte :=
  let isBit := areaIsBit (page / 4096)
  let per := if isBit then 32768 else 2048
  let base := mkPt (page / 4096) (page % 4096 * per)
  (List.range (per / 8)).map (fun i => BitVec.ofNat 8 (ofBits ((List.range 8).map (fun k =>
    (tfind writes (base + 8 * i + k)).isSome))))

/-- Bytes of a delta on the link by page (R65). -/
def deltaPageBytes (page : Nat) : Nat := if page / 4096 == 1 || page / 4096 == 4 then 8192 else 4352

/-- Sends the delta of a peg (R65, R166): its pages in ascending order with their masks, then DELTA_END; the acknowledgement is
due within the bound of R65 after the transfer before it. -/
def State.sendDelta (s : State) (c peg : Nat) (pegAt : Ns) (pages : List Nat) (writes : List (Nat × Nat))
    (rows : List Nat) (cells : List CellRec) : State :=
  if s.dev.role == .primary && s.stby.linkUp then
    let ps := sortBy (fun a b => decide (a ≤ b)) pages
    let sent (p : Nat) : List Byte × List ScarfOut :=
      let data := s.sram.readN (pageAddr p) 4096
      let mask := maskBytes p writes
      if areaIsBit (p / 4096) then
        (data ++ mask, [ScarfOut.mk 0x10 0 peg (leBytes 2 p ++ leBytes 2 0 ++ data),
                        ScarfOut.mk 0x11 0 peg (leBytes 2 p ++ leBytes 2 0 ++ mask)])
      else (data ++ mask, [ScarfOut.mk 0x10 0 peg (leBytes 2 p ++ leBytes 2 0 ++ data ++ mask)])
    let crc := (crc32c (ps.flatMap (fun p => (sent p).1))).toNat
    let tail := ScarfOut.mk 0x12 1 peg
      (leBytes 1 c ++ leBytes 1 0 ++ leBytes 2 ps.length ++ leBytes 8 pegAt ++ leBytes 2 rows.length ++
        leBytes 2 cells.length ++ leBytes 4 crc ++ rows.flatMap (leBytes 2) ++ cells.flatMap CellRec.bytes)
    let size := ps.foldl (fun n p => n + deltaPageBytes p) 0
    let from_ := s.stby.outstanding.foldl (fun n o => max n (o.deadline - 8 * usTicks)) s.clk.ticks
    let due := from_ + ceilDiv size 3 + 8 * usTicks
    let t := s.scarfSend (ps.flatMap (fun p => (sent p).2) ++ [tail])
    { t with stby := { t.stby with outstanding := t.stby.outstanding ++ [Outstanding.mk peg crc due] } }
  else s

/-! ### Resync (R168, R170) -/

/-- The pages of the committed image and of the declared DB. -/
def State.imagePages (s : State) : List Nat :=
  let pages (area n : Nat) : List Nat := (List.range n).map (fun i => 4096 * area + i)
  pages 0 2 ++ pages 1 2 ++ pages 2 8 ++ pages 3 8 ++ pages 4 8 ++ pages 5 32 ++ pages 6 (ceilDiv s.program.dbSize 2048)

/-- Every timer cell, counter cell and edge word, as records (R170). -/
def Cells.records (k : Cells) : List CellRec :=
  (List.range 8192).map (fun n => CellRec.mk 0 n (tget TimerCell.init k.timers n).pack) ++
    (List.range 8192).map (fun n => CellRec.mk 1 n (tget CounterCell.init k.counters n).pack) ++
    (List.range 512).map (fun w => CellRec.mk 2 w (edgeWord k w))

/-- The copy: pages, cells, and its end (R170, assumption log 35: the frames are handed to the lanes in one step). -/
def State.copyFrames (s : State) : List ScarfOut :=
  let pages := s.imagePages
  let cells := s.img.cells.records
  pages.map (fun p => ScarfOut.mk 0x20 0 s.img.pegSeq (leBytes 2 p ++ leBytes 2 0 ++ leBytes 4 s.img.pegSeq ++
      s.sram.readN (pageAddr p) 4096)) ++
    (List.range (ceilDiv cells.length 363)).map (fun i =>
      ScarfOut.mk 0x21 0 s.img.pegSeq (((cells.drop (363 * i)).take 363).flatMap CellRec.bytes)) ++
    [ScarfOut.mk 0x22 1 s.img.pegSeq (leBytes 4 pages.length ++ leBytes 4 cells.length)]

/-- The primary's standby is SYNCING: no emission waits, and a copy follows CTRL RESYNC (R168, R170). -/
def State.startResync (s : State) : State :=
  let t := s.bump 0xE0D 32
  let u := { t with
    stby := { t.stby with sync := 1, outstanding := [], copyDone := true, progress := 1000 },
    img := { t.img with commits := Image.ackAll t.img.commits } }
  u.scarfSend (ctrlFrame 3 [] :: u.copyFrames)

end Sys2Proof.Machine
end

