-- ==== Sys2Proof/Machine/Shots.lean ====
section
/-!
DEFINITION. The life of a shot: release and pins (R41, R71-R73), the peg (R44-R48, R65), drops (R58-R60), the durable commit
record (R53) and emission (R49, R50).
-/

namespace Sys2Proof.Machine

/-! ### Instants in order (R45) -/

/-- The instant of context `c`'s peg, if one is to come. -/
def State.pegOf (s : State) (c : Nat) : Option Ns := (s.ctx c).pegDue

/-- A peg at or before `t` is still to be processed. -/
def State.pegBefore (s : State) (t : Ns) : Bool :=
  s.configured.any (fun c => match s.pegOf c with
    | some p => decide (p ≤ t)
    | none => false)

/-- Context `c`'s peg is the next one in order of instant and context number. -/
def State.pegFirst (s : State) (c : Nat) (p : Ns) : Bool :=
  s.configured.all (fun k => match s.pegOf k with
    | some q => decide (p < q) || (p == q && decide (c ≤ k))
    | none => true)

/-- An edit step at or before `t` is still to be taken (R149, R154). -/
def State.editBefore (s : State) (t : Ns) : Bool :=
  match s.prog.armed with
  | some e => e.at_ != 0 && decide (e.at_ ≤ t) && s.dev.state == .run
  | none => false

/-- A planned switchover at or before `t` is still to be taken (R176). -/
def State.switchBefore (s : State) (t : Ns) : Bool :=
  match s.stby.switchAt with
  | some x => decide (x ≤ t)
  | none => false

/-- A configured context that releases at or before `t` has not released. -/
def State.releaseBefore (s : State) (t : Ns) : Bool :=
  s.configured.any (fun c => (s.ctx c).releasing && decide ((s.ctx c).nextRelease ≤ t) && (s.ctx c).shot.isNone)

/-- The device takes releases (R64, R73, R79). -/
def State.releasesRun (s : State) : Bool :=
  s.dev.state == .run && s.dev.role != .standby && s.dev.drain.isNone && !s.sched.paused && !s.pwr.warnLive

/-- A release of an instant before `p` is still to be taken: it comes before a peg at `p` (R41, R45). -/
def State.releaseOwed (s : State) (p : Ns) : Bool :=
  s.releasesRun && s.configured.any (fun c =>
    (s.ctx c).cfg.isSome && (s.ctx c).releasing && decide ((s.ctx c).nextRelease < p) && (s.ctx c).shot.isNone)

/-! ### Release -/

/-- Pages pinned at their present versions. -/
def State.pinPages (s : State) (pages : List Nat) : List PinPage := pages.map (fun p => PinPage.mk p (s.pageVer p))

/-- The bytes that pinned pages hold, forces on inputs replacing the live values (R38, R41). -/
def State.pinned (s : State) (pages : List Nat) : Memory :=
  let m := s.sram.restrict (fun a => pages.any (fun p => inPage p a))
  let forced := s.img.forces.filter (fun f =>
    (ptArea f.1 == 0 || ptArea f.1 == 2) && pages.contains (ptPage f.1))
  writePts m forced

/-- Whether context `c` can take its next release now (R45, R64, R71-R73, R79, R149). -/
def State.canRelease (s : State) (c : Nat) : Bool :=
  let x := s.ctx c
  s.releasesRun && x.cfg.isSome && x.releasing && x.shot.isNone && decide (x.nextRelease ≤ s.now) &&
    !s.pegBefore x.nextRelease && !s.editBefore x.nextRelease && !s.switchBefore x.nextRelease

/-- The response data of STATE (Table HOST-10): the state entered, its sub-state and the STIME of entry. -/
def State.stateData (s : State) : List Byte :=
  leBytes 1 (devCode s.dev.state) ++ leBytes 1 (subCode s.subNow) ++ leBytes 2 0 ++ leBytes 8 s.dev.sinceTime

/-- The grid instant of context `c` arrives: the input pages of its read set are pinned and the shot is released with the
shot-entry registers (R41, R71, R75, R91). A RUN request is answered at the first release (R344). -/
def execRelease (c : Nat) (s : State) : Res :=
  if s.canRelease c then
    let x := s.ctx c
    let t0 := x.nextRelease
    let per := x.ns CtxEntry.period
    let pages := (s.program.readSet c).filter pageIsInput
    let sh : Shot :=
      { t0 := t0, pegAt := t0 + x.ns CtxEntry.pegOffset, phase := .pin, pins := s.pinPages pages, snap := s.pinned pages,
        buf := [], masks := [], writes := [], rows := [], cells := Cells.init, waiting := none, junction := none,
        doneAt := none }
    let entry := match x.cfg with
      | some e => e.entry
      | none => 0
    let t := s.setCtx c { x with shot := some sh, regs := CoreRegs.atEntry entry, nextRelease := t0 + per,
                                 pegDue := some sh.pegAt }
    match t.dev.runMbx with
    | some m =>
      let u := { t with dev := { t.dev with runMbx := none } }
      .next (u.ok m u.stateData)
    | none => .next t
  else .next s

/-- A shot with the data pages of its read set that it has not pinned yet pinned at their present versions (R41). -/
def State.pinData (s : State) (c : Nat) (sh : Shot) : Shot :=
  let pages := (s.program.readSet c).filter (fun p => !pageIsInput p && !sh.pins.any (fun q => q.page == p))
  { sh with pins := sh.pins ++ s.pinPages pages, snap := Memory.overlay sh.snap (s.pinned pages) }

/-- Before a peg at `p` changes the image, each shot released before `p` that still pins takes its data pages as they stand: every
peg at or before its release is processed, and this one is visible to none of it (R41). -/
def State.pinEarlier (s : State) (p : Ns) : State :=
  { s with ctxs := s.ctxs.map (fun (e : Nat × Ctx) => (e.1, match e.2.shot with
    | some sh => if sh.phase == .pin && decide (sh.t0 < p) then { e.2 with shot := some (s.pinData e.1 sh) } else e.2
    | none => e.2)) }

/-- Every peg at or before t0 is processed and every release of the instant taken: the data pages are pinned and the shot is
ready (R41, R45, R76), and after a planned switchover every delta of a peg at or before it is applied, which SWITCH_DONE says (R176,
assumption log 46); a pin that had to wait for remaps counts in image.snap.waits (R66). -/
def execDataPinComplete (c : Nat) (s : State) : Res :=
  let x := s.ctx c
  match x.shot with
  | none => .next s
  | some sh =>
    if sh.phase == .pin && s.dev.state == .run && !s.pegBefore sh.t0 && !s.releaseBefore sh.t0 && s.stby.acked.isEmpty &&
        !s.stby.holdEmit then
      let t := s.setCtx c { x with shot := some { s.pinData c sh with phase := .ready } }
      let t := if sh.t0 + 3 ≤ s.now then t.bump 0x620 32 else t
      .next t.dispatch
    else .next s

/-! ### The peg -/

/-- A configuration value accepted for the next peg comes into force (R9, R69). -/
def Ctx.capDue (x : Ctx) : Ctx :=
  match x.capNext, x.cfg with
  | some v, some e => { x with cfg := some { e with dropCap := v }, capNext := none }
  | _, _ => x

/-- The 64 bytes of a retentive row of a program over values of points (R52, R53). -/
def Program.rowBytes (p : Program) (value : Nat → Nat) (row : Nat) : List Byte :=
  match p.rets.find? (fun r =>
      let per := if areaIsBit r.area then 512 else 32
      decide (r.row ≤ row) && decide (row < r.row + ceilDiv r.len per)) with
  | none => []
  | some r =>
    let isBit := areaIsBit r.area
    let per := if isBit then 512 else 32
    let k := (row - r.row) * per
    let v (i : Nat) : Nat := if k + i < r.len then value (mkPt r.area (r.first + k + i)) else 0
    if isBit then
      (List.range 64).map (fun j => BitVec.ofNat 8 (ofBits ((List.range 8).map (fun i => v (8 * j + i) == 1))))
    else (List.range 32).flatMap (fun i => leBytes 2 (v i))

/-- The 64 bytes of a retentive row as the committed image holds them. -/
def State.rowData (s : State) (row : Nat) : List Byte := s.program.rowBytes s.committed row

/-- The output points that context `c` owns. -/
def Program.ownedPts (p : Program) (c : Nat) : List Nat :=
  (p.owns.filter (fun o => o.ctx == c)).flatMap (fun o => (List.range o.count).map (fun i => mkPt o.area (o.first + i)))

/-- The output points a shot changed, with the values it leaves; a value equal to the committed one is no change
(R49, assumption log 11). -/
def State.changedOutputs (s : State) (sh : Shot) : List (Nat × Nat) :=
  sh.writes.filter (fun w => (ptArea w.1 == 1 || ptArea w.1 == 3) && s.committed w.1 != w.2)

/-- The frames that hold dirty rows of a shot, at their present versions (R46). -/
def State.rowFrames (s : State) (sh : Shot) : List PinPage :=
  s.pinPages ((sh.writes.filter (fun w => (s.program.rowOf w.1).isSome)).map (fun w => ptPage w.1)).eraseDups

/-- The peg of a complete shot (R43, R46, R48, R65): remap or merge of every page with a
written point (R121), cells, the commit record queued, and in
PRIMARY the delta sent. The consecutive-drop count is reset here, at the peg, and not when the record is durable (R60: the spec says
'a committed shot'; DESIGN CHOICE, assumption log 56). -/
def State.commitShot (s : State) (c : Nat) (sh : Shot) : State :=
  let x := s.ctx c
  let dirty := sh.buf.filter (fun b => sh.writes.any (fun w => ptPage w.1 == b.page))
  let merges := (dirty.filter (fun b => b.base != s.pageVer b.page)).length
  let remaps := dirty.length - merges
  let changed := s.changedOutputs sh
  let s1 := { s with sram := writePts s.sram sh.writes,
                     img := { s.img with cells := Cells.merge s.img.cells sh.cells, pegSeq := s.img.pegSeq + 1, lastPeg := sh.pegAt } }
  let s2 := dirty.foldl (fun t b => t.bumpPage b.page) s1
  let s3 := (List.range remaps).foldl (fun t _ => t.bump 0x621 64) s2
  let s4 := (List.range merges).foldl (fun t _ => t.bump 0x622 64) s3
  let rows := sortBy (fun a b => decide (a ≤ b)) sh.rows
  let owned := (s4.program.ownedPts c).map (fun p => (p, s4.committed p))
  let out := if x.fullEmission then owned else changed
  let held := s4.dev.role == .primary && s4.stby.sync == 2
  let k : Commit :=
    { kind := .peg c, extra := CommitExtra.none, seq := s4.img.pegSeq, pegAt := sh.pegAt, rows := rows, data := rows.map (fun r => (r, s4.rowData r)),
      changed := out, owned := owned, frames := s4.rowFrames sh, full := x.fullEmission, started := false, durable := false, acked := !held, emitted := false }
  let s5 := { s4 with img := { s4.img with commits := s4.img.commits ++ [k] } }
  let s6 := s5.setCtx c { x with
    shot := none, consec := 0, capRaised := false, fullEmission := false, commitAt := some s5.clk.ticks, lastPegAt := some sh.pegAt }
  let s7 := if x.capRaised then s6.dropCapOver else s6
  s7.sendDelta c k.seq sh.pegAt (dirty.map BufPage.page) sh.writes rows (cellRecords s7.img.cells sh.cells)

/-! ### The end of an orderly drain (R79) -/

/-- The old primary of a switchover has handed out its last emission: SWITCH_DONE (R176). -/
def State.finishSwitch (s : State) : State :=
  if s.stby.owesDone && s.img.commits.all Commit.emitted then
    let t := s.scarfSend [ctrlFrame 9 []]
    { t with stby := { t.stby with owesDone := false } }
  else s

/-- The last peg has committed and emitted: the device enters the requested state and answers the request. -/
def State.finishDrain (s0 : State) : State :=
  let s := s0.finishSwitch
  match s.dev.drain with
  | none => s
  | some d =>
    let busy := s.configured.any (fun c => (s.ctx c).shot.isSome || (s.ctx c).pegDue.isSome) ||
      s.img.commits.any (fun k => !k.emitted)
    if busy then s
    else
      let who := match s.dev.drainMbx with
        | some m => (s.mailbox m).owner
        | none => 0
      let t := s.enter d who false
      match t.dev.drainMbx with
      | some m =>
        let u := { t with dev := { t.dev with drainMbx := none } }
        u.ok m u.stateData
      | none => t

/-- The peg instant of context `c` (R44-R46): a complete shot is committed, an incomplete one dropped with LATE; the accepted
drop cap comes into force whether or not a shot reached its peg. Releases of earlier instants come first, and the shots they
released have their pages (R41). -/
def execPeg (c : Nat) (s : State) : Res :=
  match s.pegOf c with
  | none => .next s
  | some p =>
    if decide (p ≤ s.now) && s.dev.state == .run && s.pegFirst c p && !s.releaseOwed p then
      let u := s.pinEarlier p
      let t := u.setCtx c { (u.ctx c).capDue with pegDue := none }
      match (t.ctx c).shot with
      | none => .next t.finishDrain
      | some sh =>
        let complete := match sh.doneAt with
          | some d => decide (d < p)
          | none => false
        if complete then .next (t.commitShot c sh) else .next (t.dropAndDispatch c .late).finishDrain
    else .next s

/-! ### After a drop -/

/-- The dropped shot of context `c` is abandoned: its buffer, masks and cell updates are freed; a counted reason counts and is
logged (R58-R60), and a primary forwards it (R169). -/
def execShotAbandoned (c : Nat) (s : State) : Res :=
  let x := s.ctx c
  match x.dying with
  | [] => .next s
  | (sh, r) :: rest =>
    let t := s.setCtx c { x with dying := rest, lastReason := dropCode r }
    let u := if dropCounted r then t.countDrop c sh r else t
    .next (u.forward (u.dropFrameOf c (dropCode r)))

/-! ### The durable record -/

/-- The first commit whose record is not durable. -/
def State.headCommit (s : State) : Option Commit := s.img.commits.find? (fun k => !k.durable)

/-- The rows of a commit: dirty rows or all 8,192, index rows, header (R53, R429). -/
def Commit.rowsTotal (k : Commit) : Nat :=
  if k.extra.all then 8193 else k.rows.length + ceilDiv k.rows.length 32 + 1

/-- The new copies of rows are current: their current half toggles, every row's with ALL (R53, R429). -/
def Nvm.toggle (n : Nvm) (rows : List Nat) (all : Bool) : Nvm :=
  { n with halves := (if all then List.range 8192 else rows).foldl (fun t r => tset t r (!tget false t r)) n.halves }

/-- The context field of a commit record (Table NVM-3). -/
def commitCtx (k : CommitKind) : Nat :=
  match k with
  | .peg c => c
  | .edit => 255
  | _ => 0

/-- A commit with its record durable. -/
def Commit.settle (k : Commit) (emitted : Bool) : Commit := { k with durable := true, emitted := k.emitted || emitted }

/-- The program record of a load is durable (R139). -/
def Prog.recordDone (p : Prog) (k : CommitKind) : Prog :=
  let done (a : Activation) : Activation := { a with recordDurable := true }
  if k == .activation then { p with activation := p.activation.map done } else p

/-- The address of a row of the commit ring (Table NVM-2). -/
def ringAddr (row : Nat) : Nat := 0x902000 + 64 * (row % 2048)

/-- Index row `j` of a commit record: 32 row numbers, unused entries 0xFFFF (R429). -/
def indexRow (rows : List Nat) (j : Nat) : List Byte :=
  let es := (rows.drop (32 * j)).take 32
  es.flatMap (fun r => leBytes 2 r) ++ List.replicate (64 - 2 * es.length) 0xFF#8

/-- The record of a commit that becomes durable now (R429). -/
def State.recordOf (s : State) (k : Commit) : CommitRec :=
  let pegs := match k.kind with
    | .peg _ => true
    | .edit => true
    | _ => false
  { seq := s.nvm.commitSeq + 1, pegSeq := if pegs then k.seq else 0, ctx := commitCtx k.kind,
    rows := k.rows, all := k.extra.all, slot := k.extra.slot, chain := k.extra.chain, netCopy := k.extra.netCopy,
    epoch := k.extra.epoch, ownerChange := k.extra.ownerChange, stime := k.pegAt, row := s.nvm.ringRow }

/-- The header row of a commit record (Table NVM-3). -/
def CommitRec.header (r : CommitRec) : List Byte :=
  let d := if r.all then 0 else r.rows.length
  let flags := b2n (r.slot != 255) + 2 * b2n r.epoch.isSome + 4 * b2n r.ownerChange + 8 * b2n r.all
  let body := leBytes 1 0xC1 ++ leBytes 1 flags ++ leBytes 2 d ++ leBytes 4 r.seq ++ leBytes 4 r.pegSeq ++ leBytes 4 r.row ++
    leBytes 8 r.stime ++ leBytes 1 r.ctx ++ leBytes 1 r.slot ++ leBytes 1 r.chain ++ leBytes 1 r.netCopy ++
    leBytes 4 (r.epoch.getD 0) ++ List.replicate 28 0#8
  let index := (List.range (ceilDiv d 32)).flatMap (indexRow r.rows)
  body ++ leBytes 4 (crc32 (index ++ body)).toNat

/-- The rows that a record takes in the ring (R429). -/
def CommitRec.ringRows (r : CommitRec) : Nat := (if r.all then 0 else ceilDiv r.rows.length 32) + 1

/-- The header row of the record of the commit in progress is written: the record is durable, the new copies are current, and
the next commit may start (R48, R53, R427, R429). Outside RUN the shot is committed and not emitted (R49). -/
def execCommitDurable (s : State) : Res :=
  match s.headCommit with
  | none => .next s
  | some k =>
    let last := s.nvm.commitLeft == 1 && k.started
    let alone := !k.started && k.rows.isEmpty && !k.extra.all && s.nvm.commitLeft == 0 && !s.pwr.warnLive
    let ready := s.pwr.nvm && !s.pwr.rowInhibit && decide (s.pwr.pfStep < 4) && (last || alone)
    if ready then
      let isPeg := k.kind == .peg (commitCtx k.kind)
      let noEmit := s.dev.state != .run || !isPeg || s.pwr.warnLive
      let mark (c : Commit) : Commit := if c == k then c.settle noEmit else c
      let rec_ := s.recordOf k
      let n := s.nvm.toggle k.rows k.extra.all
      let used := rec_.ringRows
      let t := { s with
        feram := s.feram.writeL (ringAddr (rec_.row + used - 1)) rec_.header,
        img := { s.img with commits := (s.img.commits.map mark).filter (fun c => !(c.durable && c.emitted && c.acked)) },
        nvm := { n with ring := rec_ :: n.ring, commitSeq := n.commitSeq + 1, commitLeft := 0, rowsAhead := 0,
                        ringRow := (n.ringRow + used) % 2048, ringSince := n.ringSince + used, ringDone := n.ringDone + used },
        prog := s.prog.recordDone k.kind }
      let t := t.worst 0xA04 (s.now - (if k.started then s.nvm.commitFrom else s.now))
      let u := if isPeg then (t.bump 0x603 64).worst 0x604 k.rows.length else t
      let v := if k.extra.ownerChange then u.applyOwner else u
      .next v.finishDrain
    else .next s

/-! ### Emission -/

/-- Hands one output to its destination with its apply timestamp (R50, R190, R301); an unmapped point goes nowhere. -/
def State.handOut (s : State) (c : Nat) (peg : Ns) (w : Nat × Nat) : State :=
  match s.bayOutput w.1 with
  | some (x, n) =>
    let at_ := peg + s.segLead 0
    let b := s.engBay x
    let e := tget OutEntry.init b.out n
    let e1 := { e with queue := e.queue ++ [PendOut.mk at_ w.1 w.2 s.now] }
    let t := s.setEngBay x { b with out := tset b.out n e1 }
    { t with img := { t.img with emissions := t.img.emissions ++ [Emitted.mk c 0 at_ w.1 w.2] } }
  | none =>
    match s.nodeOutput w.1 with
    | some d =>
      let at_ := peg + s.segLead d.seg
      let y := tget NodeState.init s.net.nodes d.num
      let y1 := { y with pend := y.pend ++ [PendOut.mk at_ w.1 w.2 s.now] }
      { s with net := { s.net with nodes := tset s.net.nodes d.num y1 },
               img := { s.img with emissions := s.img.emissions ++ [Emitted.mk c d.seg at_ w.1 w.2] } }
    | none => s

/-- The value of an emission: a force in place replaces the committed value (R38). -/
def State.forcedOr (s : State) (pt v : Nat) : Nat :=
  match tfind s.img.forces pt with
  | some f => f
  | none => v

/-- An output point that the context owned at the commit. -/
def Commit.owns (k : Commit) (p : Nat) : Bool := k.owned.any (fun w => w.1 == p)

/-- What the emission of a commit carries: the changed outputs, then owned outputs whose force state has changed since the
context's last emission, with the values of this commit and of no later one (R38, R49, R61). -/
def State.emissionOf (s : State) (k : Commit) : List (Nat × Nat) :=
  let forced := k.owned.filter (fun w => s.img.forceChanged.contains w.1 && !k.changed.any (fun v => v.1 == w.1))
  (k.changed ++ forced).map (fun w => (w.1, s.forcedOr w.1 w.2))

/-- The oldest commit of a shot that waits for nothing but its emission (R48, R65). -/
def State.emitNext (s : State) : Option (Nat × Commit) :=
  match s.img.commits.find? (fun k => !(k.emitted && k.acked)) with
  | some k =>
    (match k.kind with
     | .peg c => if k.durable && k.acked && !k.emitted then some (c, k) else none
     | _ => none)
  | none => none

/-- The record is durable and any acknowledgement has come: the outputs are handed to the bay link engine and the SRX master
with their apply timestamps (R48-R50); the last emission of a drain ends it (R79). -/
def execEmit (s : State) : Res :=
  match s.emitNext with
  | none => .next s
  | some (c, k) =>
    if s.dev.state == .run && !s.pwr.warnLive && !s.stby.holdEmit then
      let ws := s.emissionOf k
      let s1 := { s with img := { s.img with
        emissions := [],
        forceChanged := s.img.forceChanged.filter (fun p => !k.owns p),
        commits := s.img.commits.filter (fun q => !(q.seq == k.seq && q.kind == k.kind)) } }
      let s2 := ws.foldl (fun t w => t.handOut c k.pegAt w) s1
      .next (s2.worst 0x612 (s.now - k.pegAt)).finishDrain
    else .next s

end Sys2Proof.Machine
end

