-- ==== Sys2Proof/Machine/LoadOps.lean ====
section
/-!
DEFINITION. The checks of Table EDIT-7 on a staged container (R138, R152, R155, R163), writing it to its slot, and its activation
(R139-R141, R149-R151).
-/

namespace Sys2Proof.Machine

/-! ### The outcome of the checks -/

/-- What a container that passes gives. -/
structure Checked where
  box : Parsed
  newProg : Program
  net : Option NetConfig
  affected : List Nat
  sched : Option SchedResult
deriving DecidableEq, Repr

/-- A refusal: load status, detail, and a schedulability result that the check left. -/
structure LoadFail where
  status : Nat
  detail : Nat
  sched : Option SchedResult
deriving DecidableEq, Repr

/-- A refusal without a schedulability result. -/
def loadFail (status detail : Nat) : LoadFail := { status := status, detail := detail, sched := none }

/-- Refused with a status and a detail unless `b` holds. -/
def demand (b : Bool) (status detail : Nat) : Except LoadFail Unit := if b then .ok () else .error (loadFail status detail)

/-- Refused with a status at the place that a check found. -/
def demandNone (r : Option Nat) (status : Nat) : Except LoadFail Unit :=
  match r with
  | none => .ok ()
  | some d => .error (loadFail status d)

/-- The part bit of the header. -/
def partBit (p : Part) : Nat :=
  match p with
  | .p7232 => 0
  | .p7216 => 1
  | .p7208 => 2

/-- The bytes of a program slot (Table EDIT-4). -/
def slotSize : Nat := 1966080

/-- The FeRAM address of a program slot and of a network configuration. -/
def slotAddr (slot : Nat) : Nat := 0x400000 + slotSize * slot
/-- See `slotAddr`. -/
def netAddr (copy : Nat) : Nat := 0x7C0000 + 0x20000 * copy

/-- The program slot that is not current. -/
def Prog.freeSlot (p : Prog) : Nat := if p.slot = 0 then 1 else 0

/-- A program with the timing that contexts outside `changed` have in force (R68, R145). -/
def State.inForce (s : State) (p : Program) (changed : List Nat) : Program :=
  { p with ctxs := p.ctxs.map (fun e => if changed.contains e.ctx then e else ((s.ctx e.ctx).cfg).getD e) }

/-! ### The conditions of a pair on a changed configuration (R163) -/

/-- The edge words that a network's instruction and a REL range reach. -/
def edgeWordsOf (first count : Nat) : List Nat :=
  if count = 0 then [] else (List.range ((first + count - 1) / 64 - first / 64 + 1)).map (fun i => first / 64 + i)

/-- The entries that a context's cell record could hold (R166). -/
def Program.cellEntries (p : Program) (e : CtxEntry) : Nat :=
  let uses := (p.netsOf e).flatMap (fun n => (netScan 0 n.words false).flatMap (fun x =>
    match x.cellKind with
    | none => []
    | some kd =>
      let spans := if x.rel then (p.rels.filter (fun r => r.place == 1 && r.net == n.idx && r.word == x.ix && r.kind == kd)).map
          (fun r => (r.first, r.count)) else [(x.cellNum, 1)]
      spans.flatMap (fun r => if kd = 0 then (edgeWordsOf r.1 r.2).map (fun w => (0, w))
        else (List.range r.2).map (fun i => (kd, r.1 + i)))))
  uses.eraseDups.length

/-- The first pair condition that a configuration fails, by its code of Table STBY-6; the schedule and lead checks stand apart. -/
def pairBad (p : Program) (net : Option NetConfig) : Option Nat :=
  let segs := match net with
    | some c => c.segs.length
    | none => 0
  if p.ctxs.any (fun e => decide (96 < p.cellEntries e)) then some 8
  else if 70000 < p.ctxs.foldl (fun t e => t + fclkNs (pegCycles (p.writePages e))) 0 then some 9
  else if segs = 0 then some 10
  else none

/-! ### The checks, SIZE to LEAD -/

/-- The program that a container makes of the active one, with its hash (R129, R144). -/
def State.programOf (s : State) (box : Parsed) : Program :=
  if box.kind = 2 then mergeEdit s.program box (Config.sha384 (leBytes 48 s.program.hash ++ box.signed))
  else { box.prog with hash := Config.sha384 box.signed }

/-- KEY, SIGNATURE and HASH (R128). -/
def State.trustCheck (s : State) (box : Parsed) (len : Nat) (v : Verdict) : Except LoadFail Unit := do
  demand (s.sec.owner.isSome && box.keyId == s.sec.ownerKeyId) 9 0x90
  demand v.sigOk 10 (len - 96)
  demand v.hashOk 11 0x60

/-- The offset at which a program's scan fails. -/
def scanFail (box : Parsed) (new : Program) (r : Option (Nat × Loc)) : Except LoadFail Unit :=
  match r with
  | some (st, l) => .error (loadFail st (box.locate new l))
  | none => .ok ()

/-- A schedulability check that must pass. -/
def schedDemand (r : SchedResult) : Except LoadFail Unit :=
  if r.code = 0 then .ok () else .error { status := 0x1B, detail := r.word, sched := some r }

/-- The fabric time and the NVM time of an edit step, ns (R152); an edit that lays the retentive ranges out anew dirties every row that
they use (assumption log 53). -/
def stepNs (old new : Program) (migs : List MigEntry) : Nat × Nat :=
  let rows := if old.rets = new.rets then (new.rowsOf ((migWritten old new migs).map (fun i => (mkPt 6 i, 0)))).length
    else (new.rets.map (fun r => retRowCount r.area r.len)).foldl (fun a n => a + n) 0
  (fclkNs (migCycles old new migs), nvmNs rows)

/-- The checks of R85 and R50 on a program: on the configuration that it leaves in force, and for an edit once more with its step
(R86, R152). -/
def State.timingCheck (s : State) (edit : Bool) (box : Parsed) (new : Program) (affected : List Nat) : Except LoadFail SchedResult := do
  let force := s.inForce new affected
  let r := s.schedCheck force 0
  schedDemand r
  let step := if edit then stepNs s.program new box.migs else (0, 0)
  schedDemand (if edit then s.schedCheck force step.1 else r)
  demand (s.leadOk force s.net.cfg 0 && (!edit || s.leadOk force s.net.cfg (step.1 + step.2))) 0x1C 0
  .ok r

/-- The checks of a program container from BASE on (R138). -/
def State.checkProgram (s : State) (edit : Bool) (box : Parsed) (len : Nat) : Except LoadFail Checked := do
  let old := s.program
  demand (!edit || box.baseHash == old.hash) 12 0x30
  demand (bit box.parts (partBit s.dev.part)) 13 8
  demandNone ((box.prog.scanned.partBad s.dev.part).map (box.locate box.prog)) 13
  demand (box.kind != 2 || (decide (s.prog.chain < 15) && decide (s.prog.slotBytes + len ≤ slotSize))) 14 0xC
  demandNone (if box.kind = 2 then (unitBad old box).map (box.at 11 0 20) else none) 15
  let new := s.programOf box
  scanFail box new new.scanned.check
  demandNone ((migBad old new box.migs).map (box.at 10 0 16)) 0x19
  let affected := if edit then affectedBy old new box else userCtxs
  let r ← s.timingCheck edit box new affected
  .ok { box := box, newProg := new, net := none, affected := affected, sched := some r }

/-- The checks of a network configuration from PART on. -/
def State.checkNet (s : State) (box : Parsed) (bs : List Byte) : Except LoadFail Checked := do
  demand (bit box.parts (partBit s.dev.part)) 13 8
  match s.readNet bs box.secs with
  | .error d => .error (loadFail 0x1A d)
  | .ok c => do
    let net := { c with hash := Config.sha384 box.signed }
    demand (s.leadOk s.program (some net) 0) 0x1C 0
    .ok { box := box, newProg := s.program, net := some net, affected := [], sched := none }

/-- The checks of Table EDIT-7 from SIZE to LEAD on container bytes of a declared length; `kinds` are the kinds that the command
takes. -/
def State.checkContainer (s : State) (edit : Bool) (kinds : List Nat) (bs : List Byte) (declared : Nat) (v : Verdict) :
    Except LoadFail Checked := do
  let len := bs.length
  demand (len == declared && leAt bs 0xC 4 == len && decide (len ≤ slotSize) &&
    (leAt bs 6 1 != 4 || decide (len ≤ 0x20000))) 7 0xC
  match parse bs s.program.dbSize with
  | .error d => .error (loadFail 8 d)
  | .ok box => do
    demand (kinds.contains box.kind) 8 6
    s.trustCheck box len v
    if box.kind = 4 then s.checkNet box bs else s.checkProgram edit box len

/-- The pair condition that a checked container would break on a PRIMARY, by its code of Table STBY-6 (R163). It is judged last, after
NOGRID, and answered as PARTNER with that code as the detail: Table EDIT-7 gives PARTNER to a standby's refusal and no other
status to a pair limit (DESIGN CHOICE, assumption log 53). -/
def State.pairCheck (s : State) (k : Checked) : Option Nat :=
  if s.dev.role == .primary then pairBad (s.inForce k.newProg k.affected) (k.net.orElse (fun _ => s.net.cfg)) else none

/-- What a container that has passed its checks before gives now (R139 of a LOADED one, R155). -/
def State.passedBefore (s : State) (bs : List Byte) : Option Checked :=
  match parse bs s.program.dbSize with
  | .error _ => none
  | .ok box =>
    let edit := box.kind == 2 || box.kind == 3
    if box.kind = 4 then
      some { box := box, newProg := s.program, net := some { netOf bs box.secs with hash := Config.sha384 box.signed }, affected := [],
             sched := none }
    else
      let new := s.programOf box
      some { box := box, newProg := new, net := none, affected := if edit then affectedBy s.program new box else userCtxs,
             sched := none }

/-! ### Into FeRAM (R133, R137, R139, R142) -/

/-- The slot and the chain count that the program record will name. -/
def Prog.place (p : Prog) (kind : Nat) : Nat × Nat := if kind = 2 then (p.slot, p.chain + 1) else (p.freeSlot, 0)

/-- The container written where its record will name it: behind the chain, into the free slot, or into the other network
configuration. -/
def State.writeContainer (s : State) (kind : Nat) (bs : List Byte) : State :=
  let at_ := if kind = 4 then netAddr (if s.prog.netCopy = 0 then 1 else 0)
    else if kind = 2 then slotAddr s.prog.slot + s.prog.slotBytes
    else slotAddr s.prog.freeSlot
  { s with feram := s.feram.writeL at_ bs }

/-- The SRAM address of a user program bank (Table ARCH-4). -/
def bankAddr (i : Nat) : Nat := 0x400000 + 0x400000 * i

/-- A program in bank and truss half `i`: word k of its code at 4·k, and its networks levelled (R90, R118, R144). -/
def State.fillBank (s : State) (i : Nat) (p : Program) : State :=
  { s with
    sram := (s.sram.restrict (fun a => !(decide (bankAddr i ≤ a) && decide (a < bankAddr i + 0x400000)))).writeL
      (bankAddr i + 4 * p.codeFirst) (p.code.flatMap (fun w => leBytes 4 w.toNat)),
    prog := { s.prog with truss := s.prog.truss.load i p } }

/-- The results of a check: its result, and on a pass the budgets and bounds that come into force with its program (R67, R85, R86, R89,
R50). -/
def State.applySched (s : State) (r : SchedResult) (p : Program) : State :=
  if r.code ≠ 0 then s.setPv 0x701 (r.word : Nat)
  else
  let t := (((s.setPv 0x701 (r.word : Nat)).setPv 0x700 r.util).setPv 0x702 r.slack).setPv 0x613 (s.emitBound p)
  userCtxs.foldl (fun u c =>
    if (p.entry c).isSome then
      u.setCtx c { u.ctx c with budget := tget 0 r.budgets c, bound := tget 0 r.bounds c }
    else u) t

/-! ### Retentive points (R140) -/

/-- Every retentive point of a program. -/
def Program.retPts (p : Program) : List Nat := p.rets.flatMap (fun r => (List.range r.len).map (fun i => mkPt r.area (r.first + i)))

/-- What a STOP load does to the retentive store: points written with their values, the rows that its record carries, and
whether it carries all (R140, R429). -/
def State.retentivePlan (s : State) (new : Program) (migs : List MigEntry) (mig : Bool) : List (Nat × Nat) × List Nat × Bool :=
  let old := s.program
  let sameRet := old.rets == new.rets
  if mig then
    let ws := migWrites old new (fun i => s.committed (mkPt 6 i)) migs
    if sameRet then (ws, new.rowsOf ws, false) else (ws, [], true)
  else if sameRet && old.dbSize == new.dbSize && old.dbBlocks == new.dbBlocks then ([], [], false)
  else (new.retPts.map (fun p => (p, new.initVal p)), [], true)

/-- The bytes of every row of a program that its declarations use, over written points and the committed image. -/
def State.allRows (s : State) (new : Program) (ws : List (Nat × Nat)) : List (Nat × List Byte) :=
  let value (pt : Nat) : Nat := (tfind ws pt).getD (s.committed pt)
  (new.rets.flatMap (fun r => (List.range (retRowCount r.area r.len)).map (fun i => r.row + i))).map
    (fun row => (row, new.rowBytes value row))

/-! ### Activation at STOP (R139-R141) -/

/-- Steps 1 to 3 of R139 for a program: its container in the free slot, its record queued. -/
def State.startProgram (s : State) (m : Option Nat) (k : Checked) (bs : List Byte) (chain : Nat) (clear : Bool) : State :=
  let slot := s.prog.freeSlot
  let plan := if clear then (k.newProg.retPts.map (fun p => (p, k.newProg.initVal p)), [], true)
    else s.retentivePlan k.newProg k.box.migs (k.box.has 10)
  let ws := plan.1
  let rows := plan.2.1
  let all := plan.2.2
  let value (pt : Nat) : Nat := (tfind ws pt).getD (s.committed pt)
  let rec_ : Commit :=
    { kind := .activation, extra := { CommitExtra.none with all := all, slot := slot, chain := chain }, seq := s.img.pegSeq, pegAt := s.now, rows := rows,
      data := if all then s.allRows k.newProg ws else rows.map (fun r => (r, k.newProg.rowBytes value r)),
      changed := [], owned := [], frames := [], full := false, started := false, durable := false, acked := true, emitted := true }
  let t := (s.writeContainer 1 bs).fillBank (1 - s.prog.bank) k.newProg
  { t with img := { t.img with commits := t.img.commits ++ [rec_] },
           prog := { t.prog with
             staging := .checking,
             activation := some { newProg := some k.newProg, net := none, slot := slot, chain := chain, slotBytes := bs.length, mbx := m,
                                  recordDurable := false, clear := all, writes := ws } } }

/-- The same for a network configuration. -/
def State.startNet (s : State) (m : Option Nat) (net : NetConfig) (bs : List Byte) : State :=
  let copy := if s.prog.netCopy = 0 then 1 else 0
  let rec_ : Commit :=
    { kind := .activation, extra := { CommitExtra.none with netCopy := copy }, seq := s.img.pegSeq, pegAt := s.now, rows := [], data := [],
      changed := [], owned := [], frames := [], full := false, started := false, durable := false, acked := true, emitted := true }
  let t := s.writeContainer 4 bs
  { t with img := { t.img with commits := t.img.commits ++ [rec_] },
           prog := { t.prog with
             staging := .checking,
             activation := some { newProg := none, net := some net, slot := copy, chain := 0, slotBytes := bs.length, mbx := m,
                                  recordDurable := false, clear := false, writes := [] } } }

/-- Starts the activation of a checked container. -/
def State.startActivation (s : State) (m : Option Nat) (k : Checked) (bs : List Byte) : State :=
  match k.net with
  | some c => s.startNet m c bs
  | none => s.startProgram m k bs 0 false

/-- The values of context pids that a new program replaces (R139, R149). -/
def isCtxTiming (key : Nat) : Bool := decide (0x210 ≤ key) && decide (key < 0x600) && decide (1 ≤ key % 16) && decide (key % 16 ≤ 4)

/-- A slot with the entry a new program gives it; its counters stay. -/
def Ctx.configure (x : Ctx) (e : Option CtxEntry) : Ctx :=
  { x with cfg := e, regs := CoreRegs.atEntry 0, shot := none, releasing := false, budget := 0, bound := 0, consec := 0,
           capNext := none, fullEmission := true, pegDue := none }

/-- A program swapped in: banks and truss halves, context pids (R139 step 4). -/
def State.swapIn (s : State) (p : Program) : State :=
  let t := { s with
    prog := { s.prog with active := some p, bank := 1 - s.prog.bank },
    params := s.params.filter (fun e => !isCtxTiming e.1),
    nvm := { s.nvm with setDirty := s.nvm.setDirty || s.params.any (fun e => isCtxTiming e.1) } }
  userCtxs.foldl (fun u c => if (p.entry c).isSome || (u.ctx c).cfg.isSome then u.setCtx c ((u.ctx c).configure (p.entry c)) else u) t

/-- The network configuration in force: its nodes ABSENT with their NODEFLT points 1, no segment started (R141, R312, R313); the next RUN
emits in full. -/
def State.takeNet (s : State) (c : NetConfig) : State :=
  { s with
    sram := if s.pwr.sram then
        writePts s.sram ((c.nodes.filter (fun d => d.fltPt != 0xFFFFFFFF)).map (fun d => (d.fltPt, 1)))
      else s.sram,
    net := { s.net with
      cfg := some c, nodes := c.nodes.foldl (fun t d => tset t d.num NodeState.init) [],
      segs := c.segs.foldl (fun t g => tset t g.seg SegState.init) [], exchanges := [] },
    prog := { s.prog with netHash := c.hash } }

/-- PROGRAM or NETCONFIG in the log. -/
def State.logProgram (s : State) (kind : Nat) : State :=
  s.log 0x20 (leBytes 1 kind ++ leBytes 1 s.prog.slot ++ leBytes 1 s.prog.chain ++ leBytes 1 0 ++ leBytes 28 s.program.hash)

/-- The response data of PRG_COMMIT. -/
def State.commitData (s : State) (activated : Bool) : List Byte :=
  leBytes 1 (b2n activated) ++ leBytes 3 0 ++ leBytes 48 s.program.hash

/-- The record is durable: the new program or configuration is the one in force, forces are cleared, and the request is
answered (R38, R139, R141); a standby tells its primary of one that pairing sent (R162). -/
def State.activate (s : State) (a : Activation) : State :=
  let t := match a.newProg with
    | some p =>
      let u := s.swapIn p
      let v := { u with
        sram := writePts u.sram a.writes,
        img := { u.img with forces := [], forceChanged := [] },
        prog := { u.prog with slot := a.slot, chain := a.chain, slotBytes := a.slotBytes },
        sec := { u.sec with storeInvalid := false } }
      (v.applySched (v.schedCheck p 0) p).logProgram 1
    | none => s
  let t := match a.net with
    | some c =>
      let u := t.takeNet c
      ({ u with prog := { u.prog with netCopy := a.slot } }).log 0x22 (leBytes 1 a.slot ++ leBytes 3 0 ++ leBytes 28 c.hash)
    | none => t
  let t := { t with prog := { t.prog.clearStaging with activation := none, lastStatus := 0, lastDetail := 0 } }
  let t := match a.mbx with
    | some m => t.ok m (t.commitData true)
    | none => t
  let t := if t.dev.role == .standby && t.stby.offerKind != 0 then
      ({ t with stby := { t.stby with offerKind := 0 } }).scarfSend [ctrlFrame 5 (leBytes 2 0 ++ leBytes 4 0)]
    else t
  (if t.dev.role == .primary then t.startResync else t).mirror

/-! ### A slot's containers rebuilt (R134) -/

/-- The program that a chain of kind 2 containers makes of `p`: `count` entries; none where one does not follow. -/
def chainFrom (count : Nat) (p : Program) (bs : List Byte) : Option Program :=
  match count with
  | 0 => some p
  | k + 1 =>
    let len := leAt bs 0xC 4
    match parse (bs.take len) p.dbSize with
    | .error _ => none
    | .ok box =>
      if box.kind = 2 ∧ box.baseHash = p.hash then
        chainFrom k (mergeEdit p box (Config.sha384 (leBytes 48 p.hash ++ box.signed))) (bs.drop len)
      else none

/-- The program of a slot's bytes with a chain count: base container of kind 1 or 3, then the chain. -/
def rebuild (bs : List Byte) (count : Nat) : Option Program :=
  let len := leAt bs 0xC 4
  match parse (bs.take len) 0 with
  | .error _ => none
  | .ok box =>
    if box.kind = 1 ∨ box.kind = 3 then chainFrom count { box.prog with hash := Config.sha384 box.signed } (bs.drop len) else none

/-- How many containers follow the first in `bs`, and the bytes they all take. -/
def chainLen (fuel : Nat) (bs : List Byte) : Nat :=
  match fuel with
  | 0 => 0
  | k + 1 =>
    let len := leAt bs 0xC 4
    if len = 0 ∨ bs.length ≤ len then 0 else 1 + chainLen k (bs.drop len)

/-- The bytes of a slot that hold a base container and a chain. -/
def slotUsed (count : Nat) (m : Memory) (at_ : Nat) : Nat :=
  match count with
  | 0 => leNat (m.readN (at_ + 0xC) 4)
  | k + 1 =>
    let len := leNat (m.readN (at_ + 0xC) 4)
    len + slotUsed k m (at_ + len)

/-! ### The edit step (R149-R151) -/

/-- Uses of a cell or edge in a program: (context, opcode) of each instruction that can reach it (R101, R102, R114). -/
def Program.usesOf (p : Program) (kind num : Nat) : List (Nat × Nat) :=
  p.nets.flatMap (fun n => (netScan 0 n.words false).filterMap (fun x =>
    let hits := x.cellKind == some kind &&
      (if x.rel then p.rels.any (fun r => r.place == 1 && r.net == n.idx && r.word == x.ix && r.kind == kind &&
          decide (r.first ≤ num) && decide (num < r.first + r.count))
        else x.cellNum == num)
    if hits then (p.netCtx n.idx).map (fun c => (c, x.op)) else none))

/-- A cell or edge keeps its state where the old program used it in the same context with the same instruction (R150). -/
def keepsUse (old new : Program) (kind num : Nat) : Bool :=
  let o := old.usesOf kind num
  (new.usesOf kind num).any (fun u => o.contains u && !(kind == 2 && u.2 == 7))

/-- The cells after an edit: those that keep their state; every other one is in its initial state (R150). -/
def Cells.edited (k : Cells) (old new : Program) : Cells :=
  { timers := k.timers.filter (fun e => keepsUse old new 1 e.1), counters := k.counters.filter (fun e => keepsUse old new 2 e.1),
    edges := k.edges.filter (fun e => keepsUse old new 0 e.1) }

/-- An output point that some context owns, or a point that is no output. -/
def Program.forceStays (p : Program) (pt : Nat) : Bool :=
  (ptArea pt != 1 && ptArea pt != 3) || p.ctxs.any (fun e => p.owns_ e.ctx pt)

/-- A slot after an edit at A (R149, R151). -/
def Ctx.edited (x : Ctx) (e : Option CtxEntry) (at_ : Ns) : Ctx :=
  match x.cfg, e with
  | some _, some n =>
    { x with cfg := some n, capNext := none, fullEmission := true,
             nextRelease := gridNext (n.period * 1000) (n.phase * 1000) at_ }
  | some _, none => { x with cfg := none, releasing := false, fullEmission := false, shot := none, pegDue := none, capNext := none }
  | none, some n =>
    { x with cfg := some n, releasing := true, fullEmission := true, consec := 0, capRaised := false, shot := none,
             regs := CoreRegs.atEntry n.entry, nextRelease := gridNext (n.period * 1000) (n.phase * 1000) at_ }
  | none, none => x

/-- The new program of an edit comes into force, apart from the migration: banks, context pids, cells, forces (R149-R151). -/
def State.editSwap (s : State) (e : ArmedEdit) : State :=
  let old := s.program
  let new := e.newProg
  let t := { s with
    prog := { s.prog.clearStaging with active := some new, bank := 1 - s.prog.bank, slot := e.slot, chain := e.chain,
                                       slotBytes := e.slotBytes, armed := none },
    params := s.params.filter (fun p => !(isCtxTiming p.1 && e.affected.contains (p.1 / 16 - 32))),
    nvm := { s.nvm with setDirty := s.nvm.setDirty || s.params.any (fun p => isCtxTiming p.1 && e.affected.contains (p.1 / 16 - 32)) },
    img := { s.img with cells := s.img.cells.edited old new,
                        forces := s.img.forces.filter (fun f => new.forceStays f.1),
                        forceChanged := s.img.forceChanged.filter new.forceStays } }
  let u := e.affected.foldl (fun u c => u.setCtx c ((u.ctx c).edited (new.entry c) e.at_)) t
  let force := u.inForce new e.affected
  (u.applySched (u.schedCheck force 0) force).logProgram e.kind

end Sys2Proof.Machine
end

