-- ==== Sys2Proof/Machine/NvmOps.lean ====
section
/-!
DEFINITION. The NVM controller's choice of work (R427), rows, log records (R407, R432, R433), checkpoints (R430) and settings
copies (R435).
-/

namespace Sys2Proof.Machine

/-- The controller may start a row: PD_NVM is on, VIN is high enough, and the power-fail sequence has not ended (R426, R457). -/
def State.rowsRun (s : State) : Bool := s.pwr.nvm && !s.pwr.rowInhibit && decide (s.pwr.pfStep < 4)

/-- A reserved log record is queued: it goes before the rest of the commit in progress (R427). -/
def State.reservedQueued (s : State) : Bool := s.nvm.logQueue.any LogRec.reserved

/-- A commit is in progress. -/
def State.commitRuns (s : State) : Bool := s.nvm.commitLeft != 0

/-- A commit waits for its first row. -/
def State.commitQueued (s : State) : Bool :=
  match s.headCommit with
  | some k => !k.started
  | none => false

/-- Work of step 4 or 6 of R427 may take a row: no commit is in progress, and at most 4 such rows go ahead of a queued one. -/
def State.otherTurn (s : State) : Bool :=
  !s.commitRuns && !s.pwr.warnLive && (!s.commitQueued || decide (s.nvm.rowsAhead < 4))

/-- A row has been written: it counts, and counts against the four that go ahead of a queued commit. -/
def State.rowWritten (s : State) (ahead : Bool) : State :=
  let t := s.bump 0xA00 64
  { t with nvm := { t.nvm with rowsAhead := if ahead && t.commitQueued then t.nvm.rowsAhead + 1 else t.nvm.rowsAhead } }

/-- The address of a retentive row's copy (Table ARCH-6). -/
def rowAddr (half : Bool) (row : Nat) : Nat := (if half then 0x880000 else 0x800000) + 64 * row

/-- The half that holds the current copy of a row: true for half B. -/
def Nvm.half (n : Nvm) (row : Nat) : Bool := tget false n.halves row

/-- Writes the `i`-th row of a commit: a retentive row into the half that does not hold its current copy (R53), then the index rows
of the record into the ring (R429). -/
def State.writeCommitRow (s : State) (k : Commit) (i : Nat) : State :=
  let put (row : Nat) (data : List Byte) : State := s.writeRow (rowAddr (!s.nvm.half row) row) data
  if k.extra.all then
    if i < 8192 then put i ((tget (List.replicate 64 0#8) k.data i)) else s
  else match k.rows[i]? with
    | some row => put row (tget [] k.data row)
    | none =>
      let j := i - k.rows.length
      if j < ceilDiv k.rows.length 32 then s.writeRow (ringAddr (s.nvm.ringRow + j)) (indexRow k.rows j) else s

/-! ### Log records -/

/-- A record's 48 bytes before the chain value (Table NVM-4). -/
def LogRec.bytes48 (r : LogRec) : List Byte :=
  leBytes 4 r.seq ++ leBytes 2 r.type ++ leBytes 1 0 ++ leBytes 1 r.bytes.length ++ leBytes 8 r.stime ++
    (r.bytes ++ List.replicate 32 0#8).take 32

/-- A record as its 64-byte row, with the chain-failure flag of a LOGRD response (R407, R432). -/
def LogRec.row (r : LogRec) (broken : Bool) : List Byte :=
  (r.bytes48.set 6 (if broken then 1#8 else 0#8)) ++ leBytes 16 r.chain

/-- C_0 (R407). -/
def chainStart : Nat :=
  Config.hmac384 Config.logKey
    ([0x53#8, 0x41#8, 0x50#8, 0x45#8, 0x4E#8, 0x20#8, 0x6C#8, 0x6F#8, 0x67#8] ++ leBytes 16 Config.deviceId)

/-- C_i of a record over its predecessor's value (R407). -/
def chainValue (prev : Nat) (r : LogRec) : Nat := Config.hmac384 Config.logKey (leBytes 48 prev ++ r.bytes48)

/-- The chain value of the newest record. -/
def Nvm.chainHead (n : Nvm) : Nat :=
  match n.logRing with
  | r :: _ => r.chain
  | [] => chainStart

/-- The place of a record in the log ring (Table NVM-2; that a sequence stands at itself modulo 38,784 is the model's: DESIGN CHOICE,
assumption log 23). -/
def logAddr (seq : Nat) : Nat := 0x922000 + 64 * (seq % 38784)

/-- Writes the oldest queued record into the ring with the next sequence and its chain value; space that returns after a loss is
reported in a LOG_OVERFLOW record (R407, R432, R433). -/
def State.logWrite (s : State) (r : LogRec) (rest : List LogRec) : State :=
  let seq := s.nvm.logSeq + 1
  let r1 := { r with seq := seq }
  let r2 := { r1 with chain := chainValue s.nvm.chainHead r1 }
  let t := { s with nvm := { s.nvm with
    logQueue := rest, logSeq := seq, logRing := (r2 :: s.nvm.logRing).take 38784,
    headerCount := s.nvm.headerCount + 1 } }
  let t := t.writeRow (logAddr seq) (r2.row false)
  let u := t.setPv 0xA10 seq
  let v := u.setPv 0xA12 (min 38784 u.nvm.logRing.length)
  let w := v.setPv 0xA11 (seq + 1 - v.nvm.logRing.length : Nat)
  if s.nvm.overflow ≠ 0 ∧ rest.length < 248 then
    let x := { w with nvm := { w.nvm with overflow := 0 } }
    x.log 0x71 (leBytes 4 s.nvm.overflow)
  else w

/-- Every record up to a fault sequence is durable: no queued log record carries one (R377). -/
def State.faultDurable (s : State) (seq : Nat) : Bool :=
  !s.nvm.logQueue.any (fun r => r.faultSeq != 0 && decide (r.faultSeq ≤ seq))

/-! ### Checkpoints -/

/-- The checkpoint that recovery starts from: the valid one with the higher sequence. -/
def Nvm.newestCheckpoint (n : Nvm) : Option Checkpoint :=
  if n.ckptA.valid && (!n.ckptB.valid || decide (n.ckptB.seq ≤ n.ckptA.seq)) then some n.ckptA
  else if n.ckptB.valid then some n.ckptB
  else none

/-- What a checkpoint that starts now will hold (R430): the current halves, and the program, network configuration and epoch of the
newest record or earlier checkpoint that names them. -/
def State.checkpointNow (s : State) : Checkpoint :=
  let old := s.nvm.newestCheckpoint.getD Checkpoint.blank
  let newest (f : CommitRec → Option Nat) (d : Nat) : Nat := (s.nvm.ring.findSome? f).getD d
  let newer := max s.nvm.ckptA.seq s.nvm.ckptB.seq
  { seq := newer + 1, covered := s.nvm.commitSeq, ringRow := s.nvm.ringRow, halves := s.nvm.halves,
    slot := newest (fun r => if r.slot = 255 then none else some r.slot) old.slot,
    chain := newest (fun r => if r.slot = 255 then none else some r.chain) old.chain,
    netCopy := newest (fun r => if r.netCopy = 255 then none else some r.netCopy) old.netCopy,
    epoch := newest CommitRec.epoch old.epoch, valid := true }

/-- Row `i` of the bitmap of a checkpoint, from 1 (R430). -/
def Checkpoint.bitmap (k : Checkpoint) (i : Nat) : List Byte :=
  (List.range 64).flatMap (fun b =>
    leBytes 1 (ofBits ((List.range 8).map (fun j => tget false k.halves (512 * (i - 1) + 8 * b + j)))))

/-- Row `i` of a checkpoint: the header in row 0, the bitmap in rows 1 to 16 (R430). -/
def Checkpoint.row (k : Checkpoint) (i : Nat) : List Byte :=
  if i = 0 then
    let head := leBytes 4 0x4B504843 ++ leBytes 4 k.seq ++ leBytes 4 k.covered ++ leBytes 4 k.ringRow ++ leBytes 1 k.slot ++
      leBytes 1 k.chain ++ leBytes 1 k.netCopy ++ leBytes 4 k.epoch
    let body := head ++ List.replicate (60 - head.length) 0#8
    body ++ leBytes 4 (crc32 ((List.range 16).flatMap (fun j => k.bitmap (j + 1)) ++ body)).toNat
  else k.bitmap i

/-- The next checkpoint goes into slot A: the older slot (R430). -/
def Nvm.ckptToA (n : Nvm) : Bool := !n.ckptA.valid || (n.ckptB.valid && decide (n.ckptA.seq ≤ n.ckptB.seq))

/-- A completed checkpoint goes into the older slot. -/
def Nvm.storeCheckpoint (n : Nvm) (k : Checkpoint) : Nvm :=
  { n with ckptA := if n.ckptToA then k else n.ckptA, ckptB := if n.ckptToA then n.ckptB else k, ckptRun := none, ringDone := 0 }

/-! ### Settings copies -/

/-- The body of a settings copy: twelve bytes a value, and a block under its pid with its length (assumption log 23). -/
def SettingsCopy.body (k : SettingsCopy) : List Byte :=
  k.content.flatMap (fun (e : Nat × Int) => leBytes 4 e.1 ++ leBytes 8 (ofInt 64 e.2)) ++
    k.blocks.flatMap (fun (e : Nat × List Byte) => leBytes 4 e.1 ++ leBytes 4 e.2.length ++ e.2)

/-- The header row of a settings copy (R435). -/
def SettingsCopy.header (k : SettingsCopy) : List Byte :=
  let body := leBytes 4 0x53455453 ++ leBytes 2 k.format ++ leBytes 2 0 ++ leBytes 4 k.seq ++ leBytes 4 (64 + k.body.length) ++
    leBytes 4 k.fw ++ leBytes 4 (crc32 k.body).toNat ++ List.replicate 36 0#8
  body ++ leBytes 4 (crc32 body).toNat

/-- The settings copy as bytes. -/
def SettingsCopy.bytes (k : SettingsCopy) : List Byte := k.header ++ k.body

/-- Rows of a settings copy: a header row and the body. -/
def SettingsCopy.rows (k : SettingsCopy) : Nat := 1 + ceilDiv k.body.length 64

/-- The address of a settings copy (Table ARCH-6). -/
def setAddr (slot : Nat) : Nat := if slot = 0 then 0xB80000 else 0xBA0000

/-- The slot that the next settings copy goes into: the one not in force; while a trial that migrated the format is not
confirmed, the new-format slot itself (R436, R437). -/
def State.setSlot (s : State) : Nat :=
  let mixed := s.upd.stage == .trial && s.nvm.setA.valid && s.nvm.setB.valid && s.nvm.setA.format != s.nvm.setB.format
  if mixed then s.nvm.setCopy else if s.nvm.setCopy = 0 then 1 else 0

/-- The copy that firmware of a settings format takes: valid, of a format it reads, with the highest sequence (R435); its slot. -/
def Nvm.copyFor (n : Nvm) (fmt : Nat) : Option (Nat × SettingsCopy) :=
  let a := n.setA.valid && decide (n.setA.format ≤ fmt)
  let b := n.setB.valid && decide (n.setB.format ≤ fmt)
  if a && (!b || decide (n.setB.seq ≤ n.setA.seq)) then some (0, n.setA)
  else if b then some (1, n.setB)
  else none

/-- The values in force are those of a settings copy, defaults where it has none; values that the settings do not keep stay
(R435). -/
def State.loadCopy (s : State) (slot : Nat) (k : SettingsCopy) : State :=
  let kept := s.params.filter (fun (e : Nat × Int) => !keyKept e.1)
  let t := { s with params := k.content.foldl (fun p (e : Nat × Int) => tset p e.1 e.2) kept, blocks := k.blocks,
                    bootParams := [], nvm := { s.nvm with setCopy := slot } }
  ((t.setPv 0xA21 k.seq).setPv 0xA22 slot).setPv 0xA23 (64 + k.body.length : Nat)

/-! ### The FeRAM image and the shim journal (R441) -/

/-- What the array holds in a row: its content encrypted under K_nvm with the row's number as the tweak, and the public log header as
it is (R24, R406). The controller encrypts and decrypts on the way; `feram` is the content. -/
def State.arrayRow (s : State) (row : Nat) : List Byte :=
  let content := s.feram.readN (64 * row) 64
  if 0x900000 ≤ 64 * row ∧ 64 * row < 0x901000 then content else Config.rowCipher row content

/-- A 64 KB block copied from one FeRAM address to another. -/
def copyBlock (m : Memory) (from_ to_ : Nat) : Memory := m.writeL to_ (m.readN from_ 0x10000)

/-- Image block `i`, of the image or displaced into its journal slot. -/
def imageBlock (i : Nat) : Nat := 0x10000 * i

/-- Journal slot `i`. -/
def journalSlot (i : Nat) : Nat := 0x200000 + 0x10000 * i

/-- Row `p` of block `i` of the staged image, zeros after its end. -/
def Update.newRow (u : Update) (i p : Nat) : List Byte := (u.staged.drop (imageBlock i + 64 * p)).take 64

/-- One more row of an update's activation or rollback is written, `left` remain. Each block is copied to its journal slot, row by row,
and then written anew; the state row follows each of the two. A rollback writes each slot back (R441, R444). -/
def State.updRow (s : State) (left : Nat) : State :=
  match s.upd.stage with
  | .activating =>
    let done := 2048 * s.upd.jN - left
    let i := done / 2048
    let p := done % 2048
    let t := if p < 1024 then s.writeRow (journalSlot i + 64 * p) (s.feram.readN (imageBlock i + 64 * p) 64)
      else s.writeRow (imageBlock i + 64 * (p - 1024)) (s.upd.newRow i (p - 1024))
    if p = 1023 then State.writeShim { t with upd := { t.upd with jK := i + 1 } }
    else if p = 2047 then State.writeShim { t with upd := { t.upd with jW := i + 1 } }
    else t
  | .reverting =>
    let done := 1024 * s.upd.jK - left
    s.writeRow (imageBlock (done / 1024) + 64 * (done % 1024)) (s.feram.readN (journalSlot (done / 1024) + 64 * (done % 1024)) 64)
  | _ => s

end Sys2Proof.Machine
end

