-- ==== Sys2Proof/Machine/Nvm.lean ====
section
/-!
DEFINITION. Rows, log records, checkpoints and settings copies (R425-R436).
-/

namespace Sys2Proof.Machine

/-- One row of a job taken off its count. -/
def RowJob.less (j : RowJob) : RowJob :=
  match j with
  | .checkpoint n => .checkpoint (n - 1)
  | .settings n => .settings (n - 1)
  | .update n => .update (n - 1)

/-- The rows a job has left. -/
def RowJob.left (j : RowJob) : Nat :=
  match j with
  | .checkpoint n => n
  | .settings n => n
  | .update n => n

/-- A job's row other than the one that completes it by an event of its own: the last row of a settings copy is its header
(SETTINGS_COPY_DURABLE), the last of an update its state row (UPD_ACTIVATION_DONE, REVERT_DONE). -/
def RowJob.ready (j : RowJob) : Bool :=
  match j with
  | .checkpoint n => decide (1 ≤ n)
  | .settings n => decide (2 ≤ n)
  | .update n => decide (2 ≤ n)

/-- The first job with a row that this event writes. -/
def jobNext (js : List RowJob) : Option (Nat × RowJob) :=
  match js.zipIdx.find? (fun e => e.1.ready) with
  | some e => some (e.2, e.1)
  | none => none

/-- A job's row is written: a checkpoint's bitmap and then its header, which makes it the newest (R430); the body of a settings copy (R435);
a row of an update (R441). -/
def State.jobRow (s : State) (i : Nat) (j : RowJob) : State :=
  let j1 := j.less
  let js := if j1.left = 0 then s.nvm.jobs.eraseIdx i else s.nvm.jobs.set i j1
  let t := { s with nvm := { s.nvm with jobs := js } }
  match j, t.nvm.ckptRun, t.nvm.setRun with
  | .checkpoint n, some k, _ =>
    let at_ := if t.nvm.ckptToA then 0x901000 else 0x901800
    let row := if n = 1 then 0 else 18 - n
    let u := t.writeRow (at_ + 64 * row) (k.row row)
    if n = 1 then ({ u with nvm := u.nvm.storeCheckpoint k }).setPv 0xA06 k.seq else u
  | .settings n, _, some k =>
    let row := k.rows + 1 - n
    t.writeRow (setAddr t.setSlot + 64 * row) ((k.bytes.drop (64 * row)).take 64)
  | .update n, _, _ => t.updRow (n - 1)
  | _, _, _ => t

/-- A row of the commit in progress, or the first row of the next commit (R53, R427). -/
def State.commitRow (s : State) (k : Commit) : State :=
  let left := if k.started then s.nvm.commitLeft else k.rowsTotal
  let begun (c : Commit) : Commit := if c == k then { c with started := true } else c
  let t := s.writeCommitRow k (k.rowsTotal - left)
  { t with nvm := { t.nvm with commitLeft := left - 1,
                               commitFrom := if k.started then t.nvm.commitFrom else t.now,
                               commitTick := if k.started then t.nvm.commitTick else t.clk.ticks - 1 },
           img := { t.img with commits := t.img.commits.map begun } }

/-- A row write that the controller chose under R427 completes; a read-back that fails the ECC raises NVM (R425). The last row
of a commit record, of a settings copy or of an update belongs to an event of its own, and a log record to LOG_RECORD_WRITE. -/
def execNvmRowWriteDone (eccOk : Bool) (s : State) : Res :=
  if s.rowsRun && !s.reservedQueued then
    let checked (t : State) (ahead : Bool) : State :=
      let u := t.rowWritten ahead
      if eccOk then u else u.raise 7 0 0
    match s.headCommit with
    | some k =>
      if k.started then
        (if 2 ≤ s.nvm.commitLeft then .next (checked (s.commitRow k) false) else .next s)
      else if s.otherTurn && decide (1024 ≤ s.nvm.ringDone) && s.nvm.jobs.any (fun j => match j with
          | .checkpoint _ => true
          | _ => false) then
        (match s.nvm.jobs.zipIdx.find? (fun e => match e.1 with
            | .checkpoint _ => true
            | _ => false) with
         | some e => .next (checked (s.jobRow e.2 e.1) true)
         | none => .next s)
      else if 2 ≤ k.rowsTotal && !s.pwr.warnLive then .next (checked (s.commitRow k) false)
      else .next s
    | none =>
      if s.otherTurn then
        (match jobNext s.nvm.jobs with
         | some (i, j) => .next (checked (s.jobRow i j) true)
         | none => .next s)
      else .next s
  else .next s

/-- After 512 ring rows since the last one started, the current-half map is copied and a checkpoint's 17 rows are due (R430). -/
def execCheckpointStart (s : State) : Res :=
  if s.rowsRun && !s.pwr.warnLive && decide (512 ≤ s.nvm.ringSince) && s.nvm.ckptRun.isNone then
    .next { s with nvm := { s.nvm with
      ckptRun := some s.checkpointNow, ringSince := 0, jobs := s.nvm.jobs ++ [.checkpoint 17] } }
  else .next s

/-- The oldest queued log record goes into the ring (R432, R433): reserved records and those before them between two rows of a
commit, any other in its turn (R427). -/
def execLogRecordWrite (s : State) : Res :=
  match s.nvm.logQueue with
  | [] => .next s
  | r :: rest =>
    if s.rowsRun && !s.sec.nvmZero && (s.reservedQueued || s.otherTurn) then .next ((s.logWrite r rest).rowWritten true)
    else .next s

/-- The public log header is written into the next of its 64 rows: 10 ms or 1,024 records after the last one (R433). -/
def execLogHeaderWrite (s : State) : Res :=
  if s.rowsRun && s.otherTurn && (decide (10 * msTicks ≤ s.elapsed s.nvm.headerAt) || decide (1024 ≤ s.nvm.headerCount)) then
    let t := s.rowWritten true
    let seq := t.nvm.headerSeq + 1
    let oldest := t.nvm.logSeq + 1 - t.nvm.logRing.length
    let stime := match t.nvm.logRing with
      | r :: _ => r.stime
      | [] => 0
    let body := leBytes 4 0x48474F4C ++ leBytes 4 seq ++ leBytes 4 oldest ++ leBytes 4 (oldest % 38784) ++
      leBytes 4 t.nvm.logSeq ++ leBytes 4 (t.nvm.logSeq % 38784) ++ leBytes 8 stime ++ List.replicate 28 0#8
    let row := body ++ leBytes 4 (crc32 body).toNat
    .next { t with feram := t.feram.writeL (0x900000 + 64 * (seq % 64)) row,
                   nvm := { t.nvm with headerSeq := seq, headerAt := t.clk.ticks, headerCount := 0,
                                       headerNewest := t.nvm.logSeq } }
  else .next s

/-- A new settings copy is started with every SET accepted so far, at most once per 1 ms (R436). -/
def execSettingsCopyWrite (s : State) : Res :=
  let spaced := match s.nvm.setStarted with
    | some t => decide (msTicks ≤ s.elapsed t)
    | none => true
  if s.rowsRun && !s.pwr.warnLive && s.nvm.setDirty && s.nvm.setRun.isNone && spaced then
    let content := s.settingsContent
    let newer := max s.nvm.setA.seq s.nvm.setB.seq
    let k : SettingsCopy :=
      { seq := newer + 1, format := s.pn 0xA20, fw := s.sec.fwVersion, content := content,
        blocks := s.blocks, valid := true }
    .next { s with nvm := { s.nvm with
      setRun := some k, setDirty := false, setStarted := some s.clk.ticks, setRunMbx := s.nvm.setWaiting,
      setWaiting := [], jobs := s.nvm.jobs ++ [.settings k.rows] } }
  else .next s

/-- The response data of a SET that applied all its entries (R347). -/
def setAllData (count : Nat) : List Byte := leBytes 2 0xFFFF ++ leBytes 2 count

/-- The header row of the new settings copy is durable: it is the copy in force, and the SETs that it holds complete
(R435, R436). -/
def execSettingsCopyDurable (s : State) : Res :=
  match s.nvm.setRun, s.nvm.jobs.zipIdx.find? (fun e => e.1 == .settings 1) with
  | some k, some e =>
    if s.rowsRun && !s.reservedQueued && s.otherTurn then
      let slot := s.setSlot
      let t := (s.writeRow (setAddr slot) k.header).rowWritten true
      let u := { t with nvm := { t.nvm with
        jobs := t.nvm.jobs.eraseIdx e.2, setRun := none, setRunMbx := [], setCopy := slot,
        setA := if slot = 0 then k else t.nvm.setA, setB := if slot = 0 then t.nvm.setB else k } }
      let v := (((u.setPv 0xA21 k.seq).setPv 0xA22 slot).setPv 0xA23 (64 + k.body.length : Nat)).bump 0xA24 32
      .next (s.nvm.setRunMbx.foldl (fun w m =>
        match w.request m 0x21 with
        | some r => w.ok m (setAllData (leAt r.payload 0 2))
        | none => w) v)
    else .next s
  | _, _ => .next s

end Sys2Proof.Machine
end

