-- ==== Sys2Proof/Machine/Clocks.lean ====
section
/-!
DEFINITION. STIME and its discipline, SYNC_IN and SYNC_OUT, 802.1AS, the auxiliary clock (R292, R463-R471).
-/

namespace Sys2Proof.Machine

/-! ### The discipline (R466-R468) -/

/-- The source in force (R467): 1 802.1AS, 3 partner, 2 SYNC_IN, 0 none. -/
def State.clockSource (s : State) : Nat :=
  if s.pwr.net && (s.net.gptp.state == 2 || s.net.gptp.state == 3) then 1
  else if s.dev.role == .standby then 3
  else if s.pv 0x747 == 1 && s.clk.syncInOk then 2
  else 0

/-- The source follows what is available: a locked one that goes leaves holdover, a new one is acquired (R467, R468). -/
def State.updateSource (s : State) : State :=
  let n := s.clockSource
  if n = s.clk.source then s
  else if n = 0 then
    { s with clk := { s.clk with source := 0, owed := 0, lockCount := 0, state := if s.clk.state = 2 ∨ s.clk.state = 3 then 3 else 0 } }
  else { s with clk := { s.clk with source := n, owed := 0, lockCount := 0, state := 1 } }

/-- A measured offset of STIME against the source (R466, R468): kept in time.offset; 8 consecutive ones below the threshold lock;
one beyond time.step_thr steps STIME, or slews it at the full rate in RUN and HALT. -/
def State.measure (s : State) (offset : Int) (rate : Int) : State :=
  let big := decide ((s.pv 0x744) < offset.natAbs)
  let small := decide ((offset.natAbs : Int) < s.pv 0x745)
  let count := if small then min 8 (s.clk.lockCount + 1) else 0
  let k := { s.clk with offset := offset, owed := offset, lockCount := count, state := if 8 ≤ count then 2 else 1 }
  if big then
    if s.mayStep then ({ s with clk := { k.step offset with owed := 0, rate := rate } }).bump 0x746 32
    else { s with clk := { k with rate := if 0 < offset then -250000 else 250000 } }
  else { s with clk := { k with rate := rate } }

/-- A unit that waited for STIME enters RUN once it is locked (R471); a standby follows its primary instead (R164). -/
def State.autoRun (s : State) : State :=
  let master := s.net.gptp.state == 1
  if s.dev.autoWait && s.dev.role != .standby && s.dev.state == .stop && (s.clk.state == 2 || master) && !s.runNotReady then s.enterRun 0 else s

/-- An offset measurement against the source in force, with the rate that the discipline chooses (R465, R468). -/
def execDisciplineMeasure (offset rate : Int) (s : State) : Res :=
  let t := s.updateSource
  if t.fclkUp && t.clk.source != 0 then .next (t.measure offset (clampInt (-250000) 250000 rate)).autoRun else .next s

/-! ### SYNC_IN (R468, R469) -/

/-- time.sync_in.period in ns. -/
def State.syncPeriod (s : State) : Nat := s.pn 0x748 * 1000

/-- How far an instant lies from the nearest multiple of a period. -/
def offGrid (t p : Nat) : Int :=
  let r := t % max 1 p
  if 2 * r ≤ p then (r : Int) else (r : Int) - (p : Int)

/-- A rising edge: within a tenth of the period of its expected instant it is accepted, marks a multiple of the period, and gives
a staged time its instant; any other is rejected and counted (R469). STIME is never stepped in RUN or HALT (R466): a staged time whose
edge comes there is dropped, and the edge is measured like any other (assumption log 52, DESIGN CHOICE). -/
def execSyncInEdge (s : State) : Res :=
  if s.fclkUp && s.pv 0x747 == 1 then
    let p := s.syncPeriod
    let near := match s.clk.expected with
      | some e => decide (10 * (s.now - e) ≤ p) && decide (10 * (e - s.now) ≤ p)
      | none => true
    if near then
      let t := match s.clk.stagedSet with
        | some v =>
          if s.mayStep then { s with clk := { s.clk with stime := v, frac := 0, stagedSet := none } }
          else { s with clk := { s.clk with stagedSet := none } }
        | none => s
      let u := { t with clk := { t.clk with missed := 0, syncInOk := true, expected := some (t.now + p) } }
      let v := u.updateSource
      if v.clk.source = 2 then
        let w := v.measure (offGrid v.now p) v.clk.rate
        .next ({ w with clk := { w.clk with expected := some (w.now + p) } }).autoRun
      else .next v
    else .next (s.bump 0x749 32)
  else .next s

/-- An expected edge that has not come: three in a row make the source unavailable (R468). -/
def execSyncInEdgeMissed (s : State) : Res :=
  match s.clk.expected with
  | some e =>
    let p := s.syncPeriod
    if s.fclkUp && s.pv 0x747 == 1 && decide (10 * e + p < 10 * s.now) then
      let t := { s with clk := { s.clk with missed := s.clk.missed + 1, expected := some (e + p) } }
      let u := if 3 ≤ t.clk.missed then { t with clk := { t.clk with syncInOk := false, expected := none } } else t
      .next u.updateSource
    else .next s
  | none => .next s

/-! ### SYNC_OUT (R470) -/

/-- SYNC_OUT rises at a multiple of its period. -/
def execSyncOutRise (s : State) : Res :=
  let p := s.pn 0x74A * 1000
  let m := s.now / max 1 p * p
  whenOk (s.fclkUp && p != 0 && !s.clk.syncOut && (decide (s.clk.syncOutAt < m) || decide (s.now < p))) s
    { s with clk := { s.clk with syncOut := true, syncOutAt := m } }

/-- SYNC_OUT falls after its width. -/
def execSyncOutFall (s : State) : Res :=
  whenOk (s.clk.syncOut && decide (s.clk.syncOutAt + s.pn 0x74B * 1000 ≤ s.now)) s
    { s with clk := { s.clk with syncOut := false } }

/-! ### 802.1AS (R292) -/

/-- The gPTP mode: 1 grandmaster, 2 follower, 3 BMCA (the default without a configuration). -/
def State.gptpMode (s : State) : Nat :=
  match s.net.cfg with
  | some c => c.ports.gptp
  | none => 3

/-- Whether a port's link is up: 0 A, 1 B. -/
def NetState.link (n : NetState) (port : Nat) : Bool := if port = 0 then n.linkA else n.linkB

/-- The better of this unit and a master by BMCA is the master: its priority1 is lower than this unit's. -/
def State.masterBetter (s : State) (prio : Nat) : Bool :=
  match s.net.cfg with
  | some c => decide (prio < c.ports.prio1)
  | none => true

/-- A Sync or Follow_Up: a follower takes its time and relays it on the other port (R292, R467). -/
def execGptpSync (f : SyncMsg) (s : State) : Res :=
  let mode := s.gptpMode
  if s.pwr.net && s.net.link f.port && (mode == 2 || (mode == 3 && s.masterBetter f.priority1)) then
    let t := { s with net := { s.net with gptp := { s.net.gptp with
      state := 3, offset := f.offset, gm := f.gm, gmPrio := f.priority1, relay := [1 - f.port] } } }
    let u := t.updateSource
    let v := if u.clk.source = 1 then u.measure f.offset u.clk.rate else u
    .next ({ v with net := { v.net with gptp := { v.net.gptp with state := if v.clk.state = 2 then 2 else 3 } } }).autoRun
  else .next s

/-- A Pdelay exchange on a port: the delay it measured, or none where no response came. -/
def execGptpPdelay (port : Nat) (delay : Option Nat) (s : State) : Res :=
  if s.pwr.net && s.net.link port then
    let ds := match delay with
      | some d => tset s.net.gptp.delays port d
      | none => tdel s.net.gptp.delays port
    .next { s with net := { s.net with gptp := { s.net.gptp with delays := ds } } }
  else .next s

/-- FCLK cycles of the logSyncInterval, -5 to 0. -/
def State.syncTicks (s : State) : Nat :=
  let l := match s.net.cfg with
    | some c => c.ports.logSync
    | none => -3
  secTicks / 2 ^ (-l).toNat

/-- A two-step Sync with its Follow_Up, as grandmaster at each interval, or as the relay of a received one (R292). -/
def execGptpSyncTransmit (port : Nat) (s : State) : Res :=
  let mode := s.gptpMode
  let g := s.net.gptp
  let follows := g.state == 2 || g.state == 3
  let due := match tfind g.sentAt port with
    | some t => decide (s.syncTicks ≤ s.elapsed t)
    | none => true
  if s.pwr.net && s.net.link port then
    if follows && g.relay.contains port then
      .next { s with net := { s.net with gptp := { g with
        relay := g.relay.filter (fun p => p != port), sent := g.sent + 1, sentAt := tset g.sentAt port s.clk.ticks } } }
    else if (mode == 1 || (mode == 3 && !follows)) && due then
      .next ({ s with net := { s.net with gptp := { g with
        state := 1, sent := g.sent + 1, sentAt := tset g.sentAt port s.clk.ticks } } }).autoRun
    else .next s
  else .next s

/-! ### The auxiliary clock and the die temperature (R374, R463) -/

/-- No ACLK edge for 100 µs of FCLK. -/
def execAclkLoss (s : State) : Res :=
  if s.fclkUp && s.clk.aclk then
    let t := { s with clk := { s.clk with aclk := false } }
    .next (t.raise 2 0 0)
  else .next s

/-- ACLK runs, for the first time since boot or again: its live bit clears and clock loss is monitored. -/
def execAclkStart (s : State) : Res :=
  let t := { s with clk := { s.clk with aclk := true, aclkSeen := true } }
  .next (if bit t.flt.live 2 then t.condOver 2 else t)

/-- The junction falls below 115 °C. -/
def execDieTempClear (s : State) : Res := .next (if bit s.flt.live 4 then s.condOver 4 else s)

/-! ### Auto-run (R471) -/

/-- time.run.wait_max has passed since STOP was reached: RUN is entered on the STIME the unit has. -/
def execRunWaitExpiry (s : State) : Res :=
  if s.dev.autoWait && s.dev.role != .standby && s.dev.state == .stop && !s.runNotReady && decide (s.pn 0x74E * secTicks ≤ s.elapsed s.dev.since) then
    .next (s.enterRun 0)
  else .next s

end Sys2Proof.Machine
end

