-- ==== Sys2Proof/Machine/Faults.lean ====
section
/-!
DEFINITION. The fault collector's events (R373-R384, R393-R396) and FLT_ACK (R380, R394).
-/

namespace Sys2Proof.Machine

/-- The record index that Table FLT-4 gives a source. -/
def faultIndex (src index : Nat) : Nat :=
  if 9 ≤ src ∧ src ≤ 22 then index % 65536 else 0

/-- The source data of BAY_A and BAY_B: bay.x.flt and bay.x.flt_sticky. -/
def State.bayData (s : State) (x : Nat) : Nat := s.bayFlt x + shl (s.bayFltSticky x) 16

/-- The source data of a record (R379): the table's entry for the source, 0 for any other. -/
def State.faultData (s : State) (src index data : Nat) : Nat :=
  if 9 ≤ src ∧ src ≤ 16 then data % 2 ^ 96
  else if src = 17 then (s.ctx index).dropState + shl (s.ctx index).drops 32
  else if src = 19 ∨ src = 20 then s.bayData (src - 19)
  else 0

/-- Index and source data of a record that a lasting condition forms anew (Table FLT-4): the condition that stands first in ascending
order of core, lane, context, bay or node; a lost bay before its lane faults (assumption log 55). An event of the present cycle is that
of its source's newest record. -/
def State.standing (s : State) (src : Nat) : Nat × Nat :=
  let mism := match s.tmr.last with
    | some m => m.data
    | none => 0
  match src with
  | 10 => (s.tmr.retired.headD 0, mism)
  | 15 => (s.tmr.laneRetired.headD 0, mism)
  | 17 =>
    let c := (userCtxs.find? (fun c => (s.ctx c).capRaised)).getD 0
    (c, s.faultData 17 c 0)
  | 19 => (0, s.bayData 0)
  | 20 => (1, s.bayData 1)
  | 21 =>
    let x := (s.bayList.find? (fun x => (s.engBay x).lost || (s.engBay x).laneFault)).getD 0
    let lane := if (s.engBay x).lost then 17 else ((s.engBay x).lanes.find? (fun l => l.2.fault)).elim 0 Prod.fst
    (x + 256 * lane, 0)
  | 22 => ((s.net.nodes.find? (fun e => e.2.state != 2)).elim 0 Prod.fst, 0)
  | _ =>
    match s.flt.records.find? (fun r => r.src == src) with
    | some r => (r.index, r.data)
    | none => (0, 0)

/-- A source whose cleared sticky bit sets again at once, for its condition lasts (R374). -/
def State.raiseStanding (s : State) (src : Nat) : State := s.raise src (s.standing src).1 (s.standing src).2

/-- A write of 1 to sticky bits: they clear, and bits whose condition is live set again at once and form a record
(R374, R376, R382). It clears the fault for GRACE where the live bit is 0 and the grace time has not ended (R376). -/
def State.clearSticky (s : State) (mask : Nat) : State :=
  let t := { s with
    flt := { s.flt with
      sticky := clr64 s.flt.sticky mask,
      grace := s.flt.grace.filter (fun g => !(bit mask g.src && !bit s.liveBits g.src && decide (s.clk.ticks < g.deadline))) } }
  ((List.range 32).foldl (fun u n =>
    if bit mask n && bit s.flt.sticky n && bit s.liveBits n then u.raiseStanding n else u) t).mirror

/-- A fault source rises (R373, R374). WDG_EXPIRY and CLK_LOSS rise only with the watchdog's and the clock monitor's own events. -/
def execFaultRaise (src index data : Nat) (s : State) : Res :=
  if src < 2 ∨ 31 < src then .next s
  else .next (s.raise src (faultIndex src index) (s.faultData src index data))

/-- Every log record up to a fault sequence is durable; with no domain that could make it so nothing is waited for (R377). -/
def State.resetReady (s : State) (seq : Nat) : Bool :=
  !s.pwr.nvm || !s.nvm.logQueue.any (fun r => r.faultSeq != 0 && decide (r.faultSeq ≤ seq))

/-- The response that goes before a reset has been written (R344, R446). -/
def State.answered (s : State) (m : Option Nat) : Bool :=
  match m with
  | some k => (s.mailbox k).state != .busy
  | none => true

/-- An orderly STOP or HALT in progress that a chip reset discards is logged (R28), and an armed edit that it ends (R153): the NVM
controller writes the records before the reset takes its domain. -/
def State.resetDiscards (s : State) : State :=
  let write (t : State) (type : Nat) (bytes : List Byte) : State :=
    t.logWrite { seq := 0, type := type, stime := t.now, bytes := bytes, chain := 0, faultSeq := 0, reserved := false } t.nvm.logQueue
  if s.rowsRun && !s.sec.nvmZero then
    let t := match s.dev.drain with
      | some d => write s 3 (leBytes 1 (devCode d) ++ leBytes 1 1)
      | none => s
    match s.prog.armed with
    | some e => write t 0x21 (leBytes 1 1 ++ leBytes 7 0 ++ leBytes 8 e.at_)
    | none => t
  else s

/-- The chip reset of a record, or one that the firmware or a STATE RESTART asked for (Table PWR-7), is taken once it and all earlier ones are durable; a LOCKOUT that waits prevails (R28, R377, R396). -/
def execFaultChipReset (s : State) : Res :=
  if s.flt.awaiting.any Awaiting.lockout then .next s
  else
    match s.flt.awaiting.find? (fun a => s.resetReady a.seq && s.answered a.mbx) with
    | some a => .next (s.resetDiscards.chipReset a.cause)
    | none => .next s

/-- A LOCKOUT is entered once its record is durable; a chip reset that waits is discarded (R28, R395). -/
def execLockoutEntry (s : State) : Res :=
  if s.flt.awaiting.any (fun a => a.lockout && s.resetReady a.seq) && s.dev.state != .lockout && s.dev.state != .off then
    let s := if s.flt.awaiting.any (fun a => !a.lockout) then s.log 3 (leBytes 1 1 ++ leBytes 1 8) else s
    let t := s.enterLockout
    .next { t with flt := { t.flt with awaiting := [], queue := [] } }
  else .next s

/-- The record of a sequence with one more flag. -/
def Faults.markRecord (f : Faults) (seq flag : Nat) : Faults :=
  let mark (r : FaultRec) : FaultRec := if r.seq == seq then { r with flags := lor64 r.flags flag } else r
  { f with records := f.records.map mark, pending := f.pending.map mark }

/-- The grace time ends and no clear of the sticky bit came in time, with the live bit 0: the collector takes a chip reset, and the
record's flag [2] is set (R376). A clear in the cycle in which the time ends is too late, so what counts is that the grace still stands
(`State.clearSticky` ends it in time). -/
def execGraceExpiry (src : Nat) (s : State) : Res :=
  match s.flt.grace.find? (fun g => g.src == src && decide (g.deadline ≤ s.clk.ticks)) with
  | none => .next s
  | some g =>
    let rest := s.flt.grace.filter (fun h => h != g)
    if s.dev.state != .lockout then
      let f := s.flt.markRecord g.seq 4
      .next { s with flt := { f with grace := rest, awaiting := f.awaiting ++ [Awaiting.mk g.seq false 3 none s.clk.ticks] } }
    else .next { s with flt := { s.flt with grace := rest } }

/-- nFAULT has been low for 1 ms, and its release has been accepted (R384). -/
def execNfaultHoldEnd (s : State) : Res :=
  whenOk (s.flt.nfaultLow && s.flt.releaseAsked && s.dev.state != .lockout && decide (msTicks ≤ s.elapsed s.flt.lowSince)) s
    { s with flt := { s.flt with nfaultLow := false, releaseAsked := false } }

/-- The reactions of a record that is still in the collector's queue are carried out again, and the record is logged again (R381). -/
def State.reactAgain (s : State) (r : FaultRec) : State :=
  let t := { s with
    flt := { s.flt with intDue := s.flt.intDue || bit r.react 0, nmiDue := s.flt.nmiDue || bit r.react 1 },
    tmr := { s.tmr with irqPending := s.tmr.irqPending + b2n (bit r.react 0) } }
  let u := if bit r.react 4 then t.pinLow else t
  u.logRec 0x10 r.bytes r.seq true

/-- A parity error or copy disagreement in the collector (R4, R381): on the 7232 it is merged into the oldest record in the queue;
with none there, and on the single collector, a COLLECTOR_SELF record is formed with its own reactions. -/
def execCollectorSelfFault (s : State) : Res :=
  if s.dev.state == .off || s.pwr.nresetLow then .next s
  else
    let t := s.bump 0x909 32
    let merged := match t.flt.queue with
      | [] => none
      | q :: _ => t.flt.records.find? (fun (r : FaultRec) => r.seq == q)
    match merged, s.singleCollector with
    | some r, false =>
      let u := { t with flt := t.flt.markRecord r.seq 1 }
      .next (u.reactAgain { r with flags := lor64 r.flags 1 })
    | _, _ => .next ((t.bump (0x980 + 4 * 29 + 3) 32).formRecord 29 0 0 0 0 0)

/-! ### FLT_ACK (R380, R384, R394) -/

/-- FLT_ACK: u8 scope, u8[3] 0, u32 newest sequence seen. -/
def execFltAck (m : BitVec 4) (s : State) : Res :=
  let m := m.toNat
  match s.request m 0xA0 with
  | none => .next s
  | some r =>
    let scope := leAt r.payload 0 1
    let seen := leAt r.payload 4 4
    let pin := bit scope 0
    let leave := bit scope 1
    let stale := (pin && decide (seen < s.flt.newestPin)) || (leave && decide (seen < s.flt.newestSafe))
    if stale then .next (s.refuse m 1 0)
    else if leave && s.dev.state == .safe && s.flt.safeSrcs.any (fun n => bit s.liveBits n) then .next (s.refuse m 2 0)
    else if leave && s.dev.state != .safe then .next (s.refuse m 3 0)
    else
      let t := { s with flt := { s.flt with
        pending := s.flt.pending.filter (fun x => decide (seen < x.seq)),
        seqAcked := max s.flt.seqAcked seen,
        releaseAsked := s.flt.releaseAsked || (pin && s.flt.nfaultLow && s.dev.state != DevState.lockout) } }
      let held := decide (msTicks ≤ t.elapsed t.flt.lowSince)
      let u := if t.flt.releaseAsked && held then { t with flt := { t.flt with nfaultLow := false, releaseAsked := false } } else t
      let v := if leave then u.enter .stop r.requester false else u
      .next (v.ok m (leBytes 1 (devCode v.dev.state) ++ leBytes 3 0))

end Sys2Proof.Machine
end

