-- ==== Sys2Proof/Machine/ParamNames.lean ====
section
/-!
DEFINITION. The dotted names of the parameters (R346), for the dictionary of R350: the plain pids by pid, the others by offset in their
group.
-/

namespace Sys2Proof.Machine

/-- Names of the plain pids, part 1. -/
def nmPlain1 : List (Nat × String) := [
  (0x600, "image.ret.bytes"),
  (0x601, "image.ret.rows"),
  (0x602, "image.ret.ranges"),
  (0x603, "image.ret.commits"),
  (0x604, "image.ret.worst_rows"),
  (0x605, "image.ret.cap_rows"),
  (0x608, "image.pool.free"),
  (0x609, "image.pool.min_free"),
  (0x60a, "image.pool.quota_sum"),
  (0x60b, "image.pool.reserve"),
  (0x610, "image.apply.bay_lead"),
  (0x611, "image.apply.late"),
  (0x612, "image.emit.worst"),
  (0x613, "image.emit.bound"),
  (0x618, "image.force.enable"),
  (0x619, "image.force.count"),
  (0x61a, "image.force.clear"),
  (0x620, "image.snap.waits"),
  (0x621, "image.peg.remaps"),
  (0x622, "image.peg.merges"),
  (0x623, "image.live.copies"),
  (0x630, "image.stby.ack_last"),
  (0x631, "image.stby.ack_worst"),
  (0x700, "sched.util_worst"),
  (0x701, "sched.check.result"),
  (0x702, "sched.check.slack_min"),
  (0x703, "sched.sys.period"),
  (0x704, "sched.sys.budget"),
  (0x705, "sched.sys.exhausted"),
  (0x706, "sched.run.lead"),
  (0x707, "sched.preempts"),
  (0x708, "sched.bank.conflicts"),
  (0x709, "sched.bank.worst"),
  (0x70a, "sched.idle.min"),
  (0x70b, "sched.releases.skipped"),
  (0xe00, "stby.mode"),
  (0xe01, "stby.unit"),
  (0xe02, "stby.role"),
  (0xe03, "stby.sync"),
  (0xe04, "stby.epoch"),
  (0xe05, "stby.auto_join"),
  (0xe06, "stby.resync.share"),
  (0xe07, "stby.resync.progress"),
  (0xe08, "stby.refusal"),
  (0xe09, "stby.link.state"),
  (0xe0a, "stby.link.errors"),
  (0xe0b, "stby.acks.late"),
  (0xe0c, "stby.naks"),
  (0xe0d, "stby.resyncs"),
  (0xe0e, "stby.takeovers"),
  (0xe0f, "stby.takeover.last"),
  (0xe10, "stby.apply.bound"),
  (0xe11, "stby.cells.worst"),
  (0xe20, "stby.node.number"),
  (0xc00, "net.config.state"),
  (0xc01, "net.ethertype"),
  (0xc02, "net.gptp.mode"),
  (0xc03, "net.gptp.state"),
  (0xc04, "net.gptp.offset"),
  (0xc05, "net.gptp.gm_id")]

/-- Names of the plain pids, part 2. -/
def nmPlain2 : List (Nat × String) := [
  (0xc06, "net.port.a.link"),
  (0xc07, "net.port.b.link"),
  (0xc08, "net.cb.eliminated"),
  (0xc09, "net.cb.lost"),
  (0xc0a, "net.auth.fail"),
  (0xc0b, "net.replay"),
  (0xc0c, "net.late"),
  (0xc0d, "net.acyc.timeout"),
  (0xc0e, "net.acyc.retries"),
  (0xc0f, "net.acyc.inflight"),
  (0xc10, "net.acyc.worst"),
  (0xc11, "net.diag.period"),
  (0xc12, "net.rekey.period"),
  (0xc13, "net.key.gen"),
  (0xc14, "net.key.ns"),
  (0xc15, "net.key.node"),
  (0xc16, "net.nodes"),
  (0xc17, "net.config.hash"),
  (0x0, "sys.id.vendor"),
  (0x1, "sys.id.part"),
  (0x2, "sys.id.bays"),
  (0x3, "sys.id.channels"),
  (0x4, "sys.id.silicon"),
  (0x5, "sys.id.serial"),
  (0x6, "sys.id.device"),
  (0x7, "sys.id.fw.version"),
  (0x8, "sys.id.fw.hash"),
  (0x9, "sys.id.sec_version"),
  (0xa, "sys.id.bcp.version"),
  (0xb, "sys.id.pair.version"),
  (0x10, "sys.dict"),
  (0x11, "sys.dict.count"),
  (0x20, "sys.name"),
  (0x100, "sys.state"),
  (0x101, "sys.substate"),
  (0x102, "sys.state.since"),
  (0x103, "sys.autorun"),
  (0x104, "sys.boot.count"),
  (0x105, "sys.reset.cause"),
  (0x106, "sys.restarts"),
  (0x107, "sys.prog.hash"),
  (0x108, "sys.prog.slot"),
  (0x109, "sys.prog.chain"),
  (0x10a, "sys.prog.bank"),
  (0x10b, "sys.fw.bank"),
  (0x10c, "sys.edit.state"),
  (0x10d, "sys.edit.instant"),
  (0x10e, "sys.edit.session"),
  (0x110, "sys.session.open"),
  (0x111, "sys.session.idle"),
  (0x112, "sys.session.auth_fail"),
  (0x113, "sys.session.badseq"),
  (0x114, "sys.mbx.host_max"),
  (0x115, "sys.cmd.count"),
  (0x116, "sys.cmd.worst"),
  (0x117, "sys.hp.errors"),
  (0x120, "sys.gpio.host_out"),
  (0x800, "tmr.mode"),
  (0x801, "tmr.mode.request"),
  (0x802, "tmr.free_core")]

/-- Names of the plain pids, part 3. -/
def nmPlain3 : List (Nat × String) := [
  (0x803, "tmr.retired"),
  (0x804, "tmr.resyncs"),
  (0x805, "tmr.c0.resyncs"),
  (0x806, "tmr.c1.resyncs"),
  (0x807, "tmr.c2.resyncs"),
  (0x808, "tmr.skew"),
  (0x809, "tmr.irq.entries"),
  (0x80a, "tmr.join.last"),
  (0x80b, "tmr.join.worst"),
  (0x80c, "tmr.resync.worst"),
  (0x80d, "tmr.cmp.events"),
  (0x80e, "tmr.cmp.pending"),
  (0x80f, "tmr.dbg_broken"),
  (0x810, "tmr.selftest.result"),
  (0x811, "tmr.selftest.run"),
  (0x812, "tmr.selftest.time"),
  (0x818, "tmr.truss.mode"),
  (0x819, "tmr.truss.retired"),
  (0x81a, "tmr.truss.lane0.odd"),
  (0x81b, "tmr.truss.lane1.odd"),
  (0x81c, "tmr.truss.lane2.odd"),
  (0x820, "tmr.last"),
  (0x900, "flt.live"),
  (0x901, "flt.sticky"),
  (0x902, "flt.pending"),
  (0x903, "flt.seq.newest"),
  (0x904, "flt.seq.acked"),
  (0x905, "flt.class.pending"),
  (0x906, "flt.pins"),
  (0x907, "flt.retry.max"),
  (0x908, "flt.records"),
  (0x909, "flt.collector.faults"),
  (0x910, "wdg.timeout"),
  (0x911, "wdg.open"),
  (0x912, "wdg.ladder.n"),
  (0x913, "wdg.ladder.pos"),
  (0x914, "wdg.clean"),
  (0x915, "wdg.expiries"),
  (0x916, "wdg.early"),
  (0x917, "wdg.evidence"),
  (0x918, "wdg.restart.last"),
  (0x919, "wdg.clkloss"),
  (0xb00, "sec.owned"),
  (0xb01, "sec.owner.key_id"),
  (0xb02, "sec.owner.key"),
  (0xb03, "sec.policy"),
  (0xb04, "sec.policy.hash"),
  (0xb05, "sec.policy.serial"),
  (0xb06, "sec.lock"),
  (0xb07, "sec.lock.remaining"),
  (0xb08, "sec.cert"),
  (0xb09, "sec.cert.ca"),
  (0xb0a, "sec.fw.sec_version"),
  (0xb0b, "sec.rights"),
  (0xb10, "sec.tls.ports"),
  (0xb11, "sec.tls.port"),
  (0xb12, "sec.tls.max"),
  (0xb13, "sec.tls.connections"),
  (0xb14, "sec.tls.failures"),
  (0xb15, "sec.open.failures")]

/-- Names of the plain pids, part 4. -/
def nmPlain4 : List (Nat × String) := [
  (0xb18, "sec.debug.state"),
  (0xb19, "sec.debug.remaining"),
  (0xb1a, "sec.tamper.count"),
  (0xb1b, "sec.tamper.last"),
  (0xb1c, "sec.log.breaks"),
  (0xa00, "nvm.rows.written"),
  (0xa01, "nvm.rows.read"),
  (0xa02, "nvm.ecc.corrected"),
  (0xa03, "nvm.ecc.uncorrected"),
  (0xa04, "nvm.commit.worst"),
  (0xa05, "nvm.commit.seq"),
  (0xa06, "nvm.checkpoint.seq"),
  (0xa07, "nvm.recovery.replayed"),
  (0xa10, "log.newest"),
  (0xa11, "log.oldest"),
  (0xa12, "log.records"),
  (0xa13, "log.lost"),
  (0xa14, "log.queue.worst"),
  (0xa20, "set.format"),
  (0xa21, "set.sequence"),
  (0xa22, "set.copy"),
  (0xa23, "set.length"),
  (0xa24, "set.writes"),
  (0xa30, "upd.stage"),
  (0xa31, "upd.result"),
  (0xa32, "upd.reason"),
  (0xa33, "upd.confirm_time"),
  (0xa34, "upd.confirm_left"),
  (0xa35, "upd.motion.pin"),
  (0xa36, "upd.motion.point"),
  (0xa37, "upd.staged"),
  (0xa38, "upd.journal.state"),
  (0xa39, "upd.new_version"),
  (0xa3a, "upd.handover.last"),
  (0xa3b, "upd.confirmed"),
  (0xa3c, "upd.reverts"),
  (0x740, "time.source"),
  (0x741, "time.state"),
  (0x742, "time.offset"),
  (0x743, "time.rate"),
  (0x744, "time.step_thr"),
  (0x745, "time.lock_thr"),
  (0x746, "time.steps"),
  (0x747, "time.sync_in.enable"),
  (0x748, "time.sync_in.period"),
  (0x749, "time.sync_in.rejects"),
  (0x74a, "time.sync_out.period"),
  (0x74b, "time.sync_out.width"),
  (0x74c, "time.set"),
  (0x74d, "time.run.wait"),
  (0x74e, "time.run.wait_max"),
  (0x780, "pwr.vin"),
  (0x781, "pwr.vin_min"),
  (0x782, "pwr.domains"),
  (0x783, "pwr.holdup.method"),
  (0x784, "pwr.holdup.cap_decl"),
  (0x785, "pwr.holdup.v_warn"),
  (0x786, "pwr.holdup.period"),
  (0x787, "pwr.holdup.cap"),
  (0x788, "pwr.holdup.energy")]

/-- Names of the plain pids, part 5. -/
def nmPlain5 : List (Nat × String) := [
  (0x789, "pwr.holdup.result"),
  (0x78a, "pwr.holdup.time"),
  (0x78b, "pwr.pll.unlocks")]

/-- Names of the plain pids -/
def nmPlain : List (Nat × String) :=
  nmPlain1 ++ nmPlain2 ++ nmPlain3 ++ nmPlain4 ++ nmPlain5

/-- Names of the context offsets (Table TASK-6) -/
def nmCtx : List (Nat × String) := [
  (0x0, "state"),
  (0x1, "period"),
  (0x2, "peg_offset"),
  (0x3, "phase"),
  (0x4, "drop_cap"),
  (0x5, "quota"),
  (0x6, "snap_pages"),
  (0x7, "networks"),
  (0x8, "budget"),
  (0x9, "bound"),
  (0xa, "exec_last"),
  (0xb, "exec_worst"),
  (0xc, "drops"),
  (0xd, "drop_state"),
  (0xe, "watch_limit"),
  (0xf, "watch_count")]

/-- Names of the fault-source offsets (Table FLT-11) -/
def nmFlt : List (Nat × String) := [
  (0x0, "react"),
  (0x1, "grace"),
  (0x2, "severity"),
  (0x3, "count")]

/-- Names of the segment offsets (Table RIO-13) -/
def nmSeg : List (Nat × String) := [
  (0x0, "state"),
  (0x1, "cycle"),
  (0x2, "phase"),
  (0x3, "lead"),
  (0x4, "window"),
  (0x5, "bound"),
  (0x6, "fresh"),
  (0x7, "nodes"),
  (0x8, "live"),
  (0x9, "cycles"),
  (0xa, "missed"),
  (0xb, "late")]

/-- Names of the bay offsets (R215) -/
def nmBay : List (Nat × String) := [
  (0x0, "state"),
  (0x1, "silent_timeout"),
  (0x2, "fresh_limit"),
  (0x3, "fresh_eff"),
  (0x4, "limp_on_silence"),
  (0x5, "map.i"),
  (0x6, "map.q"),
  (0x7, "map.iw"),
  (0x8, "map.qw"),
  (0x9, "flt"),
  (0xa, "flt_sticky"),
  (0xb, "lp"),
  (0xc, "lp_min"),
  (0xd, "temp"),
  (0xe, "limp"),
  (0xf, "silences"),
  (0x10, "uv_events"),
  (0x11, "brownouts"),
  (0x12, "frames.bad"),
  (0x13, "late"),
  (0x14, "cfg.seq"),
  (0x15, "cfg.crc"),
  (0x16, "sel"),
  (0x17, "almsel")]

/-- Names of the offsets of every channel (R215) -/
def nmChan : List (Nat × String) := [
  (0x0, "mode"),
  (0x1, "safe"),
  (0x2, "limp.src"),
  (0x3, "limp.invert")]

/-- Names of the digital channel offsets (R244) -/
def nmDig : List (Nat × String) := [
  (0x4, "in.type"),
  (0x5, "din.filter"),
  (0x6, "din.subst"),
  (0x7, "din.wb.enable"),
  (0x8, "din.wb.i_min"),
  (0x9, "din.wb.time"),
  (0xa, "din.current"),
  (0xb, "din.wb.events"),
  (0x10, "cnt.edge"),
  (0x11, "quad.mult"),
  (0x12, "quad.invert"),
  (0x14, "cnt.overspeed"),
  (0x15, "quad.errors"),
  (0x18, "do.oc_thr"),
  (0x19, "do.inrush_time"),
  (0x1a, "do.inrush_thr"),
  (0x1b, "do.retry_max"),
  (0x1c, "do.retry_left"),
  (0x1d, "do.clamp_budget"),
  (0x1e, "do.clamp_acc"),
  (0x1f, "do.clamp_last"),
  (0x20, "do.latch"),
  (0x21, "do.clear_on_low"),
  (0x22, "do.ol_i_min"),
  (0x23, "do.current"),
  (0x24, "do.temp"),
  (0x25, "do.oc_trips"),
  (0x26, "do.thermal_trips"),
  (0x27, "do.clamp_locks"),
  (0x2f, "prot.clear")]

/-- Names of the analog input offsets (R270) -/
def nmAin : List (Nat × String) := [
  (0x4, "ain.order"),
  (0x5, "ain.ratio"),
  (0x6, "ain.fir"),
  (0x7, "ain.fir.taps"),
  (0x8, "ain.fir.decim"),
  (0x9, "ain.dwell"),
  (0xa, "ain.units"),
  (0xb, "ain.res.range"),
  (0xc, "ain.rtd.lead"),
  (0xd, "ain.rtd.lead_period"),
  (0xe, "ain.rtd.lead_meas"),
  (0xf, "ain.step_thr"),
  (0x10, "ain.thr.hi"),
  (0x11, "ain.thr.lo"),
  (0x12, "ain.thr.hys"),
  (0x13, "ain.thr.ibit"),
  (0x14, "ain.thr.log"),
  (0x15, "ain.thr.events"),
  (0x16, "ain.ow.mode"),
  (0x17, "ain.ow.period"),
  (0x18, "ain.ow.thr"),
  (0x19, "ain.ow.i_min"),
  (0x1a, "ain.subst"),
  (0x1b, "ain.user.offset"),
  (0x1c, "ain.user.gain"),
  (0x1d, "ain.value"),
  (0x1e, "ain.code"),
  (0x1f, "ain.odr"),
  (0x20, "ain.bloom"),
  (0x21, "ain.overrange.events"),
  (0x22, "ain.ow.events"),
  (0x23, "ain.shunt.trips"),
  (0x24, "ain.results"),
  (0x2f, "prot.clear")]

/-- Names of the analog output offsets (R290) -/
def nmAout : List (Nat × String) := [
  (0x4, "ao.alarm.sel"),
  (0x5, "ao.alarm.low"),
  (0x6, "ao.alarm.high"),
  (0x7, "ao.ne43.clamp"),
  (0x8, "ao.tap.mode"),
  (0x9, "ao.trim.cmd"),
  (0xa, "ao.trim.meas4"),
  (0xb, "ao.trim.meas20"),
  (0xc, "ao.trim.gain"),
  (0xd, "ao.trim.offset"),
  (0xe, "ao.trim.state"),
  (0x10, "ao.readback"),
  (0x11, "ao.terminal"),
  (0x12, "ao.headroom"),
  (0x13, "ao.tap"),
  (0x14, "ao.temp"),
  (0x15, "ao.latch"),
  (0x16, "ao.comp.events"),
  (0x17, "ao.ol.events"),
  (0x18, "ao.thermal.events"),
  (0x19, "ao.forced_low.events"),
  (0x1a, "ao.tap.changes"),
  (0x2f, "prot.clear")]

/-- Names of the modulator offsets (R270) -/
def nmModl : List (Nat × String) := [
  (0x0, "scan_mask"),
  (0x1, "state"),
  (0x2, "scan_time"),
  (0x3, "scan_worst"),
  (0x4, "results"),
  (0x5, "dma.head"),
  (0x6, "dma.buf"),
  (0x7, "dma.head_time"),
  (0x8, "urgent.served"),
  (0x9, "urgent.merged"),
  (0xa, "urgent.discarded"),
  (0xb, "maint.late"),
  (0x10, "fir0"),
  (0x11, "fir1")]

end Sys2Proof.Machine
end

