-- ==== Sys2Proof/Machine/HostPort.lean ====
section
/-!
DEFINITION. The host port: its transactions, registers, claims, rings and releases (R323-R334), and network requests that wait for a
mailbox (R330).
-/

namespace Sys2Proof.Machine

/-- The port answers: PD_HOST is on (R326, Table PWR-2). -/
def State.hostUp (s : State) : Bool := s.pwr.host && s.dev.state != .off

/-- Runs `f` where the port answers. -/
def State.onHost (s : State) (f : State → State) : Res := if s.hostUp then .next (f s) else .next s

/-! ### Network requests that wait for a mailbox (R330) -/

/-- A network request is copied into mailbox `m` and rings. -/
def State.putNet (s : State) (m : Nat) (r : NetRequest) : State :=
  let t := s.setMailbox m { Mailbox.init with
    state := .rung, owner := r.requester, conn := r.conn, lastSession := (s.mailbox m).lastSession,
    lastSeq := (s.mailbox m).lastSeq }
  { t with sram := t.sram.writeL (mbxAddr m) (r.frame.take 4096), hp := { t.hp with rings := t.hp.rings ++ [m] } }

/-- Waiting network requests take free mailboxes in their order. -/
def State.placeNet (s : State) : State :=
  s.hp.netWaiting.foldl (fun t r =>
    match t.freeMailbox with
    | some m => { t.putNet m r with hp := { (t.putNet m r).hp with netWaiting := t.hp.netWaiting.drop 1 } }
    | none => t) s

/-- A request has come over TLS connection `f.conn`: firmware claims a free mailbox for it, or it waits (R330). -/
def execNetworkRequestMailbox (f : NetFrame) (s : State) : Res :=
  if s.serves && tfind s.sec.tls f.conn == some (f.requester - 2) && (f.requester == 2 || f.requester == 3) then
    let t := { s with hp := { s.hp with netWaiting := s.hp.netWaiting ++ [NetRequest.mk f.requester f.conn f.bytes] } }
    .next t.placeNet
  else .next s

/-! ### Mailbox states (R329, R331-R334) -/

/-- Mailbox `m` becomes FREE. -/
def State.freeMbx (s : State) (m : Nat) : State :=
  s.setMailbox m { Mailbox.init with lastSession := (s.mailbox m).lastSession, lastSeq := (s.mailbox m).lastSeq }

/-- The bits of a 16-bit mask, ascending. -/
def maskBits (v : Nat) : List Nat := (List.range 16).filter (fun i => bit v i)

/-- A ring of mailbox `m` (R333). -/
def State.ring (s : State) (m : Nat) : State :=
  if s.hostOwns m && (s.mailbox m).state == .claimed then
    let t := s.setMailbox m { s.mailbox m with state := .rung }
    { t with hp := { t.hp with rings := t.hp.rings ++ [m] } }
  else s.hstatSet 4

/-- A release of mailbox `m` (R334); with KEEP a mailbox in DONE returns to CLAIMED. -/
def State.release (s : State) (m : Nat) (keep : Bool) : State :=
  let x := s.mailbox m
  if !s.hostOwns m then s.hstatSet 2
  else
    match x.state with
    | .claimed => s.freeMbx m
    | .done => if keep then s.setMailbox m { x with state := .claimed, req := none, resp := none } else s.freeMbx m
    | _ => s.hstatSet 5

/-- Releases in ascending order; what is then free may serve a waiting network request. -/
def State.releaseAll (s : State) (mask : Nat) (keep : Bool) : State :=
  ((maskBits mask).foldl (fun t m => t.release m keep) s).placeNet

/-- The claim that waits is resolved: MBX_GRANT shows the mailbox or NONE (R332). -/
def State.resolveClaim (s : State) : State :=
  match s.hp.claim with
  | none => s
  | some c =>
    let want := if c = 16 then s.freeMailbox else if (s.mailbox c).state == .free then some c else none
    let room := decide (s.hostHeld < s.pn 0x114)
    match want, room with
    | some m, true =>
      let t := s.setMailbox m { s.mailbox m with state := .claimed, owner := 1, conn := 0, discard := false, req := none,
                                                 resp := none }
      { t with hp := { t.hp with claim := none, grant := m } }
    | _, _ => { s with hp := { s.hp with claim := none, grant := 16 } }

/-- The host-port reset (R323, R329). -/
def State.hprst (s : State) : State :=
  let one (t : State) (m : Nat) : State :=
    let x := t.mailbox m
    if !t.hostOwns m then t
    else
      match x.state with
      | .claimed => t.freeMbx m
      | .done => t.freeMbx m
      | _ => t.setMailbox m { x with discard := true }
  let t := (List.range 16).foldl one s
  ({ t with hp := { t.hp with quad := false, hstat := 0, irqStat := 0, claim := none, grant := 16 } }).placeNet

/-! ### Registers (Table HOST-2) -/

/-- MBXSTAT of eight mailboxes from `lo`. -/
def State.mbxStat (s : State) (lo : Nat) : Nat :=
  (List.range 8).foldl (fun v i =>
    v + shl (mbxCode (s.mailbox (lo + i)).state + (if s.hostOwns (lo + i) then 8 else 0)) (4 * i)) 0

/-- DB_PEND. -/
def State.dbPend (s : State) : Nat := ofBits ((List.range 16).map (fun m => (s.mailbox m).state == .rung))

/-- The levels at the GPIO pins: a pin driven from GPIO_OUT shows its drive; what the board puts on any other is a free value
(assumption log 5). -/
def State.gpioLevels (s : State) : Nat × State :=
  let (v, t) := s.draw
  let out := s.pn 0x120
  (lor64 (land64 s.hp.gpioOut out) (clr64 (v % 256) out), t)

/-- A read of register `i`: its word, and the state after (STIME_L latches STIME_H). -/
def State.hostRead (s : State) (i : Nat) : Nat × State :=
  match i with
  | 0x00 => (0x48440000 + partNumber s.dev.part, s)
  | 0x01 => (Config.silicon % 65536, s)
  | 0x02 => (s.hp.fwver, s)
  | 0x03 => (b2n s.hp.quad + 2 * b2n s.hp.irqOd, s)
  | 0x04 => (s.dstateLow + shl s.hp.hbeat 16, s)
  | 0x05 => (s.hp.hstat, s)
  | 0x06 => (s.hp.irqStat, s)
  | 0x07 => (s.hp.irqEn, s)
  | 0x09 => (s.dbPend, s)
  | 0x0A => (s.mbxStat 0, s)
  | 0x0B => (s.mbxStat 8, s)
  | 0x0D => (s.hp.grant + (if s.hp.claim.isSome then 32 else 0), s)
  | 0x10 => (s.now % 2 ^ 32, { s with hp := { s.hp with stimeH := s.now / 2 ^ 32 % 2 ^ 32 } })
  | 0x11 => (s.hp.stimeH, s)
  | 0x20 => s.gpioLevels
  | 0x21 => (s.hp.gpioOut, s)
  | 0x3C => (s.brace, s)
  | 0x3E => (s.hp.scratch, s)
  | 0x3F => (0xA55A0FF0, s)
  | _ => (0, s)

/-- A write of register `i`; RO and reserved registers ignore it. -/
def State.hostWrite (s : State) (i v : Nat) : State :=
  match i with
  | 0x03 =>
    let t := { s with hp := { s.hp with irqOd := bit v 1 } }
    if bit v 2 then t.hprst else t
  | 0x05 => { s with hp := { s.hp with hstat := clr64 s.hp.hstat v } }
  | 0x06 => { s with hp := { s.hp with irqStat := clr64 s.hp.irqStat v } }
  | 0x07 => { s with hp := { s.hp with irqEn := v % 2 ^ 19 } }
  | 0x08 => (maskBits v).foldl (fun t m => t.ring m) s
  | 0x0C => { s with hp := { s.hp with claim := some (if bit v 4 then 16 else v % 16) } }
  | 0x0E => s.releaseAll (v % 65536) (bit v 16)
  | 0x21 =>
    let out := s.pn 0x120
    { s with hp := { s.hp with gpioOut := lor64 (clr64 s.hp.gpioOut out) (land64 (v % 256) out) } }
  | 0x3E => { s with hp := { s.hp with scratch := v % 2 ^ 32 } }
  | _ => s

/-- What the last transaction returned. -/
def State.hostData (s : State) (d : List Nat) : State := { s with hp := { s.hp with rdata := d } }

/-! ### Transactions (Table HOST-1) -/

/-- RDREG: `count` consecutive registers from `index`, modulo 64. -/
def execRdreg (index : BitVec 6) (count : Nat) (s : State) : Res :=
  s.onHost (fun s =>
    let (ds, t) := (List.range count).foldl (fun (acc : List Nat × State) i =>
      let (d, t) := acc.2.hostRead ((index.toNat + i) % 64)
      (acc.1 ++ [d], t)) (([], s) : List Nat × State)
    t.hostData ds)

/-- WRREG: words to consecutive registers; a word cut short is discarded and sets HSTAT.PARTIAL (R325). -/
def execWrreg (index : BitVec 6) (words : List W32) (part : Bool) (s : State) : Res :=
  s.onHost (fun s =>
    let t := words.zipIdx.foldl (fun u (e : W32 × Nat) => u.hostWrite ((index.toNat + e.2) % 64) e.1.toNat) s
    if part then t.hstatSet 1 else t)

/-- RDMBX: bytes of an owned mailbox, wrapping within it; zeros of any other, with HSTAT.NOTOWN (R325). `flips` gives the bits in error of
the 64-bit words read, in order (R22); where the fabric returns no data, what the port shifts out is free (assumption log 5). -/
def execRdmbx (m : BitVec 4) (off : BitVec 12) (count : Nat) (flips : List Nat) (s : State) : Res :=
  s.onHost (fun s =>
    if s.hostOwns m.toNat then
      let word (i : Nat) : Nat := flips.getD ((off.toNat % 8 + i) / 8) 0
      let byte (i : Nat) : Nat :=
        match s.fabricByte .host (word i) (mbxAddr m.toNat + (off.toNat + i) % 4096) with
        | some b => b.toNat
        | none => Config.freeValue (s.freeCtr + i) % 256
      let read := flips.take (ceilDiv (off.toNat % 8 + count) 8)
      let t := (read.foldl State.eccRead s).hostData ((List.range count).map byte)
      if read.any (fun f => decide (2 ≤ f)) then { t with freeCtr := t.freeCtr + count } else t
    else (s.hstatSet 2).hostData (List.replicate count 0))

/-- WRMBX: bytes into an owned mailbox in CLAIMED or DONE (R325). -/
def execWrmbx (m : BitVec 4) (off : BitVec 12) (bytes : List Byte) (s : State) : Res :=
  s.onHost (fun s =>
    let x := s.mailbox m.toNat
    if !s.hostOwns m.toNat then s.hstatSet 2
    else if x.state == .rung || x.state == .busy then s.hstatSet 3
    else bytes.zipIdx.foldl (fun (t : State) (e : Byte × Nat) =>
      t.fabricWrite .host (mbxAddr m.toNat + (off.toNat + e.2) % 4096) e.1) s)

/-- QUADON: accepted in single mode only (Table HOST-1). -/
def execQuadon (s : State) : Res :=
  s.onHost (fun s => if s.hp.quad then s.hstatSet 0 else { s with hp := { s.hp with quad := true } })

/-- QUADOFF: accepted in quad mode only. -/
def execQuadoff (s : State) : Res :=
  s.onHost (fun s => if s.hp.quad then { s with hp := { s.hp with quad := false } } else s.hstatSet 0)

/-- An unknown code sets HSTAT.CODE; the rest of the transaction is ignored (R325). -/
def execHostPortUnknownCode (code : Byte) (s : State) : Res :=
  let known := code == 0x05#8 || code == 0x06#8 || code == 0x0B#8 || code == 0x0C#8 || code == 0x38#8 || code == 0xF5#8
  if known then .next s else s.onHost (fun s => s.hstatSet 0)

/-- DB_SET (R333). -/
def execDbSet (rings : W16) (s : State) : Res := s.onHost (fun s => s.hostWrite 0x08 rings.toNat)

/-- MBX_CLAIM (R332): PENDING until the arbiter resolves it. -/
def execMbxClaim (value : BitVec 5) (s : State) : Res := s.onHost (fun s => s.hostWrite 0x0C value.toNat)

/-- The mailbox arbiter resolves the claim (R332). -/
def execMbxClaimResolve (s : State) : Res := s.onHost State.resolveClaim

/-- MBX_RELEASE (R334). -/
def execMbxRelease (mask : W16) (s : State) : Res := s.onHost (fun s => s.hostWrite 0x0E mask.toNat)

/-- MBX_RELEASE with KEEP (R334). -/
def execMbxReleaseKeep (mask : W16) (s : State) : Res := s.onHost (fun s => s.hostWrite 0x0E (0x10000 + mask.toNat))

/-- HPCFG.HPRST (R329). -/
def execHprst (s : State) : Res := s.onHost State.hprst

/-- A write of 1 clears HSTAT bits. -/
def execHstatClear (value : W32) (s : State) : Res := s.onHost (fun s => s.hostWrite 0x05 value.toNat)

/-- A write of 1 clears IRQ_STAT bits (R328). -/
def execIrqStatClear (value : W32) (s : State) : Res := s.onHost (fun s => s.hostWrite 0x06 value.toNat)

/-- A read of STIME_L (Table HOST-2). -/
def execStimeLRead (s : State) : Res :=
  s.onHost (fun s =>
    let (d, t) := s.hostRead 0x10
    t.hostData [d])

end Sys2Proof.Machine
end

