-- ==== Sys2Proof/Machine/Mailbox.lean ====
section
/-!
DEFINITION. Requests and responses in mailboxes: the checks of Table HOST-8, sequences and histories, the response frame, the ends of
sessions (R330-R343, R412), and TLS connections (R418).
-/

namespace Sys2Proof.Machine

/-! ### The request frame (Table HOST-7) -/

/-- A request's header. -/
structure BcpHdr where
  op : Nat
  flags : Nat
  session : Nat
  seq : Nat
  len : Nat
  completion : Nat
  reply : Nat
deriving DecidableEq, Repr

/-- The header of the frame in mailbox `m`. -/
def State.readHdr (s : State) (m : Nat) : BcpHdr :=
  let bs := s.sram.readN (mbxAddr m) 16
  { op := leAt bs 0 1, flags := leAt bs 1 1, session := leAt bs 2 2, seq := leAt bs 4 4, len := leAt bs 8 4,
    completion := leAt bs 0xC 2, reply := leAt bs 0xE 2 }

/-- An opcode of Table HOST-10. -/
def opKnown (op : Nat) : Bool :=
  [0x01, 0x02, 0x10, 0x11, 0x20, 0x21, 0x22, 0x30, 0x40, 0x41, 0x50, 0x51, 0x52, 0x58, 0x59, 0x60, 0x70, 0x71, 0x72, 0x73,
    0x80, 0x81, 0x82, 0x90, 0x91, 0x92, 0x93, 0xA0].contains op

/-- The payload lengths that a command's request may have (Table HOST-10, R343). -/
def lengthOk (op len : Nat) : Bool :=
  if [0x01, 0x02, 0x11, 0x52, 0x72, 0x73, 0x90, 0x91, 0x93].contains op then len == 0
  else if [0x30, 0x58, 0x59, 0x70, 0x92].contains op then len == 4
  else if [0x40, 0x50, 0x60, 0xA0].contains op then len == 8
  else if op = 0x10 then len == 140 || len == 120
  else if op = 0x20 then decide (8 ≤ len) && decide (len ≤ 132) && len % 4 == 0
  else if op = 0x21 then decide (8 ≤ len) && len % 4 == 0
  else if op = 0x22 then len == 12
  else if op = 0x41 then decide (4 ≤ len) && decide (len ≤ 2052) && len % 8 == 4
  else if op = 0x51 ∨ op = 0x71 then decide (4 ≤ len)
  else if op = 0x80 then len == 4 || len == 200 || len == 392 || len == 196
  else if op = 0x81 then len == 4 || len == 196 || (decide (164 ≤ len) && decide (len ≤ 1892))
  else len == 32

/-- Check 1 of Table HOST-8. -/
def BcpHdr.frameOk (h : BcpHdr) : Bool :=
  decide (h.len ≤ 4064) && (h.flags == 0 || h.flags == 4) && h.completion == 0 && h.reply == 0 &&
    (!opKnown h.op || lengthOk h.op h.len)

/-! ### Checks 6 and 7 (R343, R412) -/

/-- The device state serves the opcode (Table HOST-10); program and update commands report the state themselves. -/
def State.stateServes (s : State) (op sub : Nat) : Bool :=
  let st := s.dev.state
  let four := st == .stop || st == .run || st == .halt || st == .safe
  if op = 0x01 ∨ op = 0x02 then true
  else if op = 0x10 ∨ op = 0x11 then st != .lockout
  else if 0x50 ≤ op ∧ op ≤ 0x59 ∨ 0x70 ≤ op ∧ op ≤ 0x73 then true
  else if op = 0x60 then st != .recovery && st != .lockout
  else if op = 0x80 then four || (st == .recovery && sub == 0)
  else if op = 0x81 then four || (st == .recovery && sub == 3)
  else if op = 0x91 ∨ op = 0x93 then st == .stop || st == .run || st == .halt
  else if op = 0x92 then st == .run || st == .halt
  else four

/-- The role serves the opcode (R164, R180, R343). `kind` is the container kind of PRG_BEGIN. -/
def State.roleServes (s : State) (op kind : Nat) : Bool :=
  match s.dev.role with
  | .standby => !(op == 0x30 || op == 0x41 || (decide (0x50 ≤ op) && decide (op ≤ 0x59)) || (decide (0x70 ≤ op) && decide (op ≤ 0x73)))
  | .node => !(op == 0x30 || op == 0x40 || op == 0x58 || op == 0x59 || (op == 0x50 && kind == 1))
  | _ => true

/-- The rights of Table SEC-10 that grant an opcode, any one of them; none where no right is needed or the command reports it
itself. -/
def opRights (op sub : Nat) : List Nat :=
  if op = 0x20 ∨ op = 0x22 ∨ op = 0x40 ∨ op = 0x60 ∨ op = 0x82 ∨ op = 0x90 then [0]
  else if op = 0x21 then [1, 6]
  else if op = 0x30 ∨ op = 0xA0 ∨ op = 0x91 ∨ op = 0x92 ∨ op = 0x93 then [2]
  else if op = 0x41 then [3]
  else if 0x70 ≤ op ∧ op ≤ 0x73 then [5]
  else if op = 0x80 then (if sub = 0 then [] else [8])
  else if op = 0x81 then (if sub = 2 then [7] else [8])
  else []

/-- Checks 6 and 7 for a request: its completion, 0 where it passes. -/
def State.lateChecks (s : State) (r : Request) : Nat :=
  let sub := leAt r.payload 0 1
  let rights := (s.session (r.session % 16)).rights
  let need := opRights r.opcode sub
  if !s.stateServes r.opcode sub then 6
  else if !s.roleServes r.opcode sub then 7
  else if r.session != 0 && !need.isEmpty && !need.any (fun b => bit rights b) && r.opcode != 0x10 then 8
  else 0

/-! ### Check 5: sequences (R340) -/

/-- Another request of the session executes. -/
def State.sessionBusy (s : State) (id m : Nat) : Bool :=
  (List.range 16).any (fun k =>
    let x := s.mailbox k
    k != m && x.state == .busy && x.waitFrom.isNone &&
      (match x.req with
       | some r => r.session == id
       | none => false))

/-- A request passes check 5: it is the session's next one, and checks 6 and 7 decide whether its command runs. -/
def State.accept_ (s : State) (m : Nat) (r : Request) : State :=
  let x := s.mailbox m
  let k := r.session % 16
  let y := s.session k
  let t := s.setMailbox m { x with state := .busy, req := some r, waitFrom := none, committed := true }
  let t := if r.session = 0 ∨ r.opcode = 0x10 then t else t.setSession k { y with next := y.next + 1, lastReq := s.clk.ticks }
  if t.lateChecks r = 0 then t else t.answer m (t.lateChecks r) 0 0 []

/-- BADSEQ: counted, not recorded. -/
def State.badSeq (s : State) (m : Nat) : State :=
  let t := s.bump 0x113 32
  let x := t.mailbox m
  t.setMailbox m { x with resp := some (Response.mk 5 0 0 [] false 0 false none), waitFrom := none }

/-- The repeat response to a recorded sequence. -/
def State.repeatAnswer (s : State) (m k : Nat) (e : HistEntry) : State :=
  let y := s.session k
  let again (h : HistEntry) : HistEntry := if h.seq == e.seq then { h with replies := h.replies + 1 } else h
  let t := s.setSession k { y with history := y.history.map again, lastReq := s.clk.ticks }
  let x := t.mailbox m
  t.setMailbox m { x with resp := some (Response.mk e.completion e.status e.detail [] true e.replies false none) }

/-- Check 5 for a request of a session. -/
def State.sequenceCheck (s : State) (m : Nat) (r : Request) : State :=
  let k := r.session % 16
  let y := s.session k
  let t := s.setMailbox m { s.mailbox m with state := .busy, req := some r }
  if 2 ^ 32 ≤ y.next then t.badSeq m
  else if r.seq = y.next then
    (if t.sessionBusy r.session m then t.setMailbox m { t.mailbox m with waitFrom := some t.clk.ticks } else t.accept_ m r)
  else if y.next < r.seq then
    let u := t.setMailbox m { t.mailbox m with waitFrom := some t.clk.ticks }
    u.setSession k { u.session k with lastReq := u.clk.ticks }
  else
    match (if y.next ≤ r.seq + 16 then y.history.find? (fun e => e.seq == r.seq) else none) with
    | some e => t.repeatAnswer m k e
    | none => t.badSeq m

/-- The session's next request, where it waits and nothing of the session executes. -/
def State.wakeSession (s : State) (id : Nat) : State :=
  if id = 0 ∨ s.sessionBusy id 16 then s
  else
    let n := (s.session (id % 16)).next
    let ready (k : Nat) : Bool :=
      let x := s.mailbox k
      x.state == .busy && x.waitFrom.isSome && (match x.req with
        | some r => r.session == id && r.seq == n
        | none => false)
    match (List.range 16).find? ready with
    | some k =>
      (match (s.mailbox k).req with
       | some r => s.accept_ k r
       | none => s)
    | none => s

/-! ### Taking a request (R333, R338) -/

/-- A failing tag on a session: eight in a row end it (Table HOST-11), and NET_AUTH is raised. -/
def State.authFailed (s : State) (id : Nat) : State :=
  let t := s.bump 0x112 32
  let k := id % 16
  let y := t.session k
  if y.isOpen && y.id == id then
    let u := t.setSession k { y with authFails := y.authFails + 1 }
    if 8 ≤ y.authFails + 1 then (u.endSession k).raise 23 0 0 else u
  else t

/-- The provisional slot that an ID, a requester and a connection name. -/
def State.provisional (s : State) (id requester conn : Nat) : Option Provisional :=
  s.sec.prov.find? (fun p => p.id == id && p.requester == requester && (requester == 1 || p.conn == conn))

/-- Takes the request in mailbox `m` through the checks of Table HOST-8. `tagOk` says whether a sealed frame's tag verifies, `plain`
is its plain payload. -/
def State.takeRequest (s : State) (m : Nat) (tagOk : Bool) (plain : List Byte) : State :=
  let h := s.readHdr m
  let x := s.mailbox m
  let clear := h.flags == 4
  let raw := s.sram.readN (mbxAddr m + 16) h.len
  let payload := if clear then raw else (plain ++ List.replicate h.len 0#8).take h.len
  let r : Request := { opcode := h.op, session := h.session, seq := h.seq, payload := payload, requester := x.owner }
  let t := s.setMailbox m { x with
    state := .busy, req := some r, resp := none, waitFrom := none, committed := false, lastSession := h.session,
    lastSeq := h.seq, takenAt := s.clk.ticks }
  let zeroTag := (s.sram.readN (mbxAddr m + 16 + h.len) 16).all (fun b => b == 0#8)
  let clearOp := h.op == 0x01 || h.op == 0x02 || h.op == 0x10
  let slot := s.findSession h.session x.owner x.conn
  let known := if h.session = 0 then clearOp
    else if h.op = 0x10 then (s.provisional h.session x.owner x.conn).isSome
    else slot.isSome
  let sealedOk := if h.session = 0 then clear && zeroTag else !clear && tagOk
  if !h.frameOk then t.answerClear m 1
  else if !opKnown h.op then t.answerClear m 2
  else if !known then t.answerClear m 3
  else if !sealedOk then (t.answerClear m 4).authFailed h.session
  else if h.session = 0 ∨ h.op = 0x10 then t.accept_ m r
  else
    let k := h.session % 16
    let u := t.setSession k { t.session k with authFails := 0, lastReq := t.clk.ticks }
    u.sequenceCheck m r

/-- Firmware takes the RUNG mailbox whose ring reached it first, when context 0 has the cores (R77, R333). -/
def execMailboxTake (tagOk : Bool) (plain : List Byte) (s : State) : Res :=
  match s.hp.rings with
  | [] => .next s
  | m :: rest =>
    let t := s.dispatch
    if s.serves && (t.sched.cores == some 0 || s.tmr.freeCore) then
      .next ({ t with hp := { t.hp with rings := rest } }.takeRequest m tagOk plain).dispatch.mirror
    else .next s

/-! ### The response (R334, R336, R337) -/

/-- The key that seals a response of a session, provisional or open. -/
def State.responseKey (s : State) (id : Nat) : Option Nat :=
  match s.sec.prov.find? (fun p => p.id == id) with
  | some p => some p.key
  | none => if (s.session (id % 16)).id == id then tfind s.sec.keys (id % 16) else none

/-- A response header (Table HOST-7). -/
def responseHdr (op flags id seq len completion reply : Nat) : List Byte :=
  leBytes 1 op ++ leBytes 1 flags ++ leBytes 2 id ++ leBytes 4 seq ++ leBytes 4 len ++ leBytes 2 completion ++ leBytes 2 reply

/-- A response frame: header, payload and tag; the payload of OK and REFUSED begins with the status block. -/
def State.responseFrame (s : State) (r : Request) (p : Response) : List Byte :=
  let id := p.session.getD r.session
  let body := if p.completion = 0 ∨ p.completion = 9 then leBytes 2 p.status ++ leBytes 2 0 ++ leBytes 4 p.detail ++ p.data else []
  let key := if p.clear then none else s.responseKey id
  let hdr := responseHdr r.opcode (1 + 2 * b2n p.rep + (if key.isNone then 4 else 0)) id r.seq body.length p.completion p.reply
  match key with
  | none => hdr ++ body ++ List.replicate 16 0#8
  | some k =>
    let iv := leBytes 2 id ++ leBytes 1 1 ++ leBytes 1 0 ++ leBytes 4 r.seq ++ leBytes 2 p.reply ++ leBytes 2 0
    hdr ++ ((Config.gcmSeal k (leNat iv) (hdr ++ body) ++ List.replicate (body.length + 16) 0#8).take (body.length + 16))

/-- What the sending of a response brings with it: an OPEN's session opens, a closing one ends (R342, R416). -/
def State.afterResponse (s : State) (r : Request) (p : Response) : State :=
  if r.opcode = 0x10 ∧ r.session ≠ 0 then
    match s.sec.prov.find? (fun v => v.id == r.session) with
    | some v =>
      let t := { s with sec := { s.sec with prov := s.sec.prov.filter (fun w => w != v) } }
      if p.completion = 0 then
        { t.setSession v.slot { t.session v.slot with isOpen := true, lastReq := t.clk.ticks } with
          sec := { t.sec with keys := tset t.sec.keys v.slot v.key } }
      else t
    | none => s
  else if (s.session (r.session % 16)).closing && (s.session (r.session % 16)).id == r.session then
    s.endSession (r.session % 16)
  else s

/-- Opcodes whose execution counts in sys.cmd.worst (R354). -/
def opTimed (op : Nat) : Bool := [0x01, 0x02, 0x20, 0x21, 0x22, 0x40, 0x41, 0x90].contains op

/-- The response frame is written and the mailbox enters DONE, or FREE where it served the network or its response is discarded
(R329, R334). -/
def execMailboxDone (m : BitVec 4) (s : State) : Res :=
  let m := m.toNat
  let x := s.mailbox m
  match x.req, x.resp with
  | some r, some p =>
    if x.state == .busy && s.serves then
      let frame := s.responseFrame r p
      let t := { s with sram := s.sram.writeL (mbxAddr m) frame }
      let keep := x.owner == 1 && !x.discard
      let t := if keep then
          let u := t.setMailbox m { x with state := .done, req := none, resp := none }
          { u with hp := { u.hp with irqStat := setBit u.hp.irqStat m } }
        else t.freeMbx m
      let t := t.bump 0x115 64
      let us := ceilDiv (s.elapsed x.takenAt) usTicks
      let t := if opTimed r.opcode then t.worst 0x116 us else t
      let u := (t.afterResponse r p).wakeSession r.session
      .next u.placeNet.dispatch.mirror
    else .next s
  | _, _ => .next s

/-! ### Ends of waits and sessions (R340, R342) -/

/-- A request whose predecessors have not all come after 100 ms completes with BADSEQ (R340). -/
def execSequenceWaitTimeout (m : BitVec 4) (s : State) : Res :=
  let m := m.toNat
  let x := s.mailbox m
  match x.req, x.waitFrom with
  | some r, some t0 =>
    if x.state == .busy && decide ((s.session (r.session % 16)).next < r.seq) && decide (100 * msTicks ≤ s.elapsed t0) then
      .next (s.badSeq m).dispatch
    else .next s
  | _, _ => .next s

/-- No request for the granted idle time: the session ends (R342, R354). -/
def execSessionIdleTimeout (slot : BitVec 4) (s : State) : Res :=
  let k := slot.toNat
  let y := s.session k
  if y.isOpen && decide (y.idle * secTicks ≤ s.elapsed y.lastReq) && !s.sessionBusy y.id 16 then .next (s.endSession k).mirror
  else .next s

/-- A TLS connection closes: every session on it ends, and its waiting requests go (R342). -/
def State.closeConn (s : State) (conn : Nat) : State :=
  let t := (List.range 16).foldl (fun u k =>
    let y := u.session k
    if y.isOpen && y.requester != 1 && y.conn == conn then u.endSession k else u) s
  { t with sec := { t.sec with tls := tdel t.sec.tls conn, prov := t.sec.prov.filter (fun p => p.requester == 1 || p.conn != conn) },
           hp := { t.hp with netWaiting := t.hp.netWaiting.filter (fun r => r.conn != conn) } }

/-- A TLS connection closes. -/
def execTlsConnectionClose (conn : Nat) (s : State) : Res :=
  if (tfind s.sec.tls conn).isSome then .next (s.closeConn conn).mirror else .next s

/-! ### TLS (R418) -/

/-- The network carries BCP: PD_NET and PD_SEC are on, the port has a link, and firmware serves (R453). -/
def State.tlsUp (s : State) (port : Nat) : Bool :=
  s.pwr.net && s.pwr.sec && (if port = 0 then s.net.linkA else s.net.linkB) && s.serves && bit (s.pn 0xB10) port

/-- A ClientHello on an enabled port: the handshake runs where it offers what R418 names and fewer than sec.tls.max connections
stand, else it is refused and counted. A HelloRetryRequest asks for the key share that is missing: the handshake goes on. -/
def execTlsHandshake (h : ClientHello) (s : State) : Res :=
  if s.tlsUp h.port then
    if h.tls13 && h.suite && h.group && h.sigScheme && h.alpn && decide (s.sec.tls.length < s.pn 0xB12) then
      (if h.keyShare then
         .next { s with sec := { s.sec with tls := tset s.sec.tls s.sec.tlsNext h.port, tlsNext := s.sec.tlsNext + 1 } }
       else .next s)
    else .next (s.bump 0xB14 32)
  else .next s

/-- A key update of a connection, accepted or initiated: its traffic keys move on, whichever side asked
(R418). -/
def execTlsKeyUpdate (conn : Nat) (_byDevice : Bool) (s : State) : Res :=
  if (tfind s.sec.tls conn).isSome then
    .next { s with sec := { s.sec with tlsUpdates := tset s.sec.tlsUpdates conn (tget 0 s.sec.tlsUpdates conn + 1) } }
  else .next s

end Sys2Proof.Machine
end

