-- ==== Sys2Proof/Machine/Sessions.lean ====
section
/-!
DEFINITION. OPEN in two legs, CLOSE, IDENT, and the policy that gives a session its rights (R339, R342, R411-R417).
-/

namespace Sys2Proof.Machine

/-! ### The policy (R411, R412) -/

/-- A credential entry of the policy. -/
structure PolicyEntry where
  paths : Nat
  rights : Nat
  keyId : Nat
deriving DecidableEq, Repr

/-- Entries of a policy blob. -/
def policyCount (blob : List Byte) : Nat := leAt blob 6 2

/-- Entry `i` of a policy blob. -/
def policyEntry (blob : List Byte) (i : Nat) : PolicyEntry :=
  let o := 64 + 108 * i
  { paths := leAt blob o 1, rights := leAt blob (o + 4) 4, keyId := keyIdOf ((blob.drop (o + 8)).take 97) }

/-- The path bit of a requester: [0] host port, [1] network. -/
def pathBit (requester : Nat) : Nat := if requester = 1 then 0 else 1

/-- What a credential gives on a path: no such credential, not allowed on the path, or its rights. A credential is its kind (0
anonymous, 1 owner key, 2 policy entry) and its key ID. -/
inductive Grant where
  | none
  | noPath
  | rights (r : Nat)
deriving DecidableEq, Repr

/-- A device that is unclaimed grants MONITOR, PARAM, CONTROL and UPDATE to anonymous sessions, and OWNER on the host port. -/
def unclaimedRights (requester : Nat) : Nat := 39 + (if requester = 1 then 256 else 0)

/-- What the policy in force grants a credential (R412). -/
def SecState.grant (k : SecState) (kind keyId requester : Nat) : Grant :=
  match kind, k.owner with
  | 0, none => .rights (unclaimedRights requester)
  | 0, some _ =>
    let r := leAt k.policy 12 4
    let p := leAt k.policy 16 1
    if r = 0 ∨ p = 0 then .none else if bit p (pathBit requester) then .rights r else .noPath
  | 1, some key => if keyIdOf key = keyId then .rights 511 else .none
  | 2, some _ =>
    match (List.range (policyCount k.policy)).find? (fun i => (policyEntry k.policy i).keyId == keyId) with
    | some i =>
      let e := policyEntry k.policy i
      if bit e.paths (pathBit requester) then .rights e.rights else .noPath
    | none => .none
  | _, _ => .none

/-- In RECOVERY the rights are limited to MONITOR, UPDATE and, for UNLOCK, OWNER (R412). -/
def State.limitRights (s : State) (r : Nat) : Nat := if s.dev.state == .recovery then land64 r 289 else r

/-! ### OPEN (R339, R415, R416, R417) -/

/-- The lowest slot with neither an open session nor a provisional one. -/
def State.freeSlot (s : State) : Option Nat :=
  (List.range 16).find? (fun k => !(s.session k).isOpen && !s.sec.prov.any (fun p => p.slot == k))

/-- The ID a slot's next session gets: the slot, and the slot's open count modulo 4,096; 0 is skipped. -/
def Session.nextId (y : Session) (slot : Nat) : Nat × Nat :=
  let c := y.openCount + 1
  let c := if slot = 0 ∧ c % 4096 = 0 then c + 1 else c
  (slot + 16 * (c % 4096), c)

/-- The idle timeout granted: the one asked, at most sys.session.idle; 0 asks for the default. -/
def State.grantIdle (s : State) (asked : Nat) : Nat := if asked = 0 then s.pn 0x111 else min asked (s.pn 0x111)

/-- An OPEN fails: counted in sec.open.failures. -/
def State.openFail (s : State) (m status : Nat) : State := (s.bump 0xB15 32).refuse m status 0

/-- "BCP device", which the device's signature of leg 1 covers before T (R415). -/
def bcpDeviceLabel : List Byte := [0x42#8, 0x43#8, 0x50#8, 0x20#8, 0x64#8, 0x65#8, 0x76#8, 0x69#8, 0x63#8, 0x65#8]

/-- "BCP rsp", the info of the response key before T (R415). -/
def bcpRspLabel : List Byte := [0x42#8, 0x43#8, 0x50#8, 0x20#8, 0x72#8, 0x73#8, 0x70#8]

/-- The response key of a session: PRK from the two nonces and the ECDH secret, which a network session joins to its TLS exporter value
(R415). The request key opens frames before a command gets them (assumption log 6). -/
def sessionKey (requester conn ephemeral : Nat) (hostKey hostNonce nonce : List Byte) (transcript : Nat) : Nat :=
  let z := leBytes 48 (Config.ecdh ephemeral hostKey)
  let ikm := if requester = 1 then z else z ++ leBytes 48 (Config.tlsExporter conn)
  Config.hkdfExpand (Config.hkdfExtract (hostNonce ++ nonce) ikm) (bcpRspLabel ++ leBytes 48 transcript) 32

/-- Leg 1: u8 path, u8 0, u16 idle, u8 leg, u8 suite, u16 0, the host's key, 3 bytes 0, the host's nonce (R415). The response carries
the provisional ID. -/
def execOpenLeg1 (m : BitVec 4) (s : State) : Res :=
  let m := m.toNat
  match s.request m 0x10 with
  | none => .next s
  | some r =>
    if r.session ≠ 0 then .next s
    else
      let x := s.mailbox m
      let p := r.payload
      if leAt p 4 1 ≠ 1 then .next (s.openFail m 2)
      else if leAt p 5 1 ≠ 1 then .next (s.openFail m 1)
      else if leAt p 0 1 ≠ pathBit r.requester + 1 then .next (s.openFail m 4)
      else
        match s.freeSlot with
        | none => .next ((s.bump 0xB15 32).answer m 0x0A 0 0 [])
        | some slot =>
          let (id, _) := (s.session slot).nextId slot
          let n := s.sec.drawn
          let hostKey := (p.drop 8).take 97
          let hostNonce := (p.drop 108).take 32
          let nonce := leBytes 32 (Config.random (n + 1))
          let chain := Config.deviceCert ++ Config.issuerCert
          let chain := chain ++ List.replicate ((4 - chain.length % 4) % 4) 0#8
          let agree := leBytes 1 1 ++ leBytes 1 1 ++ leBytes 2 (Config.deviceCert ++ Config.issuerCert).length ++
            (Config.ephemeral n ++ List.replicate 97 0#8).take 97 ++ leBytes 3 0 ++ nonce
          let head := leBytes 2 id ++ leBytes 2 (s.grantIdle (leAt p 2 2)) ++ agree
          let reqHdr := s.sram.readN (mbxAddr m) 16
          let rspHdr := responseHdr 0x10 5 id r.seq (8 + head.length + 96 + chain.length) 0 0
          let transcript := Config.sha384 (reqHdr ++ p ++ rspHdr ++ leBytes 8 0 ++ head)
          let sig := (Config.ecdsaSign n (leBytes 48 (Config.sha384 (bcpDeviceLabel ++ leBytes 48 transcript))) ++
            List.replicate 96 0#8).take 96
          let key := sessionKey r.requester x.conn n hostKey hostNonce nonce transcript
          let t := s.ok m (head ++ sig ++ chain)
          let y := t.mailbox m
          let resp := y.resp.map (fun q => { q with session := some id, clear := true })
          let u := t.setMailbox m { y with resp := resp }
          .next { u with sec := { u.sec with
            drawn := n + 2, prov := u.sec.prov ++ [Provisional.mk slot id r.requester x.conn u.clk.ticks key] } }

/-- Leg 2: u8 path, u8 0, u16 idle, u8 leg, u8 kind, u16 index, 16 key ID, 96 signature (R416). The session's rights are fixed here; it
opens when the response is sent. -/
def execOpenLeg2 (m : BitVec 4) (sigOk : Bool) (s : State) : Res :=
  let m := m.toNat
  match s.request m 0x10 with
  | none => .next s
  | some r =>
    if r.session = 0 then .next s
    else
      match s.sec.prov.find? (fun v => v.id == r.session) with
      | none => .next (s.openFail m 2)
      | some v =>
        let p := r.payload
        let kind := leAt p 5 1
        let keyId := leAt p 8 16
        let index := leAt p 6 2
        let listed := kind != 2 || (decide (index < policyCount s.sec.policy) && (policyEntry s.sec.policy index).keyId == keyId)
        let sig := if kind = 0 then (p.drop 24).all (fun b => b == 0#8) else sigOk
        if leAt p 4 1 ≠ 2 then .next (s.openFail m 2)
        else if 5 * secTicks < s.elapsed v.since then .next (s.openFail m 6)
        else
          match (if listed then s.sec.grant kind keyId r.requester else Grant.none) with
          | .none => .next (s.openFail m 3)
          | .noPath => .next (s.openFail m 4)
          | .rights g =>
            if !sig then .next (s.openFail m 5)
            else
              let rights := s.limitRights g
              let idle := s.grantIdle (leAt p 2 2)
              let t := s.ok m (leBytes 2 v.id ++ leBytes 2 idle ++ leBytes 1 2 ++ leBytes 1 0 ++ leBytes 2 0 ++ leBytes 4 rights)
              let (_, c) := (t.session v.slot).nextId v.slot
              .next (t.setSession v.slot { Session.init with
                used := true, id := v.id, openCount := c, requester := r.requester, conn := v.conn, rights := rights,
                credential := kind + 4 * keyId, idle := idle, lastReq := t.clk.ticks })

/-- A provisional slot without leg 2 for 5 s is freed (R416). -/
def execOpenTimeout (slot : BitVec 4) (s : State) : Res :=
  match s.sec.prov.find? (fun p => p.slot == slot.toNat) with
  | some p =>
    if 5 * secTicks ≤ s.elapsed p.since then
      .next { s.bump 0xB15 32 with sec := { (s.bump 0xB15 32).sec with prov := s.sec.prov.filter (fun q => q != p) } }
    else .next s
  | none => .next s

/-- CLOSE: the session ends after its response (R342). -/
def execClose (m : BitVec 4) (s : State) : Res :=
  let m := m.toNat
  match s.request m 0x11 with
  | none => .next s
  | some r =>
    let t := s.ok m []
    let k := r.session % 16
    .next (t.setSession k { t.session k with closing := true })

/-! ### IDENT (Table HOST-10) -/

/-- The hash of the running firmware. -/
def State.fwHash (s : State) : Nat := Config.fwHash s.sec.fwVersion

/-- IDENT: the device's identification. -/
def execIdent (m : BitVec 4) (s : State) : Res :=
  let m := m.toNat
  match s.request m 0x02 with
  | none => .next s
  | some _ =>
    .next (s.ok m (leBytes 4 0x4844 ++ leBytes 2 (partNumber s.dev.part) ++ leBytes 1 (partBays s.dev.part) ++
      leBytes 1 (partChannels s.dev.part) ++ leBytes 2 (Config.silicon % 65536) ++ leBytes 2 0 ++ leBytes 4 s.sec.fwVersion ++
      leBytes 4 s.sec.fuses ++ leBytes 48 s.fwHash ++ leBytes 48 s.program.hash ++ leBytes 16 s.sec.ownerKeyId ++
      leBytes 16 (Config.deviceId % 2 ^ 128)))

end Sys2Proof.Machine
end

