-- ==== Sys2Proof/Machine/TmrEvents.lean ====
section
/-!
DEFINITION. Triple execution: comparison outcomes, resynchronisation, retirement, mode changes and interrupt entries (R355-R371).
-/

namespace Sys2Proof.Machine

/-! ### Comparison (R356, R357) -/

/-- tmr.retired. -/
def Tmr.retiredBits (t : Tmr) : Nat := ofBits ([0, 1, 2].map (fun c => t.retired.contains c))

/-- The source data of the newest mismatch (Table TMR-5). -/
def State.lastMismatch (s : State) : Nat :=
  match s.tmr.last with
  | some m => m.data
  | none => 0

/-- Core `c` is retired: DUAL with the other two, and TMR_RETIRE (R360). -/
def State.retireCore (s : State) (c : Nat) : State :=
  let t := { s with tmr := { s.tmr with
    retired := s.tmr.retired ++ [c], mode := .dual, byRetirement := true, freeCore := false, isolated := none, scrubbed := false,
    skewed := false, requested := none, returning := none } }
  t.raise 10 c t.lastMismatch

/-- No majority: the output is suppressed (Table TMR-2). The record names the cores that differ and the first differing signal, with the
bitwise vote where three cores vote; no odd value, and no vote of two, is defined, and free values stand there. -/
def State.noMajority (s : State) (ev : CmpEvent) : State :=
  let cores := s.tmr.voted
  let g := firstOdd ev cores
  let (f, t) := s.draw
  let (o, u) := t.draw
  u.mismatch 2 (ofBits ([0, 1, 2].map (fun c => (oddCores ev cores).contains c))) g.field ev.pc
    (if cores.length = 3 then majority g.c0 g.c1 g.c2 % 2 ^ 64 else f % 2 ^ 64) (o % 2 ^ 64) 11 0

/-- One core differs alone in TRIPLE: it is isolated for its resync, or retired at its fourth difference within 1 s; an interrupt
or capture field is input skew (R358, R360, R362). -/
def State.oddCore (s : State) (c : Nat) (ev : CmpEvent) : State :=
  let g := firstOdd ev s.tmr.voted
  let skew := g.field == 4
  let diffs := recentDiffs (tget [] s.tmr.diffs c) s.now
  let t := s.mismatch 1 (2 ^ c + (if skew then 8 else 0)) g.field ev.pc (majority g.c0 g.c1 g.c2 % 2 ^ 64) (coreCopy g c % 2 ^ 64) 9 c
  let t := if skew then t.bump 0x808 32 else t
  let t := { t with tmr := { t.tmr with diffs := tset t.tmr.diffs c diffs } }
  if 4 ≤ diffs.length then t.retireCore c
  else { t with tmr := { t.tmr with isolated := some c, isoAt := t.clk.ticks, scrubbed := false, skewed := skew } }

/-- The comparators disagree: counted, the pending flag set, and a second event while it stands locks the device out (R357, R367). Which
of the two findings the record holds is not said: syndrome, field and values are free. -/
def State.comparatorFault (s : State) (ev : CmpEvent) : State :=
  let (a, s1) := s.draw
  let (b, s2) := s1.draw
  let (d, s3) := s2.draw
  let m : Mismatch :=
    { stime := s.now, source := 3, syndrome := a % 16, field := 1 + a / 16 % 4, mode := modeCode s.tmr.mode, place := ev.pc,
      voted := b % 2 ^ 64, odd := d % 2 ^ 64 }
  let t := (s3.bump 0x80D 32).log 0x11 m.bytes
  let again := t.tmr.cmpPending
  let u := { t with tmr := { t.tmr with last := some m, cmpPending := true, cmpFrom := t.clk.ticks } }
  u.raiseWith 12 0 m.data 0 0 (if again then 2 else 0)

/-- One cycle of comparison (Table TMR-2, Table TMR-7): comparators that disagree govern; one core of three that differs is odd; more
than one, or a difference in a pair, leaves no majority; an isolated, free or retired core is not voted, and SPLIT compares nothing; a
fourth difference within 1 s retires an isolated core. -/
def execTmrMismatch (ev : CmpEvent) (s : State) : Res :=
  if s.pwr.core && s.fclkUp && s.tmr.mode != .split && s.wdg.restarting.isNone then
    if !ev.crossOk then .next (s.comparatorFault ev)
    else
      match oddCores ev s.tmr.voted with
      | [] =>
        (match s.tmr.isolated with
         | some c => if coreApart ev s.tmr.voted c && decide (4 ≤ (recentDiffs (tget [] s.tmr.diffs c) s.now).length)
                     then .next (s.retireCore c) else .next s
         | none => .next s)
      | [c] => .next (s.oddCore c ev)
      | _ => .next (s.noMajority ev)
  else .next s

/-! ### Resynchronisation (R358, R360) -/

/-- The isolated core's scrub is done, or failed: a failure retires the core. -/
def execCoreScrubDone (ok : Bool) (s : State) : Res :=
  match s.tmr.isolated with
  | none => .next s
  | some c =>
    if s.pwr.core && s.fclkUp && !s.tmr.scrubbed then
      if ok then .next { s with tmr := { s.tmr with scrubbed := true } } else .next (s.retireCore c)
    else .next s

/-- The join after a pause of `pause` ns, at most 1 µs, within 40 µs of detection: TRIPLE again, counted (R358, R359). -/
def execCoreJoin (pause : Nat) (s : State) : Res :=
  match s.tmr.isolated with
  | none => .next s
  | some c =>
    let took := s.elapsed s.tmr.isoAt * 5 / 2 + pause
    if s.pwr.core && s.fclkUp && s.tmr.scrubbed && decide (pause ≤ 1000) && decide (took ≤ 40000) then
      let t := (((s.bump 0x804 32).bump (0x805 + c) 32).joined pause).worst 0x80C took
      let u := match t.tmr.last with
        | some m => t.log 0x11 m.bytes
        | none => t
      .next { u with tmr := { u.tmr with isolated := none, scrubbed := false, skewed := false } }
    else .next s

/-- A resync is not complete 40 µs after detection (R358). -/
def execResyncTimeout (s : State) : Res :=
  match s.tmr.isolated with
  | none => .next s
  | some c =>
    if s.pwr.core && s.fclkUp && decide (40 * usTicks ≤ s.elapsed s.tmr.isoAt) then
      .next ((s.mismatch 4 (2 ^ c) 0 0 0 0 13 c))
    else .next s

/-- 60 s in STOP or RUN without TMR_CMP clears the pending flag (R367). -/
def execTmrCmpPendingClear (s : State) : Res :=
  whenOk (s.tmr.cmpPending && (s.dev.state == .stop || s.dev.state == .run) && decide (60 * secTicks ≤ s.elapsed s.tmr.cmpFrom)) s
    { s with tmr := { s.tmr with cmpPending := false } }

/-! ### Execution modes (R364, R365) -/

/-- The latest peg instant of a context that is not after `t`; none before its first (R71). -/
def CtxEntry.lastPeg (e : CtxEntry) (t : Ns) : Option Ns :=
  let per := max 1 (e.period * 1000)
  let first := (e.phase + e.pegOffset) * 1000
  if first ≤ t then some (first + (t - first) / per * per) else none

/-- The gap after the pegs of the first peg instant after the SET: every peg up to now is made, none of the releases from that instant on
is (in RUN), no edit step falls at it, and no firmware hand-over is under way (R365). -/
def State.modeGap (s : State) : Bool :=
  let cs := s.configured
  let late (x : Ctx) : Bool :=
    match x.pegDue with
    | some p => decide (p ≤ s.now)
    | none => false
  let editDue := match s.prog.armed with
    | some e => e.at_ != 0 && decide (e.at_ ≤ s.now)
    | none => false
  let peg := cs.foldl (fun (m : Ns) c =>
    match (s.ctx c).cfg with
    | some e => max m ((e.lastPeg s.now).getD 0)
    | none => m) 0
  let released (x : Ctx) : Bool := s.dev.state == .run && x.releasing && decide (peg + x.ns CtxEntry.period ≤ x.nextRelease)
  decide (s.tmr.reqAt < peg) && !cs.any (fun c => late (s.ctx c)) && !cs.any (fun c => released (s.ctx c)) && !editDue && !s.hp.stopped

/-- A requested mode change takes effect: in RUN and HALT in the gap after the pegs of the first peg instant after its SET, in STOP at
once, and never during a resync (R364, R365). -/
def execModeChange (s : State) : Res :=
  match s.tmr.requested with
  | none => .next s
  | some m =>
    let gap := (s.dev.state != .run && s.dev.state != .halt) || s.modeGap
    if s.coresRun && gap && (m != .split || s.dev.state == .stop) then .next (s.changeMode m) else .next s

/-- The free core has handed back its work, within 1 ms, and joins: the mode that was asked for is in force (R364, Table TMR-4). -/
def execFreeCoreReturn (s : State) : Res :=
  match s.tmr.returning, s.tmr.requested with
  | some _, some m =>
    let t := s.rejoin
    .next (State.setPv { t with
      tmr := { t.tmr.setMode m with returning := none } } 0x801 (modeCode m : Nat))
  | _, _ => .next s

/-! ### Interrupts (R361) -/

/-- The complex takes an entry at an instruction boundary: the fault handler's where NMI is asked for, which nothing paces (R375); else an
interrupt entry, at least 50 µs after the last one, which serves every pending source (R361). -/
def execInterruptEntry (s : State) : Res :=
  let paced := match s.tmr.irqLast with
    | some t => decide (50 * usTicks ≤ s.elapsed t)
    | none => true
  if s.coresRun && s.flt.nmiDue then .next { s with flt := { s.flt with nmiDue := false } }
  else if s.coresRun && (s.tmr.irqPending != 0 || s.flt.intDue) && paced then
    let t := s.bump 0x809 64
    .next { t with
      tmr := { t.tmr with irqLast := some t.clk.ticks, irqPending := 0 },
      flt := { t.flt with intDue := false } }
  else .next s

end Sys2Proof.Machine
end

