-- ==== Sys2Proof/Machine/Security.lean ====
section
/-!
DEFINITION. Ownership, policy, the owner lock, the debug port, attestation and tamper (R408-R423).
-/

namespace Sys2Proof.Machine

/-! ### Challenges and tokens (R409) -/

/-- The challenge a session holds, not expired. -/
def State.challengeOf (s : State) (session : Nat) : Option Challenge :=
  s.sec.challenges.find? (fun c => c.slot == session % 16 && decide (s.elapsed c.since < 600 * secTicks))

/-- A session's challenge is consumed. -/
def State.useChallenge (s : State) (session : Nat) : State :=
  { s with sec := { s.sec with challenges := s.sec.challenges.filter (fun c => c.slot != session % 16) } }

/-- A token (Table SEC-7). -/
structure Token where
  magic : Nat
  kind : Nat
  device : Nat
  signer : Nat
  challenge : List Byte
  dur : Nat
  newOwner : Nat
  zeros : Bool
deriving DecidableEq, Repr

/-- Reads a token. -/
def readToken (bs : List Byte) : Token :=
  { magic := leAt bs 0 4, kind := leAt bs 4 1, device := leAt bs 8 16, signer := leAt bs 0x18 16,
    challenge := (bs.drop 0x28).take 32, dur := leAt bs 0x48 4, newOwner := leAt bs 0x50 16,
    zeros := leAt bs 5 3 == 0 && leAt bs 0x4C 4 == 0 }

/-- What is wrong with a token, as a status of Table SEC-9: no challenge or another one; else its fields, signer or signature. -/
def State.tokenStatus (s : State) (session : Nat) (t : Token) (kinds : List Nat) (newOwner : Nat) (sigOk : Bool) : Nat :=
  let durOk := if t.kind = 3 then decide (60 ≤ t.dur) && decide (t.dur ≤ 86400)
    else if t.kind = 4 ∨ t.kind = 5 then decide (60 ≤ t.dur) && decide (t.dur ≤ 28800) else t.dur == 0
  let signer := if t.kind = 5 then Config.serviceKeyId % 2 ^ 128 else s.sec.ownerKeyId
  match s.challengeOf session with
  | none => 5
  | some c =>
    if c.value ≠ t.challenge then 5
    else if t.magic = 0x4E544B53 ∧ kinds.contains t.kind ∧ t.zeros ∧ t.device = Config.deviceId % 2 ^ 128 ∧ t.signer = signer ∧
        durOk ∧ t.newOwner = newOwner ∧ sigOk then 0
    else 6

/-- The first proof or token that names the session's challenge consumes it, used or refused (R409): a token names the one it carries, a
proof can name no other than the session's (DEDUCED, assumption log 60). -/
def State.consume (s : State) (session : Nat) (named : Option (List Byte)) : State :=
  match s.challengeOf session, named with
  | some c, some v => if c.value = v then s.useChallenge session else s
  | some _, none => s.useChallenge session
  | none, _ => s

/-- The request of an ownership operation: OWN_CLAIM or OWN_POLICY with its op (Table SEC-8). -/
def State.ownRequest (s : State) (m opcode op : Nat) : Option Request :=
  match s.request m opcode with
  | some r => if leAt r.payload 0 1 = op then some r else none
  | none => none

/-- CHALLENGE: a fresh 32-byte challenge replaces the session's old one. -/
def execChallenge (m : BitVec 4) (s : State) : Res :=
  let m := m.toNat
  match s.ownRequest m 0x80 0 with
  | none => .next s
  | some r =>
    let v := leBytes 32 (Config.random s.sec.drawn)
    let t := s.useChallenge r.session
    .next ({ t with sec := { t.sec with
      drawn := t.sec.drawn + 1, challenges := t.sec.challenges ++ [Challenge.mk (r.session % 16) v t.clk.ticks] } }.ok m v)

/-- A challenge expires after 600 s. -/
def execChallengeExpiry (slot : BitVec 4) (s : State) : Res :=
  .next { s with sec := { s.sec with challenges := s.sec.challenges.filter (fun c =>
    !(c.slot == slot.toNat && decide (600 * secTicks ≤ s.elapsed c.since))) } }

/-! ### Owner changes (R408) -/

/-- An owner change waits for its record (R408): one that clears owner data rewrites the retentive store, as an ALL record. -/
def State.startChange (s : State) (m : Nat) (owner : Option (List Byte)) (clear : Bool) : State :=
  let k : Commit :=
    { kind := .record, extra := { CommitExtra.none with all := clear, ownerChange := true }, seq := 0, pegAt := s.now, rows := [],
      data := [], changed := [], owned := [], frames := [], full := false, started := false, durable := false, acked := true, emitted := true }
  ({ s with sec := { s.sec with change := some { owner := owner, clear := clear, mbx := m } },
            img := { s.img with commits := s.img.commits ++ [k] } }).dispatch

/-- The device state lets an owner change or a debug operation (Table SEC-9). -/
def State.ownState (s : State) : Bool := s.dev.state == .stop && s.subNow != .update

/-- PAIRED and BUSY (Table SEC-9). -/
def State.ownLate (s : State) : Nat :=
  if s.dev.role == .primary || s.dev.role == .standby then 0x0A
  else if s.prog.lockSession.isSome || s.prog.staging != .idle || s.upd.stage != .none || s.sec.change.isSome then 0x0B
  else 0

/-- CLAIM: 97-byte owner key, 3 bytes 0, proof, over the session's challenge. -/
def execClaim (m : BitVec 4) (proofOk : Bool) (s : State) : Res :=
  let m := m.toNat
  match s.ownRequest m 0x80 1 with
  | none => .next s
  | some r =>
    let t := s.consume r.session none
    if !s.ownState then .next (t.refuse m 1 0)
    else if r.requester ≠ 1 then .next (t.refuse m 2 0)
    else if s.sec.owner.isSome then .next (t.refuse m 3 0)
    else if (s.challengeOf r.session).isNone then .next (t.refuse m 5 0)
    else if !proofOk then .next (t.refuse m 7 0)
    else if t.ownLate ≠ 0 then .next (t.refuse m t.ownLate 0)
    else .next (t.startChange m (some ((r.payload.drop 4).take 97)) false)

/-- TRANSFER: as CLAIM, then a token of the current owner. -/
def execTransfer (m : BitVec 4) (tokenSigOk proofOk : Bool) (s : State) : Res :=
  let m := m.toNat
  match s.ownRequest m 0x80 2 with
  | none => .next s
  | some r =>
    let key := (r.payload.drop 4).take 97
    let st := s.tokenStatus r.session (readToken (r.payload.drop 200)) [1] (keyIdOf key) tokenSigOk
    let t := s.consume r.session none
    if !s.ownState then .next (t.refuse m 1 0)
    else if s.sec.owner.isNone then .next (t.refuse m 4 0)
    else if st ≠ 0 then .next (t.refuse m st 0)
    else if !proofOk then .next (t.refuse m 7 0)
    else if t.ownLate ≠ 0 then .next (t.refuse m t.ownLate 0)
    else .next (t.startChange m (some key) true)

/-- RELEASE: a token of the current owner; the device is then unclaimed. -/
def execOwnRelease (m : BitVec 4) (tokenSigOk : Bool) (s : State) : Res :=
  let m := m.toNat
  match s.ownRequest m 0x80 3 with
  | none => .next s
  | some r =>
    let tok := readToken (r.payload.drop 4)
    let st := s.tokenStatus r.session tok [2] 0 tokenSigOk
    let t := s.consume r.session (some tok.challenge)
    if !s.ownState then .next (t.refuse m 1 0)
    else if s.sec.owner.isNone then .next (t.refuse m 4 0)
    else if st ≠ 0 then .next (t.refuse m st 0)
    else if t.ownLate ≠ 0 then .next (t.refuse m t.ownLate 0)
    else .next (t.startChange m none true)

/-! ### Policy and owner lock (R411, R413, R414) -/

/-- A policy blob's form (R411), and whether it is for this device and owner. -/
def State.policyOk (s : State) (blob : List Byte) : Bool :=
  let n := policyCount blob
  let dev := leAt blob 20 16
  decide (blob.length ≤ 1888) && leAt blob 0 4 == 0x4C4F5053 && leAt blob 4 2 == 1 && decide (n ≤ 16) &&
    blob.length == 64 + 108 * n + 96 && (dev == 0 || dev == Config.deviceId % 2 ^ 128) && leAt blob 36 16 == s.sec.ownerKeyId &&
    leAt blob 17 3 == 0 && leAt blob 52 12 == 0 &&
    (List.range n).all (fun i => leAt blob (64 + 108 * i + 1) 3 == 0 && leAt blob (64 + 108 * i + 105) 3 == 0)

/-- The policy in force keeps a session as it is. -/
def SecState.keeps (k : SecState) (y : Session) : Bool :=
  match k.grant (y.credential % 4) (y.credential / 4) y.requester with
  | .rights r => clr64 y.rights r == 0
  | _ => false

/-- INSTALL: the policy is replaced at once; every session that it no longer grants ends, the caller's after its response. -/
def execInstall (m : BitVec 4) (sigOk : Bool) (s : State) : Res :=
  let m := m.toNat
  match s.ownRequest m 0x81 1 with
  | none => .next s
  | some r =>
    let blob := r.payload.drop 4
    if s.sec.owner.isNone then .next (s.refuse m 4 0)
    else if !s.policyOk blob || !sigOk then .next (s.refuse m 8 0)
    else if leAt blob 8 4 ≤ s.sec.policySerial then .next (s.refuse m 9 0)
    else
      let t := { s with sec := { s.sec with policy := blob, policySerial := leAt blob 8 4 } }
      let hash := Config.sha384 blob
      let t := (t.log 0x41 (leBytes 4 t.sec.policySerial ++ leBytes 28 hash)).ok m (leBytes 48 hash)
      .next ((List.range 16).foldl (fun u k =>
        let y := u.session k
        if y.isOpen && !u.sec.keeps y then
          (if y.id == r.session then u.setSession k { y with closing := true } else u.endSession k)
        else u) t).mirror

/-- sec.lock: 0 open, 1 set, 2 open by token. -/
def SecState.lockCode (k : SecState) : Nat := if !k.lockSet then 0 else if k.lockOpenUntil.isSome then 2 else 1

/-- LOCK: the owner lock is set, and closed where a token held it open. -/
def execLock (m : BitVec 4) (s : State) : Res :=
  let m := m.toNat
  match s.ownRequest m 0x81 2 with
  | none => .next s
  | some _ =>
    if s.sec.owner.isNone then .next (s.refuse m 4 0)
    else
      let t := { s with sec := { s.sec with lockSet := true, lockOpenUntil := none } }
      .next ((t.log 0x42 (leBytes 1 1)).ok m []).mirror

/-- UNLOCK: a token opens the lock for its duration. -/
def execUnlock (m : BitVec 4) (tokenSigOk : Bool) (s : State) : Res :=
  let m := m.toNat
  match s.ownRequest m 0x81 3 with
  | none => .next s
  | some r =>
    let tok := readToken (r.payload.drop 4)
    let st := s.tokenStatus r.session tok [3] 0 tokenSigOk
    let t := s.consume r.session (some tok.challenge)
    if s.sec.owner.isNone then .next (t.refuse m 4 0)
    else if st ≠ 0 then .next (t.refuse m st 0)
    else
      let u := { t with sec := { t.sec with
        lockOpenUntil := if t.sec.lockSet then some (t.clk.ticks + tok.dur * secTicks) else none } }
      .next ((u.log 0x42 (leBytes 1 u.sec.lockCode)).ok m (leBytes 4 tok.dur)).mirror

/-- The unlock duration ends: the owner lock closes again. -/
def execUnlockExpiry (s : State) : Res :=
  match s.sec.lockOpenUntil with
  | some t =>
    if t ≤ s.clk.ticks then
      .next (({ s with sec := { s.sec with lockOpenUntil := none } }).log 0x42 (leBytes 1 1)).mirror
    else .next s
  | none => .next s

/-! ### The debug port (R369, R420) -/

/-- DEBUG, SERVICE_DEBUG: the port is unlocked for the token's duration; SPLIT at once, DBG_BROKEN set and raised. -/
def execDebug (m : BitVec 4) (tokenSigOk : Bool) (s : State) : Res :=
  let m := m.toNat
  match s.ownRequest m 0x81 4 with
  | none => .next s
  | some r =>
    let tok := readToken (r.payload.drop 4)
    let st := s.tokenStatus r.session tok [4, 5] 0 tokenSigOk
    let t := s.consume r.session (some tok.challenge)
    if !s.ownState then .next (t.refuse m 1 0)
    else if (tok.kind = 5) = s.sec.owner.isSome then .next (t.refuse m 4 0)
    else if st ≠ 0 then .next (t.refuse m st 0)
    else
      let u := { t with
        sec := { t.sec with debug := if tok.kind = 5 then 2 else 1, debugUntil := t.clk.ticks + tok.dur * secTicks },
        tmr := { t.tmr.setMode .split with dbgBroken := true, isolated := none, scrubbed := false, returning := none } }
      .next ((u.raise 30 0 0).ok m (leBytes 4 tok.dur))

/-- DEBUG_END: the port is locked. -/
def execDebugEnd (m : BitVec 4) (s : State) : Res :=
  let m := m.toNat
  match s.ownRequest m 0x81 5 with
  | none => .next s
  | some _ =>
    if !s.ownState then .next (s.refuse m 1 0)
    else .next ({ s with sec := { s.sec with debug := 0 } }.ok m [])

/-- The debug unlock's duration ends. -/
def execDebugExpiry (s : State) : Res :=
  whenOk (s.sec.debug != 0 && decide (s.sec.debugUntil ≤ s.clk.ticks)) s { s with sec := { s.sec with debug := 0 } }

/-! ### Attestation (R419) -/

/-- The settings copy in force. -/
def State.settingsInForce (s : State) : List Byte :=
  if s.nvm.setCopy = 0 then s.nvm.setA.bytes else if s.nvm.setCopy = 1 then s.nvm.setB.bytes else []

/-- "SAPEN ATTEST", which the signature of a report covers before it (Table SEC-11). -/
def attestLabel : List Byte :=
  [0x53#8, 0x41#8, 0x50#8, 0x45#8, 0x4E#8, 0x20#8, 0x41#8, 0x54#8, 0x54#8, 0x45#8, 0x53#8, 0x54#8]

/-- ATTEST: the report of Table SEC-11 for a verifier's nonce, signed by the identity key. -/
def execAttest (m : BitVec 4) (s : State) : Res :=
  let m := m.toNat
  match s.request m 0x82 with
  | none => .next s
  | some r =>
    let owned := s.sec.owner.isSome
    let flags := ofBits [owned, s.sec.locked, s.tmr.dbgBroken, s.sec.debug != 0, !s.tmr.retired.isEmpty || !s.tmr.laneRetired.isEmpty]
    let chainHead := match s.nvm.logRing with
      | e :: _ => e.chain
      | [] => 0
    let body := leBytes 2 1 ++ leBytes 2 0x210 ++ leBytes 2 (partNumber s.dev.part) ++ leBytes 2 s.sec.fuses ++
      leBytes 16 (Config.deviceId % 2 ^ 128) ++ r.payload.take 32 ++ leBytes 8 s.now ++ leBytes 48 (Config.loaderHash s.sec.fwVersion) ++
      leBytes 48 s.fwHash ++ leBytes 48 s.program.hash ++ leBytes 48 s.prog.netHash ++
      leBytes 48 (Config.sha384 s.settingsInForce) ++ leBytes 48 (if owned then Config.sha384 s.sec.policy else 0) ++
      leBytes 16 s.sec.ownerKeyId ++ leBytes 1 (devCode s.dev.state) ++ leBytes 1 (roleCode s.dev.role) ++ leBytes 2 flags ++
      leBytes 4 (s.pn 0x104) ++ leBytes 48 chainHead ++ leBytes 4 s.nvm.logSeq ++ leBytes 4 0
    let sig := (Config.ecdsaSign s.sec.drawn (leBytes 48 (Config.sha384 (attestLabel ++ body))) ++ List.replicate 96 0#8).take 96
    .next ({ s with sec := { s.sec with drawn := s.sec.drawn + 1 } }.ok m (body ++ sig))

/-! ### Tamper (R421) -/

/-- A tamper sensor trips; the voltage sensor is masked while a power-fail warning stands (R454). Session, TLS and SRX keys go, the
sensor is recorded, and TAMPER is raised. -/
def execTamperTrip (sensor : BitVec 2) (s : State) : Res :=
  if s.dev.state != .off && s.pwr.sec && s.fclkUp && !(sensor == 0#2 && s.pwr.warnLive) then
    let t := { s with
      sec := { s.sec with keys := [], prov := [], tls := [], srxZero := true, tamperLast := 2 ^ sensor.toNat },
      nvm := { s.nvm with setDirty := true } }
    let u := ((t.setPv 0xB1B (2 ^ sensor.toNat : Nat)).bump 0xB1A 32).raise 25 0 0
    .next { u with sec := { u.sec with tamperRec := some u.flt.seqNewest } }
  else .next s

/-- The TAMPER record is durable: K_nvm and K_log are zeroised. -/
def execTamperZeroise (s : State) : Res :=
  match s.sec.tamperRec with
  | some q => whenOk (s.resetReady q) s { s with sec := { s.sec with nvmZero := true, tamperRec := none } }
  | none => .next s

end Sys2Proof.Machine
end

