-- ==== Sys2Proof/Machine/Loader.lean ====
section
/-!
DEFINITION. Program commands, their time limits, activation and the edit step (R135-R155).
-/

namespace Sys2Proof.Machine

/-! ### The first checks of Table EDIT-7 -/

/-- The session's rights hold a bit (R412); bit 4 grants program change. -/
def State.hasRight (s : State) (id b : Nat) : Bool := bit (s.session (id % 16)).rights b

/-- BUSY, OWNER_LOCK and POLICY around the state check `okState`, in order; none where all pass. The lock that a session has lost stays
taken while its edit is ARMED or its activation is on its way (R135). -/
def State.loadGate (s : State) (id : Nat) (mine okState conflict : Bool) : Option Nat :=
  let held := match s.prog.lockSession with
    | some x => !(mine && x == id)
    | none => s.prog.staging == Staging.armed || s.prog.activation.isSome
  if held then some 1
  else if !okState then some 2
  else if s.sec.locked then some 3
  else if !s.hasRight id 4 then some 4
  else if conflict then some 5
  else none

/-- A firmware update between UPD_ACTIVATE and its confirmation (R154). -/
def State.updateBlocks (s : State) : Bool :=
  s.upd.stage == .activating || s.upd.stage == .activated || s.upd.stage == .trial || s.upd.stage == .reverting

/-- The request of mailbox `m` waits for a partner's verdict or for durability. -/
def State.loadWaits (s : State) (m : Nat) : Bool :=
  s.prog.waitMbx == some m || (match s.prog.activation with
    | some a => a.mbx == some m
    | none => false)

/-! ### Staging (R135, R137) -/

/-- The lock is taken and staging starts. -/
def State.beginStaging (s : State) (m id kind len : Nat) : State :=
  let t := { s with prog := { s.prog with
    staging := .staging, lockSession := some id, stagedKind := kind, stagedLen := len, staged := [], lastData := s.clk.ticks,
    waitMbx := none } }
  t.ok m []

/-- PRG_BEGIN (R135): the lock is taken for the session, or the request refused. -/
def execPrgBegin (m : BitVec 4) (s : State) : Res :=
  match s.request m.toNat 0x50 with
  | none => .next s
  | some r =>
    let kind := leAt r.payload 0 1
    let len := leAt r.payload 4 4
    match s.loadGate r.session false true false with
    | some st => .next (s.refuse m.toNat st 0)
    | none =>
      if slotSize < len then .next (s.refuse m.toNat 7 0xC)
      else if (kind = 1 ∨ kind = 4) ∧ leAt r.payload 1 3 = 0 then .next (s.beginStaging m.toNat r.session kind len)
      else .next (s.refuse m.toNat 8 6)

/-- EDIT_BEGIN (R135, R142): in RUN and HALT only. -/
def execEditBegin (m : BitVec 4) (s : State) : Res :=
  match s.request m.toNat 0x58 with
  | none => .next s
  | some r =>
    let len := leAt r.payload 0 4
    match s.loadGate r.session false (s.dev.state == .run || s.dev.state == .halt) false with
    | some st => .next (s.refuse m.toNat st 0)
    | none =>
      if slotSize < len then .next (s.refuse m.toNat 7 0xC) else .next (s.beginStaging m.toNat r.session 2 len)

/-- PRG_DATA (R137): the next bytes of the container, into the shadow program bank. -/
def execPrgData (m : BitVec 4) (s : State) : Res :=
  match s.request m.toNat 0x51 with
  | none => .next s
  | some r =>
    let off := leAt r.payload 0 4
    let data := r.payload.drop 4
    match s.loadGate r.session true true false with
    | some st => .next (s.refuse m.toNat st 0)
    | none =>
      if s.prog.staging != Staging.staging || off != s.prog.staged.length then .next (s.refuse m.toNat 6 off)
      else if s.prog.stagedLen < off + data.length then .next (s.refuse m.toNat 7 0xC)
      else
        let t := { s with prog := { s.prog with staged := s.prog.staged ++ data, lastData := s.clk.ticks },
                          sram := s.sram.writeL (bankAddr (1 - s.prog.bank) + off) data }
        .next (t.ok m.toNat (leBytes 4 t.prog.staged.length))

/-! ### PRG_COMMIT (R138-R141) -/

/-- A refusal that left a schedulability result shows it (R86). -/
def State.noteSched (s : State) (r : Option SchedResult) : State :=
  match r with
  | some x => s.setPv 0x701 (x.word : Nat)
  | none => s

/-- The standby gets the staged container and its verdict is awaited (R155, R178). -/
def State.offer (s : State) (m : Nat) (lead : Ns) (bs : List Byte) : State :=
  let t := s.scarfSend (offerFrames 0 bs)
  ({ t with prog := { t.prog with staging := .checking, waitMbx := some m, waitLead := lead } }).dispatch

/-- A container that passed its checks: written and left LOADED, offered to the standby, or activated. -/
def State.commitPassed (s : State) (m : Nat) (k : Checked) : State :=
  let bs := s.prog.staged
  if bit k.box.flags 0 then
    (if s.dev.role == .primary then s.offer m 0 bs else (s.startActivation (some m) k bs).dispatch)
  else
    let t := s.writeContainer k.box.kind bs
    let u := { t with prog := { t.prog with staging := .loaded, loadedAt := t.clk.ticks, lastStatus := 0, lastDetail := 0 } }
    u.ok m (u.commitData false)

/-- A LOADED container before it is activated: what it gives, and the checks of R85, R50 and R163, which an activation runs (R86). -/
def State.loadedCheck (s : State) : Except LoadFail Checked :=
  match s.passedBefore s.prog.staged with
  | none => .error (loadFail 8 0)
  | some k =>
    match (match k.net with
        | some c => demand (s.leadOk s.program (some c) 0) 0x1C 0
        | none => (s.timingCheck false k.box k.newProg k.affected).map (fun _ => ())) with
    | .error e => .error e
    | .ok _ =>
      match s.pairCheck k with
      | some c => .error (loadFail 0x1E c)
      | none => .ok k

/-- PRG_COMMIT: the checks on what is staged, or the activation of what is LOADED (R138, R139, R141). -/
def execPrgCommit (m : BitVec 4) (v : Verdict) (s : State) : Res :=
  match s.request m.toNat 0x52 with
  | none => .next s
  | some r =>
    if s.loadWaits m.toNat then .next s
    else
      let mine := s.prog.lockSession == some r.session
      match s.loadGate r.session true (s.dev.state == .stop) false with
      | some st =>
        if mine && !(st == 2 && s.prog.staging == .loaded) && s.prog.staging != .armed then .next (s.refuseLoad m.toNat st 0)
        else .next (s.refuse m.toNat st 0)
      | none =>
        match s.prog.staging with
        | .staging =>
          if s.prog.stagedKind = 2 then .next (s.refuseLoad m.toNat 6 0)
          else
            (match s.checkContainer false [s.prog.stagedKind] s.prog.staged s.prog.stagedLen v with
             | .error e => .next ((s.noteSched e.sched).refuseLoad m.toNat e.status e.detail)
             | .ok k => match s.pairCheck k with
               | some c => .next (s.refuseLoad m.toNat 0x1E c)
               | none => .next (s.commitPassed m.toNat k))
        | .loaded =>
          (match s.loadedCheck with
           | .error e => .next ((s.noteSched e.sched).refuseLoad m.toNat e.status e.detail)
           | .ok k =>
             if s.dev.role == .primary then .next (s.offer m.toNat 0 s.prog.staged)
             else .next (s.startActivation (some m.toNat) k s.prog.staged))
        | _ => .next (s.refuse m.toNat 6 0)

/-- The program record of a load is durable: step 4 of R139, in STOP. -/
def execProgramActivation (s : State) : Res :=
  match s.prog.activation with
  | some a => if a.recordDurable && s.dev.state == .stop then .next (s.activate a) else .next s
  | none => .next s

/-! ### EDIT_APPLY and the edit step (R147-R152) -/

/-- The activation instant of an edit checked now: the instant, 0 in HALT; none where no common instant falls within 60 s
(R147, R148). -/
def State.editInstant (s : State) (affected : List Nat) (lead : Ns) : Option Ns :=
  if s.dev.state == .run then
    match s.pegInstant affected (s.now + lead) 0 with
    | some (a, _) => if a ≤ s.now + 60000000000 then some a else none
    | none => none
  else
    match s.pegInstant affected 0 0 with
    | some (_, q) => if q ≤ 60000000000 then some 0 else none
    | none => none

/-- The checked edit is armed and the request answered with A and the hash from A. -/
def State.arm (s : State) (m : Nat) (k : Checked) (lead at_ : Ns) : State :=
  let bs := s.prog.staged
  let place := s.prog.place k.box.kind
  let e : ArmedEdit :=
    { kind := k.box.kind, at_ := at_, lead := lead, affected := k.affected, newProg := k.newProg, migs := k.box.migs,
      slot := place.1, chain := place.2,
      slotBytes := if k.box.kind = 2 then s.prog.slotBytes + bs.length else bs.length }
  let t := (s.writeContainer k.box.kind bs).fillBank (1 - s.prog.bank) k.newProg
  let u := { t with prog := { t.prog with staging := .armed, armed := some e, waitMbx := none, lastStatus := 0, lastDetail := 0 } }
  u.ok m (leBytes 8 at_ ++ leBytes 48 k.newProg.hash)

/-- EDIT_APPLY: the checks on what is staged; a pass arms the edit, after the standby's verdict in a pair (R138, R147, R155). The spec
gives no status for a lead outside 1 ms to 10 s: it is refused with a free one (assumption log 5). -/
def execEditApply (m : BitVec 4) (v : Verdict) (s : State) : Res :=
  match s.request m.toNat 0x59 with
  | none => .next s
  | some r =>
    if s.loadWaits m.toNat then .next s
    else
      let lead := leAt r.payload 0 4 * 1000
      let mine := s.prog.lockSession == some r.session
      match s.loadGate r.session true (s.dev.state == .run || s.dev.state == .halt) s.updateBlocks with
      | some st =>
        if mine && s.prog.staging != .armed then .next (s.refuseLoad m.toNat st 0) else .next (s.refuse m.toNat st 0)
      | none =>
        if s.prog.staging != Staging.staging || s.prog.stagedKind != 2 then
          (if s.prog.staging == Staging.staging || s.prog.staging == Staging.loaded then .next (s.refuseLoad m.toNat 6 0)
           else .next (s.refuse m.toNat 6 0))
        else if lead < 1000000 || decide (10000000000 < lead) then
          .next (s.draw.2.refuseLoad m.toNat (1 + s.draw.1 % 65535) 0)
        else
          match s.checkContainer true [2, 3] s.prog.staged s.prog.stagedLen v with
          | .error e => .next ((s.noteSched e.sched).refuseLoad m.toNat e.status e.detail)
          | .ok k =>
            match s.editInstant k.affected lead with
            | none => .next (s.refuseLoad m.toNat 0x1D 0)
            | some a =>
              match s.pairCheck k with
              | some c => .next (s.refuseLoad m.toNat 0x1E c)
              | none =>
                if s.dev.role == .primary then .next (s.offer m.toNat lead s.prog.staged)
                else .next (s.arm m.toNat k lead a)

/-- The standby has passed the container that the primary waits for: the load goes on as it would have alone (R155), in a state that
allows it (R139, R141, R142). -/
def State.verdictPassed (s : State) (m : Nat) : State :=
  let t := { s with prog := { s.prog with waitMbx := none } }
  let edit := s.prog.stagedKind == 2
  if !(if edit then s.dev.state == .run || s.dev.state == .halt else s.dev.state == .stop) then t.refuseLoad m 2 0
  else
  match t.passedBefore t.prog.staged with
  | none => t.refuseLoad m 8 0
  | some k =>
    if edit then
      match t.editInstant k.affected t.prog.waitLead with
      | some a => t.arm m k t.prog.waitLead a
      | none => t.refuseLoad m 0x1D 0
    else t.startActivation (some m) k t.prog.staged

/-- The edit step may be taken: A has come, every peg at or before A is done, and the standby has acknowledged it (R149). -/
def State.editDue (s : State) (e : ArmedEdit) : Bool :=
  s.dev.state == .run && s.dev.role != .standby && e.at_ != 0 && decide (e.at_ ≤ s.now) && !s.pegBefore e.at_ &&
    s.img.commits.all Commit.acked

/-- The edit step at A (R149-R151): the migration into remapped DB pages, the swap, the commit record with the program record, and
in a pair its delta. -/
def State.takeEdit (s : State) (e : ArmedEdit) : State :=
  let old := s.program
  let ws := migWrites old e.newProg (fun i => s.committed (mkPt 6 i)) e.migs
  let sameRet := old.rets == e.newProg.rets
  let pages := (ws.map (fun w => ptPage w.1)).eraseDups
  let s1 := { s with sram := writePts s.sram ws, img := { s.img with pegSeq := s.img.pegSeq + 1, lastPeg := e.at_ } }
  let s2 := pages.foldl (fun t g => t.bumpPage g) s1
  let s3 := s2.editSwap e
  let rows := if sameRet then e.newProg.rowsOf ws else []
  let held := s.dev.role == .primary && s.stby.sync == 2
  let k : Commit :=
    { kind := .edit, extra := { CommitExtra.none with all := !sameRet, slot := e.slot, chain := e.chain }, seq := s3.img.pegSeq, pegAt := e.at_,
      rows := rows, data := if sameRet then rows.map (fun r => (r, s3.rowData r)) else s3.allRows e.newProg [],
      changed := [], owned := [],
      frames := s3.pinPages ((ws.filter (fun w => (e.newProg.rowOf w.1).isSome)).map (fun w => ptPage w.1)).eraseDups,
      full := false, started := false, durable := false, acked := !held, emitted := true }
  let s4 := { s3 with img := { s3.img with commits := s3.img.commits ++ [k] } }
  (s4.sendDelta 255 k.seq e.at_ pages ws rows []).mirror

/-- EDIT_STEP at the armed edit's instant. -/
def execEditStep (s : State) : Res :=
  match s.prog.armed with
  | none => .next s
  | some e => if s.editDue e then .next (s.takeEdit e) else .next s

/-! ### Time limits (R135) -/

/-- 60 s in STAGING without a PRG_DATA: the lock is released and what is staged goes. -/
def execStagingTimeout (s : State) : Res :=
  whenOk (s.prog.staging == .staging && decide (60 * secTicks ≤ s.elapsed s.prog.lastData)) s s.releaseLock

/-- 600 s in LOADED without the activating PRG_COMMIT. -/
def execLoadedTimeout (s : State) : Res :=
  whenOk (s.prog.staging == .loaded && decide (600 * secTicks ≤ s.elapsed s.prog.loadedAt)) s s.releaseLock

end Sys2Proof.Machine
end

