-- ==== Sys2Proof/Machine/Standby.lean ====
section
/-!
DEFINITION. The scarf link and the pair (R157-R179): link, negotiation, deltas, resync, takeover and planned switchover.
-/

namespace Sys2Proof.Machine

/-! ### Receiving a frame (R158, R159) -/

/-- Whether a frame is taken: both lanes hold lock, its CRC is good and its sequence follows the previous valid frame. -/
def State.scarfGood (s : State) (h : ScarfHdr) : Bool :=
  s.stby.lane0 && s.stby.lane1 && h.crcOk && (match s.stby.rxSeq with
    | some q => h.seq == (q + 1) % 2 ^ 32
    | none => true)

/-- A good frame: its end renews the link. -/
def State.scarfTaken (s : State) (h : ScarfHdr) : State :=
  ({ s with stby := { s.stby with rxAt := s.clk.ticks, rxTime := s.now, rxSeq := some h.seq } }).followDue

/-- A frame with a bad CRC or out of sequence is discarded and counted; the frames that follow are taken normally. -/
def State.scarfDropped (s : State) (h : ScarfHdr) : State :=
  let t := s.bump 0xE0A 32
  { t with stby := { t.stby with rxSeq := if h.crcOk then some h.seq else none } }

/-- Takes a frame and goes on with it, or discards it; nothing is received while a lane has no lock. -/
def State.onFrame (s : State) (h : ScarfHdr) (f : State → State) : Res :=
  if s.scarfGood h then .next (f (s.scarfTaken h))
  else if s.stby.lane0 && s.stby.lane1 then .next (s.scarfDropped h)
  else .next s

/-! ### Link -/

/-- HELLO of this unit (R161, assumption log 36 for its byte order). -/
def State.helloFrame (s : State) : ScarfOut :=
  ScarfOut.mk 2 0 0 (leBytes 2 (partNumber s.dev.part) ++ leBytes 2 s.sec.fwPair ++ leBytes 16 s.sec.ownerKeyId ++
    leBytes 48 s.program.hash ++ leBytes 48 s.prog.netHash ++ leBytes 1 s.unit ++ leBytes 1 (devCode s.dev.state) ++
    leBytes 2 0 ++ leBytes 4 s.stby.epoch)

/-- The unit may negotiate: stby.mode is PAIR, it is SOLO and in STOP, RUN or HALT (R161, R162). -/
def State.mayPair (s : State) : Bool := s.pn 0xE00 == 1 && s.dev.role == .solo && pairState s.dev.state

/-- Both receive lanes hold lock (R157, R161): the link is up, and a unit that joins sends HELLO. -/
def execScarfLinkUp (s : State) : Res :=
  if s.pwr.scarf && !s.stby.linkUp then
    let t := { s with stby := { s.stby with
      lane0 := true, lane1 := true, linkUp := true, rxAt := s.clk.ticks, rxTime := s.now, rxSeq := none,
      joining := s.pn 0xE00 == 1 && s.pv 0xE05 == 1 } }
    let u := t.condOver 24
    .next (if u.stby.joining && u.mayPair then u.scarfSend [u.helloFrame] else u)
  else .next s

/-- A receive lane loses lock: the unit stops transmitting on both lanes (R157). -/
def execScarfLaneLockLoss (lane : Nat) (s : State) : Res :=
  .next { s with stby := { s.stby with
    lane0 := s.stby.lane0 && lane != 0, lane1 := s.stby.lane1 && lane != 1,
    tx := if lane < 2 then [] else s.stby.tx } }

/-! ### Takeover (R174, R175) -/

/-- The points of a delta page that its mask marks, with their values (R46, R167). -/
def DeltaPg.writes (d : DeltaPg) : List (Nat × Nat) :=
  let isBit := areaIsBit (d.page / 4096)
  let per := if isBit then 32768 else 2048
  let base := mkPt (d.page / 4096) (d.page % 4096 * per)
  (List.range per).filterMap (fun i =>
    if bit (leAt d.mask (i / 8) 1) (i % 8) then
      some (base + i, if isBit then b2n (bit (leAt d.data (i / 8) 1) (i % 8)) else leAt d.data (2 * i) 2)
    else none)

/-- One acknowledged delta applied: marked points of pages newer than their copies, cells, and a commit of the listed rows; an
edit's delta also swaps the armed program in, with every row where it lays the retentive ranges out anew (R167, R170, R178). A
context's consecutive drops end with its peg (R60, R169). -/
def State.applyDelta (s : State) (d : Delta) : State :=
  let fresh := d.pages.filter (fun g => match tfind s.stby.copied g.page with
    | some q => decide (q < d.peg)
    | none => true)
  let ws := fresh.flatMap DeltaPg.writes
  let edit := if d.ctx = 255 then s.prog.armed else none
  let s1 := { s with sram := writePts s.sram ws,
                     img := { s.img with cells := d.cells.foldl Cells.take s.img.cells, pegSeq := d.peg, lastPeg := d.pegAt } }
  let s2 := fresh.foldl (fun t g => t.bumpPage g.page) s1
  let s3 := match edit with
    | some e => s2.editSwap { e with at_ := d.pegAt }
    | none => s2
  let all := match edit with
    | some e => s.program.rets != e.newProg.rets
    | none => false
  let extra := match edit with
    | some e => { CommitExtra.none with all := all, slot := e.slot, chain := e.chain }
    | none => CommitExtra.none
  let k : Commit :=
    { kind := if d.ctx = 255 then .edit else .peg d.ctx, extra := extra, seq := d.peg, pegAt := d.pegAt,
      rows := if all then [] else d.rows,
      data := if all then s3.allRows s3.program [] else d.rows.map (fun r => (r, s3.rowData r)), changed := [], owned := [], frames := [], full := false, started := false, durable := false,
      acked := true, emitted := true }
  let s4 := { s3 with img := { s3.img with commits := s3.img.commits ++ [k] } }
  if d.ctx = 255 then s4
  else s4.setCtx d.ctx { s4.ctx d.ctx with consec := 0, capRaised := false, commitAt := some s4.clk.ticks, lastPegAt := some d.pegAt }

/-- Every acknowledged delta not yet applied, in peg order. -/
def State.applyAll (s : State) : State :=
  let t := s.stby.acked.foldl State.applyDelta s
  { t with stby := { t.stby with acked := [] } }

/-- ROLE in the log: old role, new role, epoch. -/
def State.logRole (s : State) (old new : Role) : State :=
  s.log 0x32 (leBytes 1 (roleCode old) ++ leBytes 1 (roleCode new) ++ leBytes 2 0 ++ leBytes 4 s.stby.epoch)

/-- A LEVEL standby takes over from the end of the last valid frame L0, in the state that its primary last sent (R175). -/
def State.takeOver (s : State) : State :=
  let t0 := ({ s with stby := { s.stby with staged := [] } }).applyAll
  let t := match t0.stby.follow with
    | some (_, st) => t0.followTo st
    | none => t0
  let u := (t.leavePair false).claimToken
  let v := if u.dev.state == .run then (u.placeReleases u.now).countSkipped s.stby.rxTime else u
  let w := (v.bump 0xE0E 32).setPv 0xE0F (v.now - s.stby.rxTime : Nat)
  { w with stby := { w.stby with last := some { at_ := w.now, epoch := w.stby.epoch, dur := w.now - s.stby.rxTime } } }

/-- A standby without a level image becomes SOLO in STOP (R174). -/
def State.standbyStops (s : State) : State :=
  let t := s.leavePair false
  if t.dev.state == .stop then t else t.enter .stop 0 true

/-- The partner is gone: link lost, or LEAVE (R174). -/
def State.partnerGone (s : State) : State :=
  match s.dev.role with
  | .standby => if s.stby.sync = 2 then s.takeOver else s.standbyStops
  | .primary => s.leavePair false
  | _ => s

/-- 15 µs without the end of a valid frame, or a lane without lock: the link is lost (R160, R174). -/
def execScarfLinkLost (s : State) : Res :=
  if s.stby.linkUp && (decide (15 * usTicks ≤ s.elapsed s.stby.rxAt) || !s.stby.lane0 || !s.stby.lane1) then
    let t := { s with stby := { s.stby with linkUp := false, joining := false } }
    .next ((t.raise 24 0 0).partnerGone).mirror
  else .next s

/-- With nothing else to send, HEARTBEAT; a unit that still waits to join sends HELLO in its place (R159, R161). -/
def execScarfHeartbeatSend (s : State) : Res :=
  if s.stby.lane0 && s.stby.lane1 then
    if s.stby.joining && s.mayPair then .next (s.scarfSend [s.helloFrame])
    else .next (s.scarfSend [ScarfOut.mk 1 0 0 (leBytes 8 s.now ++ leBytes 1 (roleCode s.dev.role) ++
      leBytes 1 s.stby.sync ++ leBytes 2 0 ++ leBytes 4 s.stby.epoch)])
  else .next s

/-- HEARTBEAT (R159): the partner's time, sync state and epoch; a primary judges its standby LEVEL by acknowledgements alone (R165). A standby whose partner has become SOLO leaves the pair for STOP,
with a LEAVE (Table STBY-9, assumption log 37). -/
def execScarfHeartbeat (h : ScarfHdr) (stime role _sync epoch : Nat) (s : State) : Res :=
  s.onFrame h (fun t =>
    let u := { t with stby := { t.stby with partnerTime := stime, partnerEpoch := epoch } }
    if u.dev.role == .standby && role == 0 then ((u.scarfSend [leaveFrame 0]).standbyStops).mirror else u.mirror)

/-! ### Negotiation (R161-R163) -/

/-- The first row of Table STBY-4 that matches: a refusal code, or the role this unit takes; none where a unit is in another
state. -/
def State.negotiate (s : State) (p : Hello) : Option (Except Nat Role) :=
  let mine := s.dev.state
  let theirs := p.state
  let run (c : Nat) : Bool := c == 4 || c == 5
  let ok (c : Nat) : Bool := c == 3 || c == 4 || c == 5
  let me := devCode mine
  if p.part ≠ partNumber s.dev.part then some (.error 1)
  else if p.pairVer ≠ s.sec.fwPair then some (.error 2)
  else if p.ownerKeyId ≠ s.sec.ownerKeyId then some (.error 3)
  else if run me && run theirs then some (.error 4)
  else if run me && theirs == 3 then some (.ok Role.primary)
  else if me == 3 && run theirs then some (.ok Role.standby)
  else if me == 3 && theirs == 3 then
    (if p.unit = s.unit then some (.error 5) else some (.ok (if s.unit = 0 then Role.primary else Role.standby)))
  else if !ok me || !ok theirs then none
  else none

/-- The conditions of R163 on this unit's configuration as PRIMARY: the code of Table STBY-6 that fails. -/
def State.primaryBad (s : State) : Option Nat :=
  let t := { s with dev := { s.dev with role := .primary } }
  let p := t.inForce t.program []
  if (t.schedCheck p 0).code ≠ 0 then some 6
  else if !t.leadOk p t.net.cfg 0 then some 7
  else pairBad p t.net.cfg

/-- Negotiation fails: both units stay SOLO (R162). -/
def State.pairRefused (s : State) (code : Nat) : State :=
  let t := s.log 0x30 (leBytes 1 code)
  { t with stby := { t.stby with refusal := code, joining := false } }

/-- LEAVE: the partner leaves the pair now (R174); one that refuses the pair has its code on both units (R162). -/
def execLeave (h : ScarfHdr) (code : Nat) (s : State) : Res :=
  s.onFrame h (fun t => (if code = 0 then t.partnerGone else t.partnerGone.pairRefused code).mirror)

/-- The containers of the current slot, and of the current network configuration, as FeRAM holds them. -/
def State.slotBytesNow (s : State) : List Byte := if s.prog.slot < 2 then s.feram.readN (slotAddr s.prog.slot) s.prog.slotBytes else []
/-- See `slotBytesNow`. -/
def State.netBytesNow (s : State) : List Byte :=
  if s.prog.netCopy < 2 then s.feram.readN (netAddr s.prog.netCopy) (leNat (s.feram.readN (netAddr s.prog.netCopy + 0xC) 4)) else []

/-- What the standby has still to be given at pairing, one after another; then state, forces and a copy (R162, R164, R169, R170). -/
def State.offerNext (s : State) : State :=
  match s.stby.offers with
  | k :: _ => s.scarfSend (offerFrames k (if k = 1 then s.slotBytesNow else s.netBytesNow))
  | [] => (s.scarfSend [ctrlStateFrame s.dev.state s.now, s.ctrlForceFrame]).startResync

/-- The results of the check that entry into PRIMARY makes (R86, R163). -/
def State.applyPrimary (s : State) : State :=
  let p := s.inForce s.program []
  s.applySched (s.schedCheck p 0) p

/-- The unit becomes PRIMARY: an armed edit is abandoned (R153), the check's results are those of a pair (R86), and what differs is
offered to the standby (R162). -/
def State.becomePrimary (s : State) (p : Hello) : State :=
  let a := s.abandonEdit 2
  let t := { a with
    dev := { a.dev with role := .primary },
    stby := { a.stby with
      joining := false, refusal := 0, partnerEpoch := p.epoch, sync := 1, copyDone := false,
      offers := (if p.progHash = s.program.hash then [] else [1]) ++ (if p.netHash = s.prog.netHash then [] else [2]) } }
  ((t.logRole .solo .primary).applyPrimary.offerNext).mirror

/-- The unit becomes STANDBY, SYNCING (R162, R165). -/
def State.becomeStandby (s : State) (p : Hello) : State :=
  let a := s.abandonEdit 2
  let t := { a with
    dev := { a.dev with role := .standby },
    stby := { a.stby with joining := false, refusal := 0, sync := 1, refusing := false, staged := [], acked := [], copied := [],
                          copyDone := false, partnerEpoch := p.epoch } }
  (t.logRole .solo .standby).mirror

/-- HELLO (R162): the roles are settled by Table STBY-4; a unit that has not sent its own HELLO answers with it. -/
def execHello (h : ScarfHdr) (p : Hello) (s : State) : Res :=
  s.onFrame h (fun t =>
    if t.mayPair then
      let u := if t.stby.joining then t else t.scarfSend [t.helloFrame]
      match u.negotiate p with
      | none => u
      | some (.error c) => u.pairRefused c
      | some (.ok .primary) =>
        (match u.primaryBad with
         | some c => (u.pairRefused c).scarfSend [leaveFrame c]
         | none => u.becomePrimary p)
      | some (.ok _) => u.becomeStandby p
    else t)

/-! ### Deltas on the standby (R165-R167) -/

/-- The armed edit of a standby that loses its level image is withdrawn (R153, R178). -/
def State.withdraw (s : State) : State :=
  if s.prog.armed.isSome then (s.abandonEdit 3).scarfSend [ctrlFrame 5 (leBytes 2 0x1E ++ leBytes 4 0)] else s

/-- Deltas are taken by a standby, and by the new primary of a switchover until SWITCH_DONE (R167, R176); after one that was refused
every later one is discarded until the resync (R167). -/
def State.takesDeltas (s : State) : Bool :=
  (s.dev.role == .standby || (s.dev.role == .primary && s.stby.holdEmit)) && !s.stby.refusing

/-- A delta refused: NAK, the delta and every later one are discarded, and the standby is SYNCING (R167). -/
def State.sendNak (s : State) (peg reason : Nat) : State :=
  let t := s.scarfSend [ScarfOut.mk 0x14 0 peg (leBytes 1 reason)]
  ({ t with stby := { t.stby with staged := [], refusing := true, sync := 1, copyDone := false } }).withdraw.mirror

/-- A frame of a delta: taken, or where it is lost the delta is refused (R167). -/
def State.onDelta (s : State) (h : ScarfHdr) (f : State → State) : Res :=
  if s.takesDeltas && s.stby.lane0 && s.stby.lane1 && !s.scarfGood h then
    .next ((s.scarfDropped h).sendNak h.peg (if h.crcOk then 2 else 1))
  else s.onFrame h (fun t => if t.takesDeltas then f t else t)

/-- DELTA_PAGE: a page staged, with the mask that it carries. -/
def execDeltaPage (h : ScarfHdr) (page : Nat) (data mask : List Byte) (s : State) : Res :=
  s.onDelta h (fun t =>
    if 256 ≤ t.stby.stagedFrames then t.sendNak h.peg 3
    else ({ t with stby := { t.stby with staged := t.stby.staged ++ [DeltaPg.mk page data mask] } }).notePool)

/-- DELTA_MASK: the mask of a staged Q or M page. -/
def execDeltaMask (h : ScarfHdr) (page : Nat) (mask : List Byte) (s : State) : Res :=
  s.onDelta h (fun t =>
    { t with stby := { t.stby with staged := t.stby.staged.map (fun g => if g.page = page then { g with mask := mask } else g) } })

/-- DELTA_END: the delta is acknowledged where its pages are all there and their CRC matches (R165, R166, R167). -/
def execDeltaEnd (h : ScarfHdr) (d : DeltaEnd) (s : State) : Res :=
  s.onDelta h (fun t =>
    let crc := (crc32c (t.stby.staged.flatMap (fun g => g.data ++ g.mask))).toNat
    if t.stby.staged.length ≠ d.pages then t.sendNak h.peg 2
    else if crc ≠ d.crc then t.sendNak h.peg 1
    else
      let a : Delta := { peg := h.peg, ctx := d.ctx, pegAt := d.pegAt, pages := t.stby.staged, rows := d.rows, cells := d.cells }
      let u := t.scarfSend [ScarfOut.mk 0x13 0 h.peg (leBytes 4 d.crc)]
      ({ u with stby := { u.stby with staged := [], acked := u.stby.acked ++ [a],
                                      sync := if u.stby.copyDone then 2 else u.stby.sync } }).mirror)

/-- The oldest acknowledged delta is applied (R167). -/
def execDeltaApply (s : State) : Res :=
  match s.stby.acked with
  | [] => .next s
  | d :: rest =>
    let t := s.applyDelta d
    .next { t with stby := { t.stby with acked := rest } }

/-- DROP: a forwarded drop in the standby's counters (R169); POWER and STATE are not counted (R60, Table SHOT-4). -/
def execDropFrame (h : ScarfHdr) (c reason count : Nat) (s : State) : Res :=
  s.onFrame h (fun t =>
    if t.dev.role == .standby && decide (reason ≤ 4) then
      let x := t.ctx c
      let cap := match x.cfg with
        | some e => e.dropCap
        | none => 3
      let consec := min 255 (x.consec + 1)
      t.setCtx c { x with drops := count, consec := consec, lastReason := reason, capRaised := x.capRaised || decide (cap ≤ consec) }
    else t)

/-! ### Acknowledgements on the primary (R168) -/

/-- The commits that an acknowledgement of `peg` frees. -/
def Image.ackPeg (l : List Commit) (peg : Nat) : List Commit :=
  (l.map (fun c => if c.seq = peg then { c with acked := true } else c)).filter (fun c => !(c.durable && c.emitted && c.acked))

/-- ACK: the shot of the peg may emit (R65, R168); the first one after a copy makes the standby LEVEL (R165). -/
def execAck (h : ScarfHdr) (crc : Nat) (s : State) : Res :=
  s.onFrame h (fun t =>
    if t.stby.outstanding.any (fun o => o.peg == h.peg && o.crc == crc) then
      let since := match t.img.commits.find? (fun c => c.seq == h.peg) with
        | some c => t.now - c.pegAt
        | none => 0
      let u := { t with
        stby := { t.stby with outstanding := t.stby.outstanding.filter (fun o => o.peg != h.peg),
                              sync := if t.stby.copyDone then 2 else t.stby.sync },
        img := { t.img with commits := Image.ackPeg t.img.commits h.peg } }
      (((u.setPv 0x630 since).worst 0x631 since).finishDrain).mirror
    else t)

/-- No shot waits for an acknowledgement any more: a primary starts a resync; the old primary of a switchover, now the standby,
emits and has no copy to give (R168, R176, assumption log 46). -/
def State.ackGivenUp (s : State) : State :=
  (if s.dev.role == .primary then s.startResync
   else { s with stby := { s.stby with outstanding := [] }, img := { s.img with commits := Image.ackAll s.img.commits } }).finishDrain.mirror

/-- The unit waits for acknowledgements: it is the primary, or was until the switchover whose SWITCH_DONE it owes (R168, R176). -/
def State.waitsAcks (s : State) : Bool := s.dev.role == .primary || s.stby.owesDone

/-- NAK: counted, and a resync (R168). -/
def execNak (h : ScarfHdr) (reason : Nat) (s : State) : Res :=
  s.onFrame h (fun t => if t.waitsAcks then ((t.bump 0xE0C 32).raiseEvent 24 1 reason).ackGivenUp else t)

/-- The deadline of an acknowledgement passes while the link is up: counted, and a resync (R168). -/
def execAckDeadline (s : State) : Res :=
  if s.waitsAcks && s.stby.linkUp && s.stby.outstanding.any (fun o => decide (o.deadline ≤ s.clk.ticks)) then
    .next ((s.bump 0xE0B 32).raiseEvent 24 2 0).ackGivenUp
  else .next s

/-! ### The copy (R170) -/

/-- An SRAM byte of the image or of DB (Table ARCH-4). -/
def imageByte (a : Nat) : Bool := decide (0xC00000 ≤ a) && decide (a < 0xDBC000)

/-- CTRL RESYNC: image, DB, cells and edges are discarded, and the standby is SYNCING. -/
def execResync (h : ScarfHdr) (s : State) : Res :=
  s.onFrame h (fun t =>
    if t.dev.role == .standby then
      let u := { t with
        sram := t.sram.restrict (fun a => !imageByte a),
        img := { t.img with cells := Cells.init },
        stby := { t.stby with sync := 1, refusing := false, staged := [], acked := [], copyDone := false, copied := [], progress := 0 } }
      u.withdraw.mirror
    else t)

/-- COPY_PAGE: a page of the image or DB and the peg sequence of the copied version. -/
def execCopyPage (h : ScarfHdr) (page peg : Nat) (data : List Byte) (s : State) : Res :=
  s.onFrame h (fun t =>
    if t.dev.role == .standby && t.imagePages.contains page then
      let u := { t with sram := t.sram.writeL (pageAddr page) (data.take 4096),
                        stby := { t.stby with copied := tset t.stby.copied page peg } }
      { u with stby := { u.stby with progress := 1000 * u.stby.copied.length / max 1 u.imagePages.length } }
    else t)

/-- COPY_CELLS: timer cells, counter cells and edge words. -/
def execCopyCells (h : ScarfHdr) (cells : List CellRec) (s : State) : Res :=
  s.onFrame h (fun t =>
    if t.dev.role == .standby then { t with img := { t.img with cells := cells.foldl Cells.take t.img.cells } } else t)

/-- COPY_END: the copy is whole, and the retentive store is rebuilt from it (R165, R170). -/
def execCopyEnd (h : ScarfHdr) (pages cells : Nat) (s : State) : Res :=
  s.onFrame h (fun t =>
    if t.dev.role == .standby && pages == t.stby.copied.length then
      let k : Commit :=
        { kind := .record, extra := { CommitExtra.none with all := true }, seq := t.img.pegSeq, pegAt := t.now, rows := [],
          data := t.allRows t.program [], changed := [], owned := [], frames := [], full := false, started := false, durable := false, acked := true, emitted := true }
      { t with stby := { t.stby with copyDone := true, progress := 1000 },
               img := { t.img with commits := t.img.commits ++ [k] } }
    else if cells = 0 then t else t)

/-! ### State, forces, edits -/

/-- CTRL STATE: the standby follows the primary at the sent instant (R164). -/
def execCtrlState (h : ScarfHdr) (st at_ : Nat) (s : State) : Res :=
  s.onFrame h (fun t =>
    if t.dev.role == .standby && (st == 3 || st == 4 || st == 5) then
      ({ t with stby := { t.stby with follow := some (at_, st), partnerState := st } }).followDue
    else t)

/-- CTRL FORCE: the complete force list (R169). -/
def execCtrlForce (h : ScarfHdr) (forces : List (Nat × Nat)) (s : State) : Res :=
  s.onFrame h (fun t =>
    if t.dev.role == .standby then { t with img := { t.img with forces := forces.foldl (fun l f => tset l f.1 f.2) [] } } else t)

/-- EDIT_VERDICT to the primary. -/
def verdictFrame (status detail : Nat) : ScarfOut := ctrlFrame 5 (leBytes 2 status ++ leBytes 4 detail)

/-- An online edit that passes on the standby waits for its delta (R178). -/
def State.armOffered (s : State) (k : Checked) (bs : List Byte) : State :=
  let place := s.prog.place k.box.kind
  let e : ArmedEdit :=
    { kind := k.box.kind, at_ := 0, lead := 0, affected := k.affected, newProg := k.newProg, migs := k.box.migs, slot := place.1,
      chain := place.2, slotBytes := if k.box.kind = 2 then s.prog.slotBytes + bs.length else bs.length }
  let t := (s.writeContainer k.box.kind bs).fillBank (1 - s.prog.bank) k.newProg
  { t with prog := { t.prog with staging := .armed, armed := some e } }

/-- The verdict on a container of which an activation or an edit is on its way. -/
def State.verdict (s : State) (status detail : Nat) : State := s.scarfSend [verdictFrame status detail]

/-- A slot's containers from the primary: verified under R134 and activated with the retentive store cleared; the verdict of one that
verifies goes when it is active (R162, assumption log 46). -/
def State.takeSlot (s : State) (bs : List Byte) (v : Verdict) : State :=
  let chain := chainLen 16 bs
  match rebuild bs chain, parse (bs.take (leAt bs 0xC 4)) 0 with
  | some p, .ok box =>
    (match s.trustCheck box bs.length v with
     | .error e => s.verdict e.status e.detail
     | .ok _ =>
       let k : Checked := { box := box, newProg := p, net := none, affected := userCtxs, sched := none }
       ({ s with stby := { s.stby with offerKind := 1 } }).startProgram none k bs chain true)
  | _, _ => s.verdict 8 0

/-- The primary's network configuration: verified under R134 and activated (R162). -/
def State.takeNetCopy (s : State) (bs : List Byte) (v : Verdict) : State :=
  match parse bs 0 with
  | .error d => s.verdict 8 d
  | .ok box =>
    if box.kind ≠ 4 then s.verdict 8 6
    else
      match s.trustCheck box bs.length v with
      | .error e => s.verdict e.status e.detail
      | .ok _ => ({ s with stby := { s.stby with offerKind := 2 } }).startNet none
          { netOf bs box.secs with hash := Config.sha384 box.signed } bs

/-- The state checks of Table EDIT-7 on a container that the primary has staged: 0 where all pass. -/
def State.offerGate (s : State) (edit : Bool) : Nat :=
  if s.prog.activation.isSome || s.prog.armed.isSome then 1
  else if !(if edit then s.dev.state == .run || s.dev.state == .halt else s.dev.state == .stop) then 2
  else if s.sec.locked then 3
  else if edit && s.updateBlocks then 5
  else 0

/-- The standby's own checks of Table EDIT-7 on a staged container (R155, R178): an edit that passes is armed, a load activated. -/
def State.judgeOffer (s : State) (bs : List Byte) (v : Verdict) : State :=
  let edit := leAt bs 6 1 == 2 || leAt bs 6 1 == 3
  if s.offerGate edit ≠ 0 then s.verdict (s.offerGate edit) 0
  else
    match s.checkContainer edit (if edit then [2, 3] else [1, 4]) bs bs.length v with
    | .error e => s.verdict e.status e.detail
    | .ok k => (if edit then s.armOffered k bs else s.startActivation none k bs).verdict 0 0

/-- EDIT_OFFER: a segment; with the last one the standby checks the container and answers with its verdict (R155, R162, R178). -/
def execEditOffer (h : ScarfHdr) (purpose left : Nat) (data : List Byte) (v : Verdict) (s : State) : Res :=
  s.onFrame h (fun t =>
    if t.dev.role == .standby then
      let bs := t.stby.offerBuf ++ data
      if left ≠ 0 then { t with stby := { t.stby with offerBuf := bs } }
      else
        let u := { t with stby := { t.stby with offerBuf := [] } }
        if purpose = 0 then u.judgeOffer bs v else if purpose = 1 then u.takeSlot bs v else u.takeNetCopy bs v
    else t)

/-- EDIT_VERDICT: the load that waits goes on, or is refused with PARTNER and the standby's status; what pairing sent is in place, or the
pair is left where it does not verify (R162, assumption log 46); a withdrawal abandons an armed edit (R153, R155). -/
def execEditVerdict (h : ScarfHdr) (status detail : Nat) (s : State) : Res :=
  s.onFrame h (fun t =>
    if t.dev.role == .primary then
      match t.prog.waitMbx with
      | some m => if status = 0 then t.verdictPassed m else t.refuseLoad m 0x1E status
      | none =>
        match t.stby.offers with
        | _ :: rest =>
          (if status = 0 then ({ t with stby := { t.stby with offers := rest } }).offerNext else t.leavePair true).mirror
        | [] => if status = 0 ∧ detail = 0 then t else t.abandonEdit 3
    else t)

/-! ### Planned switchover (R176) -/

/-- CTRL SWITCH: the standby learns X. -/
def execSwitch (h : ScarfHdr) (at_ : Nat) (s : State) : Res :=
  s.onFrame h (fun t => if t.dev.role == .standby then { t with stby := { t.stby with switchAt := some at_ } } else t)

/-- The old primary at X: it becomes the standby, releases nothing more, and owes SWITCH_DONE. -/
def State.switchOut (s : State) : State :=
  let t := (s.abandonEdit 2).stopReleases
  let u := { t with
    dev := { t.dev with role := .standby },
    stby := { t.stby with switchAt := none, sync := 2, owesDone := true, refusing := false, staged := [], acked := [], copied := [], copyDone := true } }
  ((u.logRole .primary .standby).finishSwitch).mirror

/-- The new primary at X: it claims the token, takes the releases at X and holds its emissions; deltas of pegs at or before X still come
(R86, R176). Where its own checks of R163 fail it refuses the pair instead, and its partner goes on (assumption log 46). -/
def State.switchIn (s : State) (x : Ns) : State :=
  match s.primaryBad with
  | some c => (((s.pairRefused c).scarfSend [leaveFrame c]).standbyStops).mirror
  | none =>
    let a := s.abandonEdit 2
    let t := { a with
      dev := { a.dev with role := .primary },
      stby := { a.stby with switchAt := none, sync := 2, holdEmit := true, copyDone := true, outstanding := [] } }
    ((((t.logRole .standby .primary).applyPrimary).claimToken).placeReleases x).mirror

/-- At X the roles exchange: the primary once every peg at or before X is done. A standby that is SYNCING by then does not take over
(R165): the switchover is dropped on both units (assumption log 46). -/
def execSwitchInstant (s : State) : Res :=
  match s.stby.switchAt with
  | none => .next s
  | some x =>
    if x ≤ s.now then
      if s.stby.sync ≠ 2 then .next { s with stby := { s.stby with switchAt := none } }
      else
      match s.dev.role with
      | .primary => if s.pegBefore x then .next s else .next s.switchOut
      | .standby => .next (s.switchIn x)
      | _ => .next { s with stby := { s.stby with switchAt := none } }
    else .next s

/-- SWITCH_DONE: the new primary may emit. -/
def execSwitchDone (h : ScarfHdr) (s : State) : Res :=
  s.onFrame h (fun t => { t with stby := { t.stby with holdEmit := false } })

end Sys2Proof.Machine
end

