-- ==== Sys2Proof/Machine/PowerEvents.lean ====
section
/-!
DEFINITION. Supplies, the power-fail sequence, nRESET and the hold-up measurement (R64, R452-R461, R472, R473, R475).
-/

namespace Sys2Proof.Machine

/-! ### Supply -/

/-- VIN as last seen, with its minimum. -/
def Power.seeVin (p : Power) (vin : Nat) : Power := { p with vin := vin, vinMin := min p.vinMin vin }

/-- VIN has been at or above 4.45 V for 1 ms: a power-on reset (R452, R472). OFF is left for BOOT when nRESET is released as well
(Table ARCH-9). -/
def execPowerOnReset (vin : Nat) (s : State) : Res :=
  if s.dev.state == .off && !s.pwr.vinGood && decide (4450 ≤ vin) then
    .next { s with
      dev := { Device.init with part := s.dev.part, state := if s.pwr.nresetLow then .off else .boot, since := s.clk.ticks },
      pwr := { Power.init with vin := vin, vinMin := vin, nresetLow := s.pwr.nresetLow },
      flt := { Faults.init with lowSince := s.clk.ticks } }
  else .next s

/-- VIN below 3.90 V: the logic die is OFF at once (R452). -/
def execBrownOut (vin : Nat) (s : State) : Res :=
  if s.pwr.vinGood && decide (vin < 3900) then .next (s.powerOff vin) else .next s

/-! ### The power-fail sequence (R64, R455, R475) -/

/-- The commits that a warning registered in cycle `now` abandons: those whose first row was not started in an earlier cycle, and
an ALL record in its pre-write (R64). -/
def abandonedCommits (l : List Commit) (now from_ : Nat) : List Commit :=
  l.filter (fun k => !k.durable && (!k.started || decide (now ≤ from_) || k.extra.all))

/-- What the domains that are shed at once lose: host port, network, scarf link, the truss configuration store (R118, R453, R455). -/
def State.shed (s : State) : State :=
  { s with
    pwr := { s.pwr with truss := false, net := false, host := false, scarf := false, hold := false },
    hp := { HostPort.init with mbx := s.hp.mbx, rings := s.hp.rings, sessions := s.hp.sessions, stopped := s.hp.stopped },
    net := { NetState.init with cfg := s.net.cfg, boot := s.net.boot, rekeyAt := s.net.rekeyAt },
    stby := { s.stby with lane0 := false, lane1 := false, tx := [] },
    prog := { s.prog with truss := TrussStore.init } }

/-- Step 1 to 3 of Table PWR-3 as far as they act at once: HOLD low, domains shed, shots dropped, releases and emissions stopped,
queued commits abandoned, background rows stopped, PFW raised. -/
def State.powerWarning (s : State) : State :=
  let gone := abandonedCommits s.img.commits s.clk.ticks s.nvm.commitTick
  let t := ((s.dropAll .power).stopReleases).shed
  let u := { t with
    pwr := { t.pwr with warnLive := true, pfStep := 1, pfAbandoned := gone.length, holdup := none },
    img := { t.img with commits := t.img.commits.filter (fun k => !gone.contains k) },
    nvm := { t.nvm with jobs := [], setRun := none, setRunMbx := [], ckptRun := none,
                        commitLeft := if gone.any Commit.started then 0 else t.nvm.commitLeft } }
  let v := if s.pwr.holdup.isSome then (u.setPv 0x789 4).setPv 0x78A s.now else u
  (v.raise 3 0 0).mirror

/-- A power-fail warning, from PFI or from VIN below 4.40 V (R452, R454, R455); a second cause joins the sequence that runs. -/
def execPowerFailWarning (cause : WarnCause) (vin : Nat) (s : State) : Res :=
  let due := match cause with
    | .pfi => true
    | .vin => decide (vin < 4400)
  if s.dev.state != .off && due then
    let t := { s with pwr := s.pwr.seeVin vin }
    if t.pwr.warnLive then .next t else .next t.powerWarning
  else .next s

/-- Steps 3 to 5 of Table PWR-3: the commit in progress is done and no reserved record waits; POWER_WARNING is written where PD_NVM
is on, and the core domains switch off. -/
def execPowerFailCommitDone (s : State) : Res :=
  if s.pwr.warnLive && s.pwr.pfStep == 1 && s.nvm.commitLeft == 0 && !s.reservedQueued then
    let r : LogRec :=
      { seq := 0, type := 0x70, stime := s.now, bytes := leBytes 4 s.pwr.pfAbandoned, chain := 0, faultSeq := 0, reserved := false }
    let t := if s.pwr.nvm && !s.pwr.rowInhibit && !s.sec.nvmZero then s.logWrite r [] else s
    .next { t with
      pwr := { t.pwr with pfStep := 4, core := false, sram := false, nvm := false, sec := false },
      sram := [],
      sched := { t.sched with cores := none, paused := true },
      eng := EngState.init }
  else .next s

/-- PFI above 1.250 V for 10 ms with VIN at or above 4.5 V after the sequence: HOLD goes high and a chip reset is taken
(Table PWR-3 step 6). -/
def execPfiRecovered (vin : Nat) (s : State) : Res :=
  if s.pwr.warnLive && s.pwr.pfStep == 4 && decide (4500 ≤ vin) then
    let t := { s with pwr := { s.pwr.seeVin vin with warnLive := false, rowInhibit := false } }
    .next (t.chipReset 3)
  else .next s

/-- VIN below 4.00 V: no further row starts (R457). -/
def execVinRowInhibit (vin : Nat) (s : State) : Res :=
  if s.dev.state != .off && decide (vin < 4000) then .next { s with pwr := { s.pwr.seeVin vin with rowInhibit := true } }
  else .next s

/-! ### nRESET (R473) -/

/-- nRESET is low: every logic-side domain but PD_AON is off, ALIVE is stopped and nFAULT is low; a power-fail sequence first ends
(R473, R475). -/
def execNresetAssert (s : State) : Res :=
  if s.pwr.nresetLow || (s.pwr.warnLive && decide (s.pwr.pfStep < 4)) then .next s
  else if s.dev.state == .off then .next { s with pwr := { s.pwr with nresetLow := true } }
  else
    let t := s.chipReset 1
    .next { t with
      pwr := { t.pwr with nresetLow := true, core := false, sram := false, nvm := false, host := false, sec := false, hold := true },
      flt := { t.flt with nfaultLow := true, aliveOn := false } }

/-- nRESET rises: boot starts at B1; in LOCKOUT the boot ROM re-enters LOCKOUT (R395, R473). A unit that VIN has brought out of power
failure with nRESET low leaves OFF now (Table ARCH-9). -/
def execNresetRelease (s : State) : Res :=
  if s.pwr.nresetLow then
    let l := s.pwr.lockoutFlag && s.dev.state != .off
    .next { s with
      dev := if s.dev.state == .off && s.pwr.vinGood then { s.dev with state := .boot, since := s.clk.ticks } else s.dev,
      pwr := { s.pwr with nresetLow := false, core := l, sram := l, nvm := l, host := l, sec := l } }
  else .next s

/-! ### Hold-up (R459-R461) -/

/-- A value kept in a register of `w` bits; one that the register cannot hold is a free value (assumption log 5). -/
def State.setOrFree (s : State) (pid w v : Nat) : State :=
  if v < 2 ^ w then s.setPv pid v
  else
    let (x, t) := s.draw
    t.setPv pid ((x % 2 ^ w : Nat) : Int)

/-- A measurement's outcome from its capacitance as a fraction, µF: capacitance and energy to the nearest unit, and the result at
400 µJ (R460, assumption log 38). -/
def State.holdupResult (s : State) (num den vin : Nat) : State :=
  let vw := min vin (s.pn 0x785)
  let e := num * (vw * vw - 4050 * 4050)
  let d := den * 2000000
  let energy := (2 * e + d) / (2 * d)
  let t := (s.setOrFree 0x787 16 ((2 * num + den) / (2 * den))).setOrFree 0x788 16 energy
  (t.setPv 0x789 (if 400 * d ≤ e then 1 else 2)).setPv 0x78A t.now

/-- A measurement that neither the fall of VIN nor the time lets compute: capacitance and energy are free values. -/
def State.holdupOpen (s : State) : State :=
  let (c, t) := s.draw
  let (e, u) := t.draw
  let energy := e % 65536
  (((u.setPv 0x787 ((c % 65536 : Nat) : Int)).setPv 0x788 (energy : Nat)).setPv 0x789 (if 400 ≤ energy then 1 else 2)).setPv 0x78A u.now

/-- A measurement starts, at its period or because a SET asks for one (R460): a measured one lowers HOLD where VIN is at or above
4.75 V; a declared one is judged at once. -/
def State.startHoldup (s : State) (vin : Nat) : State :=
  if s.pwr.core && s.fclkUp && !s.pwr.warnLive && s.pwr.holdup.isNone && s.dev.state != .boot then
    let t := { s with pwr := { s.pwr.seeVin vin with holdupFrom := s.clk.ticks } }
    if t.pv 0x783 = 1 then t.holdupResult (t.pn 0x784) 1 vin
    else if vin < 4750 then (t.setPv 0x789 3).setPv 0x78A t.now
    else { t with pwr := { t.pwr with hold := false, holdup := some { start := t.clk.ticks, vin := vin } } }
  else s

/-- A measurement falls due pwr.holdup.period after the last one (R460); a SET that asks for one starts it itself. -/
def execHoldupMeasureStart (vin : Nat) (s : State) : Res :=
  whenOk (decide (s.pn 0x786 * secTicks ≤ s.elapsed s.pwr.holdupFrom)) s (s.startHoldup vin)

/-- A measurement ends after 100 µs or a fall of 0.25 V: C = 0.95 × I × t / ΔV, with the current in mA, the time in ns and VIN in
mV (R460). -/
def execHoldupMeasureEnd (vin iin dur : Nat) (s : State) : Res :=
  match s.pwr.holdup with
  | none => .next s
  | some h =>
    let t := { s with pwr := { s.pwr.seeVin vin with hold := true, holdup := none } }
    if vin < h.vin then .next (t.holdupResult (95 * iin * dur) (100 * 1000 * (h.vin - vin)) h.vin) else .next t.holdupOpen

end Sys2Proof.Machine
end

