-- ==== Sys2Proof/Machine/Update.lean ====
section
/-!
DEFINITION. Firmware update: download, verification, activation, hand-over, trial, confirmation, revert (R402, R405, R438-R448), in a
pair on both units (R179).
-/

namespace Sys2Proof.Machine

/-! ### Checks (R440, Table NVM-8) -/

/-- Updates are served in STOP, RUN and RECOVERY, and not in TEST. -/
def State.updServed (s : State) : Bool :=
  (s.dev.state == .stop || s.dev.state == .run || s.dev.state == .recovery) && s.dev.sub != .test

/-- The machine is moving: the MOTION pin, whose level no command shows and which is a free value (assumption log 5), or the
point named reads 1 in the committed image (R440). -/
def State.moving (s : State) : Bool × State :=
  let (v, t) := s.draw
  let point := s.pn 0xA36
  ((s.pv 0xA35 == 1 && v % 2 == 1) || (point != 0xFFFFFFFF && s.committed point == 1), t)

/-- Bytes of an update image: at most 1,984 KB. -/
def updMax : Nat := 1984 * 1024

/-- UPD_BEGIN: u32 image length (R438, R439). -/
def execUpdBegin (m : BitVec 4) (s : State) : Res :=
  let m := m.toNat
  match s.request m 0x70 with
  | none => .next s
  | some r =>
    let len := leAt r.payload 0 4
    if s.upd.stage != .none || s.upd.jState != 0 then .next (s.refuse m 1 0)
    else if !s.updServed then .next (s.refuse m 2 0)
    else if s.sec.locked then .next (s.refuse m 3 0)
    else
      let (mv, t) := s.moving
      let t := if s.dev.state == .run then t else s
      if s.dev.state == .run && mv then .next (t.refuse m 5 0)
      else if updMax < len then .next (t.refuse m 8 0)
      else
        let u := { t with upd := { Update.init with
          jSeq := t.upd.jSeq, stage := .download, result := t.upd.result, lockSession := some r.session, len := len, lastData := t.clk.ticks,
          oldVersion := t.sec.fwVersion, oldSec := t.sec.fwSec, oldPair := t.sec.fwPair, oldFormat := t.pn 0xA20,
          handover := t.upd.handover, fromRecovery := t.dev.state == DevState.recovery } }
        .next (((u.log 0x50 (u.updBytes 0 0 u.now)).ok m (leBytes 4 0)).mirror)

/-- The firmware execution bank that takes a staged image: the one that is not active, in RECOVERY bank 1 (R20, R439, R446). -/
def State.fwSpare (s : State) : Nat := if s.dev.state == .recovery then 0x200000 else 0x200000 * (1 - s.pn 0x10B)

/-- UPD_DATA: u32 offset, data, staged in the firmware bank that is not active; the complete image is verified, and offered to a
standby (R179, R439). -/
def execUpdData (m : BitVec 4) (s : State) : Res :=
  let m := m.toNat
  match s.request m 0x71 with
  | none => .next s
  | some r =>
    let off := leAt r.payload 0 4
    let data := r.payload.drop 4
    if !s.updServed || s.upd.stage != .download || s.upd.verifying || s.upd.lockSession != some r.session then .next (s.refuse m 2 0)
    else if off ≠ s.upd.staged.length then .next (s.refuse m 7 0)
    else if s.upd.len < off + data.length then .next (s.refuse m 8 0)
    else
      let bs := s.upd.staged ++ data
      let full := bs.length == s.upd.len
      let t := { s with sram := s.sram.writeL (s.fwSpare + off) data,
                        upd := { s.upd with staged := bs, lastData := s.clk.ticks, verifying := full } }
      let u := if full && t.dev.role == .primary then t.scarfSend (updFrames bs) else t
      .next (u.ok m (leBytes 4 bs.length))

/-- What is wrong with an image, as a status of Table NVM-8: its manifest (Table SEC-4), its signatures and hashes, its security
version against the fuses (R402, R405, R439); 0 for nothing. -/
def State.imageStatus (s : State) (bs : List Byte) (v : Verdict) : Nat :=
  let len := leAt bs 0x10 4
  let loader := leAt bs 0x14 4
  if bs.length < 512 ∨ leAt bs 0 4 ≠ 0x4D465753 ∨ leAt bs 4 2 ≠ 1 ∨ 256 < leAt bs 6 2 ∨ leAt bs 0xE 2 ≠ 0 ∨ len ≠ bs.length ∨
      len < 512 + loader then 9
  else if !(v.sigOk && v.hashOk) then 0xA
  else if leAt bs 6 2 < s.sec.fuses then 0xB
  else 0

/-- The staged image's versions; its settings format is not in its manifest and is a free value (assumption log 5). -/
def State.takeManifest (s : State) : State :=
  let bs := s.upd.staged
  let (v, t) := s.draw
  { t with upd := { t.upd with newVersion := leAt bs 8 4, newSecVer := leAt bs 6 2, newPair := leAt bs 0xC 2,
                               newFormat := 1 + v % 65535 } }

/-- The security engine has checked the staged image: VERIFIED, or NONE with the status logged (R439). -/
def execUpdVerified (v : Verdict) (s : State) : Res :=
  if s.upd.stage == .download && s.upd.verifying && s.pwr.sec then
    let st := s.imageStatus s.upd.staged v
    let t := s.takeManifest
    if st = 0 then
      let u := { t with upd := { t.upd with stage := .verified, verifying := false } }
      .next (u.log 0x51 (u.updBytes 0 0 u.now))
    else
      let u := t.updDiscard 0 st
      .next { u with upd := { u.upd with result := 4 } }.mirror
  else .next s

/-- 60 s without UPD_DATA before UPD_ACTIVATE: the staged image is discarded (R439). -/
def execUpdDataTimeout (s : State) : Res :=
  if (s.upd.stage == .download || s.upd.stage == .verified) && decide (60 * secTicks ≤ s.elapsed s.upd.lastData) then
    .next (s.updDiscard 9 0).mirror
  else .next s

/-! ### Activation (R441, R461) -/

/-- The newest hold-up measurement passes: result 1, at most pwr.holdup.period old (R461). -/
def State.holdupFresh (s : State) : Bool :=
  s.pv 0x789 == 1 && s.pn 0x78A != 0 && decide (s.now - s.pn 0x78A ≤ s.pn 0x786 * 1000000000)

/-- The FeRAM image is rewritten through the journal: the hash rows and the state row ACTIVATING, with the rows of its blocks due
(R441). -/
def State.startActivating (s : State) : State :=
  let n := ceilDiv s.upd.len 0x10000
  let t := (s.writeRow 0x3F0000 (leBytes 48 (Config.fwHash s.upd.oldVersion))).writeRow 0x3F0040 (leBytes 48 (Config.sha384 s.upd.staged))
  State.writeShim
    { t with upd := { t.upd with stage := .activating, jState := 1, jN := n, jK := 0, jW := 0, peer := 0 },
             nvm := { t.nvm with jobs := t.nvm.jobs ++ [.update (2048 * n + 1)] } }

/-- An edit is in CHECKING or ARMED (R154). -/
def State.editBusy (s : State) : Bool :=
  (s.prog.staging == Staging.checking && (s.prog.stagedKind == 2 || s.prog.stagedKind == 3)) || s.prog.armed.isSome

/-- The checks of UPD_ACTIVATE before the hold-up check, in the order of Table NVM-8. -/
def State.activateStatus (s : State) (moving : Bool) : Nat :=
  let rec_ := s.dev.state == .recovery
  if !s.updServed then 2
  else if s.sec.locked then 3
  else if !rec_ && s.editBusy then 4
  else if s.dev.state == .run && moving then 5
  else 0

/-- The checks of UPD_ACTIVATE after it. -/
def State.activateStatus2 (s : State) : Nat :=
  if s.dev.role == .primary && (s.upd.newPair != s.sec.fwPair || s.upd.peer == 2) then 0xC
  else if s.upd.stage != .verified || (s.dev.role == .primary && s.upd.peer != 1) then 0xD
  else 0

/-- The update goes on: a primary first has its standby activate (R179). -/
def State.activateNow (s : State) (m : Nat) : State :=
  let t := { s with upd := { s.upd with mbx := some m, measFor := none, lockSession := none } }
  if t.dev.role == .primary then
    ({ t with upd := { t.upd with stage := .activating, peer := 3 } }).scarfSend (updFrames [])
  else t.startActivating

/-- UPD_ACTIVATE: the checks of Table NVM-8, with a new hold-up measurement where the newest does not pass; a measured one ends with
its own event, after which this command goes on (R440, R441, R461). -/
def execUpdActivate (m : BitVec 4) (vin : Nat) (s : State) : Res :=
  let m := m.toNat
  match s.request m 0x72 with
  | none => .next s
  | some _ =>
    if s.upd.mbx == some m then .next s
    else
      let (mv, t0) := s.moving
      let t := if s.dev.state == .run then t0 else s
      let st := t.activateStatus mv
      let finish (u : State) : State :=
        if u.activateStatus2 = 0 then u.activateNow m
        else { u.refuse m u.activateStatus2 0 with upd := { u.upd with measFor := none } }
      if st ≠ 0 then .next (t.refuse m st 0)
      else if t.holdupFresh then .next (finish t)
      else if t.upd.measFor == some m then
        (if t.pwr.holdup.isSome then .next t
         else .next ({ t with upd := { t.upd with measFor := none } }.refuse m 6 0))
      else
        let u := { t with pwr := t.pwr.seeVin vin, upd := { t.upd with measFor := some m } }
        if u.pn 0x783 == 1 then
          let v := u.holdupResult (u.pn 0x784) 1 vin
          if v.pn 0x789 == 1 then .next (finish v) else .next ({ v with upd := { v.upd with measFor := none } }.refuse m 6 0)
        else if vin < 4750 then
          .next ({ (u.setPv 0x789 3).setPv 0x78A u.now with upd := { u.upd with measFor := none } }.refuse m 6 0)
        else if u.pwr.holdup.isSome then .next u
        else .next { u with pwr := { u.pwr with hold := false, holdup := some { start := u.clk.ticks, vin := vin } } }

/-- upd.stage (Table NVM-6). -/
def State.updStageCode (s : State) : Nat :=
  match s.upd.stage with
  | .none => 0
  | .download => 1
  | .verified => 2
  | .activating => 3
  | .activated => 4
  | .trial => 5
  | .reverting => 6

/-- The confirmation time left, ms. -/
def State.updConfirmLeft (s : State) : Nat :=
  if s.upd.stage == .trial then (s.upd.confirmBy - s.clk.ticks) / msTicks else 0

/-- UPD_STATUS (R445). -/
def execUpdStatus (m : BitVec 4) (s : State) : Res :=
  let m := m.toNat
  match s.request m 0x73 with
  | none => .next s
  | some _ =>
    if !s.updServed then .next (s.refuse m 2 0)
    else .next (s.ok m (leBytes 1 s.updStageCode ++ leBytes 1 s.upd.result ++ leBytes 1 s.upd.reason ++ leBytes 1 s.upd.jTrials ++
      leBytes 4 s.upd.staged.length ++ leBytes 4 s.upd.newVersion ++ leBytes 4 s.updConfirmLeft ++ leBytes 8 s.upd.handover))

/-- The job whose last row is due, if that is all it has left. -/
def State.updLastRow (s : State) : Option Nat := (s.nvm.jobs.zipIdx.find? (fun e => e.1 == .update 1)).map Prod.snd

/-- The last block is written and re-verified: ACTIVATED with boot trials 0; in RECOVERY the response goes, and then a chip reset
(R441, R446). -/
def execUpdActivationDone (s : State) : Res :=
  match s.updLastRow with
  | some i =>
    if s.upd.stage == .activating && s.rowsRun && s.otherTurn then
      let t := s.rowWritten true
      let u := State.writeShim { t with
        nvm := { t.nvm with jobs := t.nvm.jobs.eraseIdx i },
        upd := { t.upd with stage := .activated, jState := 2, jTrials := 0, activatedAt := t.clk.ticks } }
      let v := u.log 0x52 (u.updBytes 0 0 u.now)
      if v.upd.fromRecovery then
        let w := match v.upd.mbx with
          | some m => v.ok m (leBytes 8 0)
          | none => v
        .next { w with upd := { w.upd with mbx := none },
                       flt := { w.flt with awaiting := w.flt.awaiting ++ [Awaiting.mk w.flt.seqNewest false 5 v.upd.mbx w.clk.ticks] } }
      else .next v
    else .next s
  | none => .next s

/-! ### Hand-over (R442) -/

/-- On a standby, a gap of its primary's schedule: no release or peg instant of a configured context falls within 200 µs, and no edit step
is to come (R154, R179). Which of the primary's shots execute the standby does not see (assumption log 46). -/
def State.partnerGap (s : State) : Bool :=
  let soon (x : Ctx) (r : Ns) : Bool := decide (gridNext (x.ns CtxEntry.period) r s.now < s.now + 200000)
  s.configured.all (fun c =>
    let x := s.ctx c
    !soon x (x.ns CtxEntry.phase) && !soon x ((x.ns CtxEntry.phase + x.ns CtxEntry.pegOffset) % max 1 (x.ns CtxEntry.period))) &&
    s.prog.armed.isNone

/-- A hand-over gap opens now: in RUN every configured context is in WAIT or DONE and no peg, release or edit instant falls within
200 µs, nor is an edit step still to be taken (R154, R442). -/
def State.handoverGap (s : State) : Bool :=
  if s.dev.state == .run && s.dev.role == .standby then s.partnerGap
  else if s.dev.state == .run then
    let soon (t : Ns) : Bool := decide (s.now ≤ t) && decide (t < s.now + 200000)
    let quiet (x : Ctx) : Bool :=
      (match x.shot with
       | some sh => sh.phase == ShotPhase.done
       | none => true) &&
      !(match x.pegDue with
        | some p => soon p
        | none => false) &&
      !(x.releasing && soon x.nextRelease)
    let edit := match s.prog.armed with
      | some e => e.at_ != 0 && decide (e.at_ < s.now + 200000)
      | none => false
    s.configured.all (fun c => quiet (s.ctx c)) && !edit
  else true

/-- The two firmware banks change roles (sys.fw.bank). -/
def State.swapFwBank (s : State) : State := s.setPv 0x10B (1 - s.pv 0x10B)

/-- Firmware stops taking mailboxes and control moves to the new bank, at g. -/
def execHandover (s : State) : Res :=
  if s.upd.stage == .activated && !s.upd.fromRecovery && !s.hp.stopped && s.coresRun && s.handoverGap &&
      (s.dev.state == .stop || s.dev.state == .run) then
    let t := s.swapFwBank
    .next { t with hp := { t.hp with stopped := true }, upd := { t.upd with handover := t.now } }.dispatch.mirror
  else .next s

/-- The image that runs has a settings format: it reads the copy it can, and migrates one of an older format into the other slot
(R437). Whether a copy converts is the image's: `converts`. -/
def State.firmwareSettings (s : State) (fmt : Nat) (converts : Bool) : State :=
  let old := s.pn 0xA20
  let t := s.setPv 0xA20 (fmt : Nat)
  match t.nvm.copyFor fmt with
  | none => t
  | some (slot, k) =>
    if k.format < fmt ∧ fmt ≠ old then
      (if converts then
         let u := t.loadCopy slot k
         ({ u with nvm := { u.nvm with setDirty := true } }).log 0x60 (leBytes 2 k.format ++ leBytes 2 fmt)
       else { t with params := t.params.filter (fun (e : Nat × Int) => !keyKept e.1), bootParams := [] })
    else if fmt = old then t
    else t.loadCopy slot k

/-- The new image resumes context 0, answers UPD_ACTIVATE with g, logs UPDATE_HANDOVER and starts its trial; a settings copy that it
cannot convert ends the trial at once (R437, R442). -/
def execHandoverComplete (s : State) : Res :=
  if s.upd.stage == .activated && s.hp.stopped && s.coresRun then
    let (v, t) := s.draw
    let migrates := v % 2 == 1
    let needs := match t.nvm.copyFor t.upd.newFormat with
      | some (_, k) => decide (k.format < t.upd.newFormat)
      | none => false
    let u := (t.firmwareSettings t.upd.newFormat migrates).setPv 0xA3A (min 150000 (t.now - t.upd.handover) : Nat)
    let u := { u with
      hp := { u.hp with stopped := false, fwver := u.upd.newVersion },
      sec := { u.sec with fwVersion := u.upd.newVersion, fwSec := u.upd.newSecVer, fwPair := u.upd.newPair },
      upd := { u.upd with stage := .trial, handed := true, mbx := none, healthyFrom := none,
                          confirmBy := u.clk.ticks + u.pn 0xA33 * secTicks } }
    let w := match s.upd.mbx with
      | some m => u.ok m (leBytes 8 u.upd.handover)
      | none => u
    let x := w.log 0x53 (w.updBytes 0 0 w.upd.handover)
    let y := if needs && !migrates then x.updRevert 2 else x
    .next y.dispatch.mirror
  else .next s

/-- No gap within 60 s of ACTIVATED (R442). -/
def execHandoverNogap (s : State) : Res :=
  if s.upd.stage == .activated && !s.hp.stopped && !s.upd.fromRecovery && decide (60 * secTicks ≤ s.elapsed s.upd.activatedAt) then
    .next (s.updRevert 6).mirror
  else .next s

/-! ### Trial (R443) -/

/-- The health conditions of R443 hold now. -/
def State.trialHealthy (s : State) : Bool :=
  let since := s.upd.confirmBy - s.pn 0xA33 * secTicks
  let committed (x : Ctx) : Bool :=
    !x.capRaised && (match x.commitAt with
      | some t => decide (since ≤ t)
      | none => false)
  s.nvm.setCopy != 255 && s.wdg.serviced && s.wdg.key1.isNone &&
    !s.flt.records.any (fun (r : FaultRec) => decide (3 ≤ r.cls) && decide (s.upd.handover ≤ r.stime)) &&
    (s.dev.state != .run || s.configured.all (fun c => committed (s.ctx c)))

/-- Fuses are blown to the image's security version, one at a time (R405). -/
def SecState.blow (k : SecState) (to_ : Nat) : SecState := { k with fuses := max k.fuses (min 256 to_), blowTo := max k.fuses (min 256 to_) }

/-- Firmware judges its health: once the conditions have held for 1 s the update is confirmed and the fuses are blown; a standby
tells its primary (R179, R443). -/
def execTrialConfirm (s : State) : Res :=
  if s.upd.stage == .trial && s.coresRun && decide (s.clk.ticks < s.upd.confirmBy) then
    if !s.trialHealthy then .next { s with upd := { s.upd with healthyFrom := none } }
    else
      match s.upd.healthyFrom with
      | none => .next { s with upd := { s.upd with healthyFrom := some s.clk.ticks } }
      | some t0 =>
        if secTicks ≤ s.elapsed t0 then
          let t0 := State.writeShim { s with
            upd := { s.upd with stage := .none, result := 1, reason := 0, jState := 0, jN := 0, jK := 0, jW := 0, jTrials := 0,
                                staged := [], handed := false, peer := 0, healthyFrom := none } }
          let t := { t0 with sec := t0.sec.blow t0.sec.fwSec }
          let u := (t.log 0x54 (t.updBytes 0 0 t.now)).bump 0xA3B 32
          .next (if u.dev.role == .standby then u.scarfSend [ctrlFrame 7 (leBytes 1 2 ++ leBytes 1 1)] else u)
        else .next s
  else .next s

/-- The confirmation time ends without health (R443). -/
def execConfirmTimeout (s : State) : Res :=
  if s.upd.stage == .trial && decide (s.upd.confirmBy ≤ s.clk.ticks) then .next (s.updRevert 1).mirror else .next s

/-- The old image is restored and verified: where the new one runs, control is handed back in a gap, or after an installation in
RECOVERY by a chip reset; UPDATE_REVERTED is logged and UPD_REVERT raised (R444, R446). -/
def execRevertDone (s : State) : Res :=
  match s.updLastRow with
  | some i =>
    if s.upd.stage == .reverting && s.rowsRun && s.otherTurn && s.handoverGap then
      let t := s.rowWritten true
      let t := { t with nvm := { t.nvm with jobs := t.nvm.jobs.eraseIdx i } }
      let u := if t.upd.handed && !t.upd.fromRecovery then
          let loaded := { t with sram := t.sram.copyRegion t.feram 0 t.fwSpare 0x200000 }
          let back := (loaded.swapFwBank).firmwareSettings t.upd.oldFormat true
          { back with
            hp := { back.hp with fwver := back.upd.oldVersion },
            sec := { back.sec with fwVersion := back.upd.oldVersion, fwSec := back.upd.oldSec, fwPair := back.upd.oldPair } }
        else t
      let v := u.updReverted.raise 28 0 0
      let w := if v.dev.role == .standby then v.scarfSend [ctrlFrame 7 (leBytes 1 2 ++ leBytes 1 0)] else v
      if t.upd.handed && t.upd.fromRecovery then
        .next { w with flt := { w.flt with awaiting := w.flt.awaiting ++ [Awaiting.mk w.flt.seqNewest false 5 none w.clk.ticks] } }.mirror
      else .next w.mirror
    else .next s
  | none => .next s

/-! ### In a pair (R179) -/

/-- CTRL UPD_OFFER: with the last segment the standby takes a staged image and answers with its verification; an offer without an
image asks it to activate the one it holds. -/
def execUpdOffer (h : ScarfHdr) (left : Nat) (seg : List Byte) (v : Verdict) (s : State) : Res :=
  s.onFrame h (fun t0 =>
    let data := t0.stby.updBuf ++ seg
    let t := { t0 with stby := { t0.stby with updBuf := if left = 0 then [] else data } }
    if t0.dev.role == .standby && left != 0 then t
    else if t0.dev.role == .standby then
      if data.isEmpty then
        (if t.upd.stage == .verified then (t.startActivating).scarfSend [ctrlFrame 7 (leBytes 1 1 ++ leBytes 1 1)]
         else t.scarfSend [ctrlFrame 7 (leBytes 1 1 ++ leBytes 1 0)])
      else if t.upd.stage == .none && t.upd.jState == 0 then
        let st := t.imageStatus data v
        let u := { t with upd := { Update.init with
          jSeq := t.upd.jSeq, stage := .verified, result := t.upd.result, len := data.length, staged := data, lastData := t.clk.ticks,
          oldVersion := t.sec.fwVersion, oldSec := t.sec.fwSec, oldPair := t.sec.fwPair, oldFormat := t.pn 0xA20,
          handover := t.upd.handover } }
        if st = 0 && leAt data 0xC 2 == t.sec.fwPair then
          ((u.takeManifest).log 0x51 (u.updBytes 0 0 u.now)).scarfSend [ctrlFrame 7 (leBytes 1 0 ++ leBytes 1 1)]
        else t.scarfSend [ctrlFrame 7 (leBytes 1 0 ++ leBytes 1 0)]
      else t.scarfSend [ctrlFrame 7 (leBytes 1 0 ++ leBytes 1 0)]
    else t0)

/-- CTRL UPD_VERDICT: 0 the standby's verification, 1 its activation, 2 its confirmation; the primary activates once the standby has
confirmed, and abandons its own activation where the standby fails. -/
def execUpdVerdict (h : ScarfHdr) (what : Nat) (ok : Bool) (s : State) : Res :=
  s.onFrame h (fun t =>
    if t.dev.role == .primary then
      if what = 0 then { t with upd := { t.upd with peer := if ok then 1 else 2 } }
      else if t.upd.stage == .activating && t.upd.peer == 3 then
        (if !ok then ((t.updPartnerGone).raise 28 0 0).mirror
         else if what = 2 then t.startActivating
         else t)
      else t
    else t)

end Sys2Proof.Machine
end

