-- ==== Sys2Proof/Machine/StateCmds.lean ====
section
/-!
DEFINITION. STATE (R27, R28, R78, R79, R344), IMGRD and FORCE (R38, R39, R345), LOGRD (R407, R434) and the pair's commands (R161, R174,
R176, R180).
-/

namespace Sys2Proof.Machine

/-! ### STATE -/

/-- A STATE request that mailbox `m` executes and whose answer no transition in progress owes: its target, its immediate flag. -/
def State.stateRequest (s : State) (m : Nat) : Option (Nat × Bool) :=
  if s.dev.drainMbx == some m || s.dev.runMbx == some m then none
  else match s.request m 0x30 with
    | some r => some (leAt r.payload 0 1, bit (leAt r.payload 1 1) 0)
    | none => none

/-- The request that the entered state answers: that of an orderly drain to the same state (R344). -/
def State.answerDrain (s : State) : State :=
  match s.dev.drainMbx with
  | some m =>
    let u := { s with dev := { s.dev with drainMbx := none } }
    u.ok m u.stateData
  | none => s

/-- A transition at once, answered once the state is entered (R79). -/
def State.enterNow (s : State) (dest : DevState) (imm : Bool) (m : Nat) : State :=
  let t := s.enter dest (s.mailbox m).owner imm
  let u := t.answerDrain
  (u.ok m u.stateData).dispatch

/-- An orderly drain from RUN (R79): nothing more is released; the state is entered with the last peg's emission. -/
def State.startDrain (s : State) (dest : DevState) (m : Nat) : State :=
  let t := { s with dev := { s.dev with drain := some dest, drainAt := s.now, drainMbx := some m } }
  (t.stopReleases).finishDrain.dispatch

/-- A request that a higher transition in progress overtakes: ABORTED, and logged as discarded (R28, R344). -/
def State.overtaken (s : State) (m : Nat) (asked taken : DevState) : State :=
  (s.log 3 (leBytes 1 (devCode asked) ++ leBytes 1 (devCode taken))).abort m

/-- STATE STOP or HALT from RUN, or STOP from HALT; two requests that meet are resolved by R28. -/
def State.stateDown (s : State) (dest : DevState) (imm : Bool) (m : Nat) : State :=
  match s.dev.state, s.dev.drain with
  | .run, some .stop =>
    if dest == .halt then s.overtaken m .halt .stop
    else if imm then s.enterNow .stop true m
    else s.refuse m 1 0
  | .run, some .halt =>
    if dest == .halt then (if imm then s.enterNow .halt true m else s.refuse m 1 0)
    else if imm then s.enterNow .stop true m
    else
      let t := match s.dev.drainMbx with
        | some k => s.overtaken k .halt .stop
        | none => s.log 3 (leBytes 1 5 ++ leBytes 1 3)
      t.startDrain .stop m
  | .run, _ => if imm then s.enterNow dest true m else s.startDrain dest m
  | .halt, _ => if dest == .stop then s.enterNow .stop imm m else s.refuse m 1 0
  | _, _ => s.refuse m 1 0

/-- STATE with target STOP; a target that Table HOST-10 does not name is refused like one that R27 does not allow. -/
def execStateStop (m : BitVec 4) (s : State) : Res :=
  match s.stateRequest m.toNat with
  | some (2, imm) => .next (s.stateDown .stop imm m.toNat).mirror
  | some (n, _) => if n < 2 ∨ 7 < n then .next (s.refuse m.toNat 1 0) else .next s
  | none => .next s

/-- STATE with target HALT. -/
def execStateHalt (m : BitVec 4) (s : State) : Res :=
  match s.stateRequest m.toNat with
  | some (4, imm) => .next (s.stateDown .halt imm m.toNat).mirror
  | _ => .next s

/-- STATE with target RUN (R78, R364): from SPLIT the voted complex is restored first; the response waits for the first release. -/
def execStateRun (m : BitVec 4) (s : State) : Res :=
  match s.stateRequest m.toNat with
  | some (3, _) =>
    match s.dev.state, s.dev.drain with
    | .run, some d => .next (s.overtaken m.toNat .run d)
    | .stop, _ | .halt, _ =>
      if s.runNotReady || s.sec.debug != 0 then .next (s.refuse m.toNat 2 0)
      else
        let t := if s.tmr.mode == ExecMode.split then State.rejoin { s with tmr := s.tmr.setMode .triple } else s
        let u := t.enterRun (s.mailbox m.toNat).owner
        .next { u with dev := { u.dev with runMbx := some m.toNat } }.dispatch.mirror
    | _, _ => .next (s.refuse m.toNat 1 0)
  | _ => .next s

/-- The response data of a sub-state's entry or end: the instant is the present one. -/
def State.subData (s : State) : List Byte :=
  leBytes 1 (devCode s.dev.state) ++ leBytes 1 (subCode s.subNow) ++ leBytes 2 0 ++ leBytes 8 s.now

/-- STATE with target TEST enter, in STOP without a sub-state (R27, R344). -/
def execTestEnter (m : BitVec 4) (s : State) : Res :=
  match s.stateRequest m.toNat with
  | some (5, _) =>
    if s.dev.state == .stop && s.subNow == SubState.none then
      let t := { s with dev := { s.dev with sub := .test } }
      .next (t.ok m.toNat t.subData).mirror
    else .next (s.refuse m.toNat 1 0)
  | _ => .next s

/-- STATE with target TEST leave, in TEST. -/
def execTestLeave (m : BitVec 4) (s : State) : Res :=
  match s.stateRequest m.toNat with
  | some (6, _) =>
    if s.dev.state == .stop && s.subNow == SubState.test then
      let t := { s with dev := { s.dev with sub := .none } }
      .next (t.ok m.toNat t.subData).mirror
    else .next (s.refuse m.toNat 1 0)
  | _ => .next s

/-- STATE with target RESTART: the response, then the chip reset with cause 4 (R344, Table PWR-7). -/
def execStateRestart (m : BitVec 4) (s : State) : Res :=
  match s.stateRequest m.toNat with
  | some (7, _) =>
    let t := s.ok m.toNat (leBytes 1 (devCode .boot) ++ leBytes 3 0 ++ leBytes 8 s.now)
    .next { t with flt := { t.flt with awaiting := t.flt.awaiting ++ [Awaiting.mk t.flt.seqNewest false 4 (some m.toNat) t.clk.ticks] } }
  | _ => .next s

/-! ### IMGRD -/

/-- Bits packed under R33, bit 0 of a byte first. -/
def packPoints (n : Nat) (v : Nat → Nat) : List Byte :=
  (List.range (ceilDiv n 8)).map (fun j => BitVec.ofNat 8 (ofBits ((List.range 8).map (fun i =>
    decide (8 * j + i < n) && v (8 * j + i) == 1))))

/-- IMGRD: committed values without forces (R39, R345). -/
def execImgrd (m : BitVec 4) (s : State) : Res :=
  match s.request m.toNat 0x40 with
  | none => .next s
  | some r =>
    let pt := leAt r.payload 0 4
    let n := leAt r.payload 4 2
    let isBit := areaIsBit (ptArea pt)
    let v (i : Nat) : Nat := s.committed (pt + i)
    if (if isBit then 32256 else 2016) < n ∨ 7 < ptArea pt ∨ areaLen s.program.dbSize (ptArea pt) < ptIndex pt + n then
      .next (s.refuse m.toNat 1 0)
    else
      let data := if isBit then packPoints n v else (List.range n).flatMap (fun i => leBytes 2 (v i))
      .next (s.ok m.toNat (leBytes 4 pt ++ leBytes 2 n ++ leBytes 2 0 ++ leBytes 8 s.img.lastPeg ++ data))

/-! ### FORCE -/

/-- A point that may be forced: I, Q, IW or QW (R38). -/
def forceable (pt : Nat) : Bool := decide (ptArea pt < 4) && decide (ptIndex pt < areaLen 0 (ptArea pt))

/-- The force list with new entries noted: an output point whose force state changes reaches the next emission of its owner
(R38, R49). -/
def Image.setForces (g : Image) (forces : List (Nat × Nat)) : Image :=
  let touched := ((g.forces ++ forces).map (fun (f : Nat × Nat) => f.1)).eraseDups.filter (fun p =>
    (ptArea p == 1 || ptArea p == 3) && !g.forceChanged.contains p && tfind g.forces p != tfind forces p)
  { g with forces := forces, forceChanged := g.forceChanged ++ touched }

/-- Every force is removed (R66). -/
def State.clearForces (s : State) : State :=
  let t := { s with img := s.img.setForces [] }
  t.forward t.ctrlForceFrame

/-- FORCE (R38, R345): the statuses in the order RANGE, DISABLED, FULL; a refused one changes no force. The list is forwarded to a
standby (R169). -/
def execForce (m : BitVec 4) (s : State) : Res :=
  match s.request m.toNat 0x41 with
  | none => .next s
  | some r =>
    let op := leAt r.payload 0 1
    let n := leAt r.payload 2 2
    let entry (i : Nat) : Nat × Nat :=
      let pt := leAt r.payload (4 + 8 * i) 4
      (pt, leAt r.payload (8 + 8 * i) 4 % (if areaIsBit (ptArea pt) then 2 else 65536))
    let es := (List.range n).map entry
    let next : List (Nat × Nat) := match op with
      | 1 => es.foldl (fun (l : List (Nat × Nat)) e => tset l e.1 e.2) s.img.forces
      | 2 => es.foldl (fun (l : List (Nat × Nat)) e => tdel l e.1) s.img.forces
      | _ => []
    if op < 1 ∨ 3 < op ∨ r.payload.length ≠ 4 + 8 * n ∨ es.any (fun e => !forceable e.1) then .next (s.refuse m.toNat 1 0)
    else if s.pv 0x618 = 0 then .next (s.refuse m.toNat 2 0)
    else if 256 < next.length then .next (s.refuse m.toNat 3 0)
    else
      let t := { s with img := s.img.setForces next }
      let u := (t.forward t.ctrlForceFrame).log 0x15 (leBytes 2 next.length ++ leBytes 1 r.requester ++ leBytes 1 op)
      .next (u.ok m.toNat (leBytes 2 next.length ++ leBytes 2 0))

/-! ### LOGRD -/

/-- Records oldest first, each with whether it fails to verify over the value before it; nothing says so of the oldest one when its
predecessor is gone (R407). -/
def chainMarks (prev : Option Nat) (l : List LogRec) : List (LogRec × Bool) :=
  match l with
  | [] => []
  | r :: rest =>
    let broken := match prev with
      | some p => r.chain % 2 ^ 128 != chainValue p r % 2 ^ 128
      | none => false
    (r, broken) :: chainMarks (some r.chain) rest

/-- The records of the ring, oldest first, as LOGRD verifies them. -/
def Nvm.logMarks (n : Nvm) : List (LogRec × Bool) :=
  let l := n.logRing.reverse
  let start := match l with
    | r :: _ => if r.seq = 1 then some chainStart else none
    | [] => none
  chainMarks start l

/-- LOGRD (R434): records from the first sequence asked on; each that fails to verify is flagged and counted (R407). -/
def execLogrd (m : BitVec 4) (s : State) : Res :=
  match s.request m.toNat 0x60 with
  | none => .next s
  | some r =>
    let first := leAt r.payload 0 4
    let n := leAt r.payload 4 2
    if n < 1 ∨ 63 < n then .next (s.refuse m.toNat 1 0)
    else
      let recs := (s.nvm.logMarks.filter (fun e => decide (first ≤ e.1.seq))).take n
      let head := match recs with
        | e :: _ => e.1.seq
        | [] => first
      let t := (recs.filter (fun e => e.2)).foldl (fun (u : State) _ => u.bump 0xB1C 32) s
      .next (t.ok m.toNat (leBytes 4 head ++ leBytes 2 recs.length ++ leBytes 2 0 ++ recs.flatMap (fun e => e.1.row e.2)))

/-! ### The pair's commands (R180, Table STBY-6) -/

/-- stby.link.state: [0] and [1] a lane's lock, [2] link up. -/
def StbyState.linkBits (k : StbyState) : Nat := b2n k.lane0 + 2 * b2n k.lane1 + 4 * b2n k.linkUp

/-- STBY_STATUS. -/
def execStbyStatus (m : BitVec 4) (s : State) : Res :=
  match s.request m.toNat 0x90 with
  | none => .next s
  | some _ =>
    let dur := match s.stby.last with
      | some t => t.dur
      | none => 0
    .next (s.ok m.toNat (leBytes 1 (roleCode s.dev.role) ++ leBytes 1 s.stby.sync ++ leBytes 2 s.stby.progress ++
      leBytes 4 s.stby.epoch ++ leBytes 1 s.stby.refusal ++ leBytes 1 s.stby.linkBits ++ leBytes 2 0 ++ leBytes 4 dur))

/-- STBY_JOIN: a SOLO unit with stby.mode = PAIR starts negotiation with HELLO (R161, R162). -/
def execStbyJoin (m : BitVec 4) (s : State) : Res :=
  match s.request m.toNat 0x91 with
  | none => .next s
  | some _ =>
    if s.pn 0xE00 ≠ 1 ∨ s.dev.role ≠ .solo then .next (s.refuse m.toNat 0xB 0)
    else if !s.stby.linkUp then .next (s.refuse m.toNat 0xF 0)
    else
      let t := { s with stby := { s.stby with joining := true } }
      let u := if t.mayPair then t.scarfSend [t.helloFrame] else t
      .next (u.ok m.toNat [])

/-- The first instant at or after `t` that is a release instant of every configured context (R176). -/
def State.releaseInstant (s : State) (t : Nat) : Option Nat :=
  let classes := s.configured.map (fun c => ((s.ctx c).ns CtxEntry.phase, (s.ctx c).ns CtxEntry.period))
  let step (acc : Option (Nat × Nat)) (x : Nat × Nat) : Option (Nat × Nat) :=
    match acc with
    | none => none
    | some (a, q) =>
      let m2 := max 1 x.2
      (classStep (m2 / Nat.gcd q m2 + 1) a q x.1 m2).map (fun b => (b, Nat.lcm q m2))
  match classes with
  | [] => some t
  | (r, q) :: rest => (rest.foldl step (some (gridNext q r t, max 1 q))).map (fun e => e.1)

/-- The tests of STBY_SWITCH before X is chosen, in the order of Table STBY-6 and R176. -/
def State.switchStatus (s : State) : Nat :=
  if s.dev.role != .primary then 0xB
  else if s.stby.sync != 2 then 0xC
  else if s.editBusy || s.updateBlocks then 0xE
  else if !s.stby.linkUp then 0xF
  else 0

/-- STBY_SWITCH (R176). The spec gives no status for a lead outside its range: it is refused with a free one
(assumption log 5). -/
def execStbySwitch (m : BitVec 4) (s : State) : Res :=
  match s.request m.toNat 0x92 with
  | none => .next s
  | some r =>
    let lead := leAt r.payload 0 4
    if s.switchStatus ≠ 0 then .next (s.refuse m.toNat s.switchStatus 0)
    else if lead < 1000 ∨ 10000000 < lead then
      let (x, t) := s.draw
      .next (t.refuse m.toNat (1 + x % 65535) 0)
    else
      match s.releaseInstant (s.now + lead * 1000) with
      | some x =>
        if x ≤ s.now + 60000000000 then
          let t := s.scarfSend [ctrlFrame 8 (leBytes 8 x)]
          .next ({ t with stby := { t.stby with switchAt := some x } }.ok m.toNat (leBytes 8 x))
        else .next (s.refuse m.toNat 0xD 0)
      | none => .next (s.refuse m.toNat 0xD 0)

/-- STBY_LEAVE: the primary becomes SOLO; the standby sends LEAVE and becomes SOLO in STOP (R180). -/
def execStbyLeave (m : BitVec 4) (s : State) : Res :=
  match s.request m.toNat 0x93 with
  | none => .next s
  | some _ =>
    match s.dev.role with
    | .primary => .next ((s.leavePair false).ok m.toNat []).mirror
    | .standby => .next (((s.scarfSend [leaveFrame 0]).standbyStops).ok m.toNat []).mirror
    | _ => .next (s.refuse m.toNat 0xB 0)

end Sys2Proof.Machine
end

