-- ==== Sys2Proof/Machine/ParamGet.lean ====
section
/-!
DEFINITION. GET and GETBLK (R346, R348): the value of every parameter, read from the field that holds it or from the parameter store,
the blocks, and the dictionary of R350.
-/

namespace Sys2Proof.Machine

/-! ### Values of the plain pids that a field of the state holds -/

/-- Every pid of the part, ascending. -/
def dictPids (part : Part) : List Nat := (List.range 0x2000).filter (pidExists part)

/-- Table HOST-17, 0x0000-0x0120. -/
def State.valSys (s : State) (pid : Nat) : Option Nat :=
  match pid with
  | 0x000 => some 0x4844
  | 0x001 => some (partNumber s.dev.part)
  | 0x002 => some (partBays s.dev.part)
  | 0x003 => some (partChannels s.dev.part)
  | 0x004 => some (Config.silicon % 65536)
  | 0x007 => some s.sec.fwVersion
  | 0x009 => some s.sec.fuses
  | 0x00A => some 1
  | 0x00B => some s.sec.fwPair
  | 0x011 => some (dictPids s.dev.part).length
  | 0x100 => some (devCode s.dev.state)
  | 0x101 => some (subCode s.subNow)
  | 0x102 => some s.dev.sinceTime
  | 0x105 => some s.pwr.cause
  | 0x108 => some s.prog.slot
  | 0x109 => some s.prog.chain
  | 0x10A => some s.prog.bank
  | 0x10C => some (match s.prog.staging with
    | .idle => 0
    | .staging => 1
    | .checking => 2
    | .armed => 3
    | .loaded => 4)
  | 0x10D => some (match s.prog.armed with
    | some e => e.at_
    | none => 0)
  | 0x10E => some (s.prog.lockSession.getD 0)
  | 0x110 => some ((List.range 16).filter (fun k => (s.session k).isOpen)).length
  | _ => none

/-- Rows of the declared retentive ranges (R52). -/
def RetRange.rows (r : RetRange) : Nat := ceilDiv r.len (if areaIsBit r.area then 512 else 32)

/-- Table SHOT-9. -/
def State.valImage (s : State) (pid : Nat) : Option Nat :=
  let rows := s.program.rets.foldl (fun n r => n + r.rows) 0
  match pid with
  | 0x600 => some (64 * rows)
  | 0x601 => some rows
  | 0x602 => some s.program.rets.length
  | 0x608 => some s.poolFree
  | 0x60A => some (s.configured.foldl (fun n c => n + (match (s.ctx c).cfg with
    | some e => e.quota
    | none => 0)) 0)
  | 0x60B => some 16
  | 0x619 => some s.img.forces.length
  | _ => none

/-- pwr.domains (Table PWR-11). -/
def Power.domains (p : Power) : Nat := ofBits [true, p.core, p.truss, p.sram, p.nvm, p.net, p.host, p.sec, p.scarf]

/-- Tables PWR-11, TMR-9 and FLT-11; time.offset and time.rate apart. -/
def State.valTimeTmrFlt (s : State) (pid : Nat) : Option Nat :=
  match pid with
  | 0x740 => some s.clk.source
  | 0x741 => some s.clk.state
  | 0x780 => some s.pwr.vin
  | 0x781 => some s.pwr.vinMin
  | 0x782 => some s.pwr.domains
  | 0x800 => some (modeCode s.tmr.mode)
  | 0x802 => some (if s.tmr.freeCore then 2 else 255)
  | 0x803 => some s.tmr.retiredBits
  | 0x80E => some (b2n s.tmr.cmpPending)
  | 0x80F => some (b2n s.tmr.dbgBroken)
  | 0x818 => some (b2n !s.tmr.laneRetired.isEmpty)
  | 0x819 => some (ofBits ([0, 1, 2].map (fun l => s.tmr.laneRetired.contains l)))
  | 0x900 => some s.liveBits
  | 0x901 => some s.flt.sticky
  | 0x902 => some (ofBits ((List.range 32).map (fun n => s.flt.pending.any (fun r => r.src == n))))
  | 0x903 => some s.flt.seqNewest
  | 0x904 => some s.flt.seqAcked
  | 0x905 => some (s.flt.pending.foldl (fun c r => max c r.cls) 0)
  | 0x906 => some (b2n s.flt.nfaultLow + 2 * b2n (s.flt.nfaultLow && s.dev.state == .lockout) + 4 * b2n s.flt.aliveOn)
  | 0x913 => some s.wdg.ladder
  | 0x914 =>
    let clean := s.dev.state == .stop || s.dev.state == .run || s.dev.state == .halt || s.dev.state == .safe
    some (if clean then min 60000 (s.elapsed s.wdg.cleanFrom / msTicks) else 0)
  | _ => none

/-- Time left until a tick, in s: a quotient that the spec does not round (assumption log 40). -/
def State.secondsTo (s : State) (until_ : Nat) : Nat := (divOpen ((until_ - s.clk.ticks : Nat) : Int) secTicks).toNat

/-- Tables NVM-12 and SEC-15. -/
def State.valNvmSec (s : State) (pid : Nat) : Option Nat :=
  match pid with
  | 0xA05 => some s.nvm.commitSeq
  | 0xA30 => some s.updStageCode
  | 0xA31 => some s.upd.result
  | 0xA32 => some s.upd.reason
  | 0xA34 => some s.updConfirmLeft
  | 0xA37 => some s.upd.staged.length
  | 0xA38 => some s.upd.jState
  | 0xA39 => some s.upd.newVersion
  | 0xB00 => some (b2n s.sec.owner.isSome)
  | 0xB05 => some s.sec.policySerial
  | 0xB06 => some s.sec.lockCode
  | 0xB07 => some (match s.sec.lockOpenUntil with
    | some t => s.secondsTo t
    | none => 0)
  | 0xB0A => some s.sec.fwSec
  | 0xB13 => some s.sec.tls.length
  | 0xB18 => some s.sec.debug
  | 0xB19 => some (if s.sec.debug = 0 then 0 else s.secondsTo s.sec.debugUntil)
  | _ => none

/-- Tables RIO-12 and STBY-10; net.gptp.offset apart. -/
def State.valNetStby (s : State) (pid : Nat) : Option Nat :=
  match pid with
  | 0xC00 => some (b2n s.net.cfg.isSome)
  | 0xC01 => some (match s.net.cfg with
    | some c => c.ports.ether
    | none => 0x88B5)
  | 0xC02 => some s.gptpMode
  | 0xC03 => some s.net.gptp.state
  | 0xC05 => some s.net.gptp.gm
  | 0xC06 => some (b2n s.net.linkA)
  | 0xC07 => some (b2n s.net.linkB)
  | 0xC0F => some s.net.exchanges.length
  | 0xC10 => some s.net.acycWorst
  | 0xC13 => some s.sec.keyGen
  | 0xE02 => some (roleCode s.dev.role)
  | 0xE03 => some s.stby.sync
  | 0xE04 => some s.stby.epoch
  | 0xE07 => some s.stby.progress
  | 0xE08 => some s.stby.refusal
  | 0xE09 => some s.stby.linkBits
  | 0xE10 => some (s.program.ctxs.foldl (fun t e => t + fclkNs (pegCycles (s.program.writePages e))) 0)
  | 0xE11 => some (s.program.ctxs.foldl (fun t e => max t (s.program.cellEntries e)) 0)
  | _ => none

/-- A plain pid that a field of the state holds. -/
def State.valPlain (s : State) (pid : Nat) : Option Int :=
  if pid = 0x742 then some s.clk.offset
  else if pid = 0x743 then some s.clk.rate
  else if pid = 0xC04 then some s.net.gptp.offset
  else
    let v := if pid < 0x200 then s.valSys pid
      else if pid < 0x700 then s.valImage pid
      else if pid < 0xA00 then s.valTimeTmrFlt pid
      else if pid < 0xC00 then s.valNvmSec pid
      else s.valNetStby pid
    v.map (fun (n : Nat) => (n : Int))

/-- nvm.rows.read: which rows the controller reads on its own the spec does not say (assumption log 5). -/
def pidOpen (pid : Nat) : Bool := pid == 0xA01

/-! ### Grouped pids -/

/-- A pid of a context (Table TASK-6); an unused slot's timing reads as the table's default. -/
def State.valCtx (s : State) (c off : Nat) : Int :=
  let x := s.ctx c
  let ofCfg (f : CtxEntry → Nat) (d : Nat) : Nat := match x.cfg with
    | some e => f e
    | none => d
  let v : Nat := match off with
    | 0 => s.ctxState c
    | 1 => ofCfg CtxEntry.period 0
    | 2 => ofCfg CtxEntry.pegOffset 0
    | 3 => ofCfg CtxEntry.phase 0
    | 4 => ofCfg CtxEntry.dropCap 3
    | 5 => ofCfg CtxEntry.quota 0
    | 7 => ofCfg (fun e => 65536 * e.netFirst + e.netCount) 0
    | 8 => x.budget
    | 9 => x.bound
    | 10 => if c = 0 then s.sched.fwLast else x.execLast
    | 11 => if c = 0 then s.sched.fwWorst else x.execWorst
    | 12 => x.drops
    | 13 => x.dropState
    | 14 => if c = 0 then s.sched.fwWatchLimit else x.watchLimit
    | _ => if c = 0 then s.sched.fwWatchCount else x.watchCount
  (v : Int)

/-- image.ret.range.n (R66); 0 where no range is declared. -/
def State.valRange (s : State) (n : Nat) : Int :=
  match s.program.rets[n]? with
  | some r => ((shl r.area 60 + shl r.first 40 + shl r.len 20 + r.row : Nat) : Int)
  | none => 0

/-- A pid of a segment that is not a counter of the parameter store (Table RIO-13); an unconfigured segment reads 0. -/
def State.valSeg (s : State) (sg off : Nat) : Option Int :=
  let nodes := s.segNodes sg
  let v : Option Nat := match s.segCfg sg, s.net.cfg with
    | some g, some c =>
      (match off with
       | 0 => some (s.segState sg)
       | 1 => some g.cycle
       | 2 => some g.phase
       | 3 => some g.lead
       | 4 => some (c.window s.program g)
       | 5 => some (c.bound s.program g)
       | 6 => some (s.segFresh sg)
       | 7 => some nodes.length
       | 8 => some (nodes.filter (fun d => (s.node d.num).state == 2)).length
       | _ => none)
    | _, _ => if off < 9 then some 0 else none
  v.map (fun (n : Nat) => (n : Int))

/-- A bay answers: it is not lost, and runs. -/
def State.bayAnswers (s : State) (x : Nat) : Bool := !(s.engBay x).lost && (s.bay x).runs

/-- A bay-level pid that the engine holds. -/
def State.valBay (s : State) (x off : Nat) : Option Int :=
  match off with
  | 0 => some ((s.bayState x : Nat) : Int)
  | 3 => some ((s.freshEff x : Nat) : Int)
  | 9 => some ((s.bayFlt x : Nat) : Int)
  | 10 => some ((s.bayFltSticky x : Nat) : Int)
  | _ => none

/-- A value that the bay holds: as it stands where the bay answers, else as firmware last read it, and its default before the first
read (R208, assumption log 60). -/
def State.bayRead (s : State) (x key : Nat) (now : Option Int) (dflt : Int) : Int :=
  if s.bayAnswers x then now.getD dflt else (tfind (s.engBay x).lastRead key).getD dflt

/-- A free value in the range of a row. -/
def State.drawIn (s : State) (r : PRow) : Int × State :=
  let (x, t) := s.draw
  (r.lo + ((x % (r.hi - r.lo + 1).toNat : Nat) : Int), t)

/-- The value in force of a pid that is no block, for a session (R346). -/
def State.paramValue (s : State) (sess pid : Nat) (r : PRow) : Int × State :=
  match pidKind s.dev.part pid with
  | .plain =>
    if pidOpen pid then s.drawIn r
    else if pid = 0xB0B then (((s.session (sess % 16)).rights : Int), s)
    else ((s.valPlain pid).getD (s.pv pid), s)
  | .ctx c off => (s.valCtx c off, s)
  | .range n => (s.valRange n, s)
  | .fault _ _ => (s.pv pid, s)
  | .seg sg off => ((s.valSeg sg off).getD (s.pv pid), s)
  | .bay x off =>
    (match s.valBay x off, (s.bay x).readBayPid off with
     | some v, _ => (v, s)
     | none, some v => (s.bayRead x off (some v) (bayDefault x off), s)
     | none, none => (s.bayV x off, s))
  | .chan x n off =>
    (match (s.bay x).readChanPid n off s.clk.ticks with
     | some v => (s.bayRead x (chanKey (s.mode x n) n off) (some v) r.dflt, s)
     | none => (s.chanV x n off, s))
  | .modl x m off =>
    if off = 1 then (s.bayRead x (modOff m 1) (some (((s.bay x).modl m).code : Nat)) 0, s) else (s.modV x m off, s)
  | .none => (0, s)

/-! ### The dictionary (R350) -/

/-- ASCII bytes of a text. -/
def textBytes (t : String) : List Byte := t.toList.map (fun (c : Char) => BitVec.ofNat 8 c.toNat)

/-- Decimal digits of a number. -/
def decText (n : Nat) : String := toString n

/-- The letter of a bay. -/
def bayText (x : Nat) : String := if x = 0 then "a" else "b"

/-- The names that the chapters give a channel offset. -/
def chanNames (off : Nat) : List String := [nmChan, nmDig, nmAin, nmAout].filterMap (fun (t : List (Nat × String)) => tfind t off)

/-- The rows that the chapters give a channel offset. -/
def chanRows (off : Nat) : List PRow := [ptChan, ptDin, ptCnt, ptDout, ptAin, ptAout].filterMap (fun (t : List PRow) => pfind t off)

/-- The dotted name of a pid. -/
def pidName (part : Part) (pid : Nat) : String :=
  let of (t : List (Nat × String)) (k : Nat) : String := (tfind t k).getD ""
  match pidKind part pid with
  | .plain => of nmPlain pid
  | .ctx c off => "ctx." ++ decText c ++ "." ++ of nmCtx off
  | .range n => "image.ret.range." ++ decText n
  | .fault n off => "flt.src." ++ decText n ++ "." ++ of nmFlt off
  | .seg sg off => "net.seg." ++ decText sg ++ "." ++ of nmSeg off
  | .bay x off => "bay." ++ bayText x ++ "." ++ of nmBay off
  | .chan x n off => "ch." ++ bayText x ++ "." ++ decText n ++ "." ++ (chanNames off).headD ""
  | .modl x m off => "ain." ++ bayText x ++ ".m" ++ decText m ++ "." ++ of nmModl off
  | .none => ""

/-- The access byte of a dictionary entry. -/
def PRow.accessByte (r : PRow) : Nat :=
  (match r.acc with
   | .ro => 1
   | .rw => 0
   | .wo => 2
   | .w1c => 4
   | .rwl => 8) +
  16 * (match r.eff with
   | .now => 0
   | .nextPeg => 1
   | .inStop => 2
   | .atRestart => 3)

/-- A dictionary entry of 48 bytes: the row and name of the pid; a channel offset whose definitions differ is open (R350). -/
def State.dictEntry (s : State) (pid : Nat) : List Byte :=
  let off := pid % 0x40
  let rows : List PRow := match pidKind s.dev.part pid with
    | .chan _ _ _ => chanRows off
    | _ => (s.pidRow pid).toList
  let same (r : PRow) : Bool := rows.all (fun q => q.ty == r.ty && q.acc == r.acc && q.eff == r.eff)
  match rows with
  | r :: _ =>
    let one := match pidKind s.dev.part pid with
      | .chan _ _ _ => (chanNames off).eraseDups.length == 1 && same r
      | _ => true
    if one then
      let nm := textBytes (pidName s.dev.part pid)
      leBytes 2 pid ++ leBytes 1 r.ty ++ leBytes 1 r.accessByte ++ leBytes 1 nm.length ++ (nm ++ List.replicate 43 0#8).take 43
    else leBytes 2 pid ++ (Config.dictEntry pid ++ List.replicate 46 0#8).take 46
  | [] => leBytes 2 pid ++ List.replicate 46 0#8

/-! ### Blocks -/

/-- A 16-byte entry of net.nodes (R322). -/
def State.nodeEntry (s : State) (d : NodeCfg) : List Byte :=
  let y := s.node d.num
  leBytes 2 d.num ++ leBytes 1 d.seg ++ leBytes 1 y.state ++ leBytes 4 y.epoch ++ leBytes 2 y.status ++ leBytes 2 y.misses ++
    leBytes 4 y.missed

/-- A block's entry size and bytes; flt.records newest first. -/
def State.blockOf (s : State) (pid : Nat) : Nat × List Byte :=
  let one (n v : Nat) : Nat × List Byte := (n, leBytes n v)
  match pidKind s.dev.part pid with
  | .ctx c _ => (2, (s.program.readSet c).flatMap (leBytes 2))
  | .modl x m off =>
    if off = 6 then (4, s.sram.readN (dmaBase x m) 0x4000)
    else (4, (tget ((List.replicate 32 (leBytes 4 0x020000)).flatten) s.blocks (bayPid x (modOff m off))))
  | _ =>
    match pid with
    | 0x005 => one 16 Config.serial
    | 0x006 => one 16 Config.deviceId
    | 0x008 => one 48 s.fwHash
    | 0x010 => (48, (dictPids s.dev.part).flatMap s.dictEntry)
    | 0x020 => (32, tget (List.replicate 32 0#8) s.blocks pid)
    | 0x107 => one 48 s.program.hash
    | 0x820 => (32, match s.tmr.last with
      | some r => r.bytes
      | none => List.replicate 32 0#8)
    | 0x908 => (32, ((s.flt.records.flatMap FaultRec.bytes) ++ List.replicate 1024 0#8).take 1024)
    | 0x917 => (16, leBytes 4 s.wdg.evdPc ++ leBytes 4 0 ++ leBytes 8 s.wdg.evdSvc)
    | 0xB01 => one 16 s.sec.ownerKeyId
    | 0xB02 => (97, ((s.sec.owner.getD []) ++ List.replicate 97 0#8).take 97)
    | 0xB03 => (1, s.sec.policy)
    | 0xB04 => one 48 (if s.sec.policy.isEmpty then 0 else Config.sha384 s.sec.policy)
    | 0xB08 => (1, Config.deviceCert)
    | 0xB09 => (1, Config.issuerCert)
    | 0xC16 => (16, match s.net.cfg with
      | some c => c.nodes.flatMap s.nodeEntry
      | none => [])
    | _ => one 48 s.prog.netHash

/-! ### GET -/

/-- The status of reading a pid (Table HOST-12); 0 where it can be read. -/
def State.readStatus (s : State) (pid : Nat) : Nat :=
  if !pidExists s.dev.part pid then 1
  else match s.pidRow pid with
    | none => 7
    | some r => if r.acc == .wo then 3 else 0

/-- A SET of the pid is accepted and not yet in force. -/
def State.pidStaged (s : State) (pid : Nat) : Bool :=
  (tfind s.bootParams pid).isSome || (pid == 0x801 && s.tmr.requested.isSome) ||
    (match pidKind s.dev.part pid with
     | .ctx c 4 => (s.ctx c).capNext.isSome
     | _ => false)

/-- One entry of a GET response, and its status. -/
def State.getEntry (s : State) (sess pid : Nat) : List Byte × Nat × State :=
  let st := s.readStatus pid
  match (if st = 0 then s.pidRow pid else none) with
  | none => (leBytes 2 pid ++ leBytes 1 st ++ leBytes 1 0 ++ leBytes 2 0 ++ leBytes 2 0, st, s)
  | some r =>
    if r.ty = 9 then
      let (n, bs) := s.blockOf pid
      (leBytes 2 pid ++ leBytes 1 0 ++ leBytes 1 (2 + b2n (s.pidStaged pid)) ++ leBytes 2 8 ++ leBytes 2 0 ++
        leBytes 4 (bs.length / n) ++ leBytes 2 n ++ leBytes 2 0, 0, s)
    else
      let (v, t) := s.paramValue sess pid r
      let n := ptypeBytes r.ty
      (leBytes 2 pid ++ leBytes 1 0 ++ leBytes 1 (b2n (s.pidStaged pid)) ++ leBytes 2 n ++ leBytes 2 0 ++
        (leBytes n (pwire r.ty v) ++ List.replicate ((4 - n % 4) % 4) 0#8), 0, t)

/-- Entries for pids in order: the bytes, the first nonzero status, the state after the free values drawn. -/
def State.getEntries (s : State) (sess : Nat) (pids : List Nat) : List Byte × Nat × State :=
  match pids with
  | [] => ([], 0, s)
  | p :: rest =>
    let (bs, st, t) := s.getEntry sess p
    let (cs, st2, u) := t.getEntries sess rest
    (bs ++ cs, if st ≠ 0 then st else st2, u)

/-- GET (R346). -/
def execGet (m : BitVec 4) (s : State) : Res :=
  match s.request m.toNat 0x20 with
  | none => .next s
  | some r =>
    let n := leAt r.payload 0 2
    if n < 1 ∨ 64 < n then .next (s.refuse m.toNat 5 0)
    else if r.payload.length ≠ 4 + (2 * n + 3) / 4 * 4 then .next (s.refuse m.toNat 4 0)
    else
      let pids := (List.range n).map (fun i => leAt r.payload (4 + 2 * i) 2)
      let (bs, st, t) := s.getEntries r.session pids
      .next (t.answer m.toNat 0 st 0 (leBytes 2 n ++ leBytes 2 0 ++ bs))

/-! ### GETBLK -/

/-- GETBLK (R348): as many entries as are asked, there, and fit the frame. -/
def execGetblk (m : BitVec 4) (s : State) : Res :=
  match s.request m.toNat 0x22 with
  | none => .next s
  | some r =>
    let pid := leAt r.payload 0 2
    let first := leAt r.payload 4 4
    let asked := leAt r.payload 8 4
    let st := s.readStatus pid
    let isBlock := match s.pidRow pid with
      | some q => q.ty == 9
      | none => false
    if st ≠ 0 then .next (s.refuse m.toNat st 0)
    else if !isBlock then .next (s.refuse m.toNat 4 0)
    else
      let (n, bs) := s.blockOf pid
      let total := bs.length / n
      let got := min (total - first) (min asked ((4064 - 24) / n))
      .next (s.ok m.toNat (leBytes 2 pid ++ leBytes 2 n ++ leBytes 4 first ++ leBytes 4 got ++ leBytes 4 total ++
        (bs.drop (n * first)).take (n * got)))

/-! ### CUP (R353, Table HOST-16) -/

/-- The highest class of a pending record. -/
def Faults.classPending (f : Faults) : Nat := f.pending.foldl (fun c r => max c r.cls) 0

/-- The execution-mode byte: mode, by retirement, truss on two lanes. -/
def Tmr.modeByte (t : Tmr) : Nat := modeCode t.mode + 4 * b2n t.byRetirement + 8 * b2n !t.laneRetired.isEmpty

/-- Bytes 0x00-0x1F. -/
def State.cupHead (s : State) (full : Bool) : List Byte :=
  leBytes 2 1 ++ leBytes 2 (if full then 0xC38 else 0xD0) ++ leBytes 2 (partNumber s.dev.part) ++ leBytes 1 (b2n !full) ++ leBytes 1 0 ++
    leBytes 8 s.now ++ leBytes 1 (devCode s.dev.state) ++ leBytes 1 (subCode s.subNow) ++ leBytes 1 (roleCode s.dev.role) ++
    leBytes 1 s.stby.sync ++ leBytes 4 s.stby.epoch ++ leBytes 4 s.sec.fwVersion ++ leBytes 4 (s.pn 0x104)

/-- Bytes 0xC0-0xCF. -/
def State.cupFaults (s : State) : List Byte :=
  leBytes 4 s.brace ++ leBytes 1 s.flt.classPending ++ leBytes 1 s.wdg.ladder ++
    leBytes 1 (b2n s.flt.nfaultLow + 2 * b2n s.flt.aliveOn + 4 * b2n s.tmr.dbgBroken) ++ leBytes 1 s.tmr.modeByte ++
    leBytes 4 s.flt.seqNewest ++ leBytes 4 0

/-- Bytes 0x20-0xBF: hashes, program, staging and the armed edit. -/
def State.cupProgram (s : State) : List Byte :=
  leBytes 48 s.fwHash ++ leBytes 48 s.program.hash ++ leBytes 48 s.prog.netHash ++ leBytes 1 s.prog.slot ++ leBytes 1 s.prog.chain ++
    leBytes 1 ((s.valSys 0x10C).getD 0) ++ leBytes 1 (match s.prog.lockSession with
      | some id => id % 16
      | none => 255) ++
    leBytes 4 0 ++ leBytes 8 ((s.valSys 0x10D).getD 0)

/-- Bytes 0xD0-0xFF: log head, update, sessions, bays. -/
def State.cupLog (s : State) : List Byte :=
  let at_ := match s.nvm.logRing with
    | r :: _ => r.stime
    | [] => 0
  let bay (x : Nat) : List Byte :=
    if bayExists s.dev.part x then
      leBytes 1 (s.bayState x) ++ leBytes 1 (s.bay x).limpState ++ leBytes 2 (s.bayFlt x) ++ leBytes 4 (s.pn (bayPid x 15))
    else List.replicate 8 0#8
  leBytes 4 (s.pn 0xA10) ++ leBytes 4 (s.pn 0xA11) ++ leBytes 8 at_ ++ leBytes 1 s.updStageCode ++ leBytes 1 s.upd.result ++
    leBytes 6 0 ++ leBytes 1 ((List.range 16).filter (fun k => (s.session k).isOpen)).length ++ leBytes 7 0 ++ bay 0 ++ bay 1

/-- Bytes 0x100-0x13F: segments 1-8. -/
def State.cupSegs (s : State) : List Byte :=
  [1, 2, 3, 4, 5, 6, 7, 8].flatMap (fun sg =>
    let nodes := s.segNodes sg
    leBytes 1 (s.segState sg) ++ leBytes 1 0 ++ leBytes 2 nodes.length ++
      leBytes 2 (nodes.filter (fun d => (s.node d.num).state == 2)).length ++
      leBytes 2 (nodes.filter (fun d => (s.node d.num).state == 3)).length)

/-- Bytes 0x140-0x1BF: mailboxes. -/
def State.cupMailboxes (s : State) : List Byte :=
  (List.range 16).flatMap (fun m =>
    let x := s.mailbox m
    leBytes 1 (mbxCode x.state) ++ leBytes 1 x.owner ++ leBytes 2 x.lastSession ++ leBytes 4 x.lastSeq)

/-- Bytes 0x1C0-0x3B7: contexts 1-63. -/
def State.cupContexts (s : State) : List Byte :=
  userCtxs.flatMap (fun c =>
    let x := s.ctx c
    leBytes 1 (s.ctxState c) ++ leBytes 1 x.consec ++ leBytes 1 x.lastReason ++ leBytes 1 (b2n x.capRaised) ++ leBytes 4 x.drops)

/-- A session slot's 136 bytes. -/
def Session.cup (y : Session) : List Byte :=
  let st := if !y.used then 0 else if !y.isOpen then 3 else if y.requester = 1 then 1 else 2
  let entry (h : HistEntry) : List Byte := leBytes 4 h.seq ++ leBytes 1 h.opcode ++ leBytes 1 0 ++ leBytes 2 h.completion
  leBytes 2 y.id ++ leBytes 1 st ++ leBytes 1 y.requester ++ leBytes 4 y.next ++
    (y.history.flatMap entry ++ List.replicate 128 0#8).take 128

/-- The report, full or redacted. -/
def State.cupReport (s : State) (full : Bool) : List Byte :=
  s.cupHead full ++
    (if full then
       s.cupProgram ++ s.cupFaults ++ s.cupLog ++ s.cupSegs ++ s.cupMailboxes ++ s.cupContexts ++
         (List.range 16).flatMap (fun k => (s.session k).cup)
     else List.replicate 160 0#8 ++ s.cupFaults)

/-- CUP (R353): full to a session that the policy grants MONITOR, redacted without one and in LOCKOUT. -/
def execCup (m : BitVec 4) (s : State) : Res :=
  match s.request m.toNat 0x01 with
  | none => .next s
  | some r =>
    let full := r.session != 0 && s.dev.state != .lockout && bit (s.session (r.session % 16)).rights 0
    .next (s.ok m.toNat (s.cupReport full))

end Sys2Proof.Machine
end

