-- ==== Sys2Proof/Machine/ParamSet.lean ====
section
/-!
DEFINITION. SET (R347): its entries, the checks of its first pass against the values that it leaves in force, and its second pass,
which applies each entry under its "takes effect" rule (R9, R68, R86, R197, R202, R204, R210, R214, R216, R233, R237, R241, R271, R286,
R290, R322, R354, R365, R374, R375, R397, R436, R460, R469, R470).
-/

namespace Sys2Proof.Machine

/-! ### Entries -/

/-- An entry of a SET: the pid and the bytes of its value. -/
structure SetEntry where
  pid : Nat
  data : List Byte
deriving DecidableEq, Repr

/-- The entries of a payload, `n` of them and nothing after them; none where the lengths do not fit. -/
def readEntries (n : Nat) (bs : List Byte) : Option (List SetEntry) :=
  match n with
  | 0 => if bs.isEmpty then some [] else none
  | k + 1 =>
    let len := leAt bs 2 2
    let all := 4 + (len + 3) / 4 * 4
    if bs.length < all then none
    else (readEntries k (bs.drop all)).map (fun (rest : List SetEntry) =>
      SetEntry.mk (leAt bs 0 2) ((bs.drop 4).take len) :: rest)

/-- The value that an entry writes. -/
def SetEntry.value (e : SetEntry) (r : PRow) : Int := pvalue r.ty (leNat e.data)

/-- The last entry of a SET for a pid. -/
def lastEntry (es : List SetEntry) (pid : Nat) : Option SetEntry := es.reverse.find? (fun e => e.pid == pid)

/-- Bytes of an entry and entries of a block that a SET writes: the name, the FIR sets, the network keys; a node key for each node
number (R322). -/
def blockShape (pid : Nat) : Nat × Nat :=
  if pid = 0xC15 then (36, 1024) else if pid = 0x20 ∨ pid = 0xC14 then (32, 1) else (4, 32)

/-- The first entry, the count and the bytes that a block's value names. -/
def SetEntry.first (e : SetEntry) : Nat := leAt e.data 0 4
/-- See `SetEntry.first`. -/
def SetEntry.count (e : SetEntry) : Nat := leAt e.data 4 4
/-- See `SetEntry.first`. -/
def SetEntry.bytes (e : SetEntry) : List Byte := e.data.drop 8

/-! ### Channel modes in the master copy (R202, R210) -/

/-- The channels beside `n` in the group that a mode makes `n` the leader of. -/
def groupRest (mode n : Nat) : List Nat :=
  if mode = 4 ∨ mode = 6 then [n + 1] else if mode = 7 then [n + 1, n + 2, n + 3] else []

/-- The safe states that a mode allows (Table BAY-8). -/
def safeAllowed (mode v : Nat) : Bool :=
  if modeIsDo mode then decide (v ≤ 3)
  else if modeIsAo mode then v == 0 || v == 2 || (v == 4 && mode != 18)
  else v == 0

/-- A channel's mode in the master copy; a safe state that it does not allow becomes OFF, and outside the digital output modes it has no
limp map entry (R202, R204; assumption log 20). -/
def State.putMode (s : State) (x n mode : Nat) : State :=
  let t := s.setPv (bayPid x (chanOff n 0)) (mode : Nat)
  let u := if safeAllowed mode (t.chanN x n 1) then t else t.setPv (bayPid x (chanOff n 1)) 0
  if modeIsDo mode then u else (u.setPv (bayPid x (chanOff n 2)) 255).setPv (bayPid x (chanOff n 3)) 0

/-- A SET of a leader's mode: its followers become DISABLED, the members of its new group FOLLOWER (R210). -/
def State.setMode (s : State) (x n mode : Nat) : State :=
  let t := (groupRest (s.mode x n) n).foldl (fun u m => u.putMode x m 0) s
  (groupRest mode n).foldl (fun u m => u.putMode x m 0xFF) (t.putMode x n mode)

/-- The mode that a SET leaves in force for a channel that it names, before the consequences for groups. -/
def State.modeLeft (s : State) (es : List SetEntry) (x n : Nat) : Nat :=
  match lastEntry es (bayPid x (chanOff n 0)) with
  | some e => leNat e.data
  | none => s.mode x n

/-- The leader whose group takes in channel `n`, as the SET leaves the leaders' modes. -/
def State.leaderLeft (s : State) (es : List SetEntry) (x n : Nat) : Option Nat :=
  [n / 2 * 2, n / 4 * 4].find? (fun l => l != n && (groupRest (s.modeLeft es x l) l).contains n)

/-! ### The values that a SET leaves in force -/

/-- The key of the parameter store that a pid writes in the present modes. -/
def State.keyOf (s : State) (pid : Nat) : Nat :=
  match pidKind s.dev.part pid with
  | .chan x n off => s.chanPid x n off
  | _ => pid

/-- The state with the modes of a SET and then all its values (pass 1 of R347 judges rules against it). -/
def State.preview (s : State) (es : List SetEntry) : State :=
  let p := es.foldl (fun (t : State) (e : SetEntry) =>
    match pidKind t.dev.part e.pid with
    | .chan x n 0 => t.setMode x n (leNat e.data)
    | _ => t) s
  es.foldl (fun (t : State) (e : SetEntry) =>
    match pidKind t.dev.part e.pid, t.pidRow e.pid with
    | .chan _ _ 0, _ => t
    | _, some r =>
      if r.ty = 9 then t
      else if r.eff == .atRestart then { t with bootParams := tset t.bootParams e.pid (e.value r) }
      else t.setPv (t.keyOf e.pid) (e.value r)
    | _, none => t) p

/-- A value as the next boot would find it. -/
def State.atBoot (s : State) (pid : Nat) : Int := (tfind s.bootParams pid).getD (s.pv pid)

/-- A context's timing value that a SET leaves in force (R68). -/
def State.ctxLeft (s : State) (es : List SetEntry) (c off : Nat) : Int :=
  match lastEntry es (0x200 + 16 * c + off) with
  | some e => (leNat e.data : Nat)
  | none => s.valCtx c off

/-! ### Ranges -/

/-- The four blocks of a bay: area code, alignment and length (Table BAY-6). -/
def mapShape (off : Nat) : Nat × Nat × Nat :=
  if off = 5 then (0, 32, 32) else if off = 6 then (1, 16, 16) else if off = 7 then (2, 32, 32) else (3, 16, 16)

/-- A base that R197 refuses by itself: wrong area, misaligned, or past the end of the area. -/
def mapBad (off v : Nat) : Bool :=
  let (area, al, len) := mapShape off
  ptArea v != area || ptIndex v % al != 0 || decide (areaLen 0 area < ptIndex v + len)

/-- Reactions that R375 refuses for a source. -/
def reactBad (src v : Nat) : Bool :=
  let cls := faultClass src
  let block := if src = 21 ∨ src = 22 ∨ src = 24 then rcBLOCK else 0
  let ok := if cls = 1 then rcINT + rcPIN else if cls = 2 then rcINT + rcNMI + block + rcCHIP + rcPIN + rcGRACE + rcSAFE
    else rcINT + rcNMI + rcCHIP + rcPIN
  clr64 v ok != 0 || (cls == 3 && !bit v 3)

/-- The analog input filter that a SET leaves in force is outside 10 to 24,000 results a second (R252). -/
def State.filterBad (p : State) (x n : Nat) : Bool :=
  let a := if p.chanV x n 6 = 0 then 1 else p.chanV x n 8
  let ra := p.chanV x n 5 * a
  decide (768000 < 10 * ra) || decide (24000 * ra < 768000)

/-- A channel value outside its range. -/
def State.chanRangeBad (p : State) (x n off : Nat) (r : PRow) (v : Int) : Bool :=
  let g := modeGroup (p.mode x n)
  if off = 0 then
    decide (18 < v) || ((v == 4 || v == 6) && n % 2 != 0) || (v == 7 && n % 4 != 0)
  else if off = 1 then decide (4 < v)
  else if off = 0x2F then g == 1 && decide (3 < v)
  else if !prowAllows r v then true
  else if g = 1 then
    (off == 4 && v == 2) || (off == 0x11 && v == 3) || (off == 0x1A && decide (v < p.chanV x n 0x18))
  else if g = 2 then
    (off == 8 && decide (1 < v) && p.chanV x n 6 == 0) || ((off == 5 || off == 6 || off == 8) && p.filterBad x n)
  else false

/-- The value is outside the range column, or outside what it leaves in force for the pids that its range depends on (R347). -/
def State.rangeBad (s p : State) (es : List SetEntry) (e : SetEntry) (r : PRow) : Bool :=
  let v := e.value r
  let has (pid : Nat) : Bool := es.any (fun f => f.pid == pid)
  if r.ty = 9 then decide ((blockShape e.pid).2 < e.first + e.count)
  else match pidKind s.dev.part e.pid with
    | .ctx c 1 =>
      let peg := s.ctxLeft es c 2
      let phase := s.ctxLeft es c 3
      !prowAllows r v || (!has (e.pid + 1) && (decide (peg < 25) || decide (v < peg))) || (!has (e.pid + 2) && decide (v - 25 < phase))
    | .ctx c 2 => !prowAllows r v || decide (s.ctxLeft es c 1 < v)
    | .ctx c 3 => !prowAllows r v || decide (s.ctxLeft es c 1 - 25 < v)
    | .fault n 0 => reactBad n v.toNat
    | .bay _ off => if 5 ≤ off ∧ off ≤ 8 then mapBad off v.toNat else !prowAllows r v
    | .chan x n off => p.chanRangeBad x n off r v
    | _ =>
      if e.pid = 0xA36 then
        v != 0xFFFFFFFF && !((ptArea v.toNat == 0 || ptArea v.toNat == 4) && decide (ptIndex v.toNat < areaLen 0 (ptArea v.toNat)))
      else !prowAllows r v || (e.pid == 0xE20 && s.dev.part == .p7232 && decide (1022 < v))

/-! ### Cross-parameter rules (CONFLICT) -/

/-- A block of a bay would overlap the other bay's block, or one that the network configuration maps (R197): the pid in conflict, 0
for the network's. -/
def State.mapConflict (s p : State) (x off v : Nat) : Option Nat :=
  let len := (mapShape off).2.2
  let other := bayPid (1 - x) off
  if bayExists s.dev.part (1 - x) && rangesMeet (v, len) (p.bayN (1 - x) off, len) then some other
  else match s.net.cfg with
    | some c => if c.nodes.any (fun d => d.ranges.any (fun g => rangesMeet (v, len) g)) then some 0 else none
    | none => none

/-- A channel of a list holds a thermal latch or a clamp lock (R237, R283). -/
def State.groupLatched (s : State) (x : Nat) (l : List Nat) : Bool :=
  l.any (fun m => ((s.bay x).chan m).dout.thermal || ((s.bay x).chan m).dout.clampLock)

/-- The rules for a SET of a channel's mode: a follower's, a latched group's, a limp source's (R204, R210, R237, R283). -/
def State.modeConflict (s p : State) (es : List SetEntry) (x n mode : Nat) : Option Nat :=
  let group := n :: (groupRest (s.mode x n) n ++ groupRest mode n)
  let moved := n :: (groupRest (s.mode x n) n ++ groupRest mode n).filter (fun m => s.mode x m != p.mode x m)
  let entry (a : Nat) : Bool :=
    modeIsDo (s.mode x a) && modeIsDo (p.mode x a) && s.chanV x a 2 == p.chanV x a 2 && moved.any (fun m => s.chanN x a 2 == m)
  match s.leaderLeft es x n with
  | some l => some (bayPid x (chanOff l 0))
  | none =>
    if s.groupLatched x group then some (bayPid x (chanOff n (if modeIsAo (s.mode x n) then 0x15 else 0x20)))
    else ((List.range (bayChannels s.dev.part)).find? entry).map (fun a => bayPid x (chanOff a 2))

/-- The pid that a value conflicts with. -/
def State.setConflict (s p : State) (es : List SetEntry) (e : SetEntry) (r : PRow) : Option Nat :=
  let v := e.value r
  match pidKind s.dev.part e.pid with
  | .bay x off => if 5 ≤ off ∧ off ≤ 8 then s.mapConflict p x off v.toNat else none
  | .chan x n 0 => s.modeConflict p es x n v.toNat
  | .chan x n 1 => if v = 3 ∧ p.chanV x n 2 = 255 then some (bayPid x (chanOff n 2)) else none
  | .chan x n 2 =>
    if v = 255 then (if p.chanV x n 1 = 3 then some (bayPid x (chanOff n 1)) else none)
    else if bayChannels s.dev.part ≤ v.toNat then some e.pid
    else if modeIsDi (p.mode x v.toNat) then none
    else some (bayPid x (chanOff v.toNat 0))
  | _ =>
    if e.pid = 0x911 ∧ 1000 * p.atBoot 0x910 ≤ v then some 0x910
    else if e.pid = 0x910 ∧ 1000 * v ≤ p.atBoot 0x911 then some 0x911
    else if e.pid = 0x74B ∧ p.pv 0x74A ≠ 0 ∧ p.pv 0x74A ≤ v then some 0x74A
    else none

/-! ### Pass 1 -/

/-- A mode that does not define the offset, does not use it, or does not allow the value (R202, R204, R216). -/
def State.modeBad (t : State) (e : SetEntry) (v : Int) : Bool :=
  match pidKind t.dev.part e.pid with
  | .chan x n off =>
    let mode := t.mode x n
    !chanRowUsed mode off || (off == 1 && !safeAllowed mode v.toNat) || (off == 2 && v != 255 && !modeIsDo mode)
  | _ => false

/-- A state rule: "in STOP" elsewhere, an unused context (R68), the self-test outside TEST (R372), SPLIT outside STOP or TRIPLE with a
core retired (R364). -/
def State.stateBad (s : State) (e : SetEntry) (r : PRow) : Bool :=
  let v := e.value r
  (r.eff == .inStop && s.dev.state != .stop) ||
    (match pidKind s.dev.part e.pid with
     | .ctx c off => c != 0 && (off ≤ 4 || off == 14) && (s.ctx c).cfg.isNone
     | _ =>
       if e.pid = 0x811 then s.subNow != .test
       else if e.pid = 0x801 then (v == 2 && s.dev.state != .stop) || (v == 0 && !s.tmr.retired.isEmpty)
       else false)

/-- A network key (R322). -/
def pidIsKey (pid : Nat) : Bool := pid == 0xC14 || pid == 0xC15

/-- The session may set a pid: right 6 for keys and the RWL pids of 0x0B00-0x0BFF, right 1 for the others (Table SEC-10). -/
def setGranted (rights pid : Nat) (r : PRow) : Bool :=
  if pidIsKey pid || (r.acc == .rwl && decide (0xB00 ≤ pid) && decide (pid < 0xC00)) then bit rights 6 else bit rights 1

/-- The length of a value fits its type. -/
def lengthFits (e : SetEntry) (r : PRow) : Bool :=
  if r.ty = 9 then decide (8 ≤ e.data.length) && e.data.length == 8 + (blockShape e.pid).1 * e.count
  else e.data.length == ptypeBytes r.ty

/-- The first check that an entry fails, in the order of Table HOST-12, with its detail; (0, 0) where it passes. `p` is the state that
the SET leaves in force. -/
def State.entryStatus (s p : State) (rights : Nat) (es : List SetEntry) (e : SetEntry) : Nat × Nat :=
  if !pidExists s.dev.part e.pid then (1, 0)
  else match p.pidRow e.pid with
    | none => (7, 0)
    | some r =>
      if r.acc == .ro then (2, 0)
      else if !lengthFits e r then (4, 0)
      else if s.rangeBad p es e r then (5, 0)
      else if p.modeBad e (e.value r) then (7, 0)
      else if s.stateBad e r then (6, 0)
      else if s.sec.locked && (r.acc == .rwl || pidIsKey e.pid) then (8, 0)
      else if !setGranted rights e.pid r then (9, 0)
      else match s.setConflict p es e r with
        | some d => (0xC, d)
        | none => (0, 0)

/-! ### Pass 2: bays -/

/-- A value that the bay holds: the master copy changes, and the bay commits it; a bay that does not answer leaves both as they were
(R214). -/
def State.bayCommit (s : State) (x : Nat) (f : State → State) : State × Nat × Nat :=
  if s.bayAnswers x then ((f s).writeMaster x, 0, 0) else (s, 0xB, 0xFF)

/-- A request to the bay whose status refuses the SET (R241, R286). -/
def State.bayAsk (s : State) (x : Nat) (f : Bay → Nat × Bay) : State × Nat × Nat :=
  if s.bayAnswers x then
    let (st, b) := f (s.bay x)
    (s.putBay x b, if st = 0 then 0 else 0xB, st)
  else (s, 0xB, 0xFF)

/-- A channel's entry: the mode with its group, the requests to the bay, any other value in the master copy; over-current
thresholds keep their order, and a new retry limit fills the retries (R233, R234). -/
def State.setChanEntry (s : State) (x n off : Nat) (v : Int) : State × Nat × Nat :=
  let g := modeGroup (s.mode x n)
  let tick := s.clk.ticks
  if off = 0 then s.bayCommit x (fun t => t.setMode x n v.toNat)
  else if off = 0x2F then s.bayAsk x (fun b => b.protClear n v.toNat tick)
  else if g = 3 ∧ off = 9 then s.bayAsk x (fun b => b.trimWrite n v.toNat 0 tick s.now)
  else if g = 3 ∧ off = 10 then s.bayAsk x (fun b => b.trimWrite n 6 v tick s.now)
  else if g = 3 ∧ off = 11 then s.bayAsk x (fun b => b.trimWrite n 7 v tick s.now)
  else if g = 1 ∧ off = 0x18 then
    s.bayCommit x (fun t =>
      let u := t.setPv (t.chanPid x n 0x18) v
      if u.chanV x n 0x1A < v then u.setPv (u.chanPid x n 0x1A) v else u)
  else if g = 1 ∧ off = 0x1B then
    let (t, st) := s.bayCommit x (fun t => t.setPv (t.chanPid x n off) v)
    if st.1 = 0 then
      let b := t.bay x
      let c := b.chan n
      (t.setBay x (b.setChan n { c with dout := { c.dout with retryLeft := v.toNat } }), st)
    else (t, st)
  else s.bayCommit x (fun t => t.setPv (t.chanPid x n off) v)

/-- The apply-lead check of R50 on the values in force. -/
def State.leadNow (s : State) : Bool := s.leadOk (s.inForce s.program []) s.net.cfg 0

/-- A value whose SET makes the apply-lead check run: the bay lead, the row cap, a Q or QW base (R50). -/
def State.setLead (s : State) (pid : Nat) (v : Int) : State × Nat × Nat :=
  let t := s.setPv pid v
  if t.leadNow then (t.setPv 0x613 (t.emitBound (t.inForce t.program [])), 0, 0) else (s, 0xA, 0x1C)

/-- The sticky bits of a bay cleared; those whose condition is live are set again at once (R207). -/
def State.clearBaySticky (s : State) (x mask : Nat) : State :=
  let b := s.bay x
  let y := s.engBay x
  let t := (s.setBay x { b with sticky := clr64 b.sticky mask }).setEngBay x { y with sticky := clr64 y.sticky mask }
  let live := land64 mask (t.bayFlt x)
  t.setEngBay x { t.engBay x with sticky := lor64 (t.engBay x).sticky live }

/-- A bay-level entry. -/
def State.setBayEntry (s : State) (x off : Nat) (v : Int) : State × Nat × Nat :=
  if off = 1 ∨ off = 4 then s.bayCommit x (fun t => t.setPv (bayPid x off) v)
  else if off = 6 ∨ off = 8 then s.setLead (bayPid x off) v
  else if off = 10 then (s.clearBaySticky x v.toNat, 0, 0)
  else (s.setPv (bayPid x off) v, 0, 0)

/-! ### Pass 2: blocks -/

/-- A list of bytes with others written over it from an offset on. -/
def overlayBytes (bs : List Byte) (off : Nat) (new : List Byte) : List Byte := bs.take off ++ new ++ bs.drop (off + new.length)

/-- Every configured node goes through start-up again (R322). -/
def NetState.restartNodes (n : NetState) : NetState :=
  { n with nodes := n.nodes.map (fun (e : Nat × NodeState) => (e.1, { e.2 with step := 1, retryAt := none })) }

/-- A block entry: the name, a FIR set, NS, node keys. -/
def State.setBlockEntry (s : State) (e : SetEntry) : State × Nat × Nat :=
  let put (t : State) : State :=
    { t with blocks := tset t.blocks e.pid (overlayBytes (t.blockOf e.pid).2 ((blockShape e.pid).1 * e.first) e.bytes) }
  match pidKind s.dev.part e.pid with
  | .modl x _ _ => s.bayCommit x put
  | _ =>
    if e.pid = 0xC14 then
      (if e.count = 0 then s else { s with sec := { s.sec with ns := some e.bytes }, net := s.net.restartNodes }, 0, 0)
    else if e.pid = 0xC15 then
      let keys := (List.range e.count).foldl (fun (t : List (Nat × List Byte)) i =>
        tset t (leAt e.bytes (36 * i) 2) ((e.bytes.drop (36 * i + 4)).take 32)) s.sec.nodeKeys
      ({ s with sec := { s.sec with nodeKeys := keys } }, 0, 0)
    else (put s, 0, 0)

/-! ### Pass 2: the rest -/

/-- A test of the comparators (R372): it passes or names its first failing point, which takes the unit to LOCKOUT; which, and how long
it took, are free values (assumption log 5). -/
def State.selftestRun (s : State) : State :=
  let (r, t) := s.draw
  let (d, u) := t.draw
  let v := u.setPv 0x812 ((d % 401 : Nat) : Int)
  if r % 1025 = 1024 then v.setPv 0x810 0xFFFF
  else (v.setPv 0x810 ((r % 1024 : Nat) : Int)).raise 27 0 (r % 1024)

/-- A request for an execution mode (R9, R365): one that asks for what is in force is done at once, and in STOP the change starts when
the SET completes. -/
def State.requestMode (s : State) (v : Int) : State :=
  let m := modeOf v
  if s.tmr.mode == m then { s.setPv 0x801 v with tmr := { s.tmr with requested := none } }
  else
    let t := { s with tmr := { s.tmr with requested := some m, reqAt := s.now } }
    if s.dev.state == .stop && s.coresRun then t.changeMode m else t

/-- A drop cap or watch limit of a context (R9, R68, R69). -/
def State.setCtxEntry (s : State) (pid c off : Nat) (v : Int) : State :=
  let x := s.ctx c
  let t := s.setPv pid v
  if off = 14 then
    (if c = 0 then { t with sched := { t.sched with fwWatchLimit := v.toNat } } else t.setCtx c { x with watchLimit := v.toNat })
  else if off = 4 then
    (if s.dev.state == .stop then t.setCtx c { x with cfg := x.cfg.map (fun k => { k with dropCap := v.toNat }), capNext := none }
     else t.setCtx c { x with capNext := some v.toNat })
  else t

/-- A plain entry. -/
def State.setPlainEntry (s : State) (pid : Nat) (v : Int) : State × Nat × Nat :=
  let ok (t : State) : State × Nat × Nat := (t, 0, 0)
  match pid with
  | 0x111 =>
    ok ((List.range 16).foldl (fun (t : State) k =>
      let y := t.session k
      if y.isOpen then t.setSession k { y with lastReq := t.clk.ticks } else t) (s.setPv pid v))
  | 0x605 => s.setLead pid v
  | 0x610 => s.setLead pid v
  | 0x61A => ok s.clearForces
  | 0x747 =>
    let t := s.setPv pid v
    let u := if v = 0 then { t with clk := { t.clk with syncInOk := false, expected := none } } else t
    ok u.updateSource
  | 0x74C =>
    ok (if s.clk.source = 2 then { s with clk := { s.clk with stagedSet := some v.toNat } }
        else { s with clk := { s.clk with stime := v.toNat % stimeMod, frac := 0, owed := 0 } })
  | 0x783 => ok ((s.setPv pid v).startHoldup s.pwr.vin)
  | 0x784 => ok ((s.setPv pid v).startHoldup s.pwr.vin)
  | 0x785 => ok ((s.setPv pid v).startHoldup s.pwr.vin)
  | 0x801 => ok (s.requestMode v)
  | 0x811 => ok s.selftestRun
  | 0x901 => ok (s.clearSticky v.toNat)
  | _ => ok (s.setPv pid v)

/-- One entry applied under its "takes effect" rule: the state after it, and the status and detail where it fails at
application. -/
def State.applyEntry (s : State) (es : List SetEntry) (e : SetEntry) : State × Nat × Nat :=
  match s.pidRow e.pid with
  | none => (s, 7, 0)
  | some r =>
    let v := e.value r
    if s.modeBad e v then (s, 7, 0)
    else if r.eff == .atRestart then ({ s with bootParams := tset s.bootParams e.pid v }, 0, 0)
    else if r.ty = 9 then s.setBlockEntry e
    else match pidKind s.dev.part e.pid with
      | .ctx c off => (s.setCtxEntry e.pid c off v, 0, 0)
      | .bay x off => s.setBayEntry x off v
      | .chan x n off =>
        let c := if off = 0 then s.modeConflict s (es.filter (fun f => f.pid == e.pid)) x n v.toNat else none
        (match c with
         | some d => (s, 0xC, d)
         | none => s.setChanEntry x n off v)
      | .modl x m off => s.bayCommit x (fun t => t.setPv (bayPid x (modOff m off)) v)
      | .plain => s.setPlainEntry e.pid v
      | _ => (s.setPv e.pid v, 0, 0)

/-! ### Pass 2: the entries that R86 judges together -/

/-- A pid whose SET runs the check of R86. -/
def isChecked (part : Part) (pid : Nat) : Bool :=
  match pidKind part pid with
  | .ctx _ off => off == 1 || off == 2 || off == 3
  | _ => pid == 0x703 || pid == 0x704

/-- A value of the schedule put into force. -/
def State.putChecked (s : State) (e : SetEntry) : State :=
  let v := leNat e.data
  let t := s.setPv e.pid (v : Nat)
  match pidKind s.dev.part e.pid with
  | .ctx c off =>
    let x := t.ctx c
    let set (k : CtxEntry) : CtxEntry :=
      if off = 1 then { k with period := v } else if off = 2 then { k with pegOffset := v } else { k with phase := v }
    t.setCtx c { x with cfg := x.cfg.map set }
  | _ => t

/-- All of them, in force or refused together: the check runs once, its result is kept, and nothing else changes where it or the
apply-lead check fails (R50, R86, R347). -/
def State.applyChecked (s : State) (es : List SetEntry) : State × Nat × Nat :=
  let t := (es.filter (fun e => isChecked s.dev.part e.pid)).foldl State.putChecked s
  let p := t.inForce t.program []
  let r := t.schedCheck p 0
  if r.code ≠ 0 then (s.setPv 0x701 (r.word : Nat), 0xA, r.word)
  else if !t.leadOk p t.net.cfg 0 then (s.setPv 0x701 (r.word : Nat), 0xA, 0x1C)
  else (t.applySched r p, 0, 0)

/-- Pass 2 from entry `i` on: the state, the number of the entry that failed with its status and detail, none where all are applied.
`done` says that the entries of R86 have been applied. An entry of a pid in `skip` is accepted, and the value of another requester stays in
force (R352). -/
def State.applyEntries (s : State) (skip : List Nat) (es todo : List SetEntry) (i : Nat) (done : Bool) : State × Option (Nat × Nat × Nat) :=
  match todo with
  | [] => (s, none)
  | e :: rest =>
    if skip.contains e.pid then s.applyEntries skip es rest (i + 1) done
    else if isChecked s.dev.part e.pid then
      if done then s.applyEntries skip es rest (i + 1) true
      else
        let (t, st, d) := s.applyChecked (es.filter (fun f => !skip.contains f.pid))
        if st = 0 then t.applyEntries skip es rest (i + 1) true else (t, some (i, st, d))
    else
      let (t, st, d) := s.applyEntry es e
      if st = 0 then t.applyEntries skip es rest (i + 1) done else (t, some (i, st, d))

/-- The pids that a requester with a lower ID has set in this FCLK cycle: its values are the ones in force (R9, R352). -/
def State.setBefore (s : State) (requester : Nat) : List Nat :=
  if s.hp.setTick = s.clk.ticks then (s.hp.setBy.filter (fun e => decide (e.2 < requester))).map Prod.fst else []

/-- The pids that a SET has set in this cycle, noted with its requester. -/
def State.noteSet (s : State) (es : List SetEntry) (requester : Nat) : State :=
  let before := if s.hp.setTick = s.clk.ticks then s.hp.setBy else []
  { s with hp := { s.hp with setTick := s.clk.ticks, setBy := es.map (fun e => (e.pid, requester)) ++ before } }

/-! ### SET -/

/-- A pid whose value a settings copy holds (R435). -/
def State.pidKept (s : State) (pid : Nat) : Bool :=
  match s.pidRow pid, pidKind s.dev.part pid with
  | some r, .chan x n off => (r.acc == .rw || r.acc == .rwl) && chanHeld (s.mode x n) off
  | some r, _ => r.acc == .rw || r.acc == .rwl
  | none, _ => false

/-- A pid whose SET is complete when it is staged (R341). -/
def State.pidStages (s : State) (pid : Nat) : Bool :=
  s.dev.state != .stop && (match s.pidRow pid with
    | some r => r.eff == .nextPeg
    | none => false)

/-- The response data of a refused SET: the entry refused and the entries applied. -/
def setRefusedData (index applied : Nat) : List Byte := leBytes 2 index ++ leBytes 2 applied

/-- A settings copy is due, and mailbox `m` waits for it (R436). -/
def State.awaitCopy (s : State) (m : Nat) : State :=
  { s with nvm := { s.nvm with setDirty := true, setWaiting := s.nvm.setWaiting ++ [m] } }

/-- SET (R347, R436): refused whole in pass 1, or applied entry by entry; where the settings keep a value, the answer waits for the
copy that holds it. -/
def execSet (m : BitVec 4) (s : State) : Res :=
  match s.request m.toNat 0x21 with
  | none => .next s
  | some r =>
    let n := leAt r.payload 0 2
    let rights := (s.session (r.session % 16)).rights
    if s.nvm.setWaiting.contains m.toNat || s.nvm.setRunMbx.contains m.toNat then .next s
    else if n < 1 ∨ 32 < n then .next (s.answer m.toNat 9 5 0 (setRefusedData 0xFFFF 0))
    else
      match readEntries n (r.payload.drop 4) with
      | none => .next (s.answer m.toNat 9 4 0 (setRefusedData 0xFFFF 0))
      | some es =>
        let p := s.preview es
        match es.zipIdx.find? (fun e => (s.entryStatus p rights es e.1).1 != 0) with
        | some e =>
          let st := s.entryStatus p rights es e.1
          .next (s.answer m.toNat 9 st.1 st.2 (setRefusedData e.2 0))
        | none =>
          match s.applyEntries (s.setBefore r.requester) es es 0 false with
          | (t0, some (i, st, d)) =>
            let t := t0.noteSet (es.take i) r.requester
            let kept := (es.take i).any (fun e => t.pidKept e.pid)
            let u := if kept then { t with nvm := { t.nvm with setDirty := true } } else t
            .next (u.answer m.toNat 9 st d (setRefusedData i i))
          | (t0, none) =>
            let t := t0.noteSet es r.requester
            if es.any (fun e => t.pidKept e.pid && !s.pidStages e.pid) then .next (t.awaitCopy m.toNat).dispatch
            else
              let u := if es.any (fun e => t.pidKept e.pid) then { t with nvm := { t.nvm with setDirty := true } } else t
              .next (u.ok m.toNat (setAllData n))

end Sys2Proof.Machine
end

