-- ==== Sys2Proof/Machine/Boot.lean ====
section
/-!
DEFINITION. Boot and INIT: the steps of Table PWR-8 in order, with the checks of Table SEC-5 as the command's operands give their outcomes
(R27, R61, R118, R134, R214, R305, R368, R378, R384, R385, R387, R403-R405, R431, R433, R435-R437, R441, R446, R447, R453, R463, R465,
R471, R474).
-/

namespace Sys2Proof.Machine

/-! ### Records of boot -/

/-- A BOOT record with the state that boot reached. -/
def State.logBoot (s : State) (reached : DevState) : State :=
  s.log 1 (leBytes 1 s.pwr.cause ++ leBytes 1 (devCode reached) ++ leBytes 2 0 ++ leBytes 4 (s.pn 0x104) ++ leBytes 4 s.sec.fwVersion)

/-- A check of boot that ends in LOCKOUT: its source is raised, and LOCKOUT follows when the record is durable (R377, R403). -/
def State.bootFail (s : State) (src data : Nat) : State := (s.raise src 0 data).logBoot .lockout

/-- The newest fault sequence that the log holds: the fault sequence goes on from it (R379). -/
def Nvm.faultSeqNewest (n : Nvm) : Nat := n.logRing.foldl (fun a r => if r.type = 0x10 then max a r.faultSeq else a) 0

/-- The CLK_LOSS record that PD_AON kept is formed and logged (R387, R472). -/
def State.clkLossRecord (s : State) : State :=
  if s.pwr.clkRecord then
    let from_ : DevState := match s.pwr.clkState with
      | 1 => .boot
      | 2 => .init
      | 3 => .stop
      | 4 => .run
      | 5 => .halt
      | 6 => .recovery
      | 7 => .safe
      | _ => .lockout
    let t := { s with clk := { s.clk with stime := s.pwr.clkTime }, dev := { s.dev with state := from_ } }
    let u := t.formRecord 1 0 0 s.wdg.ladder 16 0
    { u with clk := s.clk, dev := s.dev, hp := s.hp, pwr := { u.pwr with clkRecord := false } }
  else s

/-! ### B1 to B4 -/

/-- B1: the core domains are on, HOLD is high, STIME starts at 0, the watchdog runs (R453, R465, R474). -/
def State.bootPower (s : State) : State :=
  { s with
    clk := { s.clk with stime := 0, frac := 0 },
    pwr := { s.pwr with core := true, sram := true, nvm := true, sec := true, hold := true },
    flt := { s.flt with seqNewest := max s.flt.seqNewest s.nvm.faultSeqNewest } }

/-- The log's counts as the loader finds them (R433). -/
def State.logHead (s : State) : State :=
  let n := s.nvm.logRing.length
  ((s.setPv 0xA10 s.nvm.logSeq).setPv 0xA11 (if n = 0 then 0 else s.nvm.logSeq + 1 - n : Nat)).setPv 0xA12 (min 38784 n : Nat)

/-- WDG_CFG from the settings copy in force, defaults where none is valid (R385). -/
def State.bootWatchdog (s : State) (fmt : Nat) : State :=
  let v (pid : Nat) : Nat := match s.nvm.copyFor fmt with
    | some (_, k) => ((tfind k.content pid).getD (paramDefault pid)).toNat
    | none => (paramDefault pid).toNat
  { s with wdg := { s.wdg with cfgT := v 0x910, cfgOpen := v 0x911 / 100 } }

/-! ### B5: the shim journal (Table NVM-10) -/

/-- Every journal slot below k is back in its image block (R444). -/
def State.restoreBlocks (s : State) : State :=
  { s with feram := (List.range s.upd.jK).foldl (fun (m : Memory) i => copyBlock m (journalSlot i) (imageBlock i)) s.feram }

/-- A revert that the loader carries out before it boots the old image. -/
def State.bootRevert (s : State) (reason : Nat) : State :=
  let t := s.restoreBlocks
  (({ t with upd := { t.upd with reason := reason } }).updReverted).raise 28 0 0

/-- The journal's state decides which image boots; an interrupted fuse blow is completed (R405, R447). -/
def State.bootJournal (s : State) : State :=
  let s := { s with sec := s.sec.blow s.sec.blowTo }
  match s.upd.stage with
  | .none => s
  | .download => s.updDiscard 8 0
  | .verified => s.updDiscard 8 0
  | .activating => s.bootRevert 5
  | .reverting => s.bootRevert s.upd.reason
  | .activated => State.writeShim { s with upd := { s.upd with stage := .trial, jTrials := 1 } }
  | .trial => if s.upd.jTrials = 0 then State.writeShim { s with upd := { s.upd with jTrials := 1 } } else s.bootRevert 4

/-! ### I1: recovery of the sill journal (R431) -/

/-- The retentive store is cleared: every row of both halves reads 0. -/
def clearRetentive (m : Memory) : Memory := m.restrict (fun a => !(decide (0x800000 ≤ a) && decide (a < 0x900000)))

/-- A row zeroed in both halves. -/
def zeroRow (m : Memory) (row : Nat) : Memory :=
  m.restrict (fun a => !((decide (rowAddr false row ≤ a) && decide (a < rowAddr false row + 64)) ||
    (decide (rowAddr true row ≤ a) && decide (a < rowAddr true row + 64))))

/-- Recovery finds no valid checkpoint and clears the retentive store (R431). -/
def Nvm.noCheckpoint (n : Nvm) (checkpointOk : Bool) : Bool := !checkpointOk || n.newestCheckpoint.isNone

/-- Records newer than the checkpoint give the program, the network configuration and the epoch; without a checkpoint the store is
cleared, the ring starts anew, and the program and network configuration known last stay (R431 names no others: DESIGN CHOICE, assumption
log 23). Rows that do not read are zeroed (R431). -/
def State.bootJournalRing (s : State) (checkpointOk : Bool) (badRows : List Nat) : State :=
  let t := match (if checkpointOk then s.nvm.newestCheckpoint else none) with
    | some k =>
      let recs := s.nvm.ring.filter (fun r => decide (k.covered < r.seq))
      let newest (f : CommitRec → Option Nat) (d : Nat) : Nat := (recs.findSome? f).getD d
      let prog (g : CommitRec → Nat) (d : Nat) : Nat := newest (fun r => if r.slot = 255 then none else some (g r)) d
      let slot := prog (fun r => r.slot) k.slot
      let chain := prog (fun r => r.chain) k.chain
      let net := newest (fun r => if r.netCopy = 255 then none else some r.netCopy) k.netCopy
      let u := { s with
        prog := { s.prog with slot := slot, chain := if slot = 255 then 0 else chain, netCopy := net,
                              slotBytes := if slot < 2 then slotUsed chain s.feram (slotAddr slot) else 0 },
        stby := { s.stby with epoch := newest (fun r => r.epoch) k.epoch } }
      (u.setPv 0xA07 (min 2048 recs.length : Nat)).setPv 0xA06 (k.seq : Nat)
    | none =>
      let u := { s with feram := clearRetentive s.feram, nvm := { s.nvm with halves := [], ring := [], ringRow := 0 } }
      ((u.setPv 0xA07 0).log 0x62 (leBytes 2 0xFFFF)).raise 7 0 0
  (badRows.filter (fun r => decide (r < 8192))).foldl (fun u r =>
    (({ u with feram := zeroRow u.feram r }).log 0x62 (leBytes 2 r)).raise 7 0 0) t

/-! ### I2: settings (R435-R437) -/

/-- Values that other parts of the state hold take what the settings hold: the mode request, the watch limits, the confirmation time
of a trial. -/
def State.takeSettings (s : State) : State :=
  let s := { s with upd := { s.upd with confirmBy := if s.upd.stage == UpdStage.trial then s.clk.ticks + s.pn 0xA33 * secTicks else s.upd.confirmBy } }
  let want := modeOf (s.pv 0x801)
  let t := if want == .triple then s else { s.setPv 0x801 0 with tmr := { s.tmr with requested := some want } }
  let u := { t with sched := { t.sched with fwWatchLimit := t.pn 0x20E } }
  userCtxs.foldl (fun (v : State) c =>
    match tfind v.params (0x20E + 16 * c) with
    | some l => v.setCtx c { v.ctx c with watchLimit := l.toNat }
    | none => v) u

/-- The settings in force, migrated where their format is older; sys.boot.count rises, and a copy with it is due (R354). A copy that
does not convert ends a trial; without a copy SETTINGS_LOST is logged and NVM raised. The second value says that no copy was found. -/
def State.bootSettings (s : State) (fmt : Nat) (migrates : Bool) : State × Bool :=
  let t := s.setPv 0xA20 (fmt : Nat)
  let plain : State := { t with params := t.params.filter (fun (e : Nat × Int) => !keyKept e.1), bootParams := [], blocks := [] }
  let count (u : State) : State := { u.bump 0x104 32 with nvm := { u.nvm with setDirty := true } }
  match t.nvm.copyFor fmt with
  | none =>
    let u := { plain with nvm := { plain.nvm with setCopy := 255 } }
    (((count (u.setPv 0xA22 255)).takeSettings.log 0x61 []).raise 7 0 0, true)
  | some (slot, k) =>
    if k.format < fmt then
      (if migrates then
         (((count (t.loadCopy slot k)).takeSettings).log 0x60 (leBytes 2 k.format ++ leBytes 2 fmt), false)
       else
         let u := ({ plain.bump 0x104 32 with nvm := { plain.nvm with setCopy := 255 } }).takeSettings
         (if u.upd.stage == .trial then u.updRevert 2 else u, false))
    else ((count (t.loadCopy slot k)).takeSettings, false)

/-! ### I3: program and network configuration -/

/-- The domains that STOP and INIT have on (Table PWR-2). -/
def State.bootDomains (s : State) : State :=
  { s with pwr := { s.pwr with
      truss := true,
      net := s.prog.netCopy != 255 || s.pn 0xB10 != 0 || s.pn 0xE00 == 2,
      scarf := s.pn 0xE00 == 1 } }

/-- The retentive points of a program with the values that the current halves hold (R53, R61). -/
def State.storedPoints (s : State) (p : Program) : List (Nat × Nat) :=
  p.rets.flatMap (fun r =>
    let bit_ := areaIsBit r.area
    let per := if bit_ then 512 else 32
    (List.range (ceilDiv r.len per)).flatMap (fun k =>
      let row := r.row + k
      let bs := s.feram.readN (rowAddr (s.nvm.half row) row) 64
      (List.range (min per (r.len - per * k))).map (fun i =>
        (mkPt r.area (r.first + per * k + i), if bit_ then b2n (bit (leAt bs (i / 8) 1) (i % 8)) else leAt bs (2 * i) 2))))

/-- A context's settings laid over the entry of its program (R68, R435). -/
def State.ctxSettings (s : State) (e : CtxEntry) : CtxEntry :=
  let v (off d : Nat) : Nat := match tfind s.params (0x200 + 16 * e.ctx + off) with
    | some x => x.toNat
    | none => d
  { e with period := v 1 e.period, pegOffset := v 2 e.pegOffset, phase := v 3 e.phase, dropCap := v 4 e.dropCap }

/-- The cleared retentive store takes the program's INIT values (R132, R431). -/
def State.initStore (s : State) (p : Program) : State :=
  (s.allRows p (p.retPts.map (fun q => (q, p.initVal q)))).foldl (fun t r => t.writeRow (rowAddr (t.nvm.half r.1) r.1) r.2) s

/-- The program rebuilt from its slot, with its retentive points restored, and the checks of R85 and R50 made; none where a container does
not verify (R134). `cleared` says that recovery has cleared the store. -/
def State.bootProgram (s : State) (v : Verdict) (cleared : Bool) : Option State :=
  if s.prog.slot < 2 ∧ !s.sec.storeInvalid then
    match (if v.sigOk && v.hashOk then rebuild s.slotBytesNow s.prog.chain else none) with
    | none => none
    | some p =>
      let s := if cleared then s.initStore p else s
      let t := userCtxs.foldl (fun (u : State) c =>
        match p.entry c with
        | some e => u.setCtx c ((u.ctx c).configure (some (s.ctxSettings e)))
        | none => u) ({ s with prog := { s.prog with active := some p }, sram := writePts s.sram (s.storedPoints p) }.fillBank s.prog.bank p)
      let force := t.inForce p []
      let r := t.schedCheck force 0
      if r.code = 0 then some (t.applySched r force) else some (t.setPv 0x701 (r.word : Nat))
  else some (if s.sec.storeInvalid then { s with prog := { s.prog with slot := 255, chain := 0, slotBytes := 0 } } else s)

/-- The network configuration read from its copy; none where it does not verify. -/
def State.bootNet (s : State) (v : Verdict) : Option State :=
  if s.prog.netCopy < 2 ∧ !s.sec.storeInvalid then
    let at_ := netAddr s.prog.netCopy
    let bs := s.feram.readN at_ (leNat (s.feram.readN (at_ + 0xC) 4))
    match (if v.sigOk && v.hashOk then parse bs 0 else .error 0) with
    | .ok box => if box.kind = 4 then some (s.takeNet { netOf bs box.secs with hash := Config.sha384 box.signed }) else none
    | .error _ => none
  else some (if s.sec.storeInvalid then { s with prog := { s.prog with netCopy := 255 } } else s)

/-- The role that the settings give: NODE is entered at restart only (R31, R181). -/
def State.bootRole (s : State) : State :=
  { s with dev := { s.dev with role := if s.pn 0xE00 = 2 then .node else .solo } }

/-! ### I4 and I5 -/

/-- Bay link start of every bay that answers (R195, R214). -/
def State.bootBays (s : State) (answers : List Bool) : State :=
  s.bayList.foldl (fun t x =>
    if answers.getD x false then
      (t.setEngBay x { t.engBay x with lost := false, wordAt := t.clk.ticks }).linkStart x
    else t) s

/-- nFAULT is released unless a record with PIN is pending (R384). -/
def State.bootRelease (s : State) : State :=
  if s.flt.pending.any (fun r => bit r.react 4) then s else { s with flt := { s.flt with nfaultLow := false } }

/-- A transition that boot makes, with the BOOT record of the state reached. -/
def State.bootReach (s : State) (dest : DevState) : State := (s.enter dest 0 true).logBoot dest

/-- An INIT step left unfinished: a severity action of Table FLT-3 has taken the unit to STOP or SAFE. -/
def State.initLeft (s : State) : Bool := s.dev.state != .init

/-- I5: ACLK_LOSS where ACLK is absent, nFAULT, STOP, and RUN where auto-run is set and neither the settings nor the checks forbid it: at
once, or when STIME is locked (R463, R471, R474). -/
def State.bootLeave (s : State) (aclk lost : Bool) : State :=
  let t := if aclk then { s with clk := { s.clk with aclk := true, aclkSeen := true } } else s.raise 2 0 0
  let u := t.bootRelease.bootReach .stop
  if u.pv 0x103 = 1 ∧ !lost ∧ !u.runNotReady then
    (if u.pv 0x74D = 1 ∧ u.clk.state ≠ 2 then { u with dev := { u.dev with autoWait := true } } else u.enterRun 0)
  else u

/-- The domains and records of an INIT that a fault has ended. -/
def State.initEnds (s : State) : State := (s.bootDomains.bootRole.logBoot s.dev.state).mirror

/-- INIT from I3 on. -/
def State.initLoad (s : State) (i : BootInput) (cleared lost : Bool) : State :=
  let t := s.bootDomains.bootRole
  match t.bootNet i.program with
  | none => t.bootFail 26 6
  | some u =>
    match u.bootProgram i.program cleared with
    | none => u.bootFail 26 6
    | some v =>
      let w := v.bootDomains.bootBays i.bayAnswers
      if w.initLeft then w.initEnds else w.bootLeave i.aclk lost

/-- INIT: I1 and I2, then the rest; a fault whose severity ends INIT ends it there (R378). -/
def State.bootInit (s : State) (i : BootInput) : State :=
  let a := (s.bootJournalRing i.checkpointOk i.badRows).logHead
  if a.initLeft then a.initEnds
  else
    let b := a.startHoldup a.pwr.vin
    let (c, lost) := b.bootSettings i.fwFormat i.migrates
    if c.initLeft then c.initEnds else c.initLoad i (s.nvm.noCheckpoint i.checkpointOk) lost

/-- The image that runs, copied to the active firmware bank, and its trial where one runs (R402, R443, step B6 of Table PWR-8). -/
def State.bootImage (s : State) (i : BootInput) : State :=
  { s with
    sram := s.sram.copyRegion s.feram 0 (0x200000 * s.pn 0x10B) 0x200000,
    sec := { s.sec with fwVersion := i.fwVersion, fwSec := i.fwSec, fwPair := i.fwPair },
    hp := { s.hp with fwver := i.fwVersion },
    upd := if s.upd.stage == .trial then
        { s.upd with handed := true, handover := 0, healthyFrom := none }
      else s.upd }

/-- B5 to B7 and INIT. -/
def State.bootLoader (s : State) (i : BootInput) : State :=
  let t := s.bootJournal
  if !i.firmwareOk then
    let u := t.bootReach .recovery
    if i.ownerOk then u else u.raise 26 0 5
  else if !i.ownerOk then t.bootFail 26 5
  else
    let u := t.bootImage i
    let v := { u with
      sec := { u.sec with keyGen := (u.sec.keyGen + 1) % 2 ^ 32 },
      net := { u.net with boot := (u.sec.keyGen + 1) % 2 ^ 32, rekeyAt := u.clk.ticks } }
    (v.enter .init 0 true).bootInit i

/-- Boot and INIT from B1 to the state they reach (R27, R403, R474): the outcome of each check is the command's. A unit already past B1
stays as it is. -/
def execBootStart (i : BootInput) (s : State) : Res :=
  if s.dev.state == .boot && !s.pwr.core && !s.pwr.clkLost && !s.pwr.nresetLow then
    let a := s.bootPower.clkLossRecord
    let (d, b) := a.draw
    let c := (b.setPv 0x812 ((d % 401 : Nat) : Int)).setPv 0x810 ((i.selftest % 65536 : Nat) : Int)
    if i.selftest < 1024 then .next (c.bootFail 27 i.selftest).mirror
    else if !i.rootOk then .next (c.bootFail 26 1).mirror
    else
      let e := { c with pwr := { c.pwr with host := true } }.bootWatchdog i.fwFormat
      if !i.manifestOk && !i.fallbackOk then .next (e.bootFail 26 2).mirror
      else .next (e.bootLoader i).dispatch.mirror
  else .next s

end Sys2Proof.Machine
end

