-- ==== Sys2Proof/Machine/CoreCtl.lean ====
section
/-!
DEFINITION. The control instructions of the cores (R98, R112-R116).
-/

namespace Sys2Proof.Machine

/-- Whether a jump from `pc` goes to a target that the loader takes (R112). -/
def State.inCode (s : State) (c : Nat) (pc target : CodeIx) : Bool :=
  let own := match (s.ctx c).cfg with
    | some e => decide (e.codeFirst ≤ target.toNat) && decide (target.toNat < e.codeFirst + e.codeLen)
    | none => false
  let r := s.program.codeRange pc.toNat
  own || (decide (r.1 ≤ target.toNat) && decide (target.toNat < r.2))

/-- A jump that is taken where `take` holds. -/
def State.jump (s : State) (c : Nat) (target : CodeIx) (take : Bool → Bool) : Res :=
  s.coreDo c (fun g _ =>
    if s.inCode c g.pc target then .regs (if take g.ba then { g with pc := target } else g.adv 1) else .illegal)

/-- JMP jumps always (R112). -/
def execJmp (c : Nat) (target : CodeIx) (s : State) : Res := s.jump c target (fun _ => true)

/-- JC jumps when BA = 1 (R112). -/
def execJc (c : Nat) (target : CodeIx) (s : State) : Res := s.jump c target (fun b => b)

/-- JNC jumps when BA = 0 (R112). -/
def execJnc (c : Nat) (target : CodeIx) (s : State) : Res := s.jump c target (fun b => !b)

/-- CALL pushes the return PC and A3 and jumps; no program calls to a depth above 16 (R113). -/
def execCall (c : Nat) (target : CodeIx) (s : State) : Res :=
  s.coreDo c (fun g _ =>
    if g.calls.length < 16 then .regs { g with pc := target, calls := (g.pc + 1#20, g.a[3]) :: g.calls } else .illegal)

/-- RET restores PC and A3, or at depth 0 ends the shot (R113). -/
def execRet (c : Nat) (s : State) : Res :=
  match s.onCores c with
  | none => .next s
  | some _ =>
    match (s.ctx c).regs.calls with
    | (pc, a3) :: rest =>
      let g := (s.ctx c).regs
      .next (s.setCtx c { s.ctx c with regs := { g with pc := pc, a := g.a.set 3 a3, calls := rest } })
    | [] => .next (s.completeShot c)

/-- JUNCTION hands networks first to first + count - 1 to the truss, which captures BA, A0-A3 and W14; the context enters TRUSS
and leaves the cores (R114, Table ISA-14). -/
def execJunction (c : Nat) (countLess1 : BitVec 10) (first : W16) (s : State) : Res :=
  match s.onCores c with
  | none => .next s
  | some sh =>
    let g := (s.ctx c).regs
    let ok := match (s.ctx c).cfg with
      | some e => decide (e.netFirst ≤ first.toNat) && decide (first.toNat + countLess1.toNat + 1 ≤ e.netFirst + e.netCount)
      | none => false
    if ok then
      let j : JunctionReq := { next := first.toNat, left := countLess1.toNat + 1, ba := g.ba, a := g.a, w14 := g.w[14] }
      let t := s.setCtx c { s.ctx c with regs := g.adv 1, shot := some { sh with phase := .truss, junction := some j } }
      .next ({ t with sched := { t.sched with cores := none } }).dispatch
    else .next s

/-- DIAG loads Wd from DG as pinned at release; in mode 1 a bad address, an index beyond 8,191, an odd 32-bit index or an
address outside the declared range drops the shot with ADDR (R34, R115). -/
def execDiag (c : Nat) (d : BitVec 4) (wide : Bool) (src : DgSrc) (s : State) : Res :=
  s.coreDo c (fun g sh =>
    let load (ix : Nat) : CoreAns :=
      let lo := s.viewPt sh (mkPt 7 ix)
      .regs ((g.setW d (BitVec.ofNat 32 (if wide then lo + 65536 * s.viewPt sh (mkPt 7 (ix + 1)) else lo))).adv 1)
    match src with
    | .dir ix => if wide && ix.toNat % 2 == 1 then .illegal else load ix.toNat
    | .ind an off =>
      let a := g.a[an.toNat].toNat
      let ix := ptIndex a + off.toNat
      let declared := match s.program.indAt g.pc.toNat 0 with
        | some e => e.covers (mkPt 7 ix) (if wide then 2 else 1)
        | none => false
      if ptArea a == 7 && decide (ix < 8192) && !(wide && ix % 2 == 1) && declared then load ix else .drop .addr)

/-- URGENT places an urgent conversion request with the modulator that serves the channel; it is not withdrawn by a later drop
(R19, R116). -/
def execUrgent (c : Nat) (bay : Bool) (ch : BitVec 4) (s : State) : Res :=
  match s.onCores c with
  | none => .next s
  | some _ =>
    let x := b2n bay
    if bayExists s.dev.part x && decide (ch.toNat < bayChannels s.dev.part) then
      let b := tget EngBay.init s.eng.bays x
      let b1 := { b with urgent := if b.urgent.contains ch.toNat then b.urgent else b.urgent ++ [ch.toNat] }
      let t := s.setCtx c { s.ctx c with regs := (s.ctx c).regs.adv 1 }
      .next { t with eng := { t.eng with bays := tset t.eng.bays x b1 } }
    else .next s

end Sys2Proof.Machine
end

