-- ==== Sys2Proof/Machine/CoreReal.lean ====
section
/-!
DEFINITION. The real instructions of the cores (R106, R108, R111).
-/

namespace Sys2Proof.Machine

/-- The format of a precision field. -/
def fwFmt (w : FWidth) : FloatFmt :=
  match w with
  | .b32 => .b32
  | .b64 => .b64

/-- The other format. -/
def fwOther (w : FWidth) : FloatFmt :=
  match w with
  | .b32 => .b64
  | .b64 => .b32

/-- The bits that a precision takes of a register. -/
def fwCut (f : FloatFmt) (v : Nat) : Nat :=
  match f with
  | .b32 => v % 2 ^ 32
  | .b64 => v

/-- FMOV: Fd := src (R106). -/
def execFmov (c : Nat) (w : FWidth) (d : BitVec 3) (src : Src) (s : State) : Res := s.realOp c w d src (fun _ _ b => b)

/-- FMOV (store): memory := Fd, 32 or 64 bits (R106, R111). -/
def execFmovStore (c : Nat) (w : FWidth) (d : BitVec 3) (dst : Src) (s : State) : Res :=
  s.coreDo c (fun g _ =>
    match s.writeOperand c g dst (fwUnits w) true with
    | none => .illegal
    | some (.error r) => .drop r
    | some (.ok pt) =>
      .store (g.adv (srcLen dst)) (storeList pt (fwUnits w) (fwCut (fwFmt w) g.f[d.toNat].toNat)))

/-- FADD (R106, R108). -/
def execFadd (c : Nat) (w : FWidth) (d : BitVec 3) (src : Src) (s : State) : Res :=
  s.realOp c w d src (fun f a b => f.add a b)

/-- FSUB (R106, R108). -/
def execFsub (c : Nat) (w : FWidth) (d : BitVec 3) (src : Src) (s : State) : Res :=
  s.realOp c w d src (fun f a b => f.sub a b)

/-- FMUL (R106, R108). -/
def execFmul (c : Nat) (w : FWidth) (d : BitVec 3) (src : Src) (s : State) : Res :=
  s.realOp c w d src (fun f a b => f.mul a b)

/-- FDIV (R106, R108). -/
def execFdiv (c : Nat) (w : FWidth) (d : BitVec 3) (src : Src) (s : State) : Res :=
  s.realOp c w d src (fun f a b => f.div a b)

/-- FSQRT (R106, R108). -/
def execFsqrt (c : Nat) (w : FWidth) (d : BitVec 3) (src : Src) (s : State) : Res :=
  s.realOp c w d src (fun f _ b => f.sqrt b)

/-- FABS: only the sign bit changes (R106, R108). -/
def execFabs (c : Nat) (w : FWidth) (d : BitVec 3) (src : Src) (s : State) : Res :=
  s.realOp c w d src (fun f _ b => f.abs b)

/-- FNEG: only the sign bit changes (R106, R108). -/
def execFneg (c : Nat) (w : FWidth) (d : BitVec 3) (src : Src) (s : State) : Res :=
  s.realOp c w d src (fun f _ b => f.neg b)

/-- ITOF: Fd := Ws as a signed 32-bit number, in precision w (R106, R108). -/
def execItof (c : Nat) (w : FWidth) (d : BitVec 3) (src : BitVec 4) (s : State) : Res :=
  s.coreDo c (fun g _ => .regs ((g.setF d ((fwFmt w).ofInt g.w[src.toNat].toInt)).adv 1))

/-- FTOI: Wd := Fs of precision w to signed 32-bit; BA is 1 on a NaN or saturation (R106, R108). -/
def execFtoi (c : Nat) (w : FWidth) (d : BitVec 4) (src : BitVec 3) (s : State) : Res :=
  s.coreDo c (fun g _ =>
    let r := (fwFmt w).toI32 (fwCut (fwFmt w) g.f[src.toNat].toNat)
    .regs (((g.setW d (BitVec.ofInt 32 r.1)).setBA r.2).adv 1))

/-- FCVT: Fd := Fs, read in the other precision, in precision w (R106, R108). -/
def execFcvt (c : Nat) (w : FWidth) (d : BitVec 3) (src : BitVec 3) (s : State) : Res :=
  s.coreDo c (fun g _ =>
    .regs ((g.setF d ((fwFmt w).convert (fwOther w) (fwCut (fwOther w) g.f[src.toNat].toNat))).adv 1))

/-- A real comparison sets BA and changes no register (R106, R108). -/
def State.fcmpOp (s : State) (k : Cond) (c : Nat) (w : FWidth) (d : BitVec 3) (src : Src) : Res :=
  s.coreDo c (fun g sh =>
    match s.realSrc sh g w src with
    | none => .illegal
    | some (.error r) => .drop r
    | some (.ok b) =>
      .regs ((g.setBA (fcmpResult k ((fwFmt w).compare (fwCut (fwFmt w) g.f[d.toNat].toNat) b))).adv (srcLen src)))

/-- FCMP.EQ (R106, R108). -/
def execFcmpEq (c : Nat) (w : FWidth) (d : BitVec 3) (src : Src) (s : State) : Res := s.fcmpOp .eq c w d src

/-- FCMP.NE (R106, R108). -/
def execFcmpNe (c : Nat) (w : FWidth) (d : BitVec 3) (src : Src) (s : State) : Res := s.fcmpOp .ne c w d src

/-- FCMP.LT (R106, R108). -/
def execFcmpLt (c : Nat) (w : FWidth) (d : BitVec 3) (src : Src) (s : State) : Res := s.fcmpOp .lt c w d src

/-- FCMP.LE (R106, R108). -/
def execFcmpLe (c : Nat) (w : FWidth) (d : BitVec 3) (src : Src) (s : State) : Res := s.fcmpOp .le c w d src

/-- FCMP.GT (R106, R108). -/
def execFcmpGt (c : Nat) (w : FWidth) (d : BitVec 3) (src : Src) (s : State) : Res := s.fcmpOp .gt c w d src

/-- FCMP.GE (R106, R108). -/
def execFcmpGe (c : Nat) (w : FWidth) (d : BitVec 3) (src : Src) (s : State) : Res := s.fcmpOp .ge c w d src

end Sys2Proof.Machine
end

