-- ==== Sys2Proof/Machine/Net.lean ====
section
/-!
DEFINITION. The SRX master's events (R291, R295-R301, R305, R310-R316).
-/

namespace Sys2Proof.Machine

/-! ### SEGMENT_CYCLE (R295, R300, R301, R316) -/

/-- The latest cycle instant of a segment at or before now (R295). -/
def State.cycleAt (s : State) (g : SegCfg) : Option Ns :=
  let p := g.phase * 1000
  let t := g.cycle * 1000
  if t = 0 ∨ s.now < p then none else some (p + (s.now - p) / t * t)

/-- The SRX master sends in this state and role: not before I3, not in STANDBY or the NODE role, in LOCKOUT only SAFE frames still
owed (R316). -/
def State.mastersSrx (s : State) : Bool :=
  s.srxOn && s.fclkUp && s.dev.role != .standby && s.dev.role != .node &&
    (s.dev.state == .init || s.dev.state == .stop || s.dev.state == .run || s.dev.state == .halt || s.dev.state == .safe ||
      s.dev.state == .lockout)

/-- The sequence counter of a segment starts at 1 under a new K_cyc (Table RIO-1). -/
def State.freshSeg (s : State) (x : SegState) : SegState :=
  let k := (s.stby.epoch, s.sec.keyGen)
  if x.key = k then x else { x with key := k, seq := 0 }

/-- One node's OUT frame of cycle `c`: changes written at least 2 µs before `c` are in it (R301). -/
def State.sendOut (s : State) (g : SegCfg) (d : NodeCfg) (c : Ns) (fresh : Bool) (key : Nat) : State :=
  let y := s.node d.num
  let x := s.seg g.seg
  let inTime := y.pend.filter (fun p => decide (p.written + 2000 ≤ c))
  let due := inTime.filter (fun p => decide (p.applyAt ≤ c))
  let later := inTime.filter (fun p => decide (c < p.applyAt))
  let vals := applyPend y.image due
  let seq := x.seq + 1
  let f := (srxFrame key g.port d.mac g.pcp (s.masterHdr g.seg 1 (b2n fresh) seq c)
    (outPayload (d.outImage vals) (d.steps vals later))).ofStream y.txRtag
  let y1 := { y with txRtag := nextRtag y.txRtag, image := vals, pend := y.pend.filter (fun p => !due.contains p), outSeq := seq, inSeen := false, cycle := c }
  let t := (s.setNode d.num y1).setSeg g.seg { x with seq := seq }
  { t with net := { t.net with tx := t.net.tx ++ [f] } }

/-- The SAFE frame of a cycle, while one is owed; after the last one in LOCKOUT PD_NET goes off (R316). -/
def State.sendSafe (s : State) (g : SegCfg) (c : Ns) (key : Nat) : State :=
  let x := s.seg g.seg
  if x.safeLeft = 0 then s
  else
    let f := (srxFrame key g.port g.group g.pcp (s.masterHdr g.seg 4 0 (x.seq + 1) c) []).ofStream x.txRtag
    let t := s.setSeg g.seg { x with seq := x.seq + 1, txRtag := nextRtag x.txRtag, safeLeft := x.safeLeft - 1 }
    let u := { t with net := { t.net with tx := t.net.tx ++ [f] } }
    let owed := match u.net.cfg with
      | some k => k.segs.any (fun h => (u.seg h.seg).safeLeft != 0)
      | none => false
    if u.dev.state == .lockout && !owed then { u with pwr := { u.pwr with net := false } } else u

/-- Cyclic frames leave within [c, c + W_s) only (R296). -/
def State.inWindow (s : State) (g : SegCfg) (c : Ns) : Bool :=
  match s.net.cfg with
  | some k => decide (s.now < c + k.window s.program g)
  | none => false

/-- SEGMENT_CYCLE (R295): INs of the last cycle that did not come are missed; then the OUT frames of every node that is not REFUSED,
in ascending node number, and a SAFE frame where one is owed. No sequence passes 2^31 under one key (R305). -/
def execSegmentCycle (sg : Nat) (s : State) : Res :=
  match s.segCfg sg with
  | none => .next s
  | some g =>
    match s.cycleAt g with
    | none => .next s
    | some c =>
      let x := s.seg sg
      let newer := match x.last with
        | some l => decide (l < c)
        | none => true
      let lockedOut := s.dev.state == .lockout
      let ns := s.segNodes sg
      let x1 := s.freshSeg x
      if s.mastersSrx && newer && s.inWindow g c && (!lockedOut || x.safeLeft != 0) && decide (x1.seq + ns.length + 1 < 2 ^ 31) then
        let t := ns.foldl (fun (u : State) d => u.missIn d) s
        let t1 := t.setSeg sg { x1 with last := some c }
        let t2 := { t1 with net := { t1.net with tx := [] } }
        let key := cycKey (s.segRoot sg) s.stby.epoch s.sec.keyGen
        let fresh := s.outFresh sg c
        let t3 := (ns.filter (fun d => (t2.node d.num).state != 4)).foldl (fun (u : State) d => u.sendOut g d c fresh key) t2
        .next ((t3.sendSafe g c key).bump (segPid sg 9) 64)
      else .next s

/-! ### SRX_IN, IN_MISSED (R299, R302, R306) -/

/-- Late outputs that a node reports (R307). -/
def State.countLate (s : State) (sg : Nat) : State := ((s.bump (segPid sg 0xB) 32).bump 0xC0C 32).bump 0x611 32

/-- An accepted IN of the current cycle: epoch, status, node state, and the inputs as one unit (R299, R302, R312, R313). A node that was
STALE and answers the unit's own epoch again is LIVE: Table RIO-5 says only that the unit leaves the role (DESIGN CHOICE, assumption log
47). -/
def State.takeIn (s : State) (d : NodeCfg) (h : SrxHdr) (pl : List Byte) : State :=
  let y := s.node d.num
  let st := leAt pl 4 2
  let t := s.setNode d.num { y with epoch := h.epoch, status := st, inSeen := true, misses := 0 }
  if s.stby.epoch < h.epoch then t.tokenLost d h.epoch
  else if bit h.flags 2 then t
  else
    let u := if y.state = 1 ∨ y.state = 5 then t.nodeTo d 2 else t
    let v := if bit st 2 then u.countLate d.seg else u
    if (v.node d.num).state = 2 ∧ v.pwr.sram then
      v.liveWrite (d.inPoints (pl.drop 8) ++
        (if d.fltPt = 0xFFFFFFFF then [] else [(d.fltPt, b2n (v.node d.num).fltPoint)]))
    else v

/-- SRX_IN (R299, R306): checked in order; on a ring the second copy is eliminated (R294); an IN at or after c + T_s is discarded. -/
def execSrxIn (sg : Nat) (f : SrxFrame) (s : State) : Res :=
  let h := readSrxHdr f.bytes
  let pl := f.bytes.drop 32
  match s.segCfg sg with
  | none => .next (s.authFail sg)
  | some g =>
    if !(s.pwr.net && s.fclkUp) then .next s
    else if !(srxWellFormed f.bytes 2 && h.seg == sg && s.srxOn && f.tagOk) then .next (s.authFail sg)
    else
      match s.nodeCfg h.sender with
      | none => .next (s.authFail sg)
      | some d =>
        let y := s.node d.num
        match s.recover d (g.port == 3) f.rtag with
        | (none, t) => .next t
        | (some t1, _) =>
          if d.seg ≠ sg ∨ leAt pl 0 4 ≠ y.outSeq ∨ y.inSeen then .next (t1.netFail 0xC0B)
          else if y.cycle + g.cycle * 1000 ≤ s.now then .next t1
          else if !bit h.flags 2 && pl.length != 8 + d.inLen then .next (t1.authFail sg)
          else .next (t1.takeIn d h pl)

/-- IN_MISSED (R299): no IN frame by c + T_s. -/
def execInMissed (sg node : Nat) (s : State) : Res :=
  match s.segCfg sg, s.nodeCfg node with
  | some g, some d =>
    let y := s.node node
    let due := d.seg == sg && !y.inSeen && decide (y.cycle + g.cycle * 1000 ≤ s.now)
    whenOk (due && s.mastersSrx) s (s.missIn d)
  | _, _ => .next s

/-- SEQUENCE_RECOVERY_RESET (R294): the reset timeout of a stream runs out. -/
def execSequenceRecoveryReset (node : Nat) (s : State) : Res :=
  match s.net.cfg with
  | none => .next s
  | some c =>
    let y := s.node node
    whenOk (!y.recovered.isEmpty && decide (c.ports.cbReset * msTicks ≤ s.elapsed y.recoverAt)) s
      (s.setNode node { y with recovered := [] })

/-! ### Acyclic exchanges (R310, R312) -/

/-- ARSP (R306, R310): the response to an outstanding exchange, by its ID and the sequence of one of its requests, completes it; a
greater epoch loses the token (R173). On a ring the second copy is eliminated (R294). -/
def execArsp (f : SrxFrame) (s : State) : Res :=
  let h := readSrxHdr f.bytes
  let pl := f.bytes.drop 32
  if !(s.pwr.net && s.fclkUp) then .next s
  else if !(srxWellFormed f.bytes 0x11 && (s.nodeKey h.sender).isSome && f.tagOk && decide (12 ≤ pl.length) &&
      pl.length == 12 + leAt pl 8 2) then .next (s.authFail h.seg)
  else
    match s.nodeCfg h.sender with
    | none => .next (s.authFail h.seg)
    | some d =>
      match s.segCfg d.seg with
      | none => .next (s.authFail h.seg)
      | some g =>
        if h.seg ≠ d.seg then .next (s.authFail h.seg)
        else
          match s.recover d (g.port == 3) f.rtag with
          | (none, t) => .next t
          | (some s1, _) =>
            let answers (e : Exchange) : Bool :=
              e.id == leAt pl 0 2 && e.node == d.num && decide (e.first ≤ leAt pl 4 4) && decide (leAt pl 4 4 ≤ e.seq)
            match s1.net.exchanges.find? answers with
            | some e =>
              let t := s1.setNode d.num { s1.node d.num with epoch := h.epoch }
              let u := if s.stby.epoch < h.epoch then t.tokenLost d h.epoch else t
              .next (u.exchangeDone e (leAt pl 2 1) (pl.drop 12))
            | none => .next (s1.netFail 0xC0B)

/-- ACYCLIC_TIMEOUT (R310): sent again with retry set and a new sequence, or completed with TIMEOUT. -/
def execAcyclicTimeout (id : Nat) (s : State) : Res :=
  match s.net.exchanges.find? (fun e => e.id == id) with
  | none => .next s
  | some e =>
    if s.pn 0xC0D * msTicks ≤ s.elapsed e.sentAt then
      match s.nodeCfg e.node with
      | none => .next (s.exchangeDone e 0x10 [])
      | some d =>
        match s.segCfg d.seg, s.nodeKey e.node with
        | some g, some nk =>
          if e.retries < s.pn 0xC0E ∧ s.srxOn then
            let y := s.node e.node
            let e1 := { e with retries := e.retries + 1, seq := y.txSeq + 1, sentAt := s.clk.ticks }
            let t := s.setNode e.node { y with txSeq := y.txSeq + 1, txRtag := nextRtag y.txRtag }
            .next { t with net := { t.net with
              exchanges := t.net.exchanges.map (fun k => if k.id = id then e1 else k), tx := [s.areqFrame d g nk e1 true] } }
          else .next (s.exchangeDone e 0x10 [])
        | _, _ => .next (s.exchangeDone e 0x10 [])
    else .next s

/-- NODE_STARTUP_RETRY (R312): a start-up that is due begins: after activation, after a loss, or 1 s after one that failed. -/
def execNodeStartupRetry (node : Nat) (s : State) : Res :=
  let y := s.node node
  let due := match y.retryAt with
    | some t => decide (t ≤ s.clk.ticks)
    | none => true
  let busy := s.net.exchanges.any (fun e => e.node == node && e.index != 0x1005)
  whenOk ((s.nodeCfg node).isSome && s.mastersSrx && y.step != 0 && due && !busy && s.dev.state != .lockout) s (s.startupSend node)

/-- REKEY (R305): the generation is incremented and durable before its first use; every net.rekey.period hours, and before a
sequence passes 2^31. -/
def execRekey (s : State) : Res :=
  let near := s.net.segs.any (fun (e : Nat × SegState) => decide (2 ^ 30 ≤ e.2.seq)) ||
    s.net.nodes.any (fun (e : Nat × NodeState) => decide (2 ^ 30 ≤ e.2.txSeq))
  if s.sec.ns.isSome && s.pwr.sec && (near || decide (s.pn 0xC12 * 3600 * secTicks ≤ s.elapsed s.net.rekeyAt)) then
    .next { s with sec := { s.sec with keyGen := (s.sec.keyGen + 1) % 2 ^ 32 }, net := { s.net with rekeyAt := s.clk.ticks } }
  else .next s

/-! ### Links (R291) -/

/-- PORT_LINK_CHANGE: up only at 1000 Mbit/s full duplex; a port of a configured segment that loses its link is a NET fault. -/
def execPortLinkChange (port speed : Nat) (fullDuplex : Bool) (s : State) : Res :=
  if s.pwr.net && decide (port < 2) then
    let up := speed == 1000 && fullDuplex
    let was := if port = 0 then s.net.linkA else s.net.linkB
    let t := { s with net := if port = 0 then { s.net with linkA := up } else { s.net with linkB := up } }
    let carries := match s.net.cfg with
      | some c => c.segs.any (fun g => g.port == 3 || g.port == port + 1)
      | none => false
    .next (if was && !up && carries then t.raise 22 0 0 else if up then t.netOver else t)
  else .next s

end Sys2Proof.Machine
end

