-- ==== Sys2Proof/Machine/NetNode.lean ====
section
/-!
DEFINITION. The events of a unit in the NODE role (R180, R181, R306-R311, R315, R317).
-/

namespace Sys2Proof.Machine

/-- SRX_OUT (R307, R308): an accepted frame of an old epoch is answered stale and its outputs are ignored; any other latches its
epoch, and its current image and steps replace those held. Current is late where the applied image, every due step applied, still
differs from it; leaving the safe state is not late. The answer is an IN. -/
def execSrxOut (x : Nat) (f : SrxFrame) (s : State) : Res :=
  if !s.slaveOn x then .next s
  else
    let h := readSrxHdr f.bytes
    let pl := f.bytes.drop 32
    let m := leAt pl 2 2
    let n := leAt pl 0 1
    if !(decide (n ≤ 3) && m == slaveOutLen && pl.length == 4 + m + n * (8 + m)) then .next (s.netFail 0xC0A)
    else
      match s.slaveChecks x 1 0 f with
      | .inr pid => .next (s.netFail pid)
      | .inl k =>
        if k.staleEpoch h.epoch then .next ((s.setSlave x k).sendIn x h true)
        else
          let img := (pl.drop 4).take m
          let steps := readSteps pl n m
          let k1 := k.latchEpoch h.epoch
          let leaving := k1.silent && bit h.flags 0
          let safe := k1.silent && !bit h.flags 0
          let k2 := if bit h.flags 0 then { k1 with silent := false, lastFresh := s.clk.ticks } else k1
          let late := !leaving && !safe && k1.afterSteps s.now != img
          let k3 := { k2 with image := img, steps := steps, applied := img, late := k2.late || late, lastOut := some s.now }
          .next (((s.setSlave x k3).slaveOutputs x img steps).sendIn x h false)

/-- SRX_CLAIM (R308, R315): a frame that verifies under K_claim latches its epoch where that is greater. -/
def execSrxClaim (x : Nat) (f : SrxFrame) (s : State) : Res :=
  if !s.slaveOn x then .next s
  else
    let h := readSrxHdr f.bytes
    if h.len ≠ 8 then .next (s.netFail 0xC0A)
    else
      match s.slaveChecks x 3 1 f with
      | .inr pid => .next (s.netFail pid)
      | .inl k => .next (s.setSlave x (k.latchEpoch h.epoch))

/-- SRX_SAFE (R308): the node is in its safe state at once; the next accepted OUT with fresh set releases it. A greater epoch is
latched; a frame of an old epoch has no effect. -/
def execSrxSafe (x : Nat) (f : SrxFrame) (s : State) : Res :=
  if !s.slaveOn x then .next s
  else
    let h := readSrxHdr f.bytes
    if h.len ≠ 0 then .next (s.netFail 0xC0A)
    else
      match s.slaveChecks x 4 0 f with
      | .inr pid => .next (s.netFail pid)
      | .inl k => .next (s.setSlave x { k.latchEpoch h.epoch with silent := k.silent || !k.staleEpoch h.epoch })

/-- NODE_SILENT (R308): no accepted OUT with fresh set for the silent timeout: the safe state, and the epoch is forgotten. -/
def execNodeSilent (x : Nat) (s : State) : Res :=
  let k := s.slave x
  whenOk (s.slaveOn x && k.epoch.isSome && decide (k.timeout * msTicks ≤ s.elapsed k.lastFresh)) s
    (s.setSlave x { k with silent := true, epoch := none })

/-- AREQ (R310, R311): checked under the node's own key; a retry within 1 s of its answer gets the stored response; else the object is
read or written and the response stored. -/
def execAreq (x : Nat) (f : SrxFrame) (unwrapped : Option Nat) (s : State) : Res :=
  if !s.slaveOn x then .next s
  else
    let h := readSrxHdr f.bytes
    let pl := f.bytes.drop 32
    let k := s.slave x
    let data := pl.drop 8
    let id := leAt pl 0 2
    match s.nodeKey (s.slaveNum x) with
    | none => .next (s.netFail 0xC0A)
    | some nk =>
      if !(srxWellFormed f.bytes 0x10 && decide (1 ≤ h.seg) && decide (h.seg ≤ 8) && decide (8 ≤ pl.length) &&
          data.length == leAt pl 6 2 && decide (data.length ≤ 1024) && decide (id < 128) && f.tagOk) then .next (s.netFail 0xC0A)
      else
        match k.fresher (h.sender, 2, 0) h.gen h.seq with
        | none => .next (s.netFail 0xC0B)
        | some k1 =>
          let stored := k1.responses.find? (fun (e : Nat × Nat × List Byte) => e.1 == id && decide (s.elapsed e.2.1 ≤ secTicks))
          match bit h.flags 1, stored with
          | true, some e => .next ((s.setSlave x k1).sendArsp x h nk e.2.2)
          | _, _ =>
            let op := leAt pl 2 1
            let index := leAt pl 4 2
            let known := (0x1000 ≤ index ∧ index ≤ 0x1005) ∨ index = 0x1010
            let (free, t) := s.draw
            let plain : Nat × List Byte × Slave × State :=
              if !decide known then (1, [], k1, s)
              else if leAt pl 3 1 ≠ 0 then (2, [], k1, s)
              else if op = 1 then
                let (st, d) := s.readObject x index
                if data.isEmpty then (st, d, k1, s) else (4, [], k1, s)
              else if op = 2 then
                let (st, k2) := k1.writeObject index data unwrapped
                (st, [], k2, s)
              else (1 + free % 255, [], k1, t)
            let st := plain.1
            let d := plain.2.1
            let u := plain.2.2.2
            let resp := leBytes 2 id ++ leBytes 1 st ++ leBytes 1 0 ++ leBytes 4 h.seq ++ leBytes 2 d.length ++ leBytes 2 0 ++ d
            let k3 := { plain.2.2.1 with responses := ((id, s.clk.ticks, resp) :: plain.2.2.1.responses).take 4 }
            .next ((u.setSlave x k3).sendArsp x h nk resp)

end Sys2Proof.Machine
end

