-- ==== Sys2Proof/Machine/Server.lean ====
section
/-!
DEFINITION. The firmware server of context 0 (R77).
-/

namespace Sys2Proof.Machine

/-- Nanoseconds of a number of FCLK cycles. -/
def ticksNs (n : Nat) : Ns := n * 5 / 2

/-- The start of the server window that holds an instant: a multiple of sched.sys.period (R77). -/
def State.windowOf (s : State) (t : Ns) : Ns := t / (s.pn 0x703 * 1000) * (s.pn 0x703 * 1000)

/-- A new server window starts: the use of the last one is kept, measured against the watch limit (R68), and the budget is
renewed; unused budget lapses (R77). -/
def execServerWindow (s : State) : Res :=
  let w := s.windowOf s.now
  if s.coresRun && decide (s.sched.window < w) then
    let used := ticksNs s.sched.used
    let ovr := s.sched.fwWatchLimit != 0 && decide (s.sched.fwWatchLimit < used)
    let t := { s with sched := { s.sched with
      window := w, used := 0, exhausted := false, fwLast := used, fwWorst := max s.sched.fwWorst used,
      fwWatchCount := s.sched.fwWatchCount + b2n ovr } }
    let u := if ovr then t.raise 18 0 0 else t
    .next u.dispatch
  else .next s

/-- Context 0 has used its budget in the window: it ranks below every user context that is ready (R77), and the window is
counted in sched.sys.exhausted (R89). -/
def execServerBudgetExhausted (s : State) : Res :=
  if s.coresRun && s.sched.cores == some 0 && !s.sched.exhausted && decide (s.pn 0x704 * usTicks ≤ s.sched.used) then
    let t := { s with sched := { s.sched with exhausted := true } }
    .next (t.bump 0x705 32).dispatch
  else .next s

end Sys2Proof.Machine
end

