-- ==== Sys2Proof/Machine/Dispatch.lean ====
section
/-!
DEFINITION. One arm per command: a direct call of its meaning.
-/

namespace Sys2Proof.Machine

/-- The effect of a command on everything but the queue. -/
def exec (i : Instr) (s : State) : Host.Outcome State Fault Refusal :=
  match i with
  | .mov c w d src => Sys2Proof.Machine.execMov c w d src s
  | .movStore c w d dst => Sys2Proof.Machine.execMovStore c w d dst s
  | .add c w d src => Sys2Proof.Machine.execAdd c w d src s
  | .sub c w d src => Sys2Proof.Machine.execSub c w d src s
  | .mul c w d src => Sys2Proof.Machine.execMul c w d src s
  | .div c w d src => Sys2Proof.Machine.execDiv c w d src s
  | .mod c w d src => Sys2Proof.Machine.execMod c w d src s
  | .andWord c w d src => Sys2Proof.Machine.execAndWord c w d src s
  | .orWord c w d src => Sys2Proof.Machine.execOrWord c w d src s
  | .xorWord c w d src => Sys2Proof.Machine.execXorWord c w d src s
  | .shl c w d src => Sys2Proof.Machine.execShl c w d src s
  | .shr c w d src => Sys2Proof.Machine.execShr c w d src s
  | .rol c w d src => Sys2Proof.Machine.execRol c w d src s
  | .ror c w d src => Sys2Proof.Machine.execRor c w d src s
  | .lea c d src => Sys2Proof.Machine.execLea c d src s
  | .cmpEq c w d src => Sys2Proof.Machine.execCmpEq c w d src s
  | .cmpNe c w d src => Sys2Proof.Machine.execCmpNe c w d src s
  | .cmpLt c w d src => Sys2Proof.Machine.execCmpLt c w d src s
  | .cmpLe c w d src => Sys2Proof.Machine.execCmpLe c w d src s
  | .cmpGt c w d src => Sys2Proof.Machine.execCmpGt c w d src s
  | .cmpGe c w d src => Sys2Proof.Machine.execCmpGe c w d src s
  | .itof c w d src => Sys2Proof.Machine.execItof c w d src s
  | .ftoi c w d src => Sys2Proof.Machine.execFtoi c w d src s
  | .fcvt c w d src => Sys2Proof.Machine.execFcvt c w d src s
  | .btoi c w d src => Sys2Proof.Machine.execBtoi c w d src s
  | .itob c w d src => Sys2Proof.Machine.execItob c w d src s
  | .crd c d src => Sys2Proof.Machine.execCrd c d src s
  | .fmov c w d src => Sys2Proof.Machine.execFmov c w d src s
  | .fmovStore c w d dst => Sys2Proof.Machine.execFmovStore c w d dst s
  | .fadd c w d src => Sys2Proof.Machine.execFadd c w d src s
  | .fsub c w d src => Sys2Proof.Machine.execFsub c w d src s
  | .fmul c w d src => Sys2Proof.Machine.execFmul c w d src s
  | .fdiv c w d src => Sys2Proof.Machine.execFdiv c w d src s
  | .fsqrt c w d src => Sys2Proof.Machine.execFsqrt c w d src s
  | .fabs c w d src => Sys2Proof.Machine.execFabs c w d src s
  | .fneg c w d src => Sys2Proof.Machine.execFneg c w d src s
  | .fcmpEq c w d src => Sys2Proof.Machine.execFcmpEq c w d src s
  | .fcmpNe c w d src => Sys2Proof.Machine.execFcmpNe c w d src s
  | .fcmpLt c w d src => Sys2Proof.Machine.execFcmpLt c w d src s
  | .fcmpLe c w d src => Sys2Proof.Machine.execFcmpLe c w d src s
  | .fcmpGt c w d src => Sys2Proof.Machine.execFcmpGt c w d src s
  | .fcmpGe c w d src => Sys2Proof.Machine.execFcmpGe c w d src s
  | .bmov c w d asrc adst => Sys2Proof.Machine.execBmov c w d asrc adst s
  | .firstWriteCopyDone c => Sys2Proof.Machine.execFirstWriteCopyDone c s
  | .jmp c target => Sys2Proof.Machine.execJmp c target s
  | .jc c target => Sys2Proof.Machine.execJc c target s
  | .jnc c target => Sys2Proof.Machine.execJnc c target s
  | .call c target => Sys2Proof.Machine.execCall c target s
  | .ret c => Sys2Proof.Machine.execRet c s
  | .junction c countLess1 first => Sys2Proof.Machine.execJunction c countLess1 first s
  | .diag c d wide src => Sys2Proof.Machine.execDiag c d wide src s
  | .urgent c bay ch => Sys2Proof.Machine.execUrgent c bay ch s
  | .networkStart lanes => Sys2Proof.Machine.execNetworkStart lanes s
  | .trussCompletion c => Sys2Proof.Machine.execTrussCompletion c s
  | .release c => Sys2Proof.Machine.execRelease c s
  | .dataPinComplete c => Sys2Proof.Machine.execDataPinComplete c s
  | .peg c => Sys2Proof.Machine.execPeg c s
  | .shotAbandoned c => Sys2Proof.Machine.execShotAbandoned c s
  | .commitDurable => Sys2Proof.Machine.execCommitDurable s
  | .emit => Sys2Proof.Machine.execEmit s
  | .serverWindow => Sys2Proof.Machine.execServerWindow s
  | .serverBudgetExhausted => Sys2Proof.Machine.execServerBudgetExhausted s
  | .editStep => Sys2Proof.Machine.execEditStep s
  | .programActivation => Sys2Proof.Machine.execProgramActivation s
  | .checkpointStart => Sys2Proof.Machine.execCheckpointStart s
  | .nvmRowWriteDone eccOk => Sys2Proof.Machine.execNvmRowWriteDone eccOk s
  | .logRecordWrite => Sys2Proof.Machine.execLogRecordWrite s
  | .logHeaderWrite => Sys2Proof.Machine.execLogHeaderWrite s
  | .settingsCopyWrite => Sys2Proof.Machine.execSettingsCopyWrite s
  | .settingsCopyDurable => Sys2Proof.Machine.execSettingsCopyDurable s
  | .bootStart b => Sys2Proof.Machine.execBootStart b s
  | .powerOnReset vin => Sys2Proof.Machine.execPowerOnReset vin s
  | .brownOut vin => Sys2Proof.Machine.execBrownOut vin s
  | .powerFailWarning cause vin => Sys2Proof.Machine.execPowerFailWarning cause vin s
  | .powerFailCommitDone => Sys2Proof.Machine.execPowerFailCommitDone s
  | .pfiRecovered vin => Sys2Proof.Machine.execPfiRecovered vin s
  | .vinRowInhibit vin => Sys2Proof.Machine.execVinRowInhibit vin s
  | .nresetAssert => Sys2Proof.Machine.execNresetAssert s
  | .nresetRelease => Sys2Proof.Machine.execNresetRelease s
  | .holdupMeasureStart vin => Sys2Proof.Machine.execHoldupMeasureStart vin s
  | .holdupMeasureEnd vin iin dur => Sys2Proof.Machine.execHoldupMeasureEnd vin iin dur s
  | .clkLoss pll => Sys2Proof.Machine.execClkLoss pll s
  | .clkResetRelease => Sys2Proof.Machine.execClkResetRelease s
  | .aclkLoss => Sys2Proof.Machine.execAclkLoss s
  | .syncInEdge => Sys2Proof.Machine.execSyncInEdge s
  | .syncOutRise => Sys2Proof.Machine.execSyncOutRise s
  | .syncOutFall => Sys2Proof.Machine.execSyncOutFall s
  | .disciplineMeasure offset rate => Sys2Proof.Machine.execDisciplineMeasure offset rate s
  | .gptpSync f => Sys2Proof.Machine.execGptpSync f s
  | .gptpPdelay port delay => Sys2Proof.Machine.execGptpPdelay port delay s
  | .aliveToggle => Sys2Proof.Machine.execAliveToggle s
  | .hbeatAdvance => Sys2Proof.Machine.execHbeatAdvance s
  | .firmwareHeartbeat => Sys2Proof.Machine.execFirmwareHeartbeat s
  | .heartbeatLoss => Sys2Proof.Machine.execHeartbeatLoss s
  | .wdgKey1 => Sys2Proof.Machine.execWdgKey1 s
  | .wdgService pc => Sys2Proof.Machine.execWdgService pc s
  | .wdgKeyError value pc => Sys2Proof.Machine.execWdgKeyError value pc s
  | .wdgKey1Timeout pc => Sys2Proof.Machine.execWdgKey1Timeout pc s
  | .wdgExpiry pc => Sys2Proof.Machine.execWdgExpiry pc s
  | .coreRestartComplete => Sys2Proof.Machine.execCoreRestartComplete s
  | .wdgCfgWrite value => Sys2Proof.Machine.execWdgCfgWrite value s
  | .wdgStatClear value => Sys2Proof.Machine.execWdgStatClear value s
  | .wdgCleanRun => Sys2Proof.Machine.execWdgCleanRun s
  | .faultRaise src index data => Sys2Proof.Machine.execFaultRaise src index data s
  | .faultChipReset => Sys2Proof.Machine.execFaultChipReset s
  | .lockoutEntry => Sys2Proof.Machine.execLockoutEntry s
  | .graceExpiry src => Sys2Proof.Machine.execGraceExpiry src s
  | .nfaultHoldEnd => Sys2Proof.Machine.execNfaultHoldEnd s
  | .collectorSelfFault => Sys2Proof.Machine.execCollectorSelfFault s
  | .tmrMismatch ev => Sys2Proof.Machine.execTmrMismatch ev s
  | .coreScrubDone ok => Sys2Proof.Machine.execCoreScrubDone ok s
  | .coreJoin pause => Sys2Proof.Machine.execCoreJoin pause s
  | .resyncTimeout => Sys2Proof.Machine.execResyncTimeout s
  | .tmrCmpPendingClear => Sys2Proof.Machine.execTmrCmpPendingClear s
  | .modeChange => Sys2Proof.Machine.execModeChange s
  | .freeCoreReturn => Sys2Proof.Machine.execFreeCoreReturn s
  | .interruptEntry => Sys2Proof.Machine.execInterruptEntry s
  | .rdreg index count => Sys2Proof.Machine.execRdreg index count s
  | .wrreg index words part => Sys2Proof.Machine.execWrreg index words part s
  | .rdmbx m off count flips => Sys2Proof.Machine.execRdmbx m off count flips s
  | .wrmbx m off bytes => Sys2Proof.Machine.execWrmbx m off bytes s
  | .quadon => Sys2Proof.Machine.execQuadon s
  | .quadoff => Sys2Proof.Machine.execQuadoff s
  | .dbSet rings => Sys2Proof.Machine.execDbSet rings s
  | .mbxClaim value => Sys2Proof.Machine.execMbxClaim value s
  | .mbxClaimResolve => Sys2Proof.Machine.execMbxClaimResolve s
  | .mbxRelease mask => Sys2Proof.Machine.execMbxRelease mask s
  | .mbxReleaseKeep mask => Sys2Proof.Machine.execMbxReleaseKeep mask s
  | .hprst => Sys2Proof.Machine.execHprst s
  | .hstatClear value => Sys2Proof.Machine.execHstatClear value s
  | .irqStatClear value => Sys2Proof.Machine.execIrqStatClear value s
  | .stimeLRead => Sys2Proof.Machine.execStimeLRead s
  | .networkRequestMailbox frame => Sys2Proof.Machine.execNetworkRequestMailbox frame s
  | .mailboxTake tagOk plain => Sys2Proof.Machine.execMailboxTake tagOk plain s
  | .mailboxDone m => Sys2Proof.Machine.execMailboxDone m s
  | .sequenceWaitTimeout m => Sys2Proof.Machine.execSequenceWaitTimeout m s
  | .sessionIdleTimeout slot => Sys2Proof.Machine.execSessionIdleTimeout slot s
  | .tlsHandshake h => Sys2Proof.Machine.execTlsHandshake h s
  | .tlsKeyUpdate conn byDevice => Sys2Proof.Machine.execTlsKeyUpdate conn byDevice s
  | .tlsConnectionClose conn => Sys2Proof.Machine.execTlsConnectionClose conn s
  | .cup m => Sys2Proof.Machine.execCup m s
  | .ident m => Sys2Proof.Machine.execIdent m s
  | .openLeg1 m => Sys2Proof.Machine.execOpenLeg1 m s
  | .openLeg2 m sigOk => Sys2Proof.Machine.execOpenLeg2 m sigOk s
  | .openTimeout slot => Sys2Proof.Machine.execOpenTimeout slot s
  | .close m => Sys2Proof.Machine.execClose m s
  | .get m => Sys2Proof.Machine.execGet m s
  | .set m => Sys2Proof.Machine.execSet m s
  | .getblk m => Sys2Proof.Machine.execGetblk m s
  | .stateStop m => Sys2Proof.Machine.execStateStop m s
  | .stateRun m => Sys2Proof.Machine.execStateRun m s
  | .stateHalt m => Sys2Proof.Machine.execStateHalt m s
  | .testEnter m => Sys2Proof.Machine.execTestEnter m s
  | .testLeave m => Sys2Proof.Machine.execTestLeave m s
  | .stateRestart m => Sys2Proof.Machine.execStateRestart m s
  | .imgrd m => Sys2Proof.Machine.execImgrd m s
  | .force m => Sys2Proof.Machine.execForce m s
  | .prgBegin m => Sys2Proof.Machine.execPrgBegin m s
  | .prgData m => Sys2Proof.Machine.execPrgData m s
  | .prgCommit m v => Sys2Proof.Machine.execPrgCommit m v s
  | .editBegin m => Sys2Proof.Machine.execEditBegin m s
  | .editApply m v => Sys2Proof.Machine.execEditApply m v s
  | .stagingTimeout => Sys2Proof.Machine.execStagingTimeout s
  | .loadedTimeout => Sys2Proof.Machine.execLoadedTimeout s
  | .logrd m => Sys2Proof.Machine.execLogrd m s
  | .updBegin m => Sys2Proof.Machine.execUpdBegin m s
  | .updData m => Sys2Proof.Machine.execUpdData m s
  | .updVerified v => Sys2Proof.Machine.execUpdVerified v s
  | .updDataTimeout => Sys2Proof.Machine.execUpdDataTimeout s
  | .updActivate m vin => Sys2Proof.Machine.execUpdActivate m vin s
  | .updStatus m => Sys2Proof.Machine.execUpdStatus m s
  | .updActivationDone => Sys2Proof.Machine.execUpdActivationDone s
  | .handover => Sys2Proof.Machine.execHandover s
  | .handoverComplete => Sys2Proof.Machine.execHandoverComplete s
  | .handoverNogap => Sys2Proof.Machine.execHandoverNogap s
  | .trialConfirm => Sys2Proof.Machine.execTrialConfirm s
  | .confirmTimeout => Sys2Proof.Machine.execConfirmTimeout s
  | .revertDone => Sys2Proof.Machine.execRevertDone s
  | .challenge m => Sys2Proof.Machine.execChallenge m s
  | .challengeExpiry slot => Sys2Proof.Machine.execChallengeExpiry slot s
  | .claim m proofOk => Sys2Proof.Machine.execClaim m proofOk s
  | .transfer m tokenSigOk proofOk => Sys2Proof.Machine.execTransfer m tokenSigOk proofOk s
  | .ownRelease m tokenSigOk => Sys2Proof.Machine.execOwnRelease m tokenSigOk s
  | .install m sigOk => Sys2Proof.Machine.execInstall m sigOk s
  | .lock m => Sys2Proof.Machine.execLock m s
  | .unlock m tokenSigOk => Sys2Proof.Machine.execUnlock m tokenSigOk s
  | .unlockExpiry => Sys2Proof.Machine.execUnlockExpiry s
  | .debug m tokenSigOk => Sys2Proof.Machine.execDebug m tokenSigOk s
  | .debugEnd m => Sys2Proof.Machine.execDebugEnd m s
  | .debugExpiry => Sys2Proof.Machine.execDebugExpiry s
  | .attest m => Sys2Proof.Machine.execAttest m s
  | .stbyStatus m => Sys2Proof.Machine.execStbyStatus m s
  | .stbyJoin m => Sys2Proof.Machine.execStbyJoin m s
  | .stbySwitch m => Sys2Proof.Machine.execStbySwitch m s
  | .stbyLeave m => Sys2Proof.Machine.execStbyLeave m s
  | .fltAck m => Sys2Proof.Machine.execFltAck m s
  | .tamperTrip sensor => Sys2Proof.Machine.execTamperTrip sensor s
  | .tamperZeroise => Sys2Proof.Machine.execTamperZeroise s
  | .scarfLinkUp => Sys2Proof.Machine.execScarfLinkUp s
  | .scarfLaneLockLoss lane => Sys2Proof.Machine.execScarfLaneLockLoss lane s
  | .scarfLinkLost => Sys2Proof.Machine.execScarfLinkLost s
  | .scarfHeartbeatSend => Sys2Proof.Machine.execScarfHeartbeatSend s
  | .scarfHeartbeat h stime role sync epoch => Sys2Proof.Machine.execScarfHeartbeat h stime role sync epoch s
  | .hello h p => Sys2Proof.Machine.execHello h p s
  | .deltaPage h page data mask => Sys2Proof.Machine.execDeltaPage h page data mask s
  | .deltaMask h page mask => Sys2Proof.Machine.execDeltaMask h page mask s
  | .deltaEnd h d => Sys2Proof.Machine.execDeltaEnd h d s
  | .deltaApply => Sys2Proof.Machine.execDeltaApply s
  | .ack h crc => Sys2Proof.Machine.execAck h crc s
  | .nak h reason => Sys2Proof.Machine.execNak h reason s
  | .ackDeadline => Sys2Proof.Machine.execAckDeadline s
  | .dropFrame h c reason count => Sys2Proof.Machine.execDropFrame h c reason count s
  | .copyPage h page peg data => Sys2Proof.Machine.execCopyPage h page peg data s
  | .copyCells h cells => Sys2Proof.Machine.execCopyCells h cells s
  | .copyEnd h pages cells => Sys2Proof.Machine.execCopyEnd h pages cells s
  | .ctrlState h st at_ => Sys2Proof.Machine.execCtrlState h st at_ s
  | .ctrlForce h forces => Sys2Proof.Machine.execCtrlForce h forces s
  | .resync h => Sys2Proof.Machine.execResync h s
  | .editOffer h purpose left data v => Sys2Proof.Machine.execEditOffer h purpose left data v s
  | .editVerdict h status detail => Sys2Proof.Machine.execEditVerdict h status detail s
  | .updOffer h left data v => Sys2Proof.Machine.execUpdOffer h left data v s
  | .updVerdict h what ok => Sys2Proof.Machine.execUpdVerdict h what ok s
  | .switch h at_ => Sys2Proof.Machine.execSwitch h at_ s
  | .switchInstant => Sys2Proof.Machine.execSwitchInstant s
  | .switchDone h => Sys2Proof.Machine.execSwitchDone h s
  | .leave h code => Sys2Proof.Machine.execLeave h code s
  | .bayCycleStart x => Sys2Proof.Machine.execBayCycleStart x s
  | .cycleStartMessage x err => Sys2Proof.Machine.execCycleStartMessage x err s
  | .commandFrame x n err => Sys2Proof.Machine.execCommandFrame x n err s
  | .applyNext x n => Sys2Proof.Machine.execApplyNext x n s
  | .bayLatch x r lp temp => Sys2Proof.Machine.execBayLatch x r lp temp s
  | .sampleFrame x errs => Sys2Proof.Machine.execSampleFrame x errs s
  | .streamFrame x n err => Sys2Proof.Machine.execStreamFrame x n err s
  | .bayIdent x err => Sys2Proof.Machine.execBayIdent x err s
  | .cfgWrite x off data err => Sys2Proof.Machine.execCfgWrite x off data err s
  | .cfgCommit x crc err => Sys2Proof.Machine.execCfgCommit x crc err s
  | .cfgRead x off count err => Sys2Proof.Machine.execCfgRead x off count err s
  | .diagRead x rec err => Sys2Proof.Machine.execDiagRead x rec err s
  | .protClear x n kind err => Sys2Proof.Machine.execProtClear x n kind err s
  | .trimWrite x n op data err => Sys2Proof.Machine.execTrimWrite x n op data err s
  | .mgmtResponse x err => Sys2Proof.Machine.execMgmtResponse x err s
  | .mgmtTimeout x err => Sys2Proof.Machine.execMgmtTimeout x err s
  | .diagPoll => Sys2Proof.Machine.execDiagPoll s
  | .aliveStatusWord x err => Sys2Proof.Machine.execAliveStatusWord x err s
  | .bayLost x => Sys2Proof.Machine.execBayLost x s
  | .baySilent x => Sys2Proof.Machine.execBaySilent x s
  | .laneSilent x n => Sys2Proof.Machine.execLaneSilent x n s
  | .bayClockLoss x => Sys2Proof.Machine.execBayClockLoss x s
  | .bayClockReturn x => Sys2Proof.Machine.execBayClockReturn x s
  | .lpWarning x lp => Sys2Proof.Machine.execLpWarning x lp s
  | .lpUndervolt x lp => Sys2Proof.Machine.execLpUndervolt x lp s
  | .lpQualified x lp => Sys2Proof.Machine.execLpQualified x lp s
  | .channelRestore x n => Sys2Proof.Machine.execChannelRestore x n s
  | .bayReset x lp => Sys2Proof.Machine.execBayReset x lp s
  | .bayConfigLoaded x lp almsel => Sys2Proof.Machine.execBayConfigLoaded x lp almsel s
  | .limpAssert x volt held => Sys2Proof.Machine.execLimpAssert x volt held s
  | .limpRelease x volt held => Sys2Proof.Machine.execLimpRelease x volt held s
  | .debounceChange x n volt held => Sys2Proof.Machine.execDebounceChange x n volt held s
  | .wireBreakDeclare x n current held => Sys2Proof.Machine.execWireBreakDeclare x n current held s
  | .wireBreakClear x n current held => Sys2Proof.Machine.execWireBreakClear x n current held s
  | .counterEdge x n volt phase => Sys2Proof.Machine.execCounterEdge x n volt phase s
  | .quadEdge x n va vb phase => Sys2Proof.Machine.execQuadEdge x n va vb phase s
  | .hardLimit x n => Sys2Proof.Machine.execHardLimit x n s
  | .ocTrip x n current held => Sys2Proof.Machine.execOcTrip x n current held s
  | .inrushWindowEnd x n => Sys2Proof.Machine.execInrushWindowEnd x n s
  | .retryDue x n => Sys2Proof.Machine.execRetryDue x n s
  | .retryRestore x n => Sys2Proof.Machine.execRetryRestore x n s
  | .thermalTrip x n temp => Sys2Proof.Machine.execThermalTrip x n temp s
  | .clampOver x n energy => Sys2Proof.Machine.execClampOver x n energy s
  | .clampPulseEnd x n energy => Sys2Proof.Machine.execClampPulseEnd x n energy s
  | .clampDecay x => Sys2Proof.Machine.execClampDecay x s
  | .openloadSet x n current held => Sys2Proof.Machine.execOpenloadSet x n current held s
  | .openloadClear x n current held => Sys2Proof.Machine.execOpenloadClear x n current held s
  | .extHighSet x n volt held => Sys2Proof.Machine.execExtHighSet x n volt held s
  | .extHighClear x n volt held => Sys2Proof.Machine.execExtHighClear x n volt held s
  | .sincOutput x m y => Sys2Proof.Machine.execSincOutput x m y s
  | .conversionEnd x m => Sys2Proof.Machine.execConversionEnd x m s
  | .resultDelivery x m compliance => Sys2Proof.Machine.execResultDelivery x m compliance s
  | .thresholdEvent x => Sys2Proof.Machine.execThresholdEvent x s
  | .leadVisitEnd x m code => Sys2Proof.Machine.execLeadVisitEnd x m code s
  | .testVisitEnd x m code => Sys2Proof.Machine.execTestVisitEnd x m code s
  | .shuntTrip x n current held => Sys2Proof.Machine.execShuntTrip x n current held s
  | .shuntReclose x n => Sys2Proof.Machine.execShuntReclose x n s
  | .shuntOffClear x n current => Sys2Proof.Machine.execShuntOffClear x n current s
  | .currentOpenWire x n current held => Sys2Proof.Machine.execCurrentOpenWire x n current held s
  | .tapStepUp x n volt => Sys2Proof.Machine.execTapStepUp x n volt s
  | .tapStepDown x n volt held => Sys2Proof.Machine.execTapStepDown x n volt held s
  | .tapForced x n temp volt => Sys2Proof.Machine.execTapForced x n temp volt s
  | .tapForcedClear x n temp => Sys2Proof.Machine.execTapForcedClear x n temp s
  | .limiterStep x n temp => Sys2Proof.Machine.execLimiterStep x n temp s
  | .complianceOnset x n volt current => Sys2Proof.Machine.execComplianceOnset x n volt current s
  | .complianceClear x n volt current held => Sys2Proof.Machine.execComplianceClear x n volt current held s
  | .alarmForcedLow x n => Sys2Proof.Machine.execAlarmForcedLow x n s
  | .openloopSet x n volt readback held => Sys2Proof.Machine.execOpenloopSet x n volt readback held s
  | .openloopClear x n volt readback held => Sys2Proof.Machine.execOpenloopClear x n volt readback held s
  | .segmentCycle sg => Sys2Proof.Machine.execSegmentCycle sg s
  | .srxIn sg f => Sys2Proof.Machine.execSrxIn sg f s
  | .inMissed sg node => Sys2Proof.Machine.execInMissed sg node s
  | .srxOut x f => Sys2Proof.Machine.execSrxOut x f s
  | .srxClaim x f => Sys2Proof.Machine.execSrxClaim x f s
  | .srxSafe x f => Sys2Proof.Machine.execSrxSafe x f s
  | .nodeSilent x => Sys2Proof.Machine.execNodeSilent x s
  | .areq x f unwrapped => Sys2Proof.Machine.execAreq x f unwrapped s
  | .arsp f => Sys2Proof.Machine.execArsp f s
  | .acyclicTimeout id => Sys2Proof.Machine.execAcyclicTimeout id s
  | .nodeStartupRetry node => Sys2Proof.Machine.execNodeStartupRetry node s
  | .rekey => Sys2Proof.Machine.execRekey s
  | .portLinkChange port speed fullDuplex => Sys2Proof.Machine.execPortLinkChange port speed fullDuplex s
  | .runWaitExpiry => Sys2Proof.Machine.execRunWaitExpiry s
  | .aclkStart => Sys2Proof.Machine.execAclkStart s
  | .dieTempClear => Sys2Proof.Machine.execDieTempClear s
  | .syncInEdgeMissed => Sys2Proof.Machine.execSyncInEdgeMissed s
  | .hostPortUnknownCode code => Sys2Proof.Machine.execHostPortUnknownCode code s
  | .sequenceRecoveryReset node => Sys2Proof.Machine.execSequenceRecoveryReset node s
  | .selCodeChange x code => Sys2Proof.Machine.execSelCodeChange x code s
  | .gptpSyncTransmit port => Sys2Proof.Machine.execGptpSyncTransmit port s

end Sys2Proof.Machine
end

