-- ==== Sys2Proof/Machine/Tick.lean ====
section
/-!
DEFINITION. What one FCLK cycle does when no command waits (assumption log 10).
-/

namespace Sys2Proof.Machine

/-- The NVM controller is free for the next commit: rows run, no commit is in progress, no warning stands, and no other work goes
ahead of it (R64, R427). -/
def State.commitStarts (s : State) : Bool :=
  s.rowsRun && !s.pwr.warnLive && s.nvm.commitLeft == 0 &&
    ((s.nvm.logQueue.isEmpty && s.nvm.jobs.isEmpty) || decide (4 ≤ s.nvm.rowsAhead))

/-- The first row of the oldest commit without a durable record is started (R427); it counts as in progress from here, so that a
power-fail warning of a later cycle lets it complete (R64). -/
def State.startCommit (s : State) : State :=
  match s.headCommit with
  | some k =>
    if !k.started && s.commitStarts then
      { s with img := { s.img with commits := s.img.commits.map (fun c => if c == k then { c with started := true } else c) },
               nvm := { s.nvm with commitLeft := k.rowsTotal, commitFrom := s.now, commitTick := s.clk.ticks } }
    else s
  | none => s

/-- The share of `part` in `whole`, in per-mille, cut to a whole number (the spec names no rounding: DESIGN CHOICE, assumption log
56). -/
def perMille (part whole : Nat) : Nat := 1000 * part / max 1 whole

/-- A new 1 ms or 100 ms window of STIME has begun: the window before it gives sched.bank.worst or sched.idle.min (R88). The windows
are those that start at multiples of their length (R88 says 'any window': DESIGN CHOICE, assumption log 56). -/
def State.closeWindows (s : State) : State :=
  let t := if s.now / 1000000 = s.sched.bankWin then s
    else
      let u := s.worst 0x709 (perMille s.sched.bankHits s.sched.bankCycles)
      { u with sched := { u.sched with bankWin := s.now / 1000000, bankCycles := 0, bankHits := 0 } }
  if t.now / 100000000 = t.sched.idleWin then t
  else
    let share := perMille t.sched.idleHits t.sched.idleCycles
    let u := if 0 < t.sched.idleCycles ∧ share < t.pn 0x70A then t.setPv 0x70A share else t
    { u with sched := { u.sched with idleWin := t.now / 100000000, idleCycles := 0, idleHits := 0 } }

/-- What the scheduler measures in one cycle (R88): whether a fabric access waited for a busy bank, which rests on the bank hash and
the accesses of every master and is free here, and whether any context held the cores. -/
def State.measureCycle (s : State) : State :=
  let (v, t) := s.closeWindows.draw
  let hit := v % 2 == 1 && t.pwr.sram
  let u := if hit then t.bump 0x708 64 else t
  { u with sched := { u.sched with
      bankCycles := u.sched.bankCycles + 1, bankHits := u.sched.bankHits + b2n hit,
      idleCycles := u.sched.idleCycles + 1, idleHits := u.sched.idleHits + b2n u.sched.cores.isNone } }

/-- One FCLK cycle: 2.5 ns pass; where FCLK runs, STIME advances (R465), the watchdog counts (R385), the time that
context 0 holds the cores is charged to its budget (R77), the scheduler measures (R88), the NVM controller starts a commit it is
free for (R427), and a standby takes a state whose instant has come (R164). -/
def State.fclk (s : State) : State :=
  if s.fclkUp then
    let k := s.clk.tick
    let holds := s.sched.cores == some 0
    let t : State := { s with
      clk := k,
      wdg := { s.wdg with count := s.wdg.count + 1 },
      sched := { s.sched with used := if holds then s.sched.used + 1 else s.sched.used } }
    t.measureCycle.startCommit.followDue
  else { s with clk := { s.clk with ticks := s.clk.ticks + 1 } }

end Sys2Proof.Machine
end

