-- ==== Sys2Proof/Safety.lean ====
section
/-!
DEFINITION. What a claim says of a command: that it answers a given next state, that it answers a next state with given properties, and
what makes a state well-formed. No command of the block faults or refuses, so a run never stops; what counts as safe is that the
memories keep their canonical form and that promises which the spec makes of every step hold.
-/

namespace Sys2Proof.Machine

/-- Command `c` at state `s` answers the next state `t`. -/
def Gives (c : Instr) (s t : State) : Prop := exec c s = .next t

/-- Command `c` at state `s` answers a next state that has the properties `post`. -/
def Does (c : Instr) (s : State) (post : State → Prop) : Prop := ∃ t, exec c s = .next t ∧ post t

/-- The command at the front of the queue has been taken: a step of a state with `c` in front is `exec c` on the rest. -/
def State.withFront (s : State) (c : Instr) : State := { s with pending := c :: s.pending }

/-- Mailbox `m` holds a response with this completion code, status, detail and data (R337). -/
def State.Answered (t : State) (m completion status detail : Nat) (data : List Byte) : Prop :=
  ∃ r, (t.mailbox m).resp = some r ∧ r.completion = completion ∧ r.status = status ∧ r.detail = detail ∧ r.data = data

/-- Every memory of the unit is in its canonical form: SRAM, FeRAM and the FeRAM of each bay. -/
def State.MemoryOk (s : State) : Prop :=
  Memory.wf s.sram = true ∧ Memory.wf s.feram = true ∧ ∀ e ∈ s.bays, Memory.wf e.2.feram = true

/-- A step that answers a next state keeps property `inv`. -/
def Kept (inv : State → Prop) : Prop := ∀ s t, inv s → step s = .next t → inv t

end Sys2Proof.Machine
end

