-- ==== Sys2Proof/Certificates/Slice0/Obligations.lean ====
section
/-!
DEFINITION. The statements about the model, in the order of OBLIGATIONS.json. A statement says `Gives` where it names the whole
next state (whatever it does not name is unchanged: the frame), and `Does` where it names what the next state holds, a record update
naming the fields that may change.
-/

open Sys2Proof Sys2Proof.Machine

/-! ### The machine -/

/-- A step takes the command at the front of the queue and is its `exec` on the state with the queue's rest (the model's form of
the command interface, log 10). -/
def Obligations.StepRunsFrontCommand : Prop :=
  ∀ (s : State) (c : Instr) (rest : List Instr), s.pending = c :: rest → step s = exec c { s with pending := rest }

/-- On an empty queue one FCLK cycle passes (the model's choice, log 10): STIME, a count of 64 bits, moves by 2.5 ns times 1 + a with the fraction kept
(R26, R465), the watchdog counts (R385), context 0 is charged while it holds the cores (R77), the scheduler measures bank conflicts and
idle time (R88; whether an access met a busy bank is free), and the NVM controller starts the oldest commit where it is free for it
(R427, R64); a standby then takes a state whose instant has come (R164), and nothing else changes. Without FCLK only the model's own
clock of ticks moves. -/
def Obligations.EmptyQueueIsOneClockCycle : Prop :=
  ∀ s : State, s.pending = [] →
    (s.fclkUp = false → step s = .next { s with clk := { s.clk with ticks := s.clk.ticks + 1 } }) ∧
    (s.fclkUp = true → ∃ t : State, step s = .next t.followDue ∧
      t = { s with clk := t.clk, wdg := { s.wdg with count := s.wdg.count + 1 }, sched := t.sched, params := t.params,
                   freeCtr := s.freeCtr + 1, img := { s.img with commits := t.img.commits },
                   nvm := { s.nvm with commitLeft := t.nvm.commitLeft, commitFrom := t.nvm.commitFrom, commitTick := t.nvm.commitTick } } ∧
      t.clk = { s.clk with stime := t.clk.stime, frac := t.clk.frac, ticks := s.clk.ticks + 1 } ∧
      t.sched = { s.sched with used := t.sched.used, bankWin := t.sched.bankWin, bankCycles := t.sched.bankCycles,
                               bankHits := t.sched.bankHits, idleWin := t.sched.idleWin, idleCycles := t.sched.idleCycles,
                               idleHits := t.sched.idleHits } ∧
      t.sched.used = (if s.sched.cores = some 0 then s.sched.used + 1 else s.sched.used) ∧
      (∀ pid, pid ≠ 0x708 → pid ≠ 0x709 → pid ≠ 0x70A → t.pv pid = s.pv pid) ∧
      (s.stby.follow = none → t.followDue = t) ∧
      (∀ k, s.headCommit = some k → k.started = false →
        ({ s with clk := t.clk } : State).commitStarts = true →
        t.nvm.commitLeft = k.rowsTotal ∧ t.nvm.commitTick = s.clk.ticks + 1 ∧
        t.img.commits = s.img.commits.map (fun q => if q == k then { q with started := true } else q)) ∧
      (s.headCommit = none ∨ ({ s with clk := t.clk } : State).commitStarts = false → t.img = s.img ∧ t.nvm = s.nvm) ∧
      t.clk.frac < 10000000000 ∧
      (-1000000000 ≤ s.clk.rate → ∃ n : Nat, t.clk.stime = (s.clk.stime + n) % 2 ^ 64 ∧
        (10000000000 * n + t.clk.frac : Int) = s.clk.frac + (25000000000 + 25 * s.clk.rate)))

/-- The machine right after power-on reset: state BOOT (R8, R472), no command waiting, no context configured, no fault raised, no
force, nFAULT low (R384), the watchdog ladder at 0, no host holding the port, and every parameter at the default of its table.
The part (log 2) and STIME 0 are the model's choice. -/
def Obligations.PowerOnResetState : Prop :=
  State.reset.dev.state = .boot ∧ State.reset.pending = [] ∧ State.reset.configured = [] ∧
  State.reset.flt.sticky = 0 ∧ State.reset.flt.live = 0 ∧ State.reset.flt.records = [] ∧ State.reset.flt.nfaultLow = true ∧
  State.reset.img.forces = [] ∧ State.reset.wdg.ladder = 0 ∧ State.reset.hp.claim = none ∧ State.reset.hp.grant = 16 ∧
  State.reset.dstateLow = 1 ∧ State.reset.pwr.cause = 0 ∧ State.reset.sched.cores = none ∧
  (∀ pid, State.reset.pv pid = paramDefault pid) ∧ (∀ pt, State.reset.committed pt = 0) ∧
  State.reset.MemoryOk ∧ State.reset.sec.fuses ≤ 256 ∧ step State.reset = .next State.reset.fclk

/-- A byte store is read back and leaves every other byte alone; it keeps the canonical form, in which equal memories are equal
lists (logs 3 and 21).

Points of the areas (R32, R33): a stored point reads back, cut to a bit in a bit area and to 16 bits in a word area, and no
other point of any area changes. The areas lie where Table ARCH-4 and log 4 put them, DB at most 786,432 words long. -/
def Obligations.StoresReadBack : Prop :=
  (∀ (m : Memory) (a : Nat) (b : Byte), Memory.wf m = true →
     Memory.wf (m.write a b) = true ∧ (∀ c, (m.write a b).read c = if c = a then b else m.read c) ∧
     (∀ m' : Memory, Memory.wf m' = true → (∀ c, m'.read c = m.read c) → m' = m)) ∧
  (∀ (m : Memory) (db p q v : Nat), Memory.wf m = true → db ≤ 786432 →
     ptIndex p < areaLen db (ptArea p) → ptIndex q < areaLen db (ptArea q) →
     Memory.wf (writePt m p v) = true ∧
     readPt (writePt m p v) q =
       (if q = p then (if areaIsBit (ptArea p) then v % 2 else v % 65536) else readPt m q))

/-- Every step keeps the memories in canonical form: SRAM, FeRAM and the FeRAM of each bay. -/
def Obligations.EveryStepKeepsMemoriesCanonical : Prop :=  Kept State.MemoryOk

/-- Fuses never return to 0 (R405): whatever command runs, the count of fuses set never falls and never passes 256, so no image
older than the last confirmed security version can be confirmed again. -/
def Obligations.FusesNeverReturn : Prop := ∀ n : Nat, Kept (fun s => n ≤ s.sec.fuses ∧ s.sec.fuses ≤ 256)

/-- No command changes the queue of commands: the rest of the queue is what the next step takes from.

No command of the table stops the run: each one answers a next state in every state. -/
def Obligations.CommandsAnswerAndLeaveTheQueue : Prop :=
  (∀ (c : Instr) (s t : State), exec c s = .next t → t.pending = s.pending) ∧
  (∀ (c : Instr) (s : State), ∃ t, exec c s = .next t)

/-! ### Core instructions and networks -/

/-- The operations of Table ISA-9 that leave BA (R106, R107): with context `c` on the cores and a source found legal, Wd takes the
32-bit result cut and extended to the width, PC moves past the instruction, and nothing else of the unit changes. `b` is the
source as R107 extends it; SHR, ROL and ROR take both operands under the width rule (SHR of a sign-extended operand: log 8). -/
def Obligations.IntegerResultsWithoutBa : Prop :=
  ∀ (s : State) (c : Nat) (sh : Shot) (w : IWidth) (d : BitVec 4) (src : Src) (b : W32), s.onCores c = some sh →
    let g := (s.ctx c).regs
    let a := g.w[d.toNat]
    let n := b.toNat % iwBits w
    let done (v : W32) : State :=
      s.setCtx c { s.ctx c with regs := { g with w := g.w.set d.toNat v, pc := g.pc + BitVec.ofNat 20 (srcLen src) } }
    (s.intSrc sh g w false src = some (.ok b) →
      Gives (.mov c w d src) s (done (iwExtend w b)) ∧
      Gives (.add c w d src) s (done (iwExtend w (a + b))) ∧
      Gives (.sub c w d src) s (done (iwExtend w (a - b))) ∧
      Gives (.mul c w d src) s (done (iwExtend w (a * b))) ∧
      Gives (.andWord c w d src) s (done (iwExtend w (a &&& b))) ∧
      Gives (.orWord c w d src) s (done (iwExtend w (a ||| b))) ∧
      Gives (.xorWord c w d src) s (done (iwExtend w (a ^^^ b))) ∧
      Gives (.shl c w d src) s (done (iwExtend w (a <<< n)))) ∧
    (s.intSrc sh g w true src = some (.ok b) →
      Gives (.shr c w d src) s (done (iwExtend w (iwExtend w a >>> n))) ∧
      (w = .i32 →
        Gives (.rol c w d src) s (done (a.rotateLeft n)) ∧ Gives (.ror c w d src) s (done (a.rotateRight n))) ∧
      (w ≠ .i32 →
        Gives (.rol c w d src) s (done (iwExtend w (((a.setWidth 16).rotateLeft n).setWidth 32))) ∧
        Gives (.ror c w d src) s (done (iwExtend w (((a.setWidth 16).rotateRight n).setWidth 32)))))

/-- DIV and MOD (R106, R107): truncation toward zero, the remainder with the sign of Wd, BA telling a zero divisor and a quotient
overflow; signed but for w = 0b01. Only Wd, BA and PC change.

CMP (R106, R107): BA takes the comparison of Wd with the source under the width rule, unsigned for w = 0b01 and signed
otherwise; no register but PC changes.

BTOI and ITOB (R106), for the widths 0b01 (4 digits) and 0b10 (8 digits): the value of a BCD source, the BCD code of a value
in range, and 0 with BA = 1 where a digit is above 9 or the value out of range. With the width 0b00, for which R106 gives no
digits, Wd and BA are free and the instruction completes (the model's choice, log 58). -/
def Obligations.IntegerOperationsThatSetBa : Prop :=
  (∀ (s : State) (c : Nat) (sh : Shot) (w : IWidth) (d : BitVec 4) (src : Src) (b : W32), s.onCores c = some sh →
     let g := (s.ctx c).regs
     let x := iwInt w (iwExtend w g.w[d.toNat])
     let y := iwInt w b
     let ovf : Prop := w ≠ .u16 ∧ x = (if w = .i32 then -2147483648 else -32768) ∧ y = -1
     let done (v : W32) (ba : Bool) : State :=
       s.setCtx c { s.ctx c with
         regs := { g with w := g.w.set d.toNat v, ba := ba, pc := g.pc + BitVec.ofNat 20 (srcLen src) } }
     s.intSrc sh g w true src = some (.ok b) →
     (y = 0 → Gives (.div c w d src) s (done 0#32 true) ∧ Gives (.mod c w d src) s (done g.w[d.toNat] true)) ∧
     (ovf → Gives (.div c w d src) s (done (BitVec.ofInt 32 x) true) ∧ Gives (.mod c w d src) s (done 0#32 true)) ∧
     (y ≠ 0 → ¬ ovf →
       Gives (.div c w d src) s (done (iwExtend w (BitVec.ofInt 32 (x.tdiv y))) false) ∧
       Gives (.mod c w d src) s (done (iwExtend w (BitVec.ofInt 32 (x.tmod y))) false))) ∧
  (∀ (s : State) (c : Nat) (sh : Shot) (w : IWidth) (d : BitVec 4) (src : Src) (b : W32), s.onCores c = some sh →
     let g := (s.ctx c).regs
     let x := iwInt w (iwExtend w g.w[d.toNat])
     let y := iwInt w b
     let done (p : Prop) [Decidable p] : State :=
       s.setCtx c { s.ctx c with regs := { g with ba := decide p, pc := g.pc + BitVec.ofNat 20 (srcLen src) } }
     s.intSrc sh g w true src = some (.ok b) →
       Gives (.cmpEq c w d src) s (done (x = y)) ∧ Gives (.cmpNe c w d src) s (done (x ≠ y)) ∧
       Gives (.cmpLt c w d src) s (done (x < y)) ∧ Gives (.cmpLe c w d src) s (done (x ≤ y)) ∧
       Gives (.cmpGt c w d src) s (done (x > y)) ∧ Gives (.cmpGe c w d src) s (done (x ≥ y))) ∧
  (∀ (s : State) (c : Nat) (sh : Shot) (d : BitVec 4) (src : Src) (b : W32), s.onCores c = some sh →
     let g := (s.ctx c).regs
     let done (t : State) : Prop := ∃ v ba, t = State.setCtx { s with freeCtr := s.freeCtr + 1 } c { s.ctx c with
       regs := { g with w := g.w.set d.toNat v, ba := ba, pc := g.pc + BitVec.ofNat 20 (srcLen src) } }
     s.intSrc sh g .s16 false src = some (.ok b) → Does (.btoi c .s16 d src) s done ∧ Does (.itob c .s16 d src) s done) ∧
  (∀ (s : State) (c : Nat) (sh : Shot) (w : IWidth) (d : BitVec 4) (src : Src) (b : W32), s.onCores c = some sh → w ≠ .s16 →
     let g := (s.ctx c).regs
     let n := if w = .i32 then 8 else 4
     let digit (v k : Nat) : Nat := v / 16 ^ k % 16
     let done (v : W32) (ba : Bool) : State :=
       s.setCtx c { s.ctx c with
         regs := { g with w := g.w.set d.toNat v, ba := ba, pc := g.pc + BitVec.ofNat 20 (srcLen src) } }
     s.intSrc sh g w false src = some (.ok b) →
       ((∀ k < n, digit b.toNat k < 10) →
         Gives (.btoi c w d src) s
           (done (BitVec.ofNat 32 ((List.range n).foldl (fun a k => a + digit b.toNat k * 10 ^ k) 0)) false)) ∧
       ((∃ k < n, 10 ≤ digit b.toNat k) → Gives (.btoi c w d src) s (done 0#32 true)) ∧
       (let v : Int := if w = .i32 then b.toInt else b.toNat
        (v < 0 ∨ 10 ^ n ≤ v → Gives (.itob c w d src) s (done 0#32 true)) ∧
        (0 ≤ v → v < 10 ^ n →
          Gives (.itob c w d src) s
            (done (BitVec.ofNat 32 ((List.range n).foldl (fun a k => a + b.toNat / 10 ^ k % 10 * 16 ^ k) 0)) false))))

/-- LEA (R106, R107) and CRD (R110): the address register or Wd takes its value and nothing but PC changes with it; BA stays.

DIAG and URGENT (R115, R116): DIAG loads 16 or 32 bits of the diagnostic area in the shot's view and leaves BA; URGENT puts
the channel once into its bay's queue of urgent requests and leaves every register but PC. -/
def Obligations.AddressCellAndDiagnosticAccesses : Prop :=
  (∀ (s : State) (c : Nat) (sh : Shot), s.onCores c = some sh →
     let g := (s.ctx c).regs
     let pcBy (n : Nat) := g.pc + BitVec.ofNat 20 n
     let doneA (d : BitVec 2) (v : PointAddr) (n : Nat) : State :=
       s.setCtx c { s.ctx c with regs := { g with a := g.a.set d.toNat v, pc := pcBy n } }
     let doneW (d : BitVec 4) (v : W32) : State :=
       s.setCtx c { s.ctx c with regs := { g with w := g.w.set d.toNat v, pc := pcBy 1 } }
     (∀ (d : BitVec 2) (r : BitVec 4), Gives (.lea c d (.reg r)) s (doneA d (g.w[r.toNat].setWidth 24) 1)) ∧
     (∀ (d : BitVec 2) (p : PointAddr), Gives (.lea c d (.dir p)) s (doneA d p 2)) ∧
     (∀ (d k : BitVec 2) (off : BitVec 14), Gives (.lea c d (.ind k off)) s
       (doneA d (BitVec.ofNat 24 (g.a[k.toNat].toNat / 2 ^ 20 * 2 ^ 20 +
         (((g.a[k.toNat].toNat : Int) + off.toInt) % 2 ^ 20).toNat)) 1)) ∧
     (∀ (d : BitVec 4) (cell : Nat), cell < 8192 →
       (s.ownsCell c false cell = true →
         Gives (.crd c d (.imm (BitVec.ofNat 16 cell))) s (doneW d (BitVec.ofNat 32 (s.viewTimer sh cell).et))) ∧
       (s.ownsCell c true cell = true →
         Gives (.crd c d (.imm (BitVec.ofNat 16 (0x8000 + cell)))) s (doneW d (BitVec.ofInt 32 (s.viewCounter sh cell).cv))) ∧
       (∀ r : BitVec 4, g.w[r.toNat].toNat % 65536 = cell → s.ownsCell c false cell = true →
         Gives (.crd c d (.reg r)) s (doneW d (BitVec.ofNat 32 (s.viewTimer sh cell).et))) ∧
       (∀ r : BitVec 4, g.w[r.toNat].toNat % 65536 = 0x8000 + cell → s.ownsCell c true cell = true →
         Gives (.crd c d (.reg r)) s (doneW d (BitVec.ofInt 32 (s.viewCounter sh cell).cv))))) ∧
  (∀ (s : State) (c : Nat) (sh : Shot), s.onCores c = some sh →
     let g := (s.ctx c).regs
     let dg (ix : Nat) : Nat := s.viewPt sh (mkPt 7 ix)
     let done (d : BitVec 4) (v : Nat) : State :=
       s.setCtx c { s.ctx c with regs := { g with w := g.w.set d.toNat (BitVec.ofNat 32 v), pc := g.pc + 1#20 } }
     (∀ (d : BitVec 4) (ix : BitVec 13), Gives (.diag c d false (.dir ix)) s (done d (dg ix.toNat)) ∧
       (ix.toNat % 2 = 0 → Gives (.diag c d true (.dir ix)) s (done d (dg ix.toNat + 65536 * dg (ix.toNat + 1))))) ∧
     (∀ (d : BitVec 4) (k : BitVec 2) (off : BitVec 13) (e : IndEntry),
       let ix := ptIndex g.a[k.toNat].toNat + off.toNat
       ptArea g.a[k.toNat].toNat = 7 → ix < 8192 → s.program.indAt g.pc.toNat 0 = some e →
       (e.covers (mkPt 7 ix) 1 = true → Gives (.diag c d false (.ind k off)) s (done d (dg ix))) ∧
       (ix % 2 = 0 → e.covers (mkPt 7 ix) 2 = true →
         Gives (.diag c d true (.ind k off)) s (done d (dg ix + 65536 * dg (ix + 1))))) ∧
     (∀ (bay : Bool) (ch : BitVec 4), bayExists s.dev.part (b2n bay) = true → ch.toNat < bayChannels s.dev.part →
       Does (.urgent c bay ch) s (fun t =>
         t = { s with ctxs := t.ctxs, eng := { s.eng with bays := t.eng.bays } } ∧
         (∀ k, t.ctx k = if k = c then { s.ctx c with regs := { g with pc := g.pc + 1#20 } } else s.ctx k) ∧
         let b := tget EngBay.init s.eng.bays (b2n bay)
         ∀ y, tget EngBay.init t.eng.bays y = if y = b2n bay then
           { b with urgent := if ch.toNat ∈ b.urgent then b.urgent else b.urgent ++ [ch.toNat] }
           else tget EngBay.init s.eng.bays y)))

/-- The real instructions of Table ISA-9 that write Fd (R106, R108): the IEEE 754 result of precision w, F[63:32] cleared by a
binary32 result, PC past the instruction, BA and everything else as before. `a` and `b` are the operands' bits in precision w.

FCMP (R106, R108): BA takes the IEEE comparison; an unordered one holds for NE only; no register but PC changes.

ITOF, FTOI and FCVT (R106, R108): the integer as the nearest real; the real as the nearest integer, ties to even, saturated
to 32 bits, 0 for a NaN, BA telling saturation or a NaN; the real of the other precision. -/
def Obligations.RealArithmetic : Prop :=
  (∀ (s : State) (c : Nat) (sh : Shot) (w : FWidth) (d : BitVec 3) (src : Src) (b : Nat), s.onCores c = some sh →
     let g := (s.ctx c).regs
     let f := fwFmt w
     let a := if w = .b32 then g.f[d.toNat].toNat % 2 ^ 32 else g.f[d.toNat].toNat
     let done (v : Nat) : State :=
       s.setCtx c { s.ctx c with
         regs := { g with f := g.f.set d.toNat (BitVec.ofNat 64 v), pc := g.pc + BitVec.ofNat 20 (srcLen src) } }
     s.realSrc sh g w src = some (.ok b) →
       Gives (.fmov c w d src) s (done b) ∧ Gives (.fadd c w d src) s (done (f.add a b)) ∧
       Gives (.fsub c w d src) s (done (f.add a (f.neg b))) ∧ Gives (.fmul c w d src) s (done (f.mul a b)) ∧
       Gives (.fdiv c w d src) s (done (f.div a b)) ∧ Gives (.fsqrt c w d src) s (done (f.sqrt b)) ∧
       Gives (.fabs c w d src) s (done (if b / 2 ^ f.signPos % 2 = 1 then b - 2 ^ f.signPos else b)) ∧
       Gives (.fneg c w d src) s (done (if b / 2 ^ f.signPos % 2 = 1 then b - 2 ^ f.signPos else b + 2 ^ f.signPos))) ∧
  (∀ (s : State) (c : Nat) (sh : Shot) (w : FWidth) (d : BitVec 3) (src : Src) (b : Nat), s.onCores c = some sh →
     let g := (s.ctx c).regs
     let a := if w = .b32 then g.f[d.toNat].toNat % 2 ^ 32 else g.f[d.toNat].toNat
     let o := (fwFmt w).compare a b
     let done (x : Bool) : State :=
       s.setCtx c { s.ctx c with regs := { g with ba := x, pc := g.pc + BitVec.ofNat 20 (srcLen src) } }
     s.realSrc sh g w src = some (.ok b) →
       Gives (.fcmpEq c w d src) s (done (o == some .eq)) ∧ Gives (.fcmpNe c w d src) s (done (o != some .eq)) ∧
       Gives (.fcmpLt c w d src) s (done (o == some .lt)) ∧
       Gives (.fcmpLe c w d src) s (done (o == some .lt || o == some .eq)) ∧
       Gives (.fcmpGt c w d src) s (done (o == some .gt)) ∧
       Gives (.fcmpGe c w d src) s (done (o == some .gt || o == some .eq))) ∧
  (∀ (s : State) (c : Nat) (sh : Shot), s.onCores c = some sh →
     let g := (s.ctx c).regs
     let pc1 := g.pc + 1#20
     let low (v : W64) := v.toNat % 2 ^ 32
     let doneF (d : BitVec 3) (v : Nat) : State :=
       s.setCtx c { s.ctx c with regs := { g with f := g.f.set d.toNat (BitVec.ofNat 64 v), pc := pc1 } }
     let doneW (d : BitVec 4) (v : Int) (ba : Bool) : State :=
       s.setCtx c { s.ctx c with regs := { g with w := g.w.set d.toNat (BitVec.ofInt 32 v), ba := ba, pc := pc1 } }
     (∀ (w : FWidth) (d : BitVec 3) (r : BitVec 4),
       Gives (.itof c w d r) s (doneF d ((fwFmt w).round (decide (g.w[r.toNat].toInt < 0)) g.w[r.toNat].toInt.natAbs 0 false))) ∧
     (∀ (d r : BitVec 3), Gives (.fcvt c .b64 d r) s (doneF d (FloatFmt.b64.convert .b32 (low g.f[r.toNat])))) ∧
     (∀ (d r : BitVec 3), Gives (.fcvt c .b32 d r) s (doneF d (FloatFmt.b32.convert .b64 g.f[r.toNat].toNat))) ∧
     (∀ (w : FWidth) (d : BitVec 4) (r : BitVec 3),
       let x := (fwFmt w).unpack (if w = .b32 then low g.f[r.toNat] else g.f[r.toNat].toNat)
       (x = .nan → Gives (.ftoi c w d r) s (doneW d 0 true)) ∧
       (x = .inf true → Gives (.ftoi c w d r) s (doneW d (-2147483648) true)) ∧
       (x = .inf false → Gives (.ftoi c w d r) s (doneW d 2147483647 true)) ∧
       (∀ (neg : Bool) (m : Nat) (e : Int), x = .fin neg m e →
         let v : Int := if neg then -(roundNat m e : Int) else roundNat m e
         (v < -2147483648 → Gives (.ftoi c w d r) s (doneW d (-2147483648) true)) ∧
         (2147483647 < v → Gives (.ftoi c w d r) s (doneW d 2147483647 true)) ∧
         (-2147483648 ≤ v → v ≤ 2147483647 → Gives (.ftoi c w d r) s (doneW d v false)))))

/-- Rounding is to the nearest encoding (R108): where m × 2^e rounds to a finite value, no finite encoding lies nearer to it. -/
def Obligations.RoundingIsToNearest : Prop :=
  ∀ (f : FloatFmt) (neg : Bool) (m : Nat) (e : Int) (v : Nat) (nr nv : Bool) (mr mv : Nat) (er ev : Int),
    f.unpack (f.round neg m e false) = .fin nr mr er → f.unpack v = .fin nv mv ev →
    let val (n : Bool) (m : Nat) (e : Int) : Rat := (if n then -1 else 1) * (m : Rat) * (2 : Rat) ^ e
    (val nr mr er - val neg m e).abs ≤ (val nv mv ev - val neg m e).abs

/-- Stores (R42, R106, R111): with a legal address and room under the quota and the retentive cap, a store whose pages the shot
buffer holds puts the value's points into the buffer at once, and one that needs a page starts the first-write copy and waits,
its registers and points kept until the copy is done. The committed image does not change.

The first-write copies of a waiting write (R42, R125): each one done leaves the next; after the last one the write completes
where context `c` holds the cores, and the instruction is restarted from its beginning where it does not. Only the slot of
context `c` changes.

BMOV (R109): a count of 0 only moves PC on. A unit whose whole remaining range is legal moves min(n, 188) words of the shot's
view: the highest remaining ones where the ranges overlap in one area with Ad above As, the lowest otherwise; As, Ad and the
count then describe what remains, and PC moves on with the last unit. The unit's store is that of any other instruction. -/
def Obligations.StoresAndBlockMoves : Prop :=
  (∀ (s : State) (c : Nat) (sh : Shot), s.onCores c = some sh →
     let g := (s.ctx c).regs
     let now (n : Nat) (ws : List (Nat × Nat)) : State :=
       s.setCtx c { s.ctx c with regs := { g with pc := g.pc + BitVec.ofNat 20 n }, shot := some (sh.put s.program ws) }
     let later (n : Nat) (ws : List (Nat × Nat)) (t : State) : Prop :=
       t = { s with ctxs := t.ctxs, params := t.params } ∧ (t.ctx c).regs = g ∧
       ∃ sh', (t.ctx c).shot = some sh' ∧ sh'.writes = sh.writes ∧ sh'.buf.length = sh.buf.length + (sh.newPages ws).length ∧
         sh'.waiting = some { pages := sh.newPages ws, writes := ws, after := { g with pc := g.pc + BitVec.ofNat 20 n } }
     (∀ (w : IWidth) (d : BitVec 4) (dst : Src) (pt : Nat), s.writeOperand c g dst (iwUnits w) false = some (.ok pt) →
       let ws := storeList pt (iwUnits w) (g.w[d.toNat].toNat % 2 ^ iwBits w)
       s.writeRefused c sh ws = none →
         (sh.newPages ws = [] → Gives (.movStore c w d dst) s (now (srcLen dst) ws)) ∧
         (sh.newPages ws ≠ [] → Does (.movStore c w d dst) s (later (srcLen dst) ws))) ∧
     (∀ (w : FWidth) (d : BitVec 3) (dst : Src) (pt : Nat), s.writeOperand c g dst (fwUnits w) true = some (.ok pt) →
       let ws := storeList pt (fwUnits w) (if w = .b32 then g.f[d.toNat].toNat % 2 ^ 32 else g.f[d.toNat].toNat)
       s.writeRefused c sh ws = none →
         (sh.newPages ws = [] → Gives (.fmovStore c w d dst) s (now (srcLen dst) ws)) ∧
         (sh.newPages ws ≠ [] → Does (.fmovStore c w d dst) s (later (srcLen dst) ws)))) ∧
  (∀ (s : State) (c : Nat) (sh : Shot) (wt : WaitingWrite), (s.ctx c).shot = some sh → sh.waiting = some wt →
     (∀ p q rest, wt.pages = p :: q :: rest →
       Gives (.firstWriteCopyDone c) s (s.setCtx c { s.ctx c with shot := some { sh with
         waiting := some { wt with pages := q :: rest } } })) ∧
     (wt.pages.length ≤ 1 → s.sched.cores = some c →
       Gives (.firstWriteCopyDone c) s (s.setCtx c { s.ctx c with
         regs := wt.after, shot := some (sh.put s.program wt.writes) })) ∧
     (wt.pages.length ≤ 1 → s.sched.cores ≠ some c →
       Gives (.firstWriteCopyDone c) s (s.setCtx c { s.ctx c with shot := some { sh with waiting := none } }))) ∧
  (∀ (s : State) (c : Nat) (sh : Shot) (w : IWidth) (d : BitVec 4) (x y : BitVec 2), s.onCores c = some sh →
     let g := (s.ctx c).regs
     let cnt := if w = .i32 then g.w[d.toNat].toNat else g.w[d.toNat].toNat % 65536
     let src := g.a[x.toNat].toNat
     let dst := g.a[y.toNat].toNat
     let rest (n : Nat) : W32 := if w = .i32 then BitVec.ofNat 32 n else (g.w[d.toNat] &&& 0xFFFF0000#32) ||| BitVec.ofNat 32 n
     (cnt = 0 → Gives (.bmov c w d x y) s (s.setCtx c { s.ctx c with regs := { g with pc := g.pc + 1#20 } })) ∧
     (cnt ≠ 0 →
       ptArea src ∈ [2, 3, 5, 6] → ptArea dst ∈ [3, 5, 6] →
       ptIndex src + cnt ≤ areaLen s.program.dbSize (ptArea src) → ptIndex dst + cnt ≤ areaLen s.program.dbSize (ptArea dst) →
       (∃ e, s.program.indAt g.pc.toNat 0 = some e ∧ e.covers src cnt = true) →
       (∃ e, s.program.indAt g.pc.toNat 1 = some e ∧ e.covers dst cnt = true) →
       (ptArea dst = 3 → ∀ k < cnt, s.program.owns_ c (dst + k) = true) →
       let n := min cnt 188
       let down := ptArea src = ptArea dst ∧ src < dst ∧ dst < src + cnt
       let first := if down then cnt - n else 0
       let ws := (List.range n).map (fun k => (dst + first + k, s.viewPt sh (src + first + k)))
       let g1 := { g with w := g.w.set d.toNat (rest (cnt - n)) }
       let g2 := if down then g1
                 else { g1 with a := (g.a.set x.toNat (addIndex g.a[x.toNat] n)).set y.toNat (addIndex g.a[y.toNat] n) }
       let g3 := if cnt = n then { g2 with pc := g.pc + 1#20 } else g2
       s.writeRefused c sh ws = none →
       (sh.newPages ws = [] →
         Gives (.bmov c w d x y) s (s.setCtx c { s.ctx c with regs := g3, shot := some (sh.put s.program ws) })) ∧
       (sh.newPages ws ≠ [] → Does (.bmov c w d x y) s (fun t =>
         t = { s with ctxs := t.ctxs, params := t.params } ∧ (t.ctx c).regs = g ∧
         ∃ sh', (t.ctx c).shot = some sh' ∧ sh'.writes = sh.writes ∧
           sh'.waiting = some { pages := sh.newPages ws, writes := ws, after := g3 }))))

/-- R54: a write of a core instruction or of a network that would dirty a row more than image.ret.cap_rows, by default 512, does not
take place: the shot is dropped with RETCAP at once, no point changing; within the cap no write is refused for it. -/
def Obligations.RetentiveRowsAreCapped : Prop :=
  paramDefault 0x605 = 512 ∧
  ∀ (s : State) (c : Nat) (sh : Shot),
    let rows (ws : List (Nat × Nat)) : Nat := (sh.rows ++ ws.filterMap (fun w => s.program.rowOf w.1)).eraseDups.length
    let dropped (held : Shot) (t : State) : Prop :=
      (t.ctx c).shot = none ∧ (t.ctx c).dying = (s.ctx c).dying ++ [(held, .retcap)] ∧ (t.ctx c).regs = (s.ctx c).regs ∧
      t.sram = s.sram ∧ t.feram = s.feram ∧ t.img = s.img
    (∀ ws, rows ws ≤ s.pn 0x605 → s.writeRefused c sh ws ≠ some .retcap) ∧
    (s.onCores c = some sh → sh.rows.length ≤ s.pn 0x605 →
      let g := (s.ctx c).regs
      (∀ (w : IWidth) (d : BitVec 4) (dst : Src) (pt : Nat), s.writeOperand c g dst (iwUnits w) false = some (.ok pt) →
        s.pn 0x605 < rows (storeList pt (iwUnits w) (g.w[d.toNat].toNat % 2 ^ iwBits w)) →
        Does (.movStore c w d dst) s (dropped sh)) ∧
      (∀ (w : FWidth) (d : BitVec 3) (dst : Src) (pt : Nat), s.writeOperand c g dst (fwUnits w) true = some (.ok pt) →
        s.pn 0x605 < rows (storeList pt (fwUnits w)
          (if w = .b32 then g.f[d.toNat].toNat % 2 ^ 32 else g.f[d.toNat].toNat)) →
        Does (.fmovStore c w d dst) s (dropped sh))) ∧
    (∀ (j : JunctionReq) (ops : List NetOp), s.trussChoice = some c → (s.ctx c).shot = some sh → sh.junction = some j →
      sh.rows.length ≤ s.pn 0x605 →
      let pages := ((s.program.netPages j.next (s.program.netWords j.next) 0 false).eraseDups).filter
        (fun p => !sh.buf.any (fun b => b.page == p))
      let sh1 := s.takePages sh pages
      let s1 := { (s.setCtx c { s.ctx c with shot := some sh1 }).notePool with sched := { s.sched with trussLast := some c } }
      let e := ops.foldl (fun e o => s1.netStep sh1 e o) { ba := j.ba, bs := [], writes := [], cells := Cells.init }
      s.framesUsed c + pages.foldl (fun n p => n + pageFrames p) 0 ≤ s.quota c →
      s1.netGather c j.next j (s.program.netWords j.next) 0 false = .ok ops →
      s.pn 0x605 < rows e.writes → Does (.networkStart .agree) s (dropped sh1))

/-- Jumps, CALL and RET (R112, R113): JMP always, JC where BA = 1, JNC where BA = 0 jumps to a target in the context's code or in that of
the function block it stands in, and otherwise PC moves on; CALL pushes the return PC and A3 and jumps; RET restores them, W, F and BA staying as they are; RET at
depth 0 ends the shot, which is complete at the next FCLK cycle; its time from the grid instant is kept, and one above a nonzero watch
limit counts and raises WATCH (R68).

JUNCTION (R114): networks first to first + count - 1 of the context go to the truss with BA, A0-A3 and W14 captured; PC
moves on, no other register changes, and the context leaves the cores. -/
def Obligations.JumpsCallsAndJunctions : Prop :=
  (∀ (s : State) (c : Nat) (sh : Shot), s.onCores c = some sh →
     let g := (s.ctx c).regs
     let done (g' : CoreRegs) : State := s.setCtx c { s.ctx c with regs := g' }
     (∀ target : CodeIx, s.inCode c g.pc target = true →
       Gives (.jmp c target) s (done { g with pc := target }) ∧
       Gives (.jc c target) s (done { g with pc := if g.ba then target else g.pc + 1#20 }) ∧
       Gives (.jnc c target) s (done { g with pc := if g.ba then g.pc + 1#20 else target })) ∧
     (∀ target : CodeIx, g.calls.length < 16 →
       Gives (.call c target) s (done { g with pc := target, calls := (g.pc + 1#20, g.a[3]) :: g.calls })) ∧
     (∀ pc a3 rest, g.calls = (pc, a3) :: rest →
       Gives (.ret c) s (done { g with pc := pc, a := g.a.set 3 a3, calls := rest })) ∧
     (let took := s.clk.tick.stime - sh.t0
      let ends : Ctx := { s.ctx c with
        shot := some { sh with phase := .done, doneAt := some s.clk.tick.stime }, execLast := took,
        execWorst := max (s.ctx c).execWorst took }
      g.calls = [] →
       ((s.ctx c).watchLimit = 0 ∨ took ≤ (s.ctx c).watchLimit → Does (.ret c) s (fun t =>
         t = { s with ctxs := t.ctxs, sched := t.sched, params := t.params, freeCtr := t.freeCtr } ∧
         t.ctx c = ends ∧ t.sched.cores ≠ some c)) ∧
       ((s.ctx c).watchLimit ≠ 0 → (s.ctx c).watchLimit < took →
         Gives (.ret c) s (State.dispatch (State.raise { s.setCtx c { ends with watchCount := (s.ctx c).watchCount + 1 } with
           sched := { s.sched with cores := none } } 18 c 0))))) ∧
  (∀ (s : State) (c : Nat) (sh : Shot) (e : CtxEntry) (n : BitVec 10) (first : W16), s.onCores c = some sh →
     (s.ctx c).cfg = some e → e.netFirst ≤ first.toNat → first.toNat + n.toNat + 1 ≤ e.netFirst + e.netCount →
     let g := (s.ctx c).regs
     Does (.junction c n first) s (fun t =>
       t = { s with ctxs := t.ctxs, sched := t.sched, params := t.params, freeCtr := t.freeCtr } ∧
       t.sched.cores ≠ some c ∧ (t.ctx c).regs = { g with pc := g.pc + 1#20 } ∧
       let j : JunctionReq := { next := first.toNat, left := n.toNat + 1, ba := g.ba, a := g.a, w14 := g.w[14] }
       (t.ctx c).shot = some { sh with phase := .truss, junction := some j }))

/-- A core instruction that breaks a rule at run time drops the shot (R34, R36, R37, R54, R57, R109, R111, R115): the access does
not take place, no register changes, and the shot goes with the reason ADDR, OWNER, RETCAP or QUOTA.

A core instruction of a context that does not hold the cores is no event of the machine: the model leaves the state as it is
(its choice, logs 1 and 9). -/
def Obligations.ViolationsDropAndOffCoreDoesNothing : Prop :=
  (∀ (s : State) (c : Nat) (sh : Shot), s.onCores c = some sh →
     let g := (s.ctx c).regs
     (∀ (w : IWidth) (d : BitVec 4) (src : Src) (r : DropReason), s.intSrc sh g w false src = some (.error r) →
       let gone : State := s.dropAndDispatch c r
       Gives (.mov c w d src) s gone ∧ Gives (.add c w d src) s gone ∧ Gives (.sub c w d src) s gone ∧ Gives (.mul c w d src) s gone ∧
       Gives (.andWord c w d src) s gone ∧ Gives (.orWord c w d src) s gone ∧ Gives (.xorWord c w d src) s gone ∧
       Gives (.shl c w d src) s gone ∧
       (w ≠ .s16 → Gives (.btoi c w d src) s gone ∧ Gives (.itob c w d src) s gone)) ∧
     (∀ (w : IWidth) (d : BitVec 4) (src : Src) (r : DropReason), s.intSrc sh g w true src = some (.error r) →
       let gone : State := s.dropAndDispatch c r
       Gives (.shr c w d src) s gone ∧ Gives (.rol c w d src) s gone ∧ Gives (.ror c w d src) s gone ∧
       Gives (.div c w d src) s gone ∧ Gives (.mod c w d src) s gone ∧ Gives (.cmpEq c w d src) s gone ∧
       Gives (.cmpNe c w d src) s gone ∧ Gives (.cmpLt c w d src) s gone ∧ Gives (.cmpLe c w d src) s gone ∧
       Gives (.cmpGt c w d src) s gone ∧ Gives (.cmpGe c w d src) s gone) ∧
     (∀ (w : FWidth) (d : BitVec 3) (src : Src) (r : DropReason), s.realSrc sh g w src = some (.error r) →
       let gone : State := s.dropAndDispatch c r
       Gives (.fmov c w d src) s gone ∧ Gives (.fadd c w d src) s gone ∧ Gives (.fsub c w d src) s gone ∧
       Gives (.fmul c w d src) s gone ∧ Gives (.fdiv c w d src) s gone ∧ Gives (.fsqrt c w d src) s gone ∧
       Gives (.fabs c w d src) s gone ∧ Gives (.fneg c w d src) s gone ∧ Gives (.fcmpEq c w d src) s gone ∧
       Gives (.fcmpNe c w d src) s gone ∧ Gives (.fcmpLt c w d src) s gone ∧ Gives (.fcmpLe c w d src) s gone ∧
       Gives (.fcmpGt c w d src) s gone ∧ Gives (.fcmpGe c w d src) s gone) ∧
     (∀ (w : IWidth) (k : BitVec 2) (off : BitVec 14), indirectAddr g.a[k.toNat] off.toInt = none →
       ∀ d, Gives (.mov c w d (.ind k off)) s (s.dropAndDispatch c .addr)) ∧
     (∀ (w : FWidth) (d : BitVec 3) (dst : Src) (r : DropReason), s.writeOperand c g dst (fwUnits w) true = some (.error r) →
       Gives (.fmovStore c w d dst) s (s.dropAndDispatch c r)) ∧
     (∀ (w : FWidth) (d : BitVec 3) (dst : Src) (pt : Nat) (r : DropReason),
       s.writeOperand c g dst (fwUnits w) true = some (.ok pt) →
       s.writeRefused c sh (storeList pt (fwUnits w)
         (if w = .b32 then g.f[d.toNat].toNat % 2 ^ 32 else g.f[d.toNat].toNat)) = some r →
       Gives (.fmovStore c w d dst) s (s.dropAndDispatch c r)) ∧
     (∀ (w : IWidth) (d : BitVec 4) (x y : BitVec 2), g.w[d.toNat].toNat % 65536 ≠ 0 → ptArea g.a[x.toNat].toNat ∉ [2, 3, 5, 6] →
       Gives (.bmov c w d x y) s (s.dropAndDispatch c .addr)) ∧
     (∀ (w : IWidth) (d : BitVec 4) (dst : Src) (r : DropReason), s.writeOperand c g dst (iwUnits w) false = some (.error r) →
       Gives (.movStore c w d dst) s (s.dropAndDispatch c r)) ∧
     (∀ (w : IWidth) (d : BitVec 4) (dst : Src) (pt : Nat) (r : DropReason),
       s.writeOperand c g dst (iwUnits w) false = some (.ok pt) →
       s.writeRefused c sh (storeList pt (iwUnits w) (g.w[d.toNat].toNat % 2 ^ iwBits w)) = some r →
       Gives (.movStore c w d dst) s (s.dropAndDispatch c r)) ∧
     (∀ (d r : BitVec 4), g.w[r.toNat].toNat % 65536 < 8192 → s.ownsCell c false (g.w[r.toNat].toNat % 65536) = false →
       Gives (.crd c d (.reg r)) s (s.dropAndDispatch c .addr)) ∧
     (∀ (d : BitVec 4) (wide : Bool) (k : BitVec 2) (off : BitVec 13), ptArea g.a[k.toNat].toNat ≠ 7 →
       Gives (.diag c d wide (.ind k off)) s (s.dropAndDispatch c .addr))) ∧
  (∀ (s : State) (c : Nat), s.onCores c = none →
     (∀ w d src, Gives (.mov c w d src) s s ∧ Gives (.add c w d src) s s ∧ Gives (.sub c w d src) s s ∧ Gives (.mul c w d src) s s ∧
       Gives (.div c w d src) s s ∧ Gives (.mod c w d src) s s ∧ Gives (.andWord c w d src) s s ∧ Gives (.orWord c w d src) s s ∧
       Gives (.xorWord c w d src) s s ∧ Gives (.shl c w d src) s s ∧ Gives (.shr c w d src) s s ∧ Gives (.rol c w d src) s s ∧
       Gives (.ror c w d src) s s ∧ Gives (.cmpEq c w d src) s s ∧ Gives (.cmpNe c w d src) s s ∧ Gives (.cmpLt c w d src) s s ∧
       Gives (.cmpLe c w d src) s s ∧ Gives (.cmpGt c w d src) s s ∧ Gives (.cmpGe c w d src) s s ∧ Gives (.btoi c w d src) s s ∧
       Gives (.itob c w d src) s s) ∧
     (∀ w d src, Gives (.fmov c w d src) s s ∧ Gives (.fadd c w d src) s s ∧ Gives (.fsub c w d src) s s ∧
       Gives (.fmul c w d src) s s ∧ Gives (.fdiv c w d src) s s ∧ Gives (.fsqrt c w d src) s s ∧ Gives (.fabs c w d src) s s ∧
       Gives (.fneg c w d src) s s ∧ Gives (.fcmpEq c w d src) s s ∧ Gives (.fcmpNe c w d src) s s ∧ Gives (.fcmpLt c w d src) s s ∧
       Gives (.fcmpLe c w d src) s s ∧ Gives (.fcmpGt c w d src) s s ∧ Gives (.fcmpGe c w d src) s s) ∧
     (∀ w d dst, Gives (.movStore c w d dst) s s) ∧ (∀ w d dst, Gives (.fmovStore c w d dst) s s) ∧
     (∀ d src, Gives (.lea c d src) s s) ∧ (∀ d src, Gives (.crd c d src) s s) ∧ (∀ w d r, Gives (.itof c w d r) s s) ∧
     (∀ w d r, Gives (.ftoi c w d r) s s) ∧ (∀ w d r, Gives (.fcvt c w d r) s s) ∧ (∀ w d x y, Gives (.bmov c w d x y) s s) ∧
     (∀ target, Gives (.jmp c target) s s ∧ Gives (.jc c target) s s ∧ Gives (.jnc c target) s s ∧ Gives (.call c target) s s) ∧
     Gives (.ret c) s s ∧ (∀ d wide src, Gives (.diag c d wide src) s s) ∧
     (∀ n first, Gives (.junction c n first) s s) ∧ (∀ bay ch, Gives (.urgent c bay ch) s s))

/-- NETWORK_START (R100, R117, R121, R122): with the lanes in agreement, room under the quota and the retentive cap, and
every gathered operand legal, the next network of the truss's context is evaluated on the shot's view; its points and cells
join the shot, BA passes on, one network fewer is left, and the committed image is as it was. Without room the shot is dropped with
QUOTA, and a gather that fails a check drops it with its reason.

The lanes (R366): with one lane odd the majority's result is written all the same, and the lane is counted, recorded and retired at its
fourth time within 1 s; a lane already retired has no vote; with no majority, or with two lanes that differ, nothing is written and
TRUSS_NOMAJ is raised.

TRUSS_COMPLETION (R70, R75, R114): after the last network of a junction the context is READY, or has the cores again, with BA
as the last network left it and every other register as it was. -/
def Obligations.TrussRunsNetworks : Prop :=
  (∀ (s : State) (c : Nat) (sh : Shot) (j : JunctionReq) (ops : List NetOp),
     s.trussChoice = some c → (s.ctx c).shot = some sh → sh.junction = some j →
     let pages := ((s.program.netPages j.next (s.program.netWords j.next) 0 false).eraseDups).filter
       (fun p => !sh.buf.any (fun b => b.page == p))
     let sh1 := s.takePages sh pages
     let s1 := { (s.setCtx c { s.ctx c with shot := some sh1 }).notePool with sched := { s.sched with trussLast := some c } }
     let e := ops.foldl (fun e o => s1.netStep sh1 e o) { ba := j.ba, bs := [], writes := [], cells := Cells.init }
     s.framesUsed c + pages.foldl (fun n p => n + pageFrames p) 0 ≤ s.quota c →
     s1.netGather c j.next j (s.program.netWords j.next) 0 false = .ok ops →
     ((sh.rows ++ e.writes.filterMap (fun w => s.program.rowOf w.1)).eraseDups.length ≤ s1.pn 0x605 →
      Does (.networkStart .agree) s (fun t =>
       t = { s with ctxs := t.ctxs, params := t.params, sched := { s.sched with trussLast := some c } } ∧
       (t.ctx c).regs = (s.ctx c).regs ∧
       ∃ sh2, (t.ctx c).shot = some sh2 ∧ sh2.phase = sh.phase ∧ sh2.buf = sh1.buf ∧
         sh2.junction = some { j with next := j.next + 1, left := j.left - 1, ba := e.ba } ∧
         sh2.cells = sh.cells.merge e.cells ∧ sh2.writes = e.writes.foldl (fun a w => tset a w.1 w.2) sh.writes)) ∧
     (let good : State := s1.runNetwork c sh1 j ops
      Gives (.networkStart .agree) s good ∧
      (∀ lane field voted value, lane ∈ s.tmr.laneRetired → Gives (.networkStart (.odd lane field voted value)) s good) ∧
      (∀ lane field voted value, lane < 3 → s.tmr.laneRetired = [] →
        Does (.networkStart (.odd lane field voted value)) s (fun t =>
          t = good.laneOdd lane j.next field voted value ∧
          (∃ r, t.tmr.last = some r ∧ r.source = 5 ∧ r.syndrome = 2 ^ lane ∧ r.field = field ∧ r.place = j.next ∧ r.voted = voted ∧
            r.odd = value) ∧
          tget [] t.tmr.laneDiffs lane = recentDiffs (tget [] s.tmr.laneDiffs lane) s.now ∧
          t.tmr.laneRetired = (if 4 ≤ (recentDiffs (tget [] s.tmr.laneDiffs lane) s.now).length then [lane] else []))) ∧
      (∀ lane field voted value, lane ∉ s.tmr.laneRetired → s.tmr.laneRetired ≠ [] →
        Does (.networkStart (.odd lane field voted value)) s (fun t => t = s1.laneNoMajority j.next field s.tmr.lanes voted voted value ∧
          ∃ r, t.tmr.last = some r ∧ r.source = 6 ∧ r.field = field)) ∧
      (∀ field v0 v1 v2, Does (.networkStart (.noMajority field v0 v1 v2)) s (fun t =>
        t = s1.laneNoMajority j.next field s.tmr.lanes v0 v1 v2 ∧
        ∃ r, t.tmr.last = some r ∧ r.source = 6 ∧ r.field = field ∧ (s.tmr.laneRetired = [] → r.voted = majority v0 v1 v2))))) ∧
  (∀ (s : State) (c : Nat) (sh : Shot) (j : JunctionReq) (lanes : LaneVerdict),
     s.trussChoice = some c → (s.ctx c).shot = some sh → sh.junction = some j →
     let pages := ((s.program.netPages j.next (s.program.netWords j.next) 0 false).eraseDups).filter
       (fun p => !sh.buf.any (fun b => b.page == p))
     let need := pages.foldl (fun n p => n + pageFrames p) 0
     let s1 := { (s.setCtx c { s.ctx c with shot := some (s.takePages sh pages) }).notePool with
                 sched := { s.sched with trussLast := some c } }
     (need ≠ 0 → s.quota c < s.framesUsed c + need → Gives (.networkStart lanes) s (s.dropAndDispatch c .quota)) ∧
     (s.framesUsed c + need ≤ s.quota c → ∀ r, s1.netGather c j.next j (s.program.netWords j.next) 0 false = .error r →
       Gives (.networkStart lanes) s (s1.dropAndDispatch c r))) ∧
  (∀ (s : State) (c : Nat) (sh : Shot) (j : JunctionReq), (s.ctx c).shot = some sh → sh.junction = some j →
     sh.phase = .truss → j.left = 0 →
     Does (.trussCompletion c) s (fun t =>
       t = { s with ctxs := t.ctxs, sched := t.sched, params := t.params, freeCtr := t.freeCtr } ∧
       (t.ctx c).regs = { (s.ctx c).regs with ba := j.ba } ∧
       ∃ ph, (ph = .ready ∨ ph = .core ∨ (ph = .preempted ∧ s.sched.cores = some c)) ∧
         (t.ctx c).shot = some { sh with phase := ph, junction := none }))

/-! ### The life of a shot -/

/-- RELEASE (R41, R71, R91): a context that can release takes its shot at its grid instant: the input pages of its read set are
pinned, the registers are those of shot entry (PC the entry point, all else 0), the next release is one period on, and the peg is
due an offset after the instant. Only this slot changes; with a RUN request waiting for the first release, its answer too. A context
that cannot release stays as it is.

DATA_PIN_COMPLETE (R41, R45, R76): once every earlier peg is processed and every release of the instant taken, the data pages
of the read set are pinned beside the pages already pinned and the shot is READY or has the cores. -/
def Obligations.ReleaseAndPinning : Prop :=
  (∀ (s : State) (c : Nat), s.canRelease c = false → Gives (.release c) s s) ∧
  (∀ (s : State) (c : Nat) (e : CtxEntry), s.canRelease c = true → (s.ctx c).cfg = some e →
     let x := s.ctx c
     let pages := (s.program.readSet c).filter pageIsInput
     let sh : Shot :=
       { t0 := x.nextRelease, pegAt := x.nextRelease + 1000 * e.pegOffset, phase := .pin,
         pins := pages.map (fun p => PinPage.mk p (s.pageVer p)), snap := s.pinned pages, buf := [], masks := [], writes := [],
         rows := [], cells := Cells.init, waiting := none, junction := none, doneAt := none }
     let t1 := s.setCtx c { x with
       shot := some sh, nextRelease := x.nextRelease + 1000 * e.period, pegDue := some sh.pegAt,
       regs := { ba := false, w := Vector.replicate 16 0#32, a := Vector.replicate 4 0#24, f := Vector.replicate 8 0#64,
                 pc := BitVec.ofNat 20 e.entry, calls := [] } }
     (s.dev.runMbx = none → Gives (.release c) s t1) ∧
     (∀ m, s.dev.runMbx = some m → Does (.release c) s (fun t =>
       t = { t1 with dev := { s.dev with runMbx := none }, hp := t.hp } ∧
       (((s.mailbox m).req).isSome = true → t.Answered m 0 0 0 s.stateData)))) ∧
  (∀ (s : State) (c : Nat) (sh : Shot), (s.ctx c).shot = some sh → sh.phase = .pin → s.dev.state = .run →
     s.pegBefore sh.t0 = false → s.releaseBefore sh.t0 = false → s.stby.acked = [] → s.stby.holdEmit = false →
     let pages := (s.program.readSet c).filter (fun p => !pageIsInput p && !sh.pins.any (fun q => q.page == p))
     Does (.dataPinComplete c) s (fun t =>
       t = { s with ctxs := t.ctxs, sched := t.sched, params := t.params, freeCtr := t.freeCtr } ∧
       (t.ctx c).regs = (s.ctx c).regs ∧
       ∃ ph, (ph = .ready ∨ ph = .core ∨ (ph = .preempted ∧ s.sched.cores = some c)) ∧ (t.ctx c).shot = some { sh with
         phase := ph, pins := sh.pins ++ pages.map (fun p => PinPage.mk p (s.pageVer p)),
         snap := Memory.overlay sh.snap (s.pinned pages) })) ∧
  (∀ (s : State) (c : Nat), (s.ctx c).shot = none → Gives (.dataPinComplete c) s s)

/-- PEG (R41, R44-R46, R58, R69): a shot complete before its peg instant commits: the committed image takes exactly the points
written, the peg's number rises by one, a commit record with the dirty rows is queued, and the drop count starts anew. A shot not
complete is dropped with LATE and changes no point. A shot released before the peg that still pins takes its data pages as they were
before it, and a drop cap accepted for the next peg comes into force. -/
def Obligations.PegCommitsOrDropsLate : Prop :=
  (∀ (s : State) (c : Nat), (s.ctx c).pegDue = none → Gives (.peg c) s s) ∧
  (∀ (s : State) (c : Nat) (p : Ns), (s.ctx c).pegDue = some p → p ≤ s.now → s.dev.state = .run →
    s.pegFirst c p = true → s.releaseOwed p = false →
    let after (t : State) : Prop := (t.ctx c).shot = none ∧ (t.ctx c).pegDue = none ∧ (t.ctx c).drops = (s.ctx c).drops ∧
      (∀ v e, (s.ctx c).capNext = some v → (s.ctx c).cfg = some e → (t.ctx c).cfg = some { e with dropCap := v })
    (∀ sh d, (s.ctx c).shot = some sh → sh.doneAt = some d → d < p → Does (.peg c) s (fun t =>
      t = { s with sram := t.sram, img := t.img, ctxs := t.ctxs, params := t.params, freeCtr := t.freeCtr, flt := t.flt,
                   stby := t.stby } ∧
      t.sram = writePts s.sram sh.writes ∧ t.img.pegSeq = s.img.pegSeq + 1 ∧ t.img.lastPeg = sh.pegAt ∧
      after t ∧ (t.ctx c).consec = 0 ∧
      (∀ k q, k ≠ c → (s.ctx k).shot = some q →
        (t.ctx k).shot = some (if q.phase = .pin ∧ q.t0 < p then s.pinData k q else q)) ∧
      t.img.commits.length = s.img.commits.length + 1 ∧
      ∃ k ∈ t.img.commits, k.kind = .peg c ∧ k.seq = s.img.pegSeq + 1 ∧ k.pegAt = sh.pegAt ∧ k.durable = false ∧
        k.rows = sortBy (fun a b => decide (a ≤ b)) sh.rows ∧
        ((s.ctx c).fullEmission = false → k.changed = s.changedOutputs sh))) ∧
    (∀ sh, (s.ctx c).shot = some sh → (∀ d, sh.doneAt = some d → p ≤ d) → Does (.peg c) s (fun t => ∃ u : State,
      t = u.finishDrain ∧ (s.dev.drain = none → s.stby.owesDone = false → t = u) ∧
      u = { s with ctxs := u.ctxs, sched := u.sched, params := u.params, freeCtr := u.freeCtr } ∧ after u ∧
      ∃ sh', (sh.phase ≠ .pin → sh' = sh) ∧ sh'.writes = sh.writes ∧ (u.ctx c).dying = (s.ctx c).dying ++ [(sh', .late)])) ∧
    ((s.ctx c).shot = none → Does (.peg c) s (fun t => ∃ u : State,
      t = u.finishDrain ∧ (s.dev.drain = none → s.stby.owesDone = false → t = u) ∧ u = { s with ctxs := u.ctxs } ∧ after u)))

/-- SHOT_ABANDONED (R58-R60, R69, R169): the oldest dropped shot of the context is freed; a reason of 0 to 4 counts one drop and one
more in a row, at most 255, and an uncounted one changes no count. The count in a row that reaches ctx.n.drop_cap raises DROPCAP
once. What follows the largest drop count is free. A primary forwards the drop to its standby.

SERVER_WINDOW and SERVER_BUDGET_EXHAUSTED (R68, R77, R89): a new window of sched.sys.period renews the budget and keeps what
was used, raising WATCH where that exceeds a nonzero limit; a budget used up ranks context 0 below the user contexts and counts. -/
def Obligations.DropsAndServerBudget : Prop :=
  (∀ (s : State) (c : Nat) (sh : Shot) (r : DropReason) (rest : List (Shot × DropReason)), (s.ctx c).dying = (sh, r) :: rest →
     let cap := match (s.ctx c).cfg with
       | some e => e.dropCap
       | none => 3
     let n := min 255 ((s.ctx c).consec + 1)
     let counted (u : State) (raised : Bool) : Prop := u.sram = s.sram ∧ ∃ v, v < 2 ^ 32 ∧ ((s.ctx c).drops + 1 < 2 ^ 32 → v = (s.ctx c).drops + 1) ∧
       u.ctx c = { s.ctx c with dying := rest, lastReason := dropCode r, drops := v, consec := n, capRaised := raised }
     (dropCode r = 5 ∨ dropCode r = 6 → Does (.shotAbandoned c) s (fun t =>
       t = { s with ctxs := t.ctxs, stby := t.stby } ∧ (s.dev.role ≠ .primary → t.stby = s.stby) ∧
       t.ctx c = { s.ctx c with dying := rest, lastReason := dropCode r })) ∧
     (dropCode r ≤ 4 → n < cap ∨ (s.ctx c).capRaised = true → Does (.shotAbandoned c) s (fun t =>
       t = { s with ctxs := t.ctxs, stby := t.stby, nvm := t.nvm, params := t.params, freeCtr := t.freeCtr } ∧
       (s.dev.role ≠ .primary → t.stby = s.stby) ∧ counted t (s.ctx c).capRaised)) ∧
     (dropCode r ≤ 4 → cap ≤ n → (s.ctx c).capRaised = false → Does (.shotAbandoned c) s (fun t => ∃ u : State,
       u = { s with ctxs := u.ctxs, nvm := u.nvm, params := u.params, freeCtr := u.freeCtr } ∧ counted u true ∧
       let w := u.raise 17 c ((u.ctx c).dropState + shl (u.ctx c).drops 32)
       t = w.forward (w.dropFrameOf c (dropCode r))))) ∧
  (∀ (s : State) (c : Nat), (s.ctx c).dying = [] → Gives (.shotAbandoned c) s s) ∧
  (∀ (s : State), s.coresRun = true → s.sched.window < s.windowOf s.now →
     let used := ticksNs s.sched.used
     let exceeded := s.sched.fwWatchLimit ≠ 0 ∧ s.sched.fwWatchLimit < used
     (¬ exceeded → Does .serverWindow s (fun t =>
         t = { s with sched := t.sched, ctxs := t.ctxs, params := t.params, freeCtr := t.freeCtr } ∧
         t.sched.window = s.windowOf s.now ∧ t.sched.used = 0 ∧ t.sched.exhausted = false ∧
         t.sched.fwLast = used ∧ t.sched.fwWorst = max s.sched.fwWorst used ∧ t.sched.fwWatchCount = s.sched.fwWatchCount)) ∧
     (exceeded → Gives .serverWindow s (State.dispatch (State.raise { s with sched := { s.sched with
         window := s.windowOf s.now, used := 0, exhausted := false, fwLast := used, fwWorst := max s.sched.fwWorst used,
         fwWatchCount := s.sched.fwWatchCount + 1 } } 18 0 0)))) ∧
  (∀ (s : State), s.coresRun = true → s.sched.cores = some 0 → s.sched.exhausted = false → s.pn 0x704 * 400 ≤ s.sched.used →
       Does .serverBudgetExhausted s (fun t =>
         t = { s with sched := t.sched, ctxs := t.ctxs, params := t.params, freeCtr := t.freeCtr } ∧
         t.sched.exhausted = true ∧ (s.pn 0x705 + 1 < 2 ^ 32 → t.pn 0x705 = s.pn 0x705 + 1) ∧ t.sched.used = s.sched.used)) ∧
  (∀ (s : State), s.windowOf s.now ≤ s.sched.window → Gives .serverWindow s s) ∧
  (∀ (s : State), s.sched.used < s.pn 0x704 * 400 → Gives .serverBudgetExhausted s s)

/-- COMMIT_DURABLE (R48, R53, R427, R429): when the header row of the record in progress is written, the record is durable: the
record number rises by one, the record stands at the head of the ring with its header in the ring's next row, and the current half of
exactly its dirty rows toggles, of every row with ALL. A shot's commit then waits for its emission; outside RUN it does not (R49). An
owner record carries its change out, and the last commit of a drain ends it. Without a record under way nothing changes.

EMIT (R38, R48-R50, R61): the oldest commit whose record is durable, acknowledged where that is asked, is emitted: every output it
carries goes once into the queue of the bay channel or node that serves it, with the peg instant plus the lead of its segment and the
value this commit gave it, a force replacing that value; no other queue changes. -/
def Obligations.CommitAndEmission : Prop :=
  (∀ (s : State) (k : Commit), s.headCommit = some k → s.pwr.nvm = true → s.pwr.rowInhibit = false → s.pwr.pfStep < 4 →
     (k.started = true ∧ s.nvm.commitLeft = 1) ∨
       (k.started = false ∧ k.rows = [] ∧ k.extra.all = false ∧ s.nvm.commitLeft = 0 ∧ s.pwr.warnLive = false) →
     let n := (s.recordOf k).ringRows
     Does .commitDurable s (fun t => ∃ u : State,
       t = (if k.extra.ownerChange then u.applyOwner else u).finishDrain ∧
       (k.extra.ownerChange = false → s.dev.drain = none → s.stby.owesDone = false → t = u) ∧
       u = { s with feram := u.feram, img := { s.img with commits := u.img.commits }, nvm := u.nvm,
                    prog := s.prog.recordDone k.kind, params := u.params, freeCtr := u.freeCtr } ∧
       u.nvm.commitSeq = s.nvm.commitSeq + 1 ∧ u.nvm.commitLeft = 0 ∧
       (∃ r, u.nvm.ring = r :: s.nvm.ring ∧ r.seq = s.nvm.commitSeq + 1 ∧ r.rows = k.rows ∧ r.all = k.extra.all ∧
         r.ctx = commitCtx k.kind ∧ r.stime = k.pegAt ∧ r.row = s.nvm.ringRow ∧
         u.feram = s.feram.writeL (ringAddr (s.nvm.ringRow + n - 1)) r.header) ∧
       u.nvm.ringRow = (s.nvm.ringRow + n) % 2048 ∧
       u.nvm.halves = (if k.extra.all then List.range 8192 else k.rows).foldl (fun h r => tset h r (!tget false h r)) s.nvm.halves ∧
       (∀ q ∈ u.img.commits, q ≠ k) ∧
       (∀ c, k.kind = .peg c → s.dev.state = .run → s.pwr.warnLive = false → k.emitted = false →
         { k with durable := true } ∈ u.img.commits))) ∧
  (∀ (s : State), s.headCommit = none → Gives .commitDurable s s) ∧
  (∀ (s : State) (c : Nat) (k : Commit), s.emitNext = some (c, k) → s.dev.state = .run → s.pwr.warnLive = false →
     s.stby.holdEmit = false →
     Does .emit s (fun t => ∃ u : State,
       t = u.finishDrain ∧ (s.dev.drain = none → s.stby.owesDone = false → t = u) ∧
       u = { s with img := u.img, eng := u.eng, net := u.net, params := u.params } ∧
       u.img.commits = s.img.commits.filter (fun q => !(q.seq == k.seq && q.kind == k.kind)) ∧
       u.img.cells = s.img.cells ∧ u.img.forces = s.img.forces ∧
       (∀ x n, (tget OutEntry.init (u.engBay x).out n).queue = (tget OutEntry.init (s.engBay x).out n).queue ++
         ((s.emissionOf k).filter (fun w => s.bayOutput w.1 == some (x, n))).map
           (fun w => PendOut.mk (k.pegAt + s.segLead 0) w.1 w.2 s.now)) ∧
       ∀ w ∈ s.emissionOf k, s.bayOutput w.1 = none → ∀ d, s.nodeOutput w.1 = some d →
         PendOut.mk (k.pegAt + s.segLead d.seg) w.1 w.2 s.now ∈ (tget NodeState.init u.net.nodes d.num).pend)) ∧
  (∀ (s : State) (k : Commit) (p v : Nat), (p, v) ∈ s.emissionOf k →
     ∃ v0, ((p, v0) ∈ k.changed ∨ (p, v0) ∈ k.owned) ∧ v = (tfind s.img.forces p).getD v0) ∧
  (∀ (s : State), s.emitNext = none → Gives .emit s s)

/-! ### Programs -/

/-- PRG_BEGIN, EDIT_BEGIN and PRG_DATA (R135, R137, R142): where the checks of Table EDIT-7 pass, the lock is taken for the session
with nothing staged, or the data is added to what is staged and written into the shadow program bank; the request is answered, with
the staged length for data. A request that fails a check is refused with its status and changes nothing that is staged.

STAGING_TIMEOUT and LOADED_TIMEOUT (R135): after 60 s without data, or 600 s LOADED, the lock is free and nothing is staged, a request
that waits for the standby's verdict is aborted, and an activation under way goes on without the lock. -/
def Obligations.StagingAContainer : Prop :=
  (∀ (s : State) (m : BitVec 4) (r : Request),
     let idle (kind len : Nat) : Prog := { s.prog with
       staging := .staging, lockSession := some r.session, stagedKind := kind, stagedLen := len, staged := [],
       lastData := s.clk.ticks, waitMbx := none }
     (s.request m.toNat 0x50 = some r →
       (∀ st, s.loadGate r.session false true false = some st → Gives (.prgBegin m) s (s.refuse m.toNat st 0)) ∧
       (s.loadGate r.session false true false = none →
         (slotSize < leAt r.payload 4 4 → Gives (.prgBegin m) s (s.refuse m.toNat 7 0xC)) ∧
         (leAt r.payload 4 4 ≤ slotSize → (leAt r.payload 0 1 ∉ [1, 4] ∨ leAt r.payload 1 3 ≠ 0) →
           Gives (.prgBegin m) s (s.refuse m.toNat 8 6)) ∧
         (leAt r.payload 0 1 ∈ [1, 4] → leAt r.payload 1 3 = 0 → leAt r.payload 4 4 ≤ slotSize →
           Does (.prgBegin m) s (fun t =>
             t = { s with prog := idle (leAt r.payload 0 1) (leAt r.payload 4 4), hp := t.hp } ∧ t.Answered m.toNat 0 0 0 [])))) ∧
     (s.request m.toNat 0x58 = some r →
       let gate := s.loadGate r.session false (s.dev.state == .run || s.dev.state == .halt) false
       (∀ st, gate = some st → Gives (.editBegin m) s (s.refuse m.toNat st 0)) ∧
       (gate = none → slotSize < leAt r.payload 0 4 → Gives (.editBegin m) s (s.refuse m.toNat 7 0xC)) ∧
       (gate = none → leAt r.payload 0 4 ≤ slotSize →
         Does (.editBegin m) s (fun t =>
           t = { s with prog := idle 2 (leAt r.payload 0 4), hp := t.hp } ∧ t.Answered m.toNat 0 0 0 []))) ∧
     (s.request m.toNat 0x51 = some r →
       let data := r.payload.drop 4
       let off := leAt r.payload 0 4
       (∀ st, s.loadGate r.session true true false = some st → Gives (.prgData m) s (s.refuse m.toNat st 0)) ∧
       (s.loadGate r.session true true false = none →
         (s.prog.staging ≠ .staging ∨ off ≠ s.prog.staged.length → Gives (.prgData m) s (s.refuse m.toNat 6 off)) ∧
         (s.prog.staging = .staging → off = s.prog.staged.length →
           (s.prog.stagedLen < off + data.length → Gives (.prgData m) s (s.refuse m.toNat 7 0xC)) ∧
           (off + data.length ≤ s.prog.stagedLen → Does (.prgData m) s (fun t =>
             t = { s with prog := { s.prog with staged := s.prog.staged ++ data, lastData := s.clk.ticks },
                          sram := s.sram.writeL (bankAddr (1 - s.prog.bank) + off) data, hp := t.hp } ∧
             t.Answered m.toNat 0 0 0 (leBytes 4 (off + data.length)))))))) ∧
  (∀ s : State,
     let told : State := match s.prog.waitMbx with
       | some m => s.abort m
       | none => s
     let free : State := if s.prog.activation.isSome = true then { s with prog := { s.prog with lockSession := none } }
       else { told with prog := { s.prog with
         staging := .idle, lockSession := none, staged := [], stagedKind := 0, stagedLen := 0, waitMbx := none } }
     (s.prog.staging = .staging → 60 * secTicks ≤ s.clk.ticks - s.prog.lastData → Gives .stagingTimeout s free) ∧
     (s.prog.staging = .loaded → 600 * secTicks ≤ s.clk.ticks - s.prog.loadedAt → Gives .loadedTimeout s free) ∧
     (s.prog.staging ≠ .staging → Gives .stagingTimeout s s) ∧ (s.prog.staging ≠ .loaded → Gives .loadedTimeout s s))

/-- PRG_COMMIT (R138, R139, R141, R155, R163): a container that passes its checks is written and left LOADED, or, where it asks for
activation or is LOADED already and passes again, it stands in the shadow bank and its record is queued, in a pair once the standby has
been offered it; the request is answered once the record is durable. One that fails is refused with its status and detail.

PROGRAM_ACTIVATION (R139 to R141): with its record durable and the device in STOP, the new program is the one in force, in its slot and
chain, the points it sets are stored, every force is cleared, and nothing stays staged; a network configuration comes into force with its
nodes ABSENT. A primary then sends its standby a new copy.

EDIT_APPLY and EDIT_STEP (R147 to R151): an edit that passes is armed for its instant, its program in the shadow bank, and answered with
the instant and the new program's hash, in a pair after the standby has been offered it; a lead outside 1 ms to 10 s is refused with a
free status (log 5). At the step the migrated values are in the image, the new program is in force, and a record is queued. -/
def Obligations.ProgramsComeIntoForce : Prop :=
  let offered (s t : State) (m : Nat) (lead : Ns) : Prop :=
    t = { s with prog := { s.prog with staging := .checking, waitMbx := some m, waitLead := lead }, stby := t.stby,
                 sched := t.sched, ctxs := t.ctxs, params := t.params, freeCtr := t.freeCtr } ∧
    t.stby = (s.scarfSend (offerFrames 0 s.prog.staged)).stby
  (∀ (s : State) (m : BitVec 4) (v : Verdict) (r : Request), s.request m.toNat 0x52 = some r →
     s.loadWaits m.toNat = false → s.loadGate r.session true (s.dev.state == .stop) false = none →
     let queued (k : Checked) (t : State) : Prop :=
       t = { s with feram := t.feram, img := { s.img with commits := t.img.commits }, prog := t.prog, sram := t.sram, sched := t.sched,
                    ctxs := t.ctxs, params := t.params, freeCtr := t.freeCtr } ∧
       t.sram = (if k.net = none then (s.fillBank (1 - s.prog.bank) k.newProg).sram else s.sram) ∧ t.prog.active = s.prog.active ∧ t.prog.staging = .checking ∧
       t.img.commits.length = s.img.commits.length + 1 ∧
       ∃ a, t.prog.activation = some a ∧ a.mbx = some m.toNat ∧ a.recordDurable = false ∧ a.net = k.net ∧
         (k.net = none → a.newProg = some k.newProg ∧ a.slot = s.prog.freeSlot ∧
           t.feram = s.feram.writeL (slotAddr s.prog.freeSlot) s.prog.staged)
     (s.prog.staging = .staging → s.prog.stagedKind = 2 → Gives (.prgCommit m v) s (s.refuseLoad m.toNat 6 0)) ∧
     (s.prog.staging = .staging → s.prog.stagedKind ≠ 2 →
       (∀ e, s.checkContainer false [s.prog.stagedKind] s.prog.staged s.prog.stagedLen v = .error e →
         Gives (.prgCommit m v) s ((s.noteSched e.sched).refuseLoad m.toNat e.status e.detail)) ∧
       (∀ k, s.checkContainer false [s.prog.stagedKind] s.prog.staged s.prog.stagedLen v = .ok k →
         (∀ d, s.pairCheck k = some d → Gives (.prgCommit m v) s (s.refuseLoad m.toNat 0x1E d)) ∧
         (s.pairCheck k = none →
           (bit k.box.flags 0 = false → Does (.prgCommit m v) s (fun t =>
             t = { s with feram := (s.writeContainer k.box.kind s.prog.staged).feram, prog := t.prog, hp := t.hp } ∧
             t.prog = { s.prog with staging := .loaded, loadedAt := s.clk.ticks, lastStatus := 0, lastDetail := 0 } ∧
             t.Answered m.toNat 0 0 0 (leBytes 1 0 ++ leBytes 3 0 ++ leBytes 48 s.program.hash))) ∧
           (bit k.box.flags 0 = true → s.dev.role ≠ .primary → Does (.prgCommit m v) s (queued k)) ∧
           (bit k.box.flags 0 = true → s.dev.role = .primary → Does (.prgCommit m v) s (fun t => offered s t m.toNat 0))))) ∧
     (s.prog.staging = .loaded →
       (∀ e, s.loadedCheck = .error e → Gives (.prgCommit m v) s ((s.noteSched e.sched).refuseLoad m.toNat e.status e.detail)) ∧
       (∀ k, s.loadedCheck = .ok k →
         (s.dev.role ≠ .primary → Does (.prgCommit m v) s (queued k)) ∧
         (s.dev.role = .primary → Does (.prgCommit m v) s (fun t => offered s t m.toNat 0))))) ∧
  (∀ (s : State) (a : Activation), s.prog.activation = some a → a.recordDurable = true → s.dev.state = .stop →
     let told (u : State) : Prop :=
       u.prog.activation = none ∧ u.prog.staging = .idle ∧ u.prog.lockSession = none ∧
       (s.dev.role ≠ .standby ∨ s.stby.offerKind = 0 → u.stby = s.stby) ∧
       (s.dev.role = .standby → u.stby.offerKind = 0) ∧
       (∀ m, a.mbx = some m → ((s.mailbox m).req).isSome = true → ∃ d, u.Answered m 0 0 0 d)
     let done (u t : State) : Prop := t = (if s.dev.role = .primary then u.startResync else u).mirror ∧ told u
     (∀ p, a.newProg = some p → a.net = none → Does .programActivation s (fun t => ∃ u : State, done u t ∧
       u.prog.active = some p ∧ u.prog.slot = a.slot ∧ u.prog.chain = a.chain ∧ u.prog.bank = 1 - s.prog.bank ∧
       u = { s with prog := u.prog, params := u.params, nvm := u.nvm, ctxs := u.ctxs, sram := writePts s.sram a.writes,
                    freeCtr := u.freeCtr, img := { s.img with forces := [], forceChanged := [] },
                    sec := { s.sec with storeInvalid := false }, hp := u.hp, stby := u.stby })) ∧
     (∀ c, a.newProg = none → a.net = some c → Does .programActivation s (fun t => ∃ u : State, done u t ∧
       u.net.cfg = some c ∧ u.prog.netCopy = a.slot ∧ u.prog.netHash = c.hash ∧ u.prog.active = s.prog.active ∧
       (∀ d ∈ c.nodes, tget NodeState.init u.net.nodes d.num = NodeState.init) ∧
       u = { s with prog := u.prog, net := u.net, sram := u.sram, params := u.params, nvm := u.nvm, freeCtr := u.freeCtr,
                    hp := u.hp, stby := u.stby }))) ∧
  (∀ (s : State), (∀ a, s.prog.activation = some a → a.recordDurable = false ∨ s.dev.state ≠ .stop) → Gives .programActivation s s) ∧
  (∀ (s : State),
     (∀ (m : BitVec 4) (v : Verdict) (r : Request), s.request m.toNat 0x59 = some r →
       s.loadWaits m.toNat = false →
       s.loadGate r.session true (s.dev.state == .run || s.dev.state == .halt) s.updateBlocks = none →
       let lead := leAt r.payload 0 4 * 1000
       (s.prog.staging = .loaded ∨ (s.prog.staging = .staging ∧ s.prog.stagedKind ≠ 2) →
         Gives (.editApply m v) s (s.refuseLoad m.toNat 6 0)) ∧
       (s.prog.staging = .staging → s.prog.stagedKind = 2 →
         (lead < 1000000 ∨ 10000000000 < lead → ∃ st, 1 ≤ st ∧ st ≤ 65535 ∧
           Gives (.editApply m v) s (State.refuseLoad { s with freeCtr := s.freeCtr + 1 } m.toNat st 0)) ∧
         (1000000 ≤ lead → lead ≤ 10000000000 →
           (∀ e, s.checkContainer true [2, 3] s.prog.staged s.prog.stagedLen v = .error e →
             Gives (.editApply m v) s ((s.noteSched e.sched).refuseLoad m.toNat e.status e.detail)) ∧
           (∀ k, s.checkContainer true [2, 3] s.prog.staged s.prog.stagedLen v = .ok k →
             (s.editInstant k.affected lead = none → Gives (.editApply m v) s (s.refuseLoad m.toNat 0x1D 0)) ∧
             (∀ a, s.editInstant k.affected lead = some a →
               (∀ d, s.pairCheck k = some d → Gives (.editApply m v) s (s.refuseLoad m.toNat 0x1E d)) ∧
               (s.pairCheck k = none → s.dev.role = .primary → Does (.editApply m v) s (fun t => offered s t m.toNat lead)) ∧
               (s.dev.role ≠ .primary → Does (.editApply m v) s (fun t =>
                 t = { s with feram := (s.writeContainer k.box.kind s.prog.staged).feram,
                              sram := (s.fillBank (1 - s.prog.bank) k.newProg).sram, prog := t.prog, hp := t.hp } ∧ t.prog.staging = .armed ∧ t.prog.active = s.prog.active ∧
                 (∃ e, t.prog.armed = some e ∧ e.at_ = a ∧ e.kind = k.box.kind ∧ e.newProg = k.newProg ∧
                   e.affected = k.affected) ∧
                 t.Answered m.toNat 0 0 0 (leBytes 8 a ++ leBytes 48 k.newProg.hash)))))))) ∧
     (∀ e : ArmedEdit, s.prog.armed = some e → s.editDue e = true →
       Does .editStep s (fun t =>
         t.prog.active = some e.newProg ∧ t.prog.armed = none ∧ t.prog.slot = e.slot ∧ t.prog.chain = e.chain ∧
         t.prog.bank = 1 - s.prog.bank ∧
         t.img.pegSeq = s.img.pegSeq + 1 ∧ t.img.lastPeg = e.at_ ∧ t.img.commits.length = s.img.commits.length + 1 ∧
         (∃ k ∈ t.img.commits, k.kind = .edit ∧ k.seq = s.img.pegSeq + 1 ∧ k.pegAt = e.at_) ∧
         t.sram = writePts s.sram (migWrites s.program e.newProg (fun i => s.committed (mkPt 6 i)) e.migs) ∧
         t = { s with prog := t.prog, params := t.params, nvm := t.nvm, ctxs := t.ctxs, sram := t.sram, img := t.img,
                      freeCtr := t.freeCtr, stby := t.stby, hp := t.hp })) ∧
     (∀ e : ArmedEdit, s.prog.armed = some e → s.editDue e = false → Gives .editStep s s) ∧
     (s.prog.armed = none → Gives .editStep s s))

/-! ### Non-volatile memory, power, faults -/

/-- NVM_ROW_WRITE_DONE (R53, R425, R427, R429, R430, R435): a row of the commit in progress goes into the half of the retentive store
that does not hold its current copy, its index rows into the ring, and one row fewer is left; a queued commit takes its first row in its
turn; with no commit in the way a job takes its row, and so does a checkpoint overdue before a queued commit. Every row counts; one that
fails its read-back raises NVM besides.

CHECKPOINT_START (R430): 512 ring rows after the last one started, the map of current halves and what the records say are taken
for a new checkpoint, whose 17 rows are due; nothing else changes. -/
def Obligations.RowsAndCheckpoints : Prop :=
  (∀ (s : State), s.rowsRun = true → s.reservedQueued = false →
     let counts (t : State) : Prop := s.pn 0xA00 + 1 < 2 ^ 64 → t.pn 0xA00 = s.pn 0xA00 + 1
     (∀ k, s.headCommit = some k → k.started = true → 2 ≤ s.nvm.commitLeft →
       Does (.nvmRowWriteDone true) s (fun t =>
         t = { s with feram := t.feram, nvm := { s.nvm with commitLeft := s.nvm.commitLeft - 1 }, params := t.params,
                      freeCtr := t.freeCtr } ∧ counts t ∧
         let i := k.rowsTotal - s.nvm.commitLeft
         (k.extra.all = true → i < 8192 →
           t.feram = s.feram.writeL (rowAddr (!s.nvm.half i) i) (rowBytes (tget (List.replicate 64 0#8) k.data i))) ∧
         (k.extra.all = false → ∀ row, k.rows[i]? = some row →
           t.feram = s.feram.writeL (rowAddr (!s.nvm.half row) row) (rowBytes (tget [] k.data row))) ∧
         (k.extra.all = false → k.rows.length ≤ i → i - k.rows.length < ceilDiv k.rows.length 32 →
           t.feram = s.feram.writeL (ringAddr (s.nvm.ringRow + (i - k.rows.length)))
             (rowBytes (indexRow k.rows (i - k.rows.length)))))) ∧
     (∀ k, s.headCommit = some k → k.started = false → 2 ≤ k.rowsTotal → s.pwr.warnLive = false →
       (s.otherTurn = false ∨ s.nvm.ringDone < 1024 ∨ ∀ n, .checkpoint n ∉ s.nvm.jobs) →
       Does (.nvmRowWriteDone true) s (fun t =>
         t = { s with feram := (s.writeCommitRow k 0).feram, nvm := t.nvm, img := { s.img with commits := t.img.commits },
                      params := t.params, freeCtr := t.freeCtr } ∧ counts t ∧
         t.nvm = { s.nvm with commitLeft := k.rowsTotal - 1, commitFrom := s.now, commitTick := s.clk.ticks - 1 } ∧
         t.img.commits = s.img.commits.map (fun q => if q == k then { q with started := true } else q))) ∧
     (∀ n i, (∀ k, s.headCommit = some k → k.started = false) → s.otherTurn = true → 1024 ≤ s.nvm.ringDone →
       s.headCommit ≠ none → s.nvm.jobs.zipIdx.find? (fun e => match e.1 with
         | .checkpoint _ => true
         | _ => false) = some (.checkpoint n, i) →
       Gives (.nvmRowWriteDone true) s ((s.jobRow i (.checkpoint n)).rowWritten true) ∧
       Gives (.nvmRowWriteDone false) s (((s.jobRow i (.checkpoint n)).rowWritten true).raise 7 0 0)) ∧
     (s.headCommit = none → s.otherTurn = true →
       (∀ i j, jobNext s.nvm.jobs = some (i, j) →
         Gives (.nvmRowWriteDone true) s ((s.jobRow i j).rowWritten true) ∧
         Gives (.nvmRowWriteDone false) s (((s.jobRow i j).rowWritten true).raise 7 0 0)) ∧
       (jobNext s.nvm.jobs = none → Gives (.nvmRowWriteDone true) s s) ∧
       (∀ n k rest, s.nvm.jobs = .settings (n + 2) :: rest → s.nvm.setRun = some k →
         Does (.nvmRowWriteDone true) s (fun t =>
           t = { s with feram := t.feram, nvm := t.nvm, params := t.params, freeCtr := t.freeCtr } ∧ counts t ∧
           t.nvm = { s.nvm with jobs := .settings (n + 1) :: rest } ∧
           let row := k.rows + 1 - (n + 2)
           t.feram = s.feram.writeL (setAddr s.setSlot + 64 * row) (rowBytes ((k.bytes.drop (64 * row)).take 64)))) ∧
       (∀ n k rest, s.nvm.jobs = .checkpoint (n + 1) :: rest → s.nvm.ckptRun = some k →
         Does (.nvmRowWriteDone true) s (fun t =>
           t = { s with feram := t.feram, nvm := t.nvm, params := t.params, freeCtr := t.freeCtr } ∧ counts t ∧
           t.nvm.jobs = (if n = 0 then rest else .checkpoint n :: rest) ∧
           (let row := if n = 0 then 0 else 17 - n
            t.feram = s.feram.writeL ((if s.nvm.ckptToA then 0x901000 else 0x901800) + 64 * row) (rowBytes (k.row row))) ∧
           (n = 0 → t.nvm.ckptRun = none ∧ t.nvm.ringDone = 0 ∧ t.pv 0xA06 = k.seq ∧
             (s.nvm.ckptToA = true → t.nvm.ckptA = k ∧ t.nvm.ckptB = s.nvm.ckptB) ∧
             (s.nvm.ckptToA = false → t.nvm.ckptB = k ∧ t.nvm.ckptA = s.nvm.ckptA))))) ∧
     (∀ k, s.headCommit = some k → k.started = true → 2 ≤ s.nvm.commitLeft →
       Does (.nvmRowWriteDone false) s (fun t => ∃ u : State, Gives (.nvmRowWriteDone true) s u ∧ t = u.raise 7 0 0))) ∧
  (∀ (s : State) (ok : Bool), s.rowsRun = false ∨ s.reservedQueued = true → Gives (.nvmRowWriteDone ok) s s) ∧
  (∀ (s : State), s.rowsRun = true → s.pwr.warnLive = false → 512 ≤ s.nvm.ringSince → s.nvm.ckptRun = none →
     Does .checkpointStart s (fun t =>
       t = { s with nvm := { s.nvm with ckptRun := t.nvm.ckptRun, ringSince := 0, jobs := s.nvm.jobs ++ [.checkpoint 17] } } ∧
       ∃ k, t.nvm.ckptRun = some k ∧ k.seq = max s.nvm.ckptA.seq s.nvm.ckptB.seq + 1 ∧ k.covered = s.nvm.commitSeq ∧
         k.ringRow = s.nvm.ringRow ∧ k.halves = s.nvm.halves ∧ k.valid = true ∧
         (∀ r e, s.nvm.ring.find? (fun x => x.epoch.isSome) = some r → r.epoch = some e → k.epoch = e) ∧
         (∀ r, s.nvm.ring.find? (fun x => x.slot != 255) = some r → k.slot = r.slot ∧ k.chain = r.chain) ∧
         (∀ r, s.nvm.ring.find? (fun x => x.netCopy != 255) = some r → k.netCopy = r.netCopy) ∧
         ∀ old, s.nvm.newestCheckpoint = some old →
           ((∀ r ∈ s.nvm.ring, r.epoch = none) → k.epoch = old.epoch) ∧
           ((∀ r ∈ s.nvm.ring, r.slot = 255) → k.slot = old.slot ∧ k.chain = old.chain) ∧
           ((∀ r ∈ s.nvm.ring, r.netCopy = 255) → k.netCopy = old.netCopy))) ∧
  (∀ (s : State), s.nvm.ringSince < 512 → Gives .checkpointStart s s)

/-- LOG_RECORD_WRITE and LOG_HEADER_WRITE (R407, R432, R433): the oldest queued record takes the next sequence and a chain value over
its predecessor's and goes to the head of the ring and into its row; where records were lost and space is back, a LOG_OVERFLOW record
with their number is queued. A header row names the newest record and goes into the next of 64 places.

SETTINGS_COPY_WRITE and SETTINGS_COPY_DURABLE (R435, R436): a copy is started with every value accepted so far and takes over the
requests that wait; when its header row is durable it is the copy in force and those SETs complete. -/
def Obligations.LogAndSettingsCopies : Prop :=
  (∀ (s : State), s.rowsRun = true →
     (∀ r rest, s.nvm.logQueue = r :: rest → s.sec.nvmZero = false → (s.reservedQueued = true ∨ s.otherTurn = true) →
       Does .logRecordWrite s (fun t =>
         t = { s with nvm := t.nvm, params := t.params, feram := t.feram, freeCtr := t.freeCtr } ∧
         t.nvm.logSeq = s.nvm.logSeq + 1 ∧ (s.pn 0xA00 + 1 < 2 ^ 64 → t.pn 0xA00 = s.pn 0xA00 + 1) ∧ t.pn 0xA10 = s.nvm.logSeq + 1 ∧
         (s.nvm.overflow = 0 ∨ 248 ≤ rest.length → t.nvm.logQueue = rest ∧ t.nvm.overflow = s.nvm.overflow) ∧
         (s.nvm.overflow ≠ 0 → rest.length < 248 → t.nvm.overflow = 0 ∧ ∃ o, t.nvm.logQueue = rest ++ [o] ∧ o.type = 0x71 ∧
           o.bytes = leBytes 4 s.nvm.overflow) ∧
         ∃ q, t.nvm.logRing = (q :: s.nvm.logRing).take 38784 ∧ q.seq = s.nvm.logSeq + 1 ∧ q.type = r.type ∧ q.stime = r.stime ∧
           q.bytes = r.bytes ∧ q.chain = chainValue s.nvm.chainHead { r with seq := s.nvm.logSeq + 1 } ∧
           t.feram = s.feram.writeL (logAddr (s.nvm.logSeq + 1)) (rowBytes (q.row false)))) ∧
     (s.otherTurn = true → (4000000 ≤ s.clk.ticks - s.nvm.headerAt ∨ 1024 ≤ s.nvm.headerCount) →
       Does .logHeaderWrite s (fun t =>
         t = { s with nvm := t.nvm, params := t.params, feram := t.feram, freeCtr := t.freeCtr } ∧
         t.nvm.headerSeq = s.nvm.headerSeq + 1 ∧
         t.nvm.headerNewest = s.nvm.logSeq ∧ t.nvm.headerCount = 0 ∧ t.nvm.headerAt = s.clk.ticks ∧
         t.nvm.logRing = s.nvm.logRing ∧
         ∀ a, a < 0x900000 + 64 * ((s.nvm.headerSeq + 1) % 64) ∨ 0x900000 + 64 * ((s.nvm.headerSeq + 1) % 64) + 64 ≤ a →
           t.feram.read a = s.feram.read a))) ∧
  (∀ (s : State), s.nvm.logQueue = [] → Gives .logRecordWrite s s) ∧
  (∀ (s : State), s.rowsRun = true →
     (s.pwr.warnLive = false → s.nvm.setDirty = true → s.nvm.setRun = none →
       (∀ t0, s.nvm.setStarted = some t0 → 400000 ≤ s.clk.ticks - t0) →
       Does .settingsCopyWrite s (fun t =>
         t = { s with nvm := t.nvm } ∧ t.nvm.setDirty = false ∧ t.nvm.setWaiting = [] ∧ t.nvm.setRunMbx = s.nvm.setWaiting ∧
         t.nvm.setStarted = some s.clk.ticks ∧
         ∃ k, t.nvm.setRun = some k ∧ k.content = s.settingsContent ∧ k.blocks = s.blocks ∧ k.valid = true ∧
           k.seq = max s.nvm.setA.seq s.nvm.setB.seq + 1 ∧ t.nvm.jobs = s.nvm.jobs ++ [.settings k.rows])) ∧
     (∀ k pre rest, s.nvm.setRun = some k → s.nvm.jobs = pre ++ .settings 1 :: rest → .settings 1 ∉ pre →
       s.reservedQueued = false → s.otherTurn = true →
       Does .settingsCopyDurable s (fun t =>
         t = { s with nvm := t.nvm, params := t.params, hp := t.hp, freeCtr := t.freeCtr,
                      feram := s.feram.writeL (setAddr s.setSlot) (rowBytes k.header) } ∧
         t.nvm.setRun = none ∧ t.nvm.jobs = pre ++ rest ∧
         t.nvm.setRunMbx = [] ∧ t.nvm.setCopy = s.setSlot ∧ (s.setSlot = 0 → t.nvm.setA = k ∧ t.nvm.setB = s.nvm.setB) ∧
         (s.setSlot ≠ 0 → t.nvm.setB = k ∧ t.nvm.setA = s.nvm.setA) ∧ t.pv 0xA21 = k.seq ∧ t.pv 0xA22 = s.setSlot ∧
         (s.nvm.setRunMbx.Nodup → ∀ m r, m ∈ s.nvm.setRunMbx → s.request m 0x21 = some r →
           t.Answered m 0 0 0 (leBytes 2 0xFFFF ++ leBytes 2 (leAt r.payload 0 2)))))) ∧
  (∀ (s : State), s.nvm.setDirty = false → Gives .settingsCopyWrite s s) ∧
  (∀ (s : State), s.nvm.setRun = none → Gives .settingsCopyDurable s s)

/-- BOOT_START (R27, R134, R387, R403, R431, R474), no update being in progress: with every check passed and a settings copy of the
firmware's format, the unit reaches STOP, or RUN where auto-run is set, with the core and truss domains on and the firmware's version
shown; a program stored is the one in force, and a clock loss that PD_AON kept has its record. Firmware that does not verify leads to
RECOVERY; a failed self-test raises BIST_FAIL, and a failed root, manifest, owner-store or program check BOOT_FAIL, after which the unit
stays where it is until LOCKOUT follows. A unit already past B1 stays as it is.

Power-on and its loss (R8, R452, R472): VIN at 4.45 V starts the unit anew with the supervisor's registers at their
power-on values, FeRAM kept, in BOOT where nRESET is high; VIN below 3.90 V ends it, and of the memories only FeRAM keeps its contents. -/
def Obligations.BootAndPowerOn : Prop :=
  (∀ (s : State) (i : BootInput), s.dev.state ≠ .boot ∨ s.pwr.core = true → Gives (.bootStart i) s s) ∧
  (∀ (s : State) (i : BootInput), s.dev.state = .boot → s.pwr.core = false → s.pwr.clkLost = false → s.pwr.nresetLow = false →
     s.upd.stage = .none →
     let stays (src : Nat) (t : State) : Prop := t.dev.state = .boot ∧ bit t.flt.sticky src = true ∧ t.feram = s.feram
     (1024 ≤ i.selftest → i.rootOk = true → (i.manifestOk = true ∨ i.fallbackOk = true) →
       (∀ (ck : Checkpoint) (slot : Nat) (k : SettingsCopy), i.firmwareOk = true →
         i.ownerOk = true → i.checkpointOk = true → i.badRows = [] → i.aclk = true → (∀ b ∈ i.bayAnswers, b = false) →
         s.nvm.newestCheckpoint = some ck → 2 ≤ ck.netCopy → s.nvm.ring = [] →
         s.sec.storeInvalid = false → s.nvm.copyFor i.fwFormat = some (slot, k) → k.format = i.fwFormat →
         let up (t : State) : Prop := t.pwr.core = true ∧ t.pwr.truss = true ∧ t.pwr.host = true ∧ t.pwr.clkRecord = false ∧
           (s.pwr.clkRecord = true → bit t.flt.sticky 1 = true) ∧
           t.sec.fwVersion = i.fwVersion ∧ t.hp.fwver = i.fwVersion ∧ t.nvm.setCopy = slot ∧ t.feram = s.feram
         (2 ≤ ck.slot → s.prog.active = none → Does (.bootStart i) s (fun t => up t ∧ t.dev.state = .stop ∧ t.stby.epoch = ck.epoch)) ∧
         (∀ p, ck.slot < 2 → i.program.sigOk = true → i.program.hashOk = true →
           rebuild (s.feram.readN (slotAddr ck.slot) (slotUsed ck.chain s.feram (slotAddr ck.slot))) ck.chain = some p →
           Does (.bootStart i) s (fun t => up t ∧ (t.dev.state = .stop ∨ t.dev.state = .run) ∧ t.prog.active = some p ∧
             t.prog.slot = ck.slot ∧ t.prog.chain = ck.chain)) ∧
         (ck.slot < 2 → i.program.sigOk = false → Does (.bootStart i) s (fun t => t.dev.state = .init ∧ bit t.flt.sticky 26 = true))) ∧
       (i.firmwareOk = false → Does (.bootStart i) s (fun t => t.dev.state = .recovery ∧ t.pwr.core = true ∧
         t.feram = s.feram ∧ (i.ownerOk = false → bit t.flt.sticky 26 = true))) ∧
       (i.firmwareOk = true → i.ownerOk = false → Does (.bootStart i) s (stays 26))) ∧
     (i.selftest < 1024 → Does (.bootStart i) s (stays 27)) ∧
     (1024 ≤ i.selftest → (i.rootOk = false ∨ (i.manifestOk = false ∧ i.fallbackOk = false)) → Does (.bootStart i) s (stays 26))) ∧
  (∀ (s : State) (vin : Nat),
     (s.dev.state = .off → s.pwr.vinGood = false → 4450 ≤ vin → Gives (.powerOnReset vin) s { s with
       dev := { Device.init with part := s.dev.part, state := if s.pwr.nresetLow = true then .off else .boot,
                                 since := s.clk.ticks },
       pwr := { Power.init with vin := vin, vinMin := vin, nresetLow := s.pwr.nresetLow },
       flt := { Faults.init with lowSince := s.clk.ticks } }) ∧
     (s.dev.state ≠ .off ∨ vin < 4450 → Gives (.powerOnReset vin) s s) ∧
     (3900 ≤ vin → Gives (.brownOut vin) s s) ∧
     (s.pwr.vinGood = true → vin < 3900 → Does (.brownOut vin) s (fun t =>
       t.dev.state = .off ∧ t.pwr.vinGood = false ∧ t.dev.part = s.dev.part ∧ t.sram = [] ∧ t.feram = s.feram ∧ t.ctxs = [] ∧ t.params = [] ∧
       t.pwr.core = false ∧ t.pwr.vin = vin ∧ t.prog = Prog.init ∧ t.img = Image.init ∧ t.flt = Faults.init ∧
       t.wdg = Watchdog.init ∧ t.sec.fuses = s.sec.fuses ∧ t.nvm.logRing = s.nvm.logRing ∧ t.nvm.setA = s.nvm.setA ∧
       t.bays = s.bays)))

/-- POWER_FAIL_WARNING, POWER_FAIL_COMMIT_DONE and PFI_RECOVERED (R64, R455, R475): the warning drops every shot, sheds host port,
network and scarf link and lowers HOLD while the SRAM stays; when the commit in progress is done a POWER_WARNING record is written where
FeRAM still takes rows and the core domains switch off; recovery is a chip reset. A second cause joins the sequence, and a PFI warning
needs no level of VIN.

VIN_ROW_INHIBIT (R457), NRESET_ASSERT and NRESET_RELEASE (R395, R472, R473): below 4.00 V no further row starts; nRESET low puts
the logic into reset with cause 1, nFAULT low and ALIVE stopped, PD_AON and FeRAM kept, the lockout flag deciding between BOOT and LOCKOUT,
a power-fail sequence ending first; boot starts when it rises, and OFF is left then where VIN is good already.

HOLDUP_MEASURE_START and HOLDUP_MEASURE_END (R459, R460): a measured one, due a period after the last, lowers HOLD where VIN is at or above 4.75 V, reports
state 3 below it; a declared one is judged at once; at its end HOLD is high again and C and the energy follow from current, time and
the fall of VIN, the result 1 from 400 µJ on and 2 below (C and energy to the nearest unit: log 38; a value that the register cannot hold,
and one of a VIN that has not fallen, is free: log 5). -/
def Obligations.PowerFailResetPinAndHoldUp : Prop :=
  (∀ (s : State) (vin : Nat),
     (∀ w, s.dev.state ≠ .off → (w = .pfi ∨ vin < 4400) → s.pwr.warnLive = false →
       Does (.powerFailWarning w vin) s (fun t =>
         t.pwr.warnLive = true ∧ t.pwr.pfStep = 1 ∧ t.pwr.hold = false ∧ t.pwr.host = false ∧ t.pwr.net = false ∧
         t.pwr.truss = false ∧ t.pwr.scarf = false ∧ t.pwr.vin = vin ∧ t.sram = s.sram ∧
         (∀ a, shimAddr a = false → t.feram.read a = s.feram.read a) ∧
         t.nvm.halves = s.nvm.halves ∧ ∀ c, 1 ≤ c → c < 64 → (t.ctx c).shot = none)) ∧
     (∀ w, s.dev.state ≠ .off → (w = .pfi ∨ vin < 4400) → s.pwr.warnLive = true →
       Gives (.powerFailWarning w vin) s { s with pwr := { s.pwr with vin := vin, vinMin := min s.pwr.vinMin vin } }) ∧
     (4400 ≤ vin → Gives (.powerFailWarning .vin vin) s s) ∧
     (s.pwr.warnLive = true → s.pwr.pfStep = 1 → s.nvm.commitLeft = 0 → s.reservedQueued = false →
       Does .powerFailCommitDone s (fun t =>
         t = { s with pwr := { s.pwr with pfStep := 4, core := false, sram := false, nvm := false, sec := false }, sram := [],
                      sched := { s.sched with cores := none, paused := true }, eng := EngState.init, nvm := t.nvm,
                      params := t.params, freeCtr := t.freeCtr, feram := t.feram } ∧
         t.nvm.halves = s.nvm.halves ∧ t.nvm.ring = s.nvm.ring ∧
         (s.pwr.nvm = true → s.pwr.rowInhibit = false → s.sec.nvmZero = false →
           ∃ q, t.nvm.logRing = (q :: s.nvm.logRing).take 38784 ∧ q.type = 0x70 ∧ q.bytes = leBytes 4 s.pwr.pfAbandoned ∧
             t.feram = s.feram.writeL (logAddr (s.nvm.logSeq + 1)) (rowBytes (q.row false))) ∧
         (s.pwr.nvm = false ∨ s.pwr.rowInhibit = true ∨ s.sec.nvmZero = true → t.nvm = s.nvm ∧ t.feram = s.feram))) ∧
     (s.pwr.warnLive = false ∨ s.nvm.commitLeft ≠ 0 ∨ s.reservedQueued = true → Gives .powerFailCommitDone s s) ∧
     (s.pwr.warnLive = true → s.pwr.pfStep = 4 → 4500 ≤ vin → Does (.pfiRecovered vin) s (fun t =>
         t.dev.state = (if s.pwr.lockoutFlag = true then .lockout else .boot) ∧
         t.pwr.warnLive = false ∧ t.pwr.pfStep = 0 ∧ t.pwr.hold = true ∧ t.pwr.cause = 3 ∧
         t.pwr.rowInhibit = false ∧ t.sram = [] ∧ t.feram = s.feram ∧ t.params = s.params)) ∧
     (s.pwr.warnLive = false ∨ vin < 4500 → Gives (.pfiRecovered vin) s s)) ∧
  (∀ (s : State),
     (∀ vin, s.dev.state ≠ .off → vin < 4000 → Gives (.vinRowInhibit vin) s { s with pwr := { s.pwr with
       vin := vin, vinMin := min s.pwr.vinMin vin, rowInhibit := true } }) ∧
     (∀ vin, 4000 ≤ vin → Gives (.vinRowInhibit vin) s s) ∧
     (s.pwr.nresetLow = false → (s.pwr.warnLive = false ∨ 4 ≤ s.pwr.pfStep) → s.dev.state ≠ .off →
       Does .nresetAssert s (fun t =>
         t.dev.state = (if s.pwr.lockoutFlag = true then .lockout else .boot) ∧
         t.dev.part = s.dev.part ∧ t.pwr.nresetLow = true ∧ t.pwr.cause = 1 ∧ t.pwr.core = false ∧
         t.pwr.hold = true ∧ t.flt.nfaultLow = true ∧ t.flt.aliveOn = false ∧ t.flt.alive = s.flt.alive ∧
         t.wdg.ladder = s.wdg.ladder ∧ t.sram = [] ∧ t.feram = s.feram ∧ t.params = s.params ∧ t.fclkUp = false ∧
         t.hp.irqStat = 0 ∧ t.hp.claim = none ∧ t.img.forces = [])) ∧
     (s.pwr.nresetLow = false → (s.pwr.warnLive = false ∨ 4 ≤ s.pwr.pfStep) → s.dev.state = .off →
       Gives .nresetAssert s { s with pwr := { s.pwr with nresetLow := true } }) ∧
     (s.pwr.nresetLow = true ∨ (s.pwr.warnLive = true ∧ s.pwr.pfStep < 4) → Gives .nresetAssert s s) ∧
     (s.pwr.nresetLow = true →
       let on : Bool := s.pwr.lockoutFlag && s.dev.state != .off
       Gives .nresetRelease s { s with
         dev := if s.dev.state = .off ∧ s.pwr.vinGood = true then { s.dev with state := .boot, since := s.clk.ticks } else s.dev,
         pwr := { s.pwr with nresetLow := false, core := on, sram := on, nvm := on, host := on, sec := on } }) ∧
     (s.pwr.nresetLow = false → Gives .nresetRelease s s)) ∧
  (∀ (s : State) (vin : Nat),
     let seen : Power := { s.pwr with vin := vin, vinMin := min s.pwr.vinMin vin }
     let due : Power := { seen with holdupFrom := s.clk.ticks }
     let judged (num den vw : Nat) (t : State) : Prop :=
       let e := num * (vw * vw - 4050 * 4050)
       ((2 * num + den) / (2 * den) < 65536 → t.pn 0x787 = (2 * num + den) / (2 * den)) ∧
       ((2 * e + den * 2000000) / (2 * (den * 2000000)) < 65536 →
         t.pn 0x788 = (2 * e + den * 2000000) / (2 * (den * 2000000))) ∧
       t.pn 0x787 < 65536 ∧ t.pn 0x788 < 65536 ∧
       t.pn 0x789 = (if 400 * (den * 2000000) ≤ e then 1 else 2) ∧ t.pv 0x78A = s.now
     (s.pwr.core = true → s.fclkUp = true → s.pwr.warnLive = false → s.pwr.holdup = none → s.dev.state ≠ .boot →
       s.pn 0x786 * secTicks ≤ s.clk.ticks - s.pwr.holdupFrom →
       (s.pv 0x783 ≠ 1 → 4750 ≤ vin → Gives (.holdupMeasureStart vin) s { s with pwr := { due with
         hold := false, holdup := some { start := s.clk.ticks, vin := vin } } }) ∧
       (s.pv 0x783 ≠ 1 → vin < 4750 → Gives (.holdupMeasureStart vin) s (({ s with pwr := due }.setPv 0x789 3).setPv 0x78A s.now)) ∧
       (s.pv 0x783 = 1 → Does (.holdupMeasureStart vin) s (fun t =>
         t = { s with pwr := due, params := t.params, freeCtr := t.freeCtr } ∧ judged (s.pn 0x784) 1 (min vin (s.pn 0x785)) t))) ∧
     (∀ (h : Holdup) (iin dur : Nat), s.pwr.holdup = some h →
       (vin < h.vin → Does (.holdupMeasureEnd vin iin dur) s (fun t =>
         t = { s with pwr := { seen with hold := true, holdup := none }, params := t.params, freeCtr := t.freeCtr } ∧
         judged (95 * iin * dur) (100000 * (h.vin - vin)) (min h.vin (s.pn 0x785)) t)) ∧
       (h.vin ≤ vin → Does (.holdupMeasureEnd vin iin dur) s (fun t =>
         t = { s with pwr := { seen with hold := true, holdup := none }, params := t.params, freeCtr := s.freeCtr + 2 } ∧
         t.pn 0x787 < 65536 ∧ t.pn 0x788 < 65536 ∧ t.pn 0x789 = (if 400 ≤ t.pn 0x788 then 1 else 2) ∧ t.pv 0x78A = s.now))) ∧
     (∀ iin dur, s.pwr.holdup = none → Gives (.holdupMeasureEnd vin iin dur) s s))

/-- What a fault's occurrence does (R374, R377, R379): a source of the part counts, and its live bit sets, for as long as a lasting
condition lasts and for the FCLK cycle of a single event. With its sticky bit clear the bit is set and a record formed with the next
sequence, the class of Table FLT-1, the state and the instant, newest of at most 32; with the bit already set no record is formed. The
memories stay, but for the shim journal of an update that a reaction reverts, and a source that the part does not have raises nothing.

A condition that ends (R374): only the source's live bit clears; an unread record of it keeps flag [1]. -/
def Obligations.FaultsFormRecords : Prop :=
  (∀ (s : State) (src index data : Nat), s.dev.state = .off ∨ 31 < src ∨ (src = 20 ∧ s.dev.part ≠ .p7232) →
     s.raise src index data = s) ∧
  (∀ (s : State) (src index data : Nat), s.dev.state ≠ .off → src ≤ 31 → (src = 20 → s.dev.part = .p7232) →
     let pid := 0x980 + 4 * src + 3
     let seen (u : State) : State := if faultLasting src = true then u.setLive src true else u.pulse src
     (bit s.flt.sticky src = true →
       (s.pn pid + 1 < 2 ^ 32 → s.raise src index data = seen (s.setPv pid (s.pn pid + 1 : Nat))) ∧
       (2 ^ 32 ≤ s.pn pid + 1 → ∃ v : Nat, v < 2 ^ 32 ∧
         s.raise src index data = seen (State.setPv { s with freeCtr := s.freeCtr + 1 } pid v))) ∧
     (bit s.flt.sticky src = false →
       let t := s.raise src index data
       bit t.flt.sticky src = true ∧ t.flt.seqNewest = s.flt.seqNewest + 1 ∧ t.sram = s.sram ∧
       (∀ a, shimAddr a = false → t.feram.read a = s.feram.read a) ∧
       t.pending = s.pending ∧ bit t.liveBits src = true ∧ (faultLasting src = true → bit t.flt.live src = true) ∧
       ∃ r : FaultRec, t.flt.records = (r :: s.flt.records).take 32 ∧ t.flt.pending = r :: s.flt.pending ∧
         r.seq = s.flt.seqNewest + 1 ∧ r.src = src ∧ r.cls = faultClass src ∧ r.stime = s.now ∧ r.state = devCode s.dev.state ∧
         r.index = index ∧ r.data = data)) ∧
  (∀ (s : State) (src : Nat), bit s.flt.live src = true →
     let t := s.condOver src
     bit t.flt.live src = false ∧ (∀ n, n ≠ src → bit t.flt.live n = bit s.flt.live n) ∧ t.flt.sticky = s.flt.sticky ∧
     t = { s with flt := { s.flt with live := t.flt.live, records := t.flt.records, pending := t.flt.pending } } ∧
     t.flt.records.map (fun r => (r.seq, r.src, r.data)) = s.flt.records.map (fun r => (r.seq, r.src, r.data)))

/-- FAULT_RAISE, FAULT_CHIP_RESET and LOCKOUT_ENTRY (R374, R377, R395): a source other than the watchdog's and the clock monitor's
occurs with its index and data; a reset that a record or a request waits for is taken once everything before it is durable and its answer
is out, a drain and an armed edit that it discards written to the log first (R28, R153); LOCKOUT is entered instead where one waits: shots,
grace times and the waiting resets go, nFAULT is low, PD_AON keeps the flag.

GRACE_EXPIRY, NFAULT_HOLD_END and COLLECTOR_SELF_FAULT (R376, R381, R384): a grace time that no clear in time has ended asks for
a chip reset and marks the record; nFAULT is released 1 ms after it fell once that is accepted; a fault of the triplicated collector
goes into the oldest queued record, that of a single collector or with none queued forms a record of its own.

FLT_ACK (R380, R384, R394): a sequence that covers what the scope asks acknowledges every record up to it, asks for nFAULT's
release with scope bit 0, and with scope bit 1 leaves SAFE for STOP once no cause is live; the answer gives the state. A sequence that
does not cover it is refused with 1, a cause still live with 2, a state other than SAFE with 3. -/
def Obligations.FaultReactions : Prop :=
  (∀ (s : State),
     (∀ src index data, 2 ≤ src → src ≤ 31 →
       Gives (.faultRaise src index data) s (s.raise src (faultIndex src index) (s.faultData src index data))) ∧
     (∀ src index data, src < 2 ∨ 31 < src → Gives (.faultRaise src index data) s s) ∧
     (∀ a, (∀ b ∈ s.flt.awaiting, b.lockout = false) →
       s.flt.awaiting.find? (fun a => s.resetReady a.seq && s.answered a.mbx) = some a →
       Does .faultChipReset s (fun t => t = s.resetDiscards.chipReset a.cause ∧
         (s.dev.drain = none → s.prog.armed = none → t = s.chipReset a.cause ∧ t.params = s.params ∧ t.feram = s.feram) ∧
         t.dev.state = (if s.pwr.lockoutFlag = true then .lockout else .boot) ∧ t.dev.part = s.dev.part ∧
         t.pwr.cause = a.cause ∧ t.sram = [] ∧
         (∀ x, x < 0x922000 ∨ 0xB80000 ≤ x → t.feram.read x = s.feram.read x) ∧ t.flt.sticky = 0 ∧
         t.flt.seqNewest = s.flt.seqNewest ∧ t.wdg.ladder = s.wdg.ladder ∧ t.prog = Prog.init ∧ t.stby = StbyState.init)) ∧
     (s.flt.awaiting = [] → Gives .faultChipReset s s ∧ Gives .lockoutEntry s s) ∧
     (∀ a, a ∈ s.flt.awaiting → a.lockout = true → Gives .faultChipReset s s) ∧
     (∀ a, a ∈ s.flt.awaiting → a.lockout = true → s.resetReady a.seq = true → s.dev.state ≠ .lockout → s.dev.state ≠ .off →
       Does .lockoutEntry s (fun t => t.dev.state = .lockout ∧ t.pwr.lockoutFlag = true ∧ t.pwr.truss = false ∧
         t.pwr.scarf = false ∧ t.flt.nfaultLow = true ∧ t.flt.aliveOn = false ∧ t.flt.awaiting = [] ∧ t.flt.queue = [] ∧
         t.flt.grace = [] ∧ t.sram = s.sram ∧ (∀ x, shimAddr x = false → t.feram.read x = s.feram.read x) ∧
         ∀ c, 1 ≤ c → c < 64 → (t.ctx c).shot = none))) ∧
  (∀ (s : State),
     (∀ src g, s.flt.grace.find? (fun g => g.src == src && decide (g.deadline ≤ s.clk.ticks)) = some g →
       let rest := s.flt.grace.filter (fun h => h != g)
       (s.dev.state ≠ .lockout →
         Gives (.graceExpiry src) s { s with flt := { s.flt.markRecord g.seq 4 with
           grace := rest, awaiting := s.flt.awaiting ++ [Awaiting.mk g.seq false 3 none s.clk.ticks] } }) ∧
       (s.dev.state = .lockout → Gives (.graceExpiry src) s { s with flt := { s.flt with grace := rest } })) ∧
     (∀ src, (∀ g ∈ s.flt.grace, g.src ≠ src ∨ s.clk.ticks < g.deadline) → Gives (.graceExpiry src) s s) ∧
     (s.flt.nfaultLow = true → s.flt.releaseAsked = true → s.dev.state ≠ .lockout → 400000 ≤ s.clk.ticks - s.flt.lowSince →
       Gives .nfaultHoldEnd s { s with flt := { s.flt with nfaultLow := false, releaseAsked := false } }) ∧
     (s.flt.releaseAsked = false ∨ s.dev.state = .lockout ∨ s.clk.ticks - s.flt.lowSince < 400000 → Gives .nfaultHoldEnd s s) ∧
     (let queued : Option FaultRec := s.flt.queue.head?.bind (fun q => s.flt.records.find? (fun (x : FaultRec) => x.seq == q))
      s.dev.state ≠ .off → s.pwr.nresetLow = false →
       ((s.dev.part ≠ .p7232 ∨ queued = none) →
         Does .collectorSelfFault s (fun t => t.flt.seqNewest = s.flt.seqNewest + 1 ∧ bit t.flt.sticky 29 = true ∧
           t.sram = s.sram ∧ (∀ x, shimAddr x = false → t.feram.read x = s.feram.read x) ∧
           ∃ r, t.flt.pending = r :: s.flt.pending ∧ r.src = 29)) ∧
       (∀ r, s.dev.part = .p7232 → queued = some r →
         Does .collectorSelfFault s (fun t => t.flt.seqNewest = s.flt.seqNewest ∧ t.flt.sticky = s.flt.sticky ∧
           t.flt.records = (s.flt.markRecord r.seq 1).records ∧ t.sram = s.sram ∧ t.feram = s.feram)))) ∧
  (∀ (s : State) (m : BitVec 4) (r : Request), s.request m.toNat 0xA0 = some r →
     let scope := leAt r.payload 0 1
     let seen := leAt r.payload 4 4
     let covers : Prop := (bit scope 0 = true → s.flt.newestPin ≤ seen) ∧ (bit scope 1 = true → s.flt.newestSafe ≤ seen)
     (¬ covers → Gives (.fltAck m) s (s.refuse m.toNat 1 0)) ∧
     (covers → bit scope 1 = true → s.dev.state = .safe → (∃ n ∈ s.flt.safeSrcs, bit s.liveBits n = true) →
       Gives (.fltAck m) s (s.refuse m.toNat 2 0)) ∧
     (covers → bit scope 1 = true → s.dev.state ≠ .safe → Gives (.fltAck m) s (s.refuse m.toNat 3 0)) ∧
     (covers → bit scope 1 = false → Does (.fltAck m) s (fun t =>
       t = { s with flt := t.flt, hp := t.hp } ∧ t.flt.seqAcked = max s.flt.seqAcked seen ∧
       t.flt.pending = s.flt.pending.filter (fun x => decide (seen < x.seq)) ∧ t.flt.sticky = s.flt.sticky ∧
       (bit scope 0 = true → s.flt.nfaultLow = true → s.dev.state ≠ .lockout → 400000 ≤ s.clk.ticks - s.flt.lowSince →
         t.flt.nfaultLow = false) ∧
       t.Answered m.toNat 0 0 0 (leBytes 1 (devCode s.dev.state) ++ leBytes 3 0))) ∧
     (covers → bit scope 1 = true → s.dev.state = .safe →
       (∀ n ∈ s.flt.safeSrcs, bit s.liveBits n = false) → Does (.fltAck m) s (fun t =>
         t.dev.state = .stop ∧ t.flt.seqAcked = max s.flt.seqAcked seen ∧ t.flt.safeSrcs = [] ∧ t.sram = s.sram ∧
         t.feram = s.feram ∧ t.Answered m.toNat 0 0 0 (leBytes 1 3 ++ leBytes 3 0))))

/-- Services and writes of the watchdog (R385, R386, R388): KEY1 opens a sequence of 64 cycles; KEY2 within it, at or after the open
time and before T, is a valid service that restarts the count; WDG_CFG takes a value of its ranges before the first service; bits written
as 1 clear; 60 s of clean run clear the ladder. Nothing else changes.

Expiries (R386, R388, R390): the count at T, a wrong key, KEY2 without KEY1 or after 64 cycles, KEY1 left without KEY2, and KEY2
below the open time each raise the ladder by one with the evidence kept and the count at 0, and form or add to WDG_EXPIRY; at the
ladder's top LOCKOUT is asked for. While a restart runs the keys reach nothing, and the count goes on. -/
def Obligations.WatchdogServicesAndExpiries : Prop :=
  (∀ (s : State), s.wdgRuns = true → s.wdg.restarting = none →
     (s.wdg.count < s.wdg.cfgT * 400000 →
       Gives .wdgKey1 s { s with wdg := { s.wdg with key1 := some s.wdg.count } } ∧
       (∀ k pc, s.wdg.key1 = some k → s.wdg.count - k ≤ 64 → s.wdg.cfgOpen * 40000 ≤ s.wdg.count →
         Gives (.wdgService pc) s { s with wdg := { s.wdg with
           count := 0, key1 := none, serviced := true, lastSvc := s.now } })) ∧
     (∀ t o, 1 ≤ t → t ≤ 1000 → 1 ≤ o → o < 10 * t → s.wdg.serviced = false →
       Gives (.wdgCfgWrite (BitVec.ofNat 32 (t + 65536 * o))) s { s with wdg := { s.wdg with cfgT := t, cfgOpen := o } }) ∧
     (∀ v : W32, s.wdg.serviced = true → Gives (.wdgCfgWrite v) s s) ∧
     (∀ v : W32, Gives (.wdgStatClear v) s { s with wdg := { s.wdg with
       early := s.wdg.early && !v.getLsbD 3, keyErr := s.wdg.keyErr && !v.getLsbD 4,
       clkLoss := s.wdg.clkLoss && !v.getLsbD 5 } }) ∧
     (s.dev.state ∈ [.stop, .run, .halt, .safe] → 60 * secTicks ≤ s.clk.ticks - s.wdg.cleanFrom →
       Gives .wdgCleanRun s { s with wdg := { s.wdg with ladder := 0 } })) ∧
  (∀ (s : State), s.wdg.restarting ≠ none →
     Gives .wdgKey1 s s ∧ (∀ pc, Gives (.wdgService pc) s s) ∧ (∀ v pc, Gives (.wdgKeyError v pc) s s) ∧
     (∀ v, Gives (.wdgCfgWrite v) s s) ∧ (∀ v, Gives (.wdgStatClear v) s s)) ∧
  (∀ (s : State), (s.dev.state ∉ [.stop, .run, .halt, .safe] ∨ s.clk.ticks - s.wdg.cleanFrom < 60 * secTicks →
     Gives .wdgCleanRun s s) ∧
     (∀ pc, s.wdg.count < s.wdg.cfgT * 400000 → Gives (.wdgExpiry pc) s s) ∧
     (∀ pc, s.wdg.key1 = none → Gives (.wdgKey1Timeout pc) s s)) ∧
  (∀ (s : State) (pc : Nat), s.wdgRuns = true →
     let step (e : Expiry) (t : State) : Prop :=
       t = s.expire e pc ∧ t.wdg.ladder = min 7 (s.wdg.ladder + 1) ∧ t.wdg.count = 0 ∧ t.wdg.key1 = none ∧
       t.wdg.evdPc = pc % 2 ^ 32 ∧ t.wdg.evdSvc = s.wdg.lastSvc ∧ t.wdg.early = (e == .early) ∧ t.wdg.keyErr = (e == .keyError) ∧
       t.sram = s.sram ∧ t.feram = s.feram ∧
       (s.dev.state ≠ .lockout → bit t.flt.sticky 0 = true) ∧
       (s.dev.state ≠ .lockout → s.ladderTop ≤ min 7 (s.wdg.ladder + 1) →
         ∃ a ∈ t.flt.awaiting, a.lockout = true)
     (s.wdg.cfgT * 400000 ≤ s.wdg.count → Does (.wdgExpiry pc) s (step .timeout)) ∧
     (∀ k, s.wdg.key1 = some k → 64 < s.wdg.count - k → Does (.wdgKey1Timeout pc) s (step .keyError)) ∧
     (s.wdg.restarting = none →
       (s.wdg.cfgT * 400000 ≤ s.wdg.count → Does (.wdgService pc) s (step .timeout)) ∧
       (∀ v : W32, v ≠ 0x0000C35A#32 → v ≠ 0x00005AC3#32 → Does (.wdgKeyError v pc) s (step .keyError)) ∧
       (s.wdg.key1 = none → Does (.wdgKeyError 0x00005AC3#32 pc) s (step .keyError)) ∧
       (s.wdg.count < s.wdg.cfgT * 400000 →
         (s.wdg.key1 = none → Does (.wdgService pc) s (step .keyError)) ∧
         (∀ k, s.wdg.key1 = some k → 64 < s.wdg.count - k → Does (.wdgService pc) s (step .keyError)) ∧
         (∀ k, s.wdg.key1 = some k → s.wdg.count - k ≤ 64 → s.wdg.count < s.wdg.cfgOpen * 40000 →
           Does (.wdgService pc) s (step .early)))))

/-- FIRMWARE_HEARTBEAT, HEARTBEAT_LOSS, ALIVE_TOGGLE, HBEAT_ADVANCE (R383, Table HOST-4, Table FLT-1).

CORE_RESTART_COMPLETE, CLK_LOSS and CLK_RESET_RELEASE (R387, R389, R463): after a restart the contexts may run again and its
length is kept; a lost clock raises the ladder by one (not again where an expiry of the same cycle has), is recorded in PD_AON with time
and state, and holds the unit in reset, in LOCKOUT at the ladder's top, until FCLK has run for 1 ms. -/
def Obligations.HeartbeatRestartAndClockLoss : Prop :=
  (∀ (s : State),
     (s.coresRun = true → s.dev.state ≠ .lockout →
       let t := { s with flt := { s.flt with heartbeat := some s.clk.ticks } }
       Gives .firmwareHeartbeat s (if bit s.flt.live 31 = true then t.condOver 31 else t)) ∧
     (∀ t0, s.flt.heartbeat = some t0 → 800000 ≤ s.clk.ticks - t0 → bit s.flt.live 31 = false →
       Gives .heartbeatLoss s (s.raise 31 0 0)) ∧
     (s.flt.heartbeat = none ∨ bit s.flt.live 31 = true → Gives .heartbeatLoss s s) ∧
     (s.coresRun = false ∨ s.dev.state = .lockout → Gives .firmwareHeartbeat s s) ∧
     (s.heartbeatRecent = false → Gives .hbeatAdvance s s) ∧
     (s.fclkUp = true → s.now % 1000000 < 3 →
       (s.heartbeatRecent = true → s.severePending = false → s.wdg.restarting = none → s.dev.state ≠ .lockout →
         Gives .aliveToggle s { s with flt := { s.flt with alive := !s.flt.alive, aliveOn := true } }) ∧
       (s.heartbeatRecent = false ∨ s.severePending = true ∨ s.wdg.restarting ≠ none ∨ s.dev.state = .lockout →
         Gives .aliveToggle s { s with flt := { s.flt with aliveOn := false } })) ∧
     (s.pwr.host = true → s.fclkUp = true → s.heartbeatRecent = true → 400000 ≤ s.clk.ticks - s.hp.hbeatAt →
       Gives .hbeatAdvance s { s with hp := { s.hp with hbeat := (s.hp.hbeat + 1) % 65536, hbeatAt := s.clk.ticks } })) ∧
  (∀ (s : State),
     (∀ t0, s.wdg.restarting = some t0 → s.fclkUp = true → s.pwr.core = true → s.dev.state ≠ .run →
       Does .coreRestartComplete s (fun t =>
         t = { s with wdg := { s.wdg with restarting := none }, sched := t.sched, params := t.params, ctxs := t.ctxs,
                      freeCtr := t.freeCtr, hp := t.hp } ∧
         t.sched.paused = false ∧ t.pn 0x918 = min 25000000 ((s.clk.ticks - t0) * 5 / 2))) ∧
     (∀ t0, s.wdg.restarting = some t0 → s.fclkUp = true → s.pwr.core = true → s.dev.state = .run →
       Does .coreRestartComplete s (fun t => t.wdg.restarting = none ∧ t.sched.paused = false ∧ t.sram = s.sram ∧
         ∀ c ∈ s.configured, (t.ctx c).releasing = true ∧ (t.ctx c).fullEmission = true)) ∧
     (∀ pll, s.dev.state ≠ .off → s.pwr.nresetLow = false → s.pwr.clkLost = false → (pll = true ∨ s.clk.aclk = true) →
       let p := if s.wdg.expiredAt = some s.clk.ticks then s.wdg.ladder else min 7 (s.wdg.ladder + 1)
       Does (.clkLoss pll) s (fun t => t.pwr.clkLost = true ∧ t.fclkUp = false ∧ t.wdg.ladder = p ∧
         t.wdg.clkLoss = decide (s.dev.state = .lockout ∨ s.pn 0x912 ≤ p) ∧ t.pwr.clkRecord = true ∧ t.pwr.clkTime = s.now ∧
         t.pwr.clkState = devCode s.dev.state ∧ t.pwr.clkAt = s.clk.ticks ∧
         t.dev.state = (if s.dev.state = .lockout ∨ s.pn 0x912 ≤ p ∨ s.pwr.lockoutFlag = true then .lockout else .boot) ∧
         (∀ a, shimAddr a = false → t.feram.read a = s.feram.read a))) ∧
     (∀ pll, s.dev.state = .off ∨ s.pwr.nresetLow = true ∨ s.pwr.clkLost = true ∨ (pll = false ∧ s.clk.aclk = false) →
       Gives (.clkLoss pll) s s) ∧
     (s.pwr.clkLost = true → 400000 ≤ s.clk.ticks - s.pwr.clkAt →
       Gives .clkResetRelease s { s with pwr := { s.pwr with clkLost := false } }) ∧
     (s.pwr.clkLost = false ∨ s.clk.ticks - s.pwr.clkAt < 400000 → Gives .clkResetRelease s s) ∧
     (s.wdg.restarting = none → Gives .coreRestartComplete s s))

/-- DISCIPLINE_MEASURE (R465-R468, R471): against the source in force, which follows what is available, the offset is kept and the rate
set within ±250 ppm; eight consecutive small offsets lock, and a unit that waited for that enters RUN; an offset beyond time.step_thr
steps STIME outside RUN and HALT and slews at the full rate in them. Without a source nothing is measured.

SYNC_IN_EDGE and SYNC_IN_EDGE_MISSED (R466, R468, R469): an edge in its window is accepted and makes the source available, one out of
it is only counted; in RUN and HALT it steps no time, a staged one included (log 52); a missing edge counts, and the third in a row makes
the source unavailable.

SYNC_OUT_RISE and SYNC_OUT_FALL (R470): up at a multiple of the period, down after the width; nothing else changes.

802.1AS (R292, R467): a Sync of a better master is followed, with its grandmaster, offset and relay; a port's delay is kept; a
relay is sent on, and a grandmaster sends at its interval.

ACLK_LOSS, ACLK_START, DIE_TEMP_CLEAR and RUN_WAIT_EXPIRY (R374, R463, R471): the auxiliary clock's loss raises its fault, its
return ends the condition; a cool die ends the temperature's; a unit that waited long enough for STIME enters RUN. -/
def Obligations.TimeIsDisciplined : Prop :=
  (∀ (s : State), s.dev.autoWait = false → s.autoRun = s) ∧
  (∀ (s : State) (offset rate : Int),
     (s.clockSource = s.clk.source → s.updateSource = s) ∧
     (s.clockSource ≠ s.clk.source → s.updateSource = { s with clk := { s.clk with
       source := s.clockSource, owed := 0, lockCount := 0,
       state := if s.clockSource ≠ 0 then 1 else if s.clk.state = 2 ∨ s.clk.state = 3 then 3 else 0 } }) ∧
     (s.clockSource = 0 ∨ s.fclkUp = false → Gives (.disciplineMeasure offset rate) s s) ∧
     (s.clockSource ≠ 0 → s.fclkUp = true →
       let u := s.updateSource
       let count := if (offset.natAbs : Int) < s.pv 0x745 then min 8 (u.clk.lockCount + 1) else 0
       let k := { u.clk with offset := offset, owed := offset, lockCount := count, state := if 8 ≤ count then 2 else 1 }
       ((offset.natAbs : Int) ≤ s.pv 0x744 →
         Gives (.disciplineMeasure offset rate) s (State.autoRun { u with clk := { k with rate := clampInt (-250000) 250000 rate } })) ∧
       (s.pv 0x744 < offset.natAbs → (s.dev.state = .run ∨ s.dev.state = .halt) →
         Gives (.disciplineMeasure offset rate) s (State.autoRun { u with clk := { k with
           rate := if 0 < offset then -250000 else 250000 } })) ∧
       (s.pv 0x744 < offset.natAbs → s.dev.state ≠ .run → s.dev.state ≠ .halt →
         Does (.disciplineMeasure offset rate) s (fun t => ∃ w : State, t = w.autoRun ∧
           w = { u with clk := { k with stime := (((s.clk.stime : Int) - offset) % 2 ^ 64).toNat, frac := 0, owed := 0,
                                        rate := clampInt (-250000) 250000 rate }, params := w.params, freeCtr := w.freeCtr } ∧
           (s.pn 0x746 + 1 < 2 ^ 32 → w.params = tset s.params 0x746 (s.pn 0x746 + 1 : Nat)))))) ∧
  (∀ (s : State), s.fclkUp = true → s.pv 0x747 = 1 →
     let p := s.pn 0x748 * 1000
     let inWindow (e : Ns) : Prop := 10 * (s.now - e) ≤ p ∧ 10 * (e - s.now) ≤ p
     ((∀ e, s.clk.expected = some e → inWindow e) → Does .syncInEdge s (fun t => ∃ w : State,
       (t = w ∨ t = w.autoRun) ∧ (s.dev.autoWait = false → t = w) ∧
       w = { s with clk := w.clk, params := w.params, freeCtr := w.freeCtr } ∧ w.clk.syncInOk = true ∧ w.clk.missed = 0 ∧
       w.clk.stagedSet = none ∧ w.clk.expected ≠ none ∧
       (s.dev.state = .run ∨ s.dev.state = .halt → w.clk.stime = s.clk.stime))) ∧
     (∀ e, s.clk.expected = some e → ¬ inWindow e → Does .syncInEdge s (fun t =>
       t = { s with params := t.params, freeCtr := t.freeCtr } ∧
       (s.pn 0x749 + 1 < 2 ^ 32 → t.params = tset s.params 0x749 (s.pn 0x749 + 1 : Nat)))) ∧
     (s.clk.expected = none → Gives .syncInEdgeMissed s s) ∧
     (∀ e, s.clk.expected = some e → 10 * e + p < 10 * s.now → Does .syncInEdgeMissed s (fun t =>
       t = { s with clk := t.clk } ∧ t.clk.missed = s.clk.missed + 1 ∧
       (s.clk.missed < 2 → t.clk.syncInOk = s.clk.syncInOk ∧ t.clk.expected = some (e + p)) ∧
       (2 ≤ s.clk.missed → t.clk.syncInOk = false ∧ t.clk.expected = none)))) ∧
  (∀ (s : State), s.fclkUp = false ∨ s.pv 0x747 ≠ 1 → Gives .syncInEdge s s ∧ Gives .syncInEdgeMissed s s) ∧
  (∀ (s : State),
     (let p := s.pn 0x74A * 1000
      s.fclkUp = true → p ≠ 0 → s.clk.syncOut = false → (s.clk.syncOutAt < s.now / p * p ∨ s.now < p) →
       Gives .syncOutRise s { s with clk := { s.clk with syncOut := true, syncOutAt := s.now / p * p } }) ∧
     (s.clk.syncOut = true → s.clk.syncOutAt + s.pn 0x74B * 1000 ≤ s.now →
       Gives .syncOutFall s { s with clk := { s.clk with syncOut := false } }) ∧
     (s.pn 0x74A = 0 ∨ s.clk.syncOut = true → Gives .syncOutRise s s) ∧ (s.clk.syncOut = false → Gives .syncOutFall s s)) ∧
  (∀ (s : State), s.pwr.net = true →
     (∀ f : SyncMsg, s.net.link f.port = true → (s.gptpMode = 2 ∨ (s.gptpMode = 3 ∧ s.masterBetter f.priority1 = true)) →
       Does (.gptpSync f) s (fun t => ∃ w : State, t = w.autoRun ∧
         w = { s with clk := w.clk, params := w.params, freeCtr := w.freeCtr, net := { s.net with gptp := w.net.gptp } } ∧
         w.net.gptp = { s.net.gptp with state := w.net.gptp.state, offset := f.offset, gm := f.gm, gmPrio := f.priority1,
                                        relay := [1 - f.port] } ∧
         w.net.gptp.state = (if w.clk.state = 2 then 2 else 3))) ∧
     (∀ f : SyncMsg, s.net.link f.port = false ∨ s.gptpMode = 1 ∨ (s.gptpMode = 3 ∧ s.masterBetter f.priority1 = false) →
       Gives (.gptpSync f) s s) ∧
     (∀ port d, s.net.link port = true →
       Gives (.gptpPdelay port (some d)) s { s with net := { s.net with gptp := { s.net.gptp with
         delays := tset s.net.gptp.delays port d } } } ∧
       Gives (.gptpPdelay port none) s { s with net := { s.net with gptp := { s.net.gptp with
         delays := tdel s.net.gptp.delays port } } }) ∧
     (∀ port, s.net.link port = true →
       let g := s.net.gptp
       let sent : Gptp := { g with sent := g.sent + 1, sentAt := tset g.sentAt port s.clk.ticks }
       ((g.state = 2 ∨ g.state = 3) → port ∈ g.relay →
         Gives (.gptpSyncTransmit port) s { s with net := { s.net with gptp := { sent with
           relay := g.relay.filter (fun p => p != port) } } }) ∧
       (g.state ≠ 2 → g.state ≠ 3 → (s.gptpMode = 1 ∨ s.gptpMode = 3) →
         (∀ t0, tfind g.sentAt port = some t0 → s.syncTicks ≤ s.clk.ticks - t0) →
         Gives (.gptpSyncTransmit port) s (State.autoRun { s with net := { s.net with gptp := { sent with state := 1 } } })))) ∧
  (∀ (s : State) (port : Nat), s.pwr.net = false ∨ s.net.link port = false →
     Gives (.gptpSyncTransmit port) s s ∧ ∀ d, Gives (.gptpPdelay port d) s s) ∧
  (∀ (s : State),
     (s.fclkUp = true → s.clk.aclk = true →
       Gives .aclkLoss s (({ s with clk := { s.clk with aclk := false } } : State).raise 2 0 0)) ∧
     (let t := { s with clk := { s.clk with aclk := true, aclkSeen := true } }
      Gives .aclkStart s (if bit s.flt.live 2 = true then t.condOver 2 else t)) ∧
     (s.fclkUp = false ∨ s.clk.aclk = false → Gives .aclkLoss s s) ∧
     (bit s.flt.live 4 = true → Gives .dieTempClear s (s.condOver 4)) ∧ (bit s.flt.live 4 = false → Gives .dieTempClear s s) ∧
     (s.dev.autoWait = true → s.dev.state = .stop → s.dev.role ≠ .standby → s.runNotReady = false →
       s.pn 0x74E * secTicks ≤ s.clk.ticks - s.dev.since →
       Does .runWaitExpiry s (fun t => t.dev.state = .run ∧ t.dev.autoWait = false ∧ t.dev.sinceTime = t.now ∧
         (∀ a, shimAddr a = false → t.feram.read a = s.feram.read a) ∧ t.prog.active = s.prog.active)) ∧
     (s.dev.autoWait = false ∨ s.dev.state ≠ .stop ∨ s.dev.role = .standby → Gives .runWaitExpiry s s))

/-- TMR_MISMATCH (R356-R358, R360-R362, R366, R367): by the vote over the compared signals, in TRIPLE one core that differs alone is
recorded with the first signal that differs, and isolated for its resync, or retired at its fourth difference within 1 s, DUAL by
retirement following; more than one core, or a difference in a pair, leaves no majority; comparators that disagree govern, and set the
pending flag. Where cores agree nothing changes, but for an isolated core whose fourth difference retires it.

CORE_SCRUB_DONE, CORE_JOIN and RESYNC_TIMEOUT (R358, R360): a scrubbed core joins in a pause of at most 1 µs within 40 µs of detection,
counted with the pause kept; a scrub that fails retires it; a resync not complete in 40 µs raises its fault.

MODE_CHANGE, FREE_CORE_RETURN, TMR_CMP_PENDING_CLEAR and INTERRUPT_ENTRY (R361, R364, R365, R367, R375): a request takes effect in a
gap, after a free core has returned its work, and cores that come from SPLIT or a released core join in a pause of at most 1 µs (its
length free: log 56); 60 s without TMR_CMP clear its flag; an NMI entry comes first and is not paced, an interrupt entry serves every
pending source at least 50 µs after the last one. -/
def Obligations.TripleExecutionOutvotesAndResyncs : Prop :=
  (∀ (s : State) (ev : CmpEvent), s.pwr.core = true → s.fclkUp = true → s.tmr.mode ≠ .split → s.wdg.restarting = none →
     let cores := s.tmr.voted
     let odd := oddCores ev cores
     let g := firstOdd ev cores
     (ev.crossOk = false → Does (.tmrMismatch ev) s (fun t =>
       t.tmr.cmpPending = true ∧ (∃ r, t.tmr.last = some r ∧ r.source = 3 ∧ r.place = ev.pc ∧ r.stime = s.now) ∧
       t.tmr.mode = s.tmr.mode ∧ t.sram = s.sram ∧
       (s.tmr.cmpPending = true → s.dev.state ≠ .lockout → ∃ a ∈ t.flt.awaiting, a.lockout = true))) ∧
     (ev.crossOk = true →
       (∀ c, odd = [c] →
         let n := (recentDiffs (tget [] s.tmr.diffs c) s.now).length
         Does (.tmrMismatch ev) s (fun t =>
           (∃ r, t.tmr.last = some r ∧ r.source = 1 ∧ r.syndrome = 2 ^ c + (if g.field = 4 then 8 else 0) ∧ r.field = g.field ∧
             r.place = ev.pc ∧ r.voted = majority g.c0 g.c1 g.c2 % 2 ^ 64 ∧ r.odd = coreCopy g c % 2 ^ 64 ∧ r.stime = s.now) ∧
           tget [] t.tmr.diffs c = recentDiffs (tget [] s.tmr.diffs c) s.now ∧ t.sram = s.sram ∧
           (n < 4 → t.tmr.isolated = some c ∧ t.tmr.isoAt = s.clk.ticks ∧ t.tmr.mode = s.tmr.mode ∧ t.tmr.retired = s.tmr.retired) ∧
           (4 ≤ n → t.tmr.isolated = none ∧ t.tmr.mode = .dual ∧ t.tmr.byRetirement = true ∧
             t.tmr.retired = s.tmr.retired ++ [c]))) ∧
       (2 ≤ odd.length → Does (.tmrMismatch ev) s (fun t =>
         t = s.noMajority ev ∧ t.tmr.mode = s.tmr.mode ∧ t.tmr.isolated = s.tmr.isolated ∧ t.sram = s.sram ∧
         ∃ r, t.tmr.last = some r ∧ r.source = 2 ∧ r.field = g.field ∧ r.place = ev.pc ∧
           (cores.length = 3 → r.voted = majority g.c0 g.c1 g.c2 % 2 ^ 64))) ∧
       (odd = [] →
         (s.tmr.isolated = none → Gives (.tmrMismatch ev) s s) ∧
         (∀ c, s.tmr.isolated = some c →
           let gone : Prop := coreApart ev cores c = true ∧ 4 ≤ (recentDiffs (tget [] s.tmr.diffs c) s.now).length
           (gone → Gives (.tmrMismatch ev) s (s.retireCore c)) ∧ (¬ gone → Gives (.tmrMismatch ev) s s))))) ∧
  (∀ (s : State) (ev : CmpEvent), s.tmr.mode = .split ∨ s.wdg.restarting ≠ none ∨ s.fclkUp = false → Gives (.tmrMismatch ev) s s) ∧
  (∀ (s : State) (c : Nat), s.tmr.isolated = some c → c < 3 → s.pwr.core = true → s.fclkUp = true →
     (s.tmr.scrubbed = false →
       Gives (.coreScrubDone true) s { s with tmr := { s.tmr with scrubbed := true } } ∧
       Does (.coreScrubDone false) s (fun t => t = s.retireCore c ∧ t.tmr.retired = s.tmr.retired ++ [c] ∧ t.tmr.mode = .dual)) ∧
     (∀ pause,
       let took := (s.clk.ticks - s.tmr.isoAt) * 5 / 2 + pause
       (s.tmr.scrubbed = true → pause ≤ 1000 → took ≤ 40000 →
         Does (.coreJoin pause) s (fun t =>
           t = { s with tmr := { s.tmr with isolated := none, scrubbed := false, skewed := false }, params := t.params,
                        nvm := t.nvm, freeCtr := t.freeCtr } ∧
           (s.pn 0x804 + 1 < 2 ^ 32 → t.pn 0x804 = s.pn 0x804 + 1) ∧
           (s.pn (0x805 + c) + 1 < 2 ^ 32 → t.pn (0x805 + c) = s.pn (0x805 + c) + 1) ∧
           t.pn 0x80A = pause ∧ t.pn 0x80B = max (s.pn 0x80B) pause ∧ t.pn 0x80C = max (s.pn 0x80C) took)) ∧
       (s.tmr.scrubbed = false ∨ 1000 < pause ∨ 40000 < took → Gives (.coreJoin pause) s s)) ∧
     (16000 ≤ s.clk.ticks - s.tmr.isoAt → Does .resyncTimeout s (fun t =>
       t = s.mismatch 4 (2 ^ c) 0 0 0 0 13 c ∧ ∃ r, t.tmr.last = some r ∧ r.source = 4)) ∧
     (s.clk.ticks - s.tmr.isoAt < 16000 → Gives .resyncTimeout s s)) ∧
  (∀ (s : State), s.tmr.isolated = none →
     (∀ ok, Gives (.coreScrubDone ok) s s) ∧ (∀ pause, Gives (.coreJoin pause) s s) ∧ Gives .resyncTimeout s s) ∧
  (∀ (s : State),
     let inForce (m : ExecMode) (t : State) : Prop :=
       t = { s with tmr := t.tmr, params := t.params, freeCtr := t.freeCtr } ∧ t.pv 0x801 = (modeCode m : Nat) ∧
       t.tmr.requested = none ∧ (s.tmr.retired = [] → t.tmr.mode = m ∧ t.tmr.freeCore = (m == .dual)) ∧
       (s.tmr.retired ≠ [] → m = .triple → t.tmr.mode = .dual ∧ t.tmr.byRetirement = true) ∧ t.tmr.retired = s.tmr.retired
     (∀ m, s.tmr.requested = some m → s.coresRun = true →
       ((s.dev.state ≠ .run ∧ s.dev.state ≠ .halt) ∨ s.modeGap = true) → (m = .split → s.dev.state = .stop) →
       (s.tmr.isolated ≠ none → Gives .modeChange s s) ∧
       (s.tmr.isolated = none → (s.tmr.freeCore = false ∨ m = .dual) →
         Does .modeChange s (fun t => inForce m t ∧
           (s.tmr.mode = .split → m ≠ .split → t.pn 0x80A ≤ 1000 ∧ t.freeCtr = s.freeCtr + 1) ∧
           (s.tmr.mode ≠ .split ∨ m = .split → t.params = tset s.params 0x801 (modeCode m : Nat) ∧ t.freeCtr = s.freeCtr))) ∧
       (s.tmr.isolated = none → s.tmr.freeCore = true → m ≠ .dual →
         Gives .modeChange s { s with tmr := { s.tmr with returning := some (s.tmr.returning.getD s.clk.ticks) } })) ∧
     (∀ m, s.tmr.requested = some m → (s.dev.state = .run ∨ s.dev.state = .halt) → s.modeGap = false → Gives .modeChange s s) ∧
     (s.tmr.requested = none → Gives .modeChange s s ∧ Gives .freeCoreReturn s s) ∧
     (∀ m t0, s.tmr.requested = some m → s.tmr.returning = some t0 →
       Does .freeCoreReturn s (fun t => inForce m t ∧ t.tmr.returning = none ∧ t.pn 0x80A ≤ 1000)) ∧
     (s.tmr.cmpPending = true → (s.dev.state = .stop ∨ s.dev.state = .run) → 60 * secTicks ≤ s.clk.ticks - s.tmr.cmpFrom →
       Gives .tmrCmpPendingClear s { s with tmr := { s.tmr with cmpPending := false } }) ∧
     (s.tmr.cmpPending = false ∨ s.clk.ticks - s.tmr.cmpFrom < 60 * secTicks → Gives .tmrCmpPendingClear s s) ∧
     (s.coresRun = true → s.flt.nmiDue = true →
       Gives .interruptEntry s { s with flt := { s.flt with nmiDue := false } }) ∧
     (s.coresRun = true → s.flt.nmiDue = false →
       ((s.tmr.irqPending ≠ 0 ∨ s.flt.intDue = true) → (∀ t0, s.tmr.irqLast = some t0 → 20000 ≤ s.clk.ticks - t0) →
         Does .interruptEntry s (fun t => t = { s with
           tmr := { s.tmr with irqLast := some s.clk.ticks, irqPending := 0 },
           flt := { s.flt with intDue := false }, params := t.params, freeCtr := t.freeCtr } ∧
           (s.pn 0x809 + 1 < 2 ^ 64 → t.params = tset s.params 0x809 (s.pn 0x809 + 1 : Nat)))) ∧
       (∀ t0, s.tmr.irqLast = some t0 → s.clk.ticks - t0 < 20000 → Gives .interruptEntry s s)) ∧
     (s.coresRun = false → Gives .interruptEntry s s))

/-! ### Host -/

/-- RDREG and STIME_L_READ (R325, Table HOST-2): as many words as asked for, of consecutive registers modulo 64; a read changes
nothing but the data returned, STIME_H being latched by a read of STIME_L, and GPIO_IN taking one free value for the pins that the unit
does not drive (log 5).

WRREG, HSTAT_CLEAR and IRQ_STAT_CLEAR (R325, R328, Table HOST-2): each writable register takes its word, the words of a longer write
going to consecutive registers in order, bits written as 1 clear in HSTAT and IRQ_STAT, read-only and reserved registers ignore a write,
and a word cut short sets HSTAT.PARTIAL.

Mode changes and codes of the port (R323, R325, R329): QUADON in single mode and QUADOFF in quad mode change the mode; an unknown
code or either in the wrong mode sets HSTAT.CODE; a host-port reset clears its registers, frees the mailboxes it holds in CLAIMED or
DONE, leaves the responses of those at work to be discarded, and lets requests of the network that wait have what is free. With PD_HOST
off the port does nothing. -/
def Obligations.HostRegistersAndPort : Prop :=
  (∀ (s : State), s.hp.netWaiting = [] → s.placeNet = s) ∧
  (∀ (s : State), s.hostUp = false → (∀ i n, Gives (.rdreg i n) s s) ∧ (∀ i ws p, Gives (.wrreg i ws p) s s) ∧ Gives .quadon s s ∧
     Gives .quadoff s s ∧ Gives .hprst s s ∧ Gives .stimeLRead s s ∧ (∀ v, Gives (.hstatClear v) s s ∧ Gives (.irqStatClear v) s s) ∧
     ∀ c, Gives (.hostPortUnknownCode c) s s) ∧
  (∀ (s : State), s.hostUp = true →
     let reads (i v : Nat) : Prop := Gives (.rdreg (BitVec.ofNat 6 i) 1) s { s with hp := { s.hp with rdata := [v] } }
     (reads 0x00 (0x48440000 + partNumber s.dev.part) ∧ reads 0x01 (Config.silicon % 65536) ∧ reads 0x02 s.hp.fwver ∧
      reads 0x03 (b2n s.hp.quad + 2 * b2n s.hp.irqOd) ∧ reads 0x04 (s.dstateLow + 65536 * s.hp.hbeat) ∧
      reads 0x05 s.hp.hstat ∧ reads 0x06 s.hp.irqStat ∧ reads 0x07 s.hp.irqEn ∧ reads 0x09 s.dbPend ∧ reads 0x0A (s.mbxStat 0) ∧
      reads 0x0B (s.mbxStat 8) ∧ reads 0x11 s.hp.stimeH ∧ reads 0x21 s.hp.gpioOut ∧ reads 0x3C s.brace ∧ reads 0x3E s.hp.scratch ∧
      reads 0x3F 0xA55A0FF0 ∧ reads 0x0D (s.hp.grant + (if s.hp.claim = none then 0 else 32)) ∧ reads 0x12 0) ∧
     Does (.rdreg 0x20#6 1) s (fun t => ∃ v, v < 256 ∧
       t.hp.rdata = [lor64 (land64 s.hp.gpioOut (s.pn 0x120)) (clr64 v (s.pn 0x120))]) ∧
     Gives .stimeLRead s { s with hp := { s.hp with stimeH := s.now / 2 ^ 32 % 2 ^ 32, rdata := [s.now % 2 ^ 32] } } ∧
     (∀ (i : BitVec 6) (n : Nat), Does (.rdreg i n) s (fun t =>
       t = { s with hp := { s.hp with rdata := t.hp.rdata, stimeH := t.hp.stimeH }, freeCtr := t.freeCtr } ∧
       t.hp.rdata.length = n)) ∧
     (∀ (i : BitVec 6) (n : Nat) (t u : State), Gives (.rdreg i n) s t → Gives (.rdreg (i + BitVec.ofNat 6 n) 1) t u →
       Does (.rdreg i (n + 1)) s (fun w => w.hp.rdata = t.hp.rdata ++ u.hp.rdata ∧ w.hp.stimeH = u.hp.stimeH))) ∧
  (∀ (s : State) (v : W32), s.hostUp = true →
     let write (i : Nat) (h : HostPort) : Prop := Gives (.wrreg (BitVec.ofNat 6 i) [v] false) s { s with hp := h }
     write 0x3E { s.hp with scratch := v.toNat } ∧ write 0x07 { s.hp with irqEn := v.toNat % 2 ^ 19 } ∧
     write 0x05 { s.hp with hstat := clr64 s.hp.hstat v.toNat } ∧ write 0x06 { s.hp with irqStat := clr64 s.hp.irqStat v.toNat } ∧
     write 0x21 { s.hp with gpioOut := lor64 (clr64 s.hp.gpioOut (s.pn 0x120)) (land64 (v.toNat % 256) (s.pn 0x120)) } ∧
     (bit v.toNat 2 = false → write 0x03 { s.hp with irqOd := bit v.toNat 1 }) ∧
     (bit v.toNat 2 = true → ∀ t, Gives .hprst { s with hp := { s.hp with irqOd := bit v.toNat 1 } } t →
       Gives (.wrreg 0x03#6 [v] false) s t) ∧
     (∀ t, Gives (.dbSet (v.setWidth 16)) s t → v.toNat < 65536 → Gives (.wrreg 0x08#6 [v] false) s t) ∧
     (∀ t, Gives (.mbxClaim (v.setWidth 5)) s t → v.toNat < 32 → Gives (.wrreg 0x0C#6 [v] false) s t) ∧
     (∀ t, Gives (.mbxRelease (v.setWidth 16)) s t → v.toNat < 65536 → Gives (.wrreg 0x0E#6 [v] false) s t) ∧
     (∀ i ∈ [0x00, 0x01, 0x02, 0x04, 0x09, 0x0A, 0x0B, 0x0D, 0x10, 0x11, 0x20, 0x3C, 0x3F, 0x12, 0x30], write i s.hp) ∧
     Gives (.hstatClear v) s { s with hp := { s.hp with hstat := clr64 s.hp.hstat v.toNat } } ∧
     Gives (.irqStatClear v) s { s with hp := { s.hp with irqStat := clr64 s.hp.irqStat v.toNat } } ∧
     (∀ (i : BitVec 6), Gives (.wrreg i [] false) s s ∧ Does (.wrreg i [] true) s (fun t =>
       t = { s with hp := { s.hp with hstat := setBit s.hp.hstat 1, irqStat := t.hp.irqStat }, params := t.params,
                    freeCtr := t.freeCtr } ∧
       (s.hp.hstat = 0 → bit t.hp.irqStat 18 = true))) ∧
     (∀ (i : BitVec 6) (ws : List W32) (part : Bool) (t u : State), Gives (.wrreg i [v] false) s t →
       Gives (.wrreg (i + 1#6) ws part) t u → Gives (.wrreg i (v :: ws) part) s u)) ∧
  (∀ (s : State), s.hostUp = true →
     let coded (t : State) : Prop :=
       t = { s with hp := { s.hp with hstat := setBit s.hp.hstat 0, irqStat := t.hp.irqStat }, params := t.params,
                    freeCtr := t.freeCtr }
     (s.hp.quad = false → Gives .quadon s { s with hp := { s.hp with quad := true } } ∧ Does .quadoff s coded) ∧
     (s.hp.quad = true → Gives .quadoff s { s with hp := { s.hp with quad := false } } ∧ Does .quadon s coded) ∧
     (∀ code : Byte, code ∉ [0x05#8, 0x06#8, 0x0B#8, 0x0C#8, 0x38#8, 0xF5#8] → Does (.hostPortUnknownCode code) s coded) ∧
     (∀ code : Byte, code ∈ [0x05#8, 0x06#8, 0x0B#8, 0x0C#8, 0x38#8, 0xF5#8] → Gives (.hostPortUnknownCode code) s s) ∧
     Does .hprst s (fun t => ∃ u : State, t = u.placeNet ∧
       u = { s with hp := { s.hp with quad := false, hstat := 0, irqStat := 0, claim := none, grant := 16, mbx := u.hp.mbx } } ∧
       ∀ m, m < 16 →
         (s.hostOwns m = false → u.mailbox m = s.mailbox m) ∧
         (s.hostOwns m = true → ((s.mailbox m).state = .claimed ∨ (s.mailbox m).state = .done) → (u.mailbox m).state = .free) ∧
         (s.hostOwns m = true → ((s.mailbox m).state = .rung ∨ (s.mailbox m).state = .busy) →
           u.mailbox m = { s.mailbox m with discard := true })))

/-- RDMBX and WRMBX (R22, R325): an owned mailbox answers its bytes and takes bytes in CLAIMED or DONE, no byte outside changing; reads
of any other give zeros with HSTAT.NOTOWN, and so does a write, one of a mailbox at work setting HSTAT.STATE. A word with one bit in
error reads right; one with two raises SRAM_UE, and what is shifted out for it is free (log 5).

DB_SET, MBX_CLAIM, MBX_CLAIM_RESOLVE, MBX_RELEASE with and without KEEP (R332 to R334): a ring of a mailbox held in CLAIMED makes it
RUNG and queues it, any other sets HSTAT.RING; a claim waits for the arbiter, which grants a free mailbox while the host may hold more,
else NONE; a release frees a mailbox in CLAIMED or DONE, and KEEP returns one in DONE to CLAIMED; what is free then serves a request of
the network that waits.

NETWORK_REQUEST_MAILBOX (R330): a request over an open connection takes the lowest free mailbox, RUNG for its port, or waits; one over no
open connection is none. -/
def Obligations.MailboxesAreClaimedAndMoved : Prop :=
  (∀ (s : State) (m : BitVec 4) (off : BitVec 12), s.hostUp = true →
     let erred (b : Nat) (t : State) : Prop :=
       t = { s with hp := { s.hp with hstat := setBit s.hp.hstat b, irqStat := t.hp.irqStat, rdata := t.hp.rdata },
                    params := t.params, freeCtr := t.freeCtr } ∧ (s.hp.hstat = 0 → bit t.hp.irqStat 18 = true)
     (s.hostOwns m.toNat = true →
       (∀ n flips,
         let data := (List.range n).map (fun i => (s.sram.read (mbxAddr m.toNat + (off.toNat + i) % 4096)).toNat)
         ((∀ f ∈ flips, f = 0) → Gives (.rdmbx m off n flips) s { s with hp := { s.hp with rdata := data } }) ∧
         ((∀ f ∈ flips, f < 2) → Does (.rdmbx m off n flips) s (fun t => t.hp.rdata = data ∧ t.sram = s.sram)) ∧
         ((∃ f ∈ flips.take (ceilDiv (off.toNat % 8 + n) 8), 2 ≤ f) → Does (.rdmbx m off n flips) s (fun t =>
           t.hp.rdata.length = n ∧ bit t.flt.sticky 5 = true ∧ t.sram = s.sram))) ∧
       (∀ bytes : List Byte,
         (((s.mailbox m.toNat).state = .claimed ∨ (s.mailbox m.toNat).state = .done) →
           Does (.wrmbx m off bytes) s (fun t =>
             t = { s with sram := t.sram } ∧
             (∀ a, (a < mbxAddr m.toNat ∨ mbxAddr m.toNat + 4096 ≤ a) → t.sram.read a = s.sram.read a) ∧
             (bytes.length ≤ 4096 → Memory.wf s.sram = true → ∀ i, i < bytes.length →
               t.sram.read (mbxAddr m.toNat + (off.toNat + i) % 4096) = bytes.getD i 0#8) ∧
             (off.toNat + bytes.length ≤ 4096 →
               (∀ a, (a < mbxAddr m.toNat + off.toNat ∨ mbxAddr m.toNat + off.toNat + bytes.length ≤ a) →
                 t.sram.read a = s.sram.read a)))) ∧
         (((s.mailbox m.toNat).state = .rung ∨ (s.mailbox m.toNat).state = .busy) → Does (.wrmbx m off bytes) s (erred 3)))) ∧
     (s.hostOwns m.toNat = false →
       (∀ n flips, Does (.rdmbx m off n flips) s (fun t => erred 2 t ∧ t.hp.rdata = List.replicate n 0)) ∧
       (∀ bytes, Does (.wrmbx m off bytes) s (erred 2)))) ∧
  (∀ (s : State), s.hostUp = false → (∀ m off n f, Gives (.rdmbx m off n f) s s) ∧ (∀ m off bs, Gives (.wrmbx m off bs) s s) ∧
     (∀ v, Gives (.dbSet v) s s ∧ Gives (.mbxRelease v) s s ∧ Gives (.mbxReleaseKeep v) s s) ∧ (∀ v, Gives (.mbxClaim v) s s) ∧
     Gives .mbxClaimResolve s s) ∧
  (∀ (s : State) (m : Nat), s.hostUp = true → m < 16 →
     let one (x : Mailbox) : HostPort := { s.hp with mbx := tset s.hp.mbx m x }
     let erred (b : Nat) (t : State) : Prop := ∃ u : State, t = u.placeNet ∧
       u = { s with hp := { s.hp with hstat := setBit s.hp.hstat b, irqStat := u.hp.irqStat }, params := u.params, freeCtr := u.freeCtr }
     (s.hostOwns m = true → (s.mailbox m).state = .claimed →
       Gives (.dbSet (BitVec.ofNat 16 (2 ^ m))) s { s with
         hp := { one { s.mailbox m with state := .rung } with rings := s.hp.rings ++ [m] } }) ∧
     (s.hostOwns m = false ∨ (s.mailbox m).state ≠ .claimed → Does (.dbSet (BitVec.ofNat 16 (2 ^ m))) s (fun t =>
       t = { s with hp := { s.hp with hstat := setBit s.hp.hstat 4, irqStat := t.hp.irqStat }, params := t.params,
                    freeCtr := t.freeCtr })) ∧
     (∀ v : BitVec 5, Gives (.mbxClaim v) s { s with hp := { s.hp with
       claim := some (if bit v.toNat 4 = true then 16 else v.toNat % 16) } }) ∧
     ((s.hp.claim = some 16 ∧ s.freeMailbox = some m) ∨ (s.hp.claim = some m ∧ (s.mailbox m).state = .free) →
       s.hostHeld < s.pn 0x114 →
       Gives .mbxClaimResolve s { s with hp := {
         one { s.mailbox m with state := .claimed, owner := 1, conn := 0, discard := false, req := none, resp := none } with
         claim := none, grant := m } }) ∧
     ((s.hp.claim = some m ∧ (s.mailbox m).state ≠ .free) ∨ (s.hp.claim = some 16 ∧ s.freeMailbox = none) ∨
         (s.hp.claim ≠ none ∧ s.pn 0x114 ≤ s.hostHeld) →
       Gives .mbxClaimResolve s { s with hp := { s.hp with claim := none, grant := 16 } }) ∧
     (s.hp.claim = none → Gives .mbxClaimResolve s s) ∧
     (let freed : State := { s with hp := one { Mailbox.init with
         lastSession := (s.mailbox m).lastSession, lastSeq := (s.mailbox m).lastSeq } }
      (s.hostOwns m = true → ((s.mailbox m).state = .claimed ∨ (s.mailbox m).state = .done) →
        Gives (.mbxRelease (BitVec.ofNat 16 (2 ^ m))) s freed.placeNet) ∧
      (s.hostOwns m = true → (s.mailbox m).state = .claimed → Gives (.mbxReleaseKeep (BitVec.ofNat 16 (2 ^ m))) s freed.placeNet)) ∧
     (s.hostOwns m = true → (s.mailbox m).state = .done →
       Gives (.mbxReleaseKeep (BitVec.ofNat 16 (2 ^ m))) s (State.placeNet { s with
         hp := one { s.mailbox m with state := .claimed, req := none, resp := none } })) ∧
     (s.hostOwns m = false → Does (.mbxRelease (BitVec.ofNat 16 (2 ^ m))) s (erred 2) ∧
       Does (.mbxReleaseKeep (BitVec.ofNat 16 (2 ^ m))) s (erred 2)) ∧
     (s.hostOwns m = true → ((s.mailbox m).state = .rung ∨ (s.mailbox m).state = .busy) →
       Does (.mbxRelease (BitVec.ofNat 16 (2 ^ m))) s (erred 5) ∧ Does (.mbxReleaseKeep (BitVec.ofNat 16 (2 ^ m))) s (erred 5))) ∧
  (∀ (s : State) (f : NetFrame),
     (s.serves = true → (f.requester = 2 ∨ f.requester = 3) → tfind s.sec.tls f.conn = some (f.requester - 2) →
       Gives (.networkRequestMailbox f) s (State.placeNet { s with hp := { s.hp with
         netWaiting := s.hp.netWaiting ++ [NetRequest.mk f.requester f.conn f.bytes] } }) ∧
       (s.hp.netWaiting = [] →
         (∀ m, s.freeMailbox = some m → Does (.networkRequestMailbox f) s (fun t =>
           t = { s with sram := s.sram.writeL (mbxAddr m) (f.bytes.take 4096), hp := { s.hp with
             mbx := t.hp.mbx, rings := s.hp.rings ++ [m] } } ∧
           (t.mailbox m).state = .rung ∧ (t.mailbox m).owner = f.requester ∧ (t.mailbox m).conn = f.conn ∧
           ∀ k, k ≠ m → t.mailbox k = s.mailbox k)) ∧
         (s.freeMailbox = none → Gives (.networkRequestMailbox f) s { s with hp := { s.hp with
           netWaiting := [NetRequest.mk f.requester f.conn f.bytes] } }))) ∧
     (s.serves = false ∨ tfind s.sec.tls f.conn ≠ some (f.requester - 2) → Gives (.networkRequestMailbox f) s s))

/-- MAILBOX_TAKE (R77, R333, R338 to R341): firmware takes the mailbox that rang first when context 0 has the cores, or a released core
does its work. A clear request of session 0 that passes the checks runs; one of an open session runs when it is the session's next and its
tag verifies, waits when an earlier one is missing or at work, is answered as before when it repeats one on record, and completes with 5
otherwise; a frame that is not well-formed, an unknown opcode, an unknown session and a tag that fails complete with 1, 2, 3 and 4, and
what the device state, the role or the rights do not allow with 6, 7 or 8.

MAILBOX_DONE (R329, R334, R337, R342, R416): the response frame stands in the mailbox; a host mailbox is DONE with its IRQ_STAT bit set,
and one of the network, or whose response is to be discarded, is FREE; the answer to an OPEN opens its session, and a closing one ends.
Then a request that waited may go on. -/
def Obligations.FirmwareServesRequests : Prop :=
  (∀ (s : State) (m : Nat) (rest : List Nat) (tagOk : Bool) (plain : List Byte), s.hp.rings = m :: rest → m < 16 →
     s.serves = true → (s.dispatch.sched.cores = some 0 ∨ s.tmr.freeCore = true) →
     let h := s.readHdr m
     let x := s.mailbox m
     let raw := s.sram.readN (mbxAddr m + 16) h.len
     let payload := if h.flags = 4 then raw else (plain ++ List.replicate h.len 0#8).take h.len
     let r : Request := { opcode := h.op, session := h.session, seq := h.seq, payload := payload, requester := x.owner }
     let runs (t : State) : Prop :=
       t = { s with hp := t.hp, sched := t.sched, ctxs := t.ctxs, params := t.params, freeCtr := t.freeCtr } ∧
       t.hp.rings = rest ∧ (t.mailbox m).state = .busy ∧ (t.mailbox m).req = some r ∧ (t.mailbox m).resp = none ∧
       (t.mailbox m).waitFrom = none
     let ends (completion : Nat) (t : State) : Prop :=
       t = { s with hp := t.hp, sched := t.sched, ctxs := t.ctxs, params := t.params, freeCtr := t.freeCtr } ∧
       t.hp.rings = rest ∧ (t.mailbox m).state = .busy ∧
       ∃ p, (t.mailbox m).resp = some p ∧ p.completion = completion ∧ p.clear = true ∧ p.data = []
     let answered (t : State) (ok : Response → Prop) : Prop :=
       t = { s with hp := t.hp, sched := t.sched, ctxs := t.ctxs, params := t.params, freeCtr := t.freeCtr } ∧
       t.hp.rings = rest ∧ (t.mailbox m).state = .busy ∧ ∃ p, (t.mailbox m).resp = some p ∧ ok p
     let clearOk : Prop := h.frameOk = true ∧ h.session = 0 ∧ h.op ∈ [0x01, 0x02, 0x10] ∧ h.flags = 4 ∧
       ∀ b ∈ s.sram.readN (mbxAddr m + 16 + h.len) 16, b = 0#8
     let known : Prop := h.frameOk = true ∧ opKnown h.op = true ∧ h.session ≠ 0 ∧ h.op ≠ 0x10 ∧
       s.findSession h.session x.owner x.conn ≠ none
     let k := h.session % 16
     (clearOk →
       (s.lateChecks r = 0 → Does (.mailboxTake tagOk plain) s runs) ∧
       (s.lateChecks r ≠ 0 → Does (.mailboxTake tagOk plain) s (fun t => answered t (fun p => p.completion = s.lateChecks r)))) ∧
     (h.frameOk = true → h.session ≠ 0 → h.op = 0x10 →
       (s.provisional h.session x.owner x.conn ≠ none → h.flags = 0 → tagOk = true → s.lateChecks r = 0 →
         Does (.mailboxTake tagOk plain) s runs) ∧
       (s.provisional h.session x.owner x.conn = none → Does (.mailboxTake tagOk plain) s (ends 3))) ∧
     (known → h.flags = 0 → tagOk = true → (s.session k).next < 2 ^ 32 →
       (h.seq = (s.session k).next → s.sessionBusy h.session m = false →
         (s.lateChecks r = 0 → Does (.mailboxTake tagOk plain) s (fun t => runs t ∧ (t.session k).next = h.seq + 1)) ∧
         (s.lateChecks r ≠ 0 → Does (.mailboxTake tagOk plain) s (fun t =>
           answered t (fun p => p.completion = s.lateChecks r) ∧ (t.session k).next = h.seq + 1))) ∧
       (((s.session k).next < h.seq ∨ (h.seq = (s.session k).next ∧ s.sessionBusy h.session m = true)) →
         Does (.mailboxTake tagOk plain) s (fun t => t.hp.rings = rest ∧ (t.mailbox m).state = .busy ∧ (t.mailbox m).resp = none ∧
           (t.mailbox m).waitFrom = some s.clk.ticks ∧ (t.session k).next = (s.session k).next)) ∧
       (h.seq < (s.session k).next →
         (∀ e, (s.session k).next ≤ h.seq + 16 → (s.session k).history.find? (fun e => e.seq == h.seq) = some e →
           Does (.mailboxTake tagOk plain) s (fun t => answered t (fun p => p.rep = true ∧ p.completion = e.completion ∧
             p.status = e.status ∧ p.reply = e.replies ∧ p.data = []))) ∧
         ((h.seq + 16 < (s.session k).next ∨ ∀ e ∈ (s.session k).history, e.seq ≠ h.seq) →
           Does (.mailboxTake tagOk plain) s (fun t => answered t (fun p => p.completion = 5))))) ∧
     (known → (h.flags ≠ 0 ∨ tagOk = false) → (s.session k).authFails + 1 < 8 →
       Does (.mailboxTake tagOk plain) s (fun t => ends 4 t ∧ (t.session k).authFails = (s.session k).authFails + 1)) ∧
     (h.frameOk = false → Does (.mailboxTake tagOk plain) s (ends 1)) ∧
     (h.frameOk = true → opKnown h.op = false → Does (.mailboxTake tagOk plain) s (ends 2)) ∧
     (h.frameOk = true → opKnown h.op = true → h.session = 0 → h.op ∉ [0x01, 0x02, 0x10] →
       Does (.mailboxTake tagOk plain) s (ends 3)) ∧
     (h.frameOk = true → opKnown h.op = true → h.session ≠ 0 → h.op ≠ 0x10 → s.findSession h.session x.owner x.conn = none →
       Does (.mailboxTake tagOk plain) s (ends 3))) ∧
  (∀ (s : State) (tagOk : Bool) (plain : List Byte), s.hp.rings = [] ∨ s.serves = false → Gives (.mailboxTake tagOk plain) s s) ∧
  (∀ (s : State) (m : BitVec 4) (r : Request) (p : Response), (s.mailbox m.toNat).req = some r →
     (s.mailbox m.toNat).resp = some p → (s.mailbox m.toNat).state = .busy → s.serves = true →
     let k := r.session % 16
     let host : Prop := (s.mailbox m.toNat).owner = 1 ∧ (s.mailbox m.toNat).discard = false
     Does (.mailboxDone m) s (fun t => ∃ u : State,
       t = (State.placeNet (u.wakeSession r.session)).dispatch.mirror ∧
       u.sram = s.sram.writeL (mbxAddr m.toNat) (s.responseFrame r p) ∧ u.feram = s.feram ∧
       (host → (u.mailbox m.toNat).state = .done ∧ bit u.hp.irqStat m.toNat = true) ∧
       (¬ host → (u.mailbox m.toNat).state = .free) ∧
       (∀ v, r.opcode = 0x10 → r.session ≠ 0 → s.sec.prov.find? (fun v => v.id == r.session) = some v → p.completion = 0 →
         (u.session v.slot).isOpen = true ∧ tfind u.sec.keys v.slot = some v.key) ∧
       ((r.opcode ≠ 0x10 ∨ r.session = 0) →
         ((s.session k).closing = true → (s.session k).id = r.session → (s.session k).isOpen = true → (u.session k).isOpen = false) ∧
         ((s.session k).closing = false → u = { s with sram := u.sram, hp := u.hp, params := u.params, freeCtr := u.freeCtr } ∧
           (s.pn 0x115 + 1 < 2 ^ 64 → u.pn 0x115 = s.pn 0x115 + 1))))) ∧
  (∀ (s : State) (m : BitVec 4),
     let idle (op : Nat) : Prop := s.request m.toNat op = none
     (((s.mailbox m.toNat).resp = none ∨ (s.mailbox m.toNat).state ≠ .busy ∨ s.serves = false) → Gives (.mailboxDone m) s s) ∧
     (idle 0x01 → Gives (.cup m) s s) ∧ (idle 0x02 → Gives (.ident m) s s) ∧
     (idle 0x10 → Gives (.openLeg1 m) s s ∧ ∀ b, Gives (.openLeg2 m b) s s) ∧ (idle 0x11 → Gives (.close m) s s) ∧
     (idle 0x20 → Gives (.get m) s s) ∧ (idle 0x21 → Gives (.set m) s s) ∧ (idle 0x22 → Gives (.getblk m) s s) ∧
     (idle 0x40 → Gives (.imgrd m) s s) ∧ (idle 0x41 → Gives (.force m) s s) ∧ (idle 0x50 → Gives (.prgBegin m) s s) ∧
     (idle 0x51 → Gives (.prgData m) s s) ∧ (idle 0x52 → ∀ v, Gives (.prgCommit m v) s s) ∧
     (idle 0x58 → Gives (.editBegin m) s s) ∧ (idle 0x59 → ∀ v, Gives (.editApply m v) s s) ∧
     (idle 0x60 → Gives (.logrd m) s s) ∧ (idle 0xA0 → Gives (.fltAck m) s s))

/-- SEQUENCE_WAIT_TIMEOUT, SESSION_IDLE_TIMEOUT and TLS_CONNECTION_CLOSE (R340, R342): a request whose predecessors stay out for 100 ms
completes with BADSEQ; a session idle for its time, with no request at work, ends, its keys and challenge gone; so does every session of
a connection that closes.

TLS_HANDSHAKE and TLS_KEY_UPDATE (R418): a hello that offers what R418 names makes a connection while one may be had; any other is
refused and counted, and one without a key share is asked again; a key update moves the connection's keys on.

OPEN in two legs, its time limit, CLOSE and IDENT (R339, R342, R415, R416, Table HOST-10): a leg that fails a check is counted and refused
with the status of its check, and without a free slot the first leg completes with 10. -/
def Obligations.SessionsOpenAndEnd : Prop :=
  (∀ (s : State),
     (∀ (m : BitVec 4) r t0, (s.mailbox m.toNat).req = some r → (s.mailbox m.toNat).waitFrom = some t0 →
       (s.mailbox m.toNat).state = .busy → (s.session (r.session % 16)).next < r.seq → 40000000 ≤ s.clk.ticks - t0 →
       Does (.sequenceWaitTimeout m) s (fun t =>
         t = { s with hp := t.hp, sched := t.sched, ctxs := t.ctxs, params := t.params, freeCtr := t.freeCtr } ∧
         (t.mailbox m.toNat).waitFrom = none ∧ ∃ p, (t.mailbox m.toNat).resp = some p ∧ p.completion = 5)) ∧
     (∀ slot : BitVec 4, (s.session slot.toNat).isOpen = true →
       (s.session slot.toNat).idle * secTicks ≤ s.clk.ticks - (s.session slot.toNat).lastReq →
       s.sessionBusy (s.session slot.toNat).id 16 = false →
       Does (.sessionIdleTimeout slot) s (fun t => (t.session slot.toNat).isOpen = false ∧ t.sram = s.sram ∧
         (∀ e ∈ t.sec.keys, e.1 ≠ slot.toNat) ∧ (∀ e ∈ t.sec.challenges, e.slot ≠ slot.toNat))) ∧
     (∀ conn, tfind s.sec.tls conn ≠ none → Does (.tlsConnectionClose conn) s (fun t =>
       t.sec.tls = tdel s.sec.tls conn ∧ t.sram = s.sram ∧ (∀ q ∈ t.hp.netWaiting, q.conn ≠ conn) ∧
       ∀ k, k < 16 → (s.session k).requester ≠ 1 → (s.session k).conn = conn → (t.session k).isOpen = false))) ∧
  (∀ (s : State),
     (∀ h : ClientHello, s.tlsUp h.port = true →
       let good : Prop := h.tls13 = true ∧ h.suite = true ∧ h.group = true ∧ h.sigScheme = true ∧ h.alpn = true ∧
         s.sec.tls.length < s.pn 0xB12
       (good → h.keyShare = true → Gives (.tlsHandshake h) s { s with sec := { s.sec with
         tls := tset s.sec.tls s.sec.tlsNext h.port, tlsNext := s.sec.tlsNext + 1 } }) ∧
       (good → h.keyShare = false → Gives (.tlsHandshake h) s s) ∧
       (¬ good → Does (.tlsHandshake h) s (fun t => t = { s with params := t.params, freeCtr := t.freeCtr } ∧
         (s.pn 0xB14 + 1 < 2 ^ 32 → t.params = tset s.params 0xB14 (s.pn 0xB14 + 1 : Nat))))) ∧
     (∀ h : ClientHello, s.tlsUp h.port = false → Gives (.tlsHandshake h) s s) ∧
     (∀ conn, tfind s.sec.tls conn = none → Gives (.tlsConnectionClose conn) s s ∧ ∀ b, Gives (.tlsKeyUpdate conn b) s s) ∧
     (∀ conn byDevice, tfind s.sec.tls conn ≠ none →
       Gives (.tlsKeyUpdate conn byDevice) s { s with sec := { s.sec with
         tlsUpdates := tset s.sec.tlsUpdates conn (tget 0 s.sec.tlsUpdates conn + 1) } })) ∧
  (∀ (s : State) (m : BitVec 4) (r : Request),
     (s.request m.toNat 0x10 = some r → r.session = 0 →
       (leAt r.payload 4 1 ≠ 1 → Gives (.openLeg1 m) s (s.openFail m.toNat 2)) ∧
       (leAt r.payload 4 1 = 1 → leAt r.payload 5 1 ≠ 1 → Gives (.openLeg1 m) s (s.openFail m.toNat 1)) ∧
       (leAt r.payload 4 1 = 1 → leAt r.payload 5 1 = 1 → leAt r.payload 0 1 ≠ pathBit r.requester + 1 →
         Gives (.openLeg1 m) s (s.openFail m.toNat 4)) ∧
       (leAt r.payload 4 1 = 1 → leAt r.payload 5 1 = 1 → leAt r.payload 0 1 = pathBit r.requester + 1 → s.freeSlot = none →
         Does (.openLeg1 m) s (fun t => t = { s with hp := t.hp, params := t.params, freeCtr := t.freeCtr } ∧
           t.Answered m.toNat 0x0A 0 0 []))) ∧
     (s.request m.toNat 0x10 = some r → r.session = 0 → leAt r.payload 4 1 = 1 → leAt r.payload 5 1 = 1 →
       leAt r.payload 0 1 = pathBit r.requester + 1 → ∀ slot, s.freeSlot = some slot →
       Does (.openLeg1 m) s (fun t =>
         t = { s with hp := t.hp, sec := { s.sec with drawn := s.sec.drawn + 2, prov := t.sec.prov } } ∧
         ∃ p data, t.sec.prov = s.sec.prov ++ [p] ∧ p.slot = slot ∧ p.requester = r.requester ∧ p.since = s.clk.ticks ∧
           p.id = ((s.session slot).nextId slot).1 ∧
           t.Answered m.toNat 0 0 0 (leBytes 2 p.id ++ leBytes 2 (s.grantIdle (leAt r.payload 2 2)) ++ data))) ∧
     (s.request m.toNat 0x10 = some r → r.session ≠ 0 → ∀ (sigOk : Bool) (p : Provisional) (g : Nat),
       s.sec.prov.find? (fun v => v.id == r.session) = some p → leAt r.payload 4 1 = 2 →
       s.elapsed p.since ≤ 5 * secTicks →
       let kind := leAt r.payload 5 1
       let keyId := leAt r.payload 8 16
       let index := leAt r.payload 6 2
       let listed : Prop := kind = 2 → index < policyCount s.sec.policy ∧ (policyEntry s.sec.policy index).keyId = keyId
       ((¬ listed ∨ s.sec.grant kind keyId r.requester = .none) → Gives (.openLeg2 m sigOk) s (s.openFail m.toNat 3)) ∧
       (listed → s.sec.grant kind keyId r.requester = .noPath → Gives (.openLeg2 m sigOk) s (s.openFail m.toNat 4)) ∧
       (listed → s.sec.grant kind keyId r.requester = .rights g →
        (if kind = 0 then (r.payload.drop 24).all (fun b => b == 0#8) else sigOk) = false →
        Gives (.openLeg2 m sigOk) s (s.openFail m.toNat 5)) ∧
       (listed → s.sec.grant kind keyId r.requester = .rights g →
       (if kind = 0 then (r.payload.drop 24).all (fun b => b == 0#8) else sigOk) = true →
       Does (.openLeg2 m sigOk) s (fun t =>
         t = { s with hp := t.hp } ∧ (t.session p.slot).id = p.id ∧ (t.session p.slot).rights = s.limitRights g ∧
         (t.session p.slot).requester = r.requester ∧ (t.session p.slot).next = Session.init.next ∧
         t.Answered m.toNat 0 0 0 (leBytes 2 p.id ++ leBytes 2 (s.grantIdle (leAt r.payload 2 2)) ++ leBytes 1 2 ++ leBytes 1 0 ++
           leBytes 2 0 ++ leBytes 4 (s.limitRights g))))) ∧
     (s.request m.toNat 0x10 = some r → r.session ≠ 0 → ∀ sigOk : Bool,
       (s.sec.prov.find? (fun v => v.id == r.session) = none → Gives (.openLeg2 m sigOk) s (s.openFail m.toNat 2)) ∧
       ∀ p, s.sec.prov.find? (fun v => v.id == r.session) = some p →
         (leAt r.payload 4 1 ≠ 2 → Gives (.openLeg2 m sigOk) s (s.openFail m.toNat 2)) ∧
         (leAt r.payload 4 1 = 2 → 5 * secTicks < s.elapsed p.since → Gives (.openLeg2 m sigOk) s (s.openFail m.toNat 6))) ∧
     (∀ (slot : BitVec 4) (p : Provisional), s.sec.prov.find? (fun q => q.slot == slot.toNat) = some p →
       (5 * secTicks ≤ s.elapsed p.since → Does (.openTimeout slot) s (fun t =>
         t = { s with params := t.params, freeCtr := t.freeCtr, sec := { s.sec with prov := s.sec.prov.filter (fun q => q != p) } } ∧
         (s.pn 0xB15 + 1 < 2 ^ 32 → t.params = tset s.params 0xB15 (s.pn 0xB15 + 1 : Nat)))) ∧
       (s.elapsed p.since < 5 * secTicks → Gives (.openTimeout slot) s s)) ∧
     (s.request m.toNat 0x11 = some r → Does (.close m) s (fun t => t = { s with hp := t.hp } ∧
       (t.session (r.session % 16)).closing = true ∧ t.Answered m.toNat 0 0 0 [])) ∧
     (s.request m.toNat 0x02 = some r → Does (.ident m) s (fun t => t = { s with hp := t.hp } ∧
       ∃ rest, t.Answered m.toNat 0 0 0 (leBytes 4 0x4844 ++ leBytes 2 (partNumber s.dev.part) ++ leBytes 1 (partBays s.dev.part) ++
         leBytes 1 (partChannels s.dev.part) ++ rest) ∧ rest.length = 140)))

/-- GET, GETBLK and CUP (R346, R348, R353): a GET of well-formed length answers its count and one entry per pid, and of one plain value
its pid, no status, its length and its bytes; a count outside 1 to 64 is refused with 5 and another length with 4; GETBLK answers the
block's entries that are asked for and fit, and refuses a pid that cannot be read with its status and one that is no block with 4; CUP
answers the full report to a session with MONITOR and the redacted one else. None changes anything but its mailbox and history. -/
def Obligations.ParameterReads : Prop :=
  ∀ (s : State) (m : BitVec 4) (r : Request),
    let answers (data : List Byte) (t : State) : Prop := t = { s with hp := t.hp } ∧ t.Answered m.toNat 0 0 0 data
    let refused (status : Nat) (t : State) : Prop := t = { s with hp := t.hp } ∧ t.Answered m.toNat 9 status 0 []
    (s.request m.toNat 0x20 = some r →
      (∀ n, 1 ≤ n → n ≤ 64 → leAt r.payload 0 2 = n → r.payload.length = 4 + (2 * n + 3) / 4 * 4 →
        Does (.get m) s (fun t => t = { s with hp := t.hp, freeCtr := t.freeCtr } ∧
          let e := s.getEntries r.session ((List.range n).map (fun i => leAt r.payload (4 + 2 * i) 2))
          t.Answered m.toNat 0 e.2.1 0 (leBytes 2 n ++ leBytes 2 0 ++ e.1))) ∧
      ((leAt r.payload 0 2 < 1 ∨ 64 < leAt r.payload 0 2) → Does (.get m) s (refused 5)) ∧
      (∀ n, 1 ≤ n → n ≤ 64 → leAt r.payload 0 2 = n → r.payload.length ≠ 4 + (2 * n + 3) / 4 * 4 → Does (.get m) s (refused 4)) ∧
      (r.payload = leBytes 2 1 ++ leBytes 2 0 ++ leBytes 2 0x745 ++ leBytes 2 0 → tfind s.bootParams 0x745 = none → 0 ≤ s.pv 0x745 →
        Does (.get m) s (answers (leBytes 2 1 ++ leBytes 2 0 ++
          (leBytes 2 0x745 ++ leBytes 1 0 ++ leBytes 1 0 ++ leBytes 2 4 ++ leBytes 2 0 ++ leBytes 4 (s.pn 0x745)))))) ∧
    (s.request m.toNat 0x22 = some r → ∀ pid, leAt r.payload 0 2 = pid →
      (s.readStatus pid ≠ 0 → Does (.getblk m) s (refused (s.readStatus pid))) ∧
      (s.readStatus pid = 0 → (∀ q, s.pidRow pid = some q → q.ty ≠ 9) → Does (.getblk m) s (refused 4)) ∧
      (s.readStatus pid = 0 → (∃ q, s.pidRow pid = some q ∧ q.ty = 9) →
        let n := (s.blockOf pid).1
        let total := (s.blockOf pid).2.length / n
        let first := leAt r.payload 4 4
        let got := min (total - first) (min (leAt r.payload 8 4) (4040 / n))
        Does (.getblk m) s (answers (leBytes 2 pid ++ leBytes 2 n ++ leBytes 4 first ++ leBytes 4 got ++ leBytes 4 total ++
          ((s.blockOf pid).2.drop (n * first)).take (n * got))))) ∧
    (s.request m.toNat 0x01 = some r →
      (r.session ≠ 0 → s.dev.state ≠ .lockout → bit (s.session (r.session % 16)).rights 0 = true →
        Does (.cup m) s (answers (s.cupReport true))) ∧
      ((r.session = 0 ∨ s.dev.state = .lockout ∨ bit (s.session (r.session % 16)).rights 0 = false) →
        Does (.cup m) s (answers (s.cupReport false))))

/-- SET (R347, R436): a count outside 1 to 32 is refused with 5 and entries of another length with 4; a SET with a bad entry is refused
whole, with the first one, and nothing is applied; else the entries are applied in order, and one that fails at application ends the
SET with its number, those before it in force and a settings copy due for what it keeps. Where the settings keep an entry that is in
force the answer waits for the copy that holds it. An entry of a pid that a requester with a lower ID has set in this cycle is accepted
and stays as that one set it (R352). A SET of time.lock_thr by a session with PARAM puts its value into force. -/
def Obligations.ParameterWrites : Prop :=
  (∀ (s : State) (m : BitVec 4) (r : Request), s.request m.toNat 0x21 = some r →
    m.toNat ∉ s.nvm.setWaiting → m.toNat ∉ s.nvm.setRunMbx →
    let n := leAt r.payload 0 2
    let refused (status : Nat) (t : State) : Prop :=
      t = { s with hp := t.hp } ∧ t.Answered m.toNat 9 status 0 (leBytes 2 0xFFFF ++ leBytes 2 0)
    ((n < 1 ∨ 32 < n) → Does (.set m) s (refused 5)) ∧
    (1 ≤ n → n ≤ 32 → readEntries n (r.payload.drop 4) = none → Does (.set m) s (refused 4))) ∧
  (∀ (s : State) (m : BitVec 4), m.toNat ∈ s.nvm.setWaiting ∨ m.toNat ∈ s.nvm.setRunMbx → Gives (.set m) s s) ∧
  (∀ (s : State) (m : BitVec 4) (r : Request) (n : Nat) (es : List SetEntry), s.request m.toNat 0x21 = some r →
    m.toNat ∉ s.nvm.setWaiting → m.toNat ∉ s.nvm.setRunMbx → leAt r.payload 0 2 = n → 1 ≤ n → n ≤ 32 →
    readEntries n (r.payload.drop 4) = some es →
    let rights := (s.session (r.session % 16)).rights
    let status (e : SetEntry) : Nat × Nat := s.entryStatus (s.preview es) rights es e
    let skip := s.setBefore r.requester
    (∀ i e, es[i]? = some e → (status e).1 ≠ 0 → (∀ j f, j < i → es[j]? = some f → (status f).1 = 0) →
      Does (.set m) s (fun t => t = { s with hp := t.hp } ∧
        t.Answered m.toNat 9 (status e).1 (status e).2 (leBytes 2 i ++ leBytes 2 0))) ∧
    ((∀ e ∈ es, (status e).1 = 0) →
      (∀ t0, s.applyEntries skip es es 0 false = (t0, none) →
        let u := t0.noteSet es r.requester
        ((∃ e ∈ es, u.pidKept e.pid = true ∧ s.pidStages e.pid = false) → Gives (.set m) s (u.awaitCopy m.toNat).dispatch) ∧
        ((∀ e ∈ es, u.pidKept e.pid = false) → Gives (.set m) s (u.ok m.toNat (leBytes 2 0xFFFF ++ leBytes 2 n))) ∧
        ((∃ e ∈ es, u.pidKept e.pid = true) → (∀ e ∈ es, u.pidKept e.pid = true → s.pidStages e.pid = true) →
          Gives (.set m) s (State.ok { u with nvm := { u.nvm with setDirty := true } } m.toNat (leBytes 2 0xFFFF ++ leBytes 2 n)))) ∧
      (∀ t0 i st d, s.applyEntries skip es es 0 false = (t0, some (i, st, d)) →
        let u := t0.noteSet (es.take i) r.requester
        let data := leBytes 2 i ++ leBytes 2 i
        ((∃ e ∈ es.take i, u.pidKept e.pid = true) →
          Gives (.set m) s (State.answer { u with nvm := { u.nvm with setDirty := true } } m.toNat 9 st d data)) ∧
        ((∀ e ∈ es.take i, u.pidKept e.pid = false) → Gives (.set m) s (u.answer m.toNat 9 st d data)))) ∧
    (∀ v, 50 ≤ v → v ≤ 100000 → es = [SetEntry.mk 0x745 (leBytes 4 v)] → bit rights 1 = true →
      let frame (t : State) : Prop :=
        t = { s with params := t.params, nvm := t.nvm, sched := t.sched, ctxs := t.ctxs, freeCtr := t.freeCtr, hp := t.hp } ∧
        t.hp = { s.hp with setTick := t.hp.setTick, setBy := t.hp.setBy } ∧
        t.nvm = { s.nvm with setDirty := true, setWaiting := s.nvm.setWaiting ++ [m.toNat] }
      (0x745 ∉ skip → Does (.set m) s (fun t => frame t ∧ t.pv 0x745 = v)) ∧
      (0x745 ∈ skip → Does (.set m) s (fun t => frame t ∧ t.pv 0x745 = s.pv 0x745))))

/-- STATE with targets STOP, HALT and RUN (R27, R28, R78, R79, R344): an immediate request from RUN enters the state at once, and so
does STOP from HALT; an orderly one from RUN starts a drain, nothing more being released; of two requests that meet, STOP goes before
HALT, an immediate one ends a drain, one to where the drain goes is refused, and a request for RUN is overtaken; RUN is entered from
STOP or HALT when a program is ready, its answer waiting for the first release. In every other state the request is refused.

STATE with targets TEST and RESTART, and the statuses of R344: TEST is entered from STOP without a sub-state and left again; a
restart is answered and owed; a target that Table HOST-10 does not name is refused. Only the state rows of the shim journal may change
in FeRAM, when an update is left. -/
def Obligations.StateRequestsMoveTheUnit : Prop :=
  (∀ (s : State) (m : BitVec 4),
     let same (t : State) : Prop := t.sram = s.sram ∧ (∀ a, shimAddr a = false → t.feram.read a = s.feram.read a) ∧ t.pending = s.pending
     let at_ (c : Instr) (d : DevState) : Prop := Does c s (fun t => same t ∧ t.dev.state = d ∧ t.dev.sinceTime = s.now ∧
       t.Answered m.toNat 0 0 0 (leBytes 1 (devCode d) ++ leBytes 1 (subCode t.subNow) ++ leBytes 2 0 ++ leBytes 8 s.now))
     let refused (c : Instr) (status : Nat) : Prop := Does c s (fun t => t = { s with hp := t.hp } ∧ t.Answered m.toNat 9 status 0 [])
     let drains (t : State) (d : DevState) : Prop :=
       (t.dev.state = .run ∧ t.dev.drain = some d ∧ t.dev.drainMbx = some m.toNat) ∨ t.dev.state = d
     (s.stateRequest m.toNat = some (2, true) → s.dev.state = .run → at_ (.stateStop m) .stop) ∧
     (∀ imm, s.stateRequest m.toNat = some (2, imm) → s.dev.state = .halt → at_ (.stateStop m) .stop) ∧
     (s.stateRequest m.toNat = some (2, false) → s.dev.state = .run → s.dev.drain ≠ some .stop →
       Does (.stateStop m) s (fun t => same t ∧ (∀ c, (t.ctx c).releasing = false) ∧ drains t .stop)) ∧
     (s.stateRequest m.toNat = some (2, false) → s.dev.state = .run → s.dev.drain = some .stop → refused (.stateStop m) 1) ∧
     (∀ imm, s.stateRequest m.toNat = some (2, imm) → s.dev.state ≠ .run → s.dev.state ≠ .halt → refused (.stateStop m) 1) ∧
     (∀ n imm, s.stateRequest m.toNat = some (n, imm) → (n < 2 ∨ 7 < n) → refused (.stateStop m) 1) ∧
     (s.stateRequest m.toNat = some (4, true) → s.dev.state = .run → s.dev.drain ≠ some .stop → at_ (.stateHalt m) .halt) ∧
     (s.stateRequest m.toNat = some (4, false) → s.dev.state = .run → s.dev.drain = none →
       Does (.stateHalt m) s (fun t => same t ∧ (∀ c, (t.ctx c).releasing = false) ∧ drains t .halt)) ∧
     (s.stateRequest m.toNat = some (4, false) → s.dev.state = .run → s.dev.drain = some .halt → refused (.stateHalt m) 1) ∧
     (∀ imm, s.stateRequest m.toNat = some (4, imm) → s.dev.state = .run → s.dev.drain = some .stop →
       Gives (.stateHalt m) s (s.overtaken m.toNat .halt .stop).mirror) ∧
     (∀ imm, s.stateRequest m.toNat = some (4, imm) → s.dev.state ≠ .run → refused (.stateHalt m) 1) ∧
     (∀ imm, s.stateRequest m.toNat = some (3, imm) →
       ((s.dev.state = .stop ∨ s.dev.state = .halt) → s.runNotReady = false → s.sec.debug = 0 →
         Does (.stateRun m) s (fun t => (s.dev.state = .halt → same t) ∧
           (∀ a, shimAddr a = false → t.feram.read a = s.feram.read a) ∧ t.pending = s.pending ∧
           t.dev.state = .run ∧ t.dev.runMbx = some m.toNat ∧ t.dev.sinceTime = t.now ∧ (s.tmr.mode = .split → t.tmr.mode ≠ .split) ∧
           ((s.dev.state = .halt ∨ s.clk.source = 0) → t.now = s.now))) ∧
       ((s.dev.state = .stop ∨ s.dev.state = .halt) → (s.runNotReady = true ∨ s.sec.debug ≠ 0) → refused (.stateRun m) 2) ∧
       (∀ d, s.dev.state = .run → s.dev.drain = some d → Gives (.stateRun m) s (s.overtaken m.toNat .run d)) ∧
       (s.dev.state = .run → s.dev.drain = none → refused (.stateRun m) 1) ∧
       (s.dev.state ≠ .run → s.dev.state ≠ .stop → s.dev.state ≠ .halt → refused (.stateRun m) 1))) ∧
  (∀ (s : State) (m : BitVec 4) (imm : Bool),
     let sub (x : SubState) (t : State) : Prop := t = { s with dev := { s.dev with sub := x }, hp := t.hp }
     let refused (t : State) : Prop := t = { s with hp := t.hp } ∧ t.Answered m.toNat 9 1 0 []
     (s.stateRequest m.toNat = some (5, imm) → s.dev.state = .stop → s.subNow = .none →
       Does (.testEnter m) s (fun t => sub .test t ∧ ∃ data, t.Answered m.toNat 0 0 0 (leBytes 1 3 ++ data))) ∧
     (s.stateRequest m.toNat = some (5, imm) → (s.dev.state ≠ .stop ∨ s.subNow ≠ .none) → Does (.testEnter m) s refused) ∧
     (s.stateRequest m.toNat = some (6, imm) → s.dev.state = .stop → s.subNow = .test →
       Does (.testLeave m) s (fun t => sub .none t ∧ ∃ data, t.Answered m.toNat 0 0 0 (leBytes 1 3 ++ data))) ∧
     (s.stateRequest m.toNat = some (6, imm) → (s.dev.state ≠ .stop ∨ s.subNow ≠ .test) → Does (.testLeave m) s refused) ∧
     (s.stateRequest m.toNat = some (7, imm) →
       Does (.stateRestart m) s (fun t =>
         t = { s with hp := t.hp, flt := { s.flt with
           awaiting := s.flt.awaiting ++ [Awaiting.mk s.flt.seqNewest false 4 (some m.toNat) s.clk.ticks] } } ∧
         ∃ data, t.Answered m.toNat 0 0 0 (leBytes 1 1 ++ data))) ∧
     (s.stateRequest m.toNat = none → Gives (.stateStop m) s s ∧ Gives (.stateHalt m) s s ∧ Gives (.stateRun m) s s ∧
       Gives (.testEnter m) s s ∧ Gives (.testLeave m) s s ∧ Gives (.stateRestart m) s s))

/-- IMGRD and FORCE (R38, R39, R345): IMGRD answers committed values, which forces do not change; FORCE adds, removes or clears entries
of the force list in the order they come, logs, and in PRIMARY forwards the list to the standby. Points outside their area, a count over
one response, a bad operation and a point that may not be forced are refused with 1, forcing while it is disabled with 2, and a list of
more than 256 entries with 3, and a refused FORCE changes no force. -/
def Obligations.ImageAndForceCommands : Prop :=
  ∀ (s : State) (m : BitVec 4) (r : Request),
    let refused (c : Instr) (status : Nat) : Prop := Does c s (fun t => t = { s with hp := t.hp } ∧ t.Answered m.toNat 9 status 0 [])
    (s.request m.toNat 0x40 = some r →
      let pt := leAt r.payload 0 4
      let n := leAt r.payload 4 2
      let fits : Prop := ptArea pt ≤ 7 ∧ ptIndex pt + n ≤ areaLen s.program.dbSize (ptArea pt)
      (fits → areaIsBit (ptArea pt) = false → n ≤ 2016 →
        Does (.imgrd m) s (fun t => t = { s with hp := t.hp } ∧
          t.Answered m.toNat 0 0 0 (leBytes 4 pt ++ leBytes 2 n ++ leBytes 2 0 ++ leBytes 8 s.img.lastPeg ++
            (List.range n).flatMap (fun i => leBytes 2 (s.committed (pt + i)))))) ∧
      (fits → areaIsBit (ptArea pt) = true → n ≤ 32256 →
        Does (.imgrd m) s (fun t => t = { s with hp := t.hp } ∧
          ∃ bs, bs.length = (n + 7) / 8 ∧
            (∀ i, i < n → bit (leNat bs) i = decide (s.committed (pt + i) = 1)) ∧
            t.Answered m.toNat 0 0 0 (leBytes 4 pt ++ leBytes 2 n ++ leBytes 2 0 ++ leBytes 8 s.img.lastPeg ++ bs))) ∧
      ((¬ fits ∨ (if areaIsBit (ptArea pt) then 32256 else 2016) < n) → refused (.imgrd m) 1)) ∧
    (s.request m.toNat 0x41 = some r →
      let op := leAt r.payload 0 1
      let n := leAt r.payload 2 2
      let point (i : Nat) : Nat := leAt r.payload (4 + 8 * i) 4
      let value (i : Nat) : Nat := leAt r.payload (8 + 8 * i) 4 % (if areaIsBit (ptArea (point i)) then 2 else 65536)
      let es := (List.range n).map (fun i => (point i, value i))
      let good : Prop := 1 ≤ op ∧ op ≤ 3 ∧ r.payload.length = 4 + 8 * n ∧ ∀ i, i < n → forceable (point i) = true
      let next : List (Nat × Nat) :=
        if op = 1 then es.foldl (fun (l : List (Nat × Nat)) e => tset l e.1 e.2) s.img.forces
        else if op = 2 then es.foldl (fun (l : List (Nat × Nat)) e => tdel l e.1) s.img.forces else []
      (¬ good → refused (.force m) 1) ∧
      (good → s.pv 0x618 = 0 → refused (.force m) 2) ∧
      (good → s.pv 0x618 ≠ 0 → 256 < next.length → refused (.force m) 3) ∧
      (good → s.pv 0x618 ≠ 0 → next.length ≤ 256 →
        Does (.force m) s (fun t =>
          t = { s with hp := t.hp, nvm := t.nvm, params := t.params, freeCtr := t.freeCtr, img := t.img, stby := t.stby } ∧
          t.img = { s.img with forces := next, forceChanged := t.img.forceChanged } ∧
          (s.dev.role ≠ .primary → t.stby = s.stby) ∧
          (s.dev.role = .primary → t.stby = State.stby (State.scarfSend { s with img := t.img }
            [ctrlFrame 2 (next.flatMap (fun f => leBytes 4 f.1 ++ leBytes 2 f.2 ++ leBytes 2 0))])) ∧
          t.Answered m.toNat 0 0 0 (leBytes 2 next.length ++ leBytes 2 0)))) ∧
    (s.request m.toNat 0x40 = none → Gives (.imgrd m) s s) ∧ (s.request m.toNat 0x41 = none → Gives (.force m) s s)

/-- R434: LOGRD returns up to count records, from the oldest in the ring whose sequence is at or above the first asked, each with the
mark of its verification under R407; none with OK where the first is above the newest; a count outside 1 to 63 is refused with
RANGE. Nothing but the mailbox, the history and, where a record fails to verify, its counter changes. -/
def Obligations.LogRecordsAreReturned : Prop :=
  ∀ (s : State) (m : BitVec 4),
    (s.request m.toNat 0x60 = none → Gives (.logrd m) s s) ∧
    (∀ (r : Request), s.request m.toNat 0x60 = some r →
    let first := leAt r.payload 0 4
    let n := leAt r.payload 4 2
    let recs := (s.nvm.logMarks.filter (fun e => decide (first ≤ e.1.seq))).take n
    ((n < 1 ∨ 63 < n) → Does (.logrd m) s (fun t => t = { s with hp := t.hp } ∧ t.Answered m.toNat 9 1 0 [])) ∧
    (1 ≤ n → n ≤ 63 →
      Does (.logrd m) s (fun t =>
        t = { s with hp := t.hp, params := t.params, freeCtr := t.freeCtr } ∧
        ((∀ e ∈ recs, e.2 = false) → t.params = s.params ∧ t.freeCtr = s.freeCtr) ∧
        ∃ head, head.length = 4 ∧ t.Answered m.toNat 0 0 0 (head ++ leBytes 2 recs.length ++ leBytes 2 0 ++
          recs.flatMap (fun e => e.1.row e.2))) ∧
      ((∀ q ∈ s.nvm.logRing, q.seq < first) → Does (.logrd m) s (fun t =>
        t = { s with hp := t.hp } ∧ ∃ head, head.length = 4 ∧ t.Answered m.toNat 0 0 0 (head ++ leBytes 2 0 ++ leBytes 2 0)))))

/-- STBY_STATUS, STBY_JOIN, STBY_SWITCH and STBY_LEAVE (R161, R174, R176, R180, Table STBY-6), with their refusals: 0x0B for a role or
mode, 0x0C without LEVEL, 0x0D without an instant, 0x0E for an edit or an update, 0x0F without a link; a lead outside its range is
refused with a status that the spec does not give (assumption log 5). -/
def Obligations.PairCommands : Prop :=
  ∀ (s : State) (m : BitVec 4),
    (s.request m.toNat 0x90 = none → Gives (.stbyStatus m) s s) ∧ (s.request m.toNat 0x91 = none → Gives (.stbyJoin m) s s) ∧
    (s.request m.toNat 0x92 = none → Gives (.stbySwitch m) s s) ∧ (s.request m.toNat 0x93 = none → Gives (.stbyLeave m) s s) ∧
    (∀ (r : Request),
    let refused (status : Nat) (t : State) : Prop := t = { s with hp := t.hp } ∧ t.Answered m.toNat 9 status 0 []
    (s.request m.toNat 0x90 = some r → Does (.stbyStatus m) s (fun t => t = { s with hp := t.hp } ∧
      ∃ data, t.Answered m.toNat 0 0 0 (leBytes 1 (roleCode s.dev.role) ++ leBytes 1 s.stby.sync ++ leBytes 2 s.stby.progress ++
        leBytes 4 s.stby.epoch ++ leBytes 1 s.stby.refusal ++ data) ∧ data.length = 7)) ∧
    (s.request m.toNat 0x91 = some r →
      (s.pn 0xE00 = 1 → s.dev.role = .solo → s.stby.linkUp = true → Does (.stbyJoin m) s (fun t =>
        t = { s with hp := t.hp, stby := { s.stby with
          joining := true, tx := t.stby.tx, txSeq := t.stby.txSeq, txAt := t.stby.txAt } } ∧
        (s.stby.lane0 = true → s.stby.lane1 = true → pairState s.dev.state = true → ∃ before f, t.stby.tx = before ++ [f] ∧ f.kind = 2) ∧
        t.Answered m.toNat 0 0 0 [])) ∧
      ((s.pn 0xE00 ≠ 1 ∨ s.dev.role ≠ .solo) → Does (.stbyJoin m) s (refused 0xB)) ∧
      (s.pn 0xE00 = 1 → s.dev.role = .solo → s.stby.linkUp = false → Does (.stbyJoin m) s (refused 0xF))) ∧
    (s.request m.toNat 0x92 = some r →
      let lead := leAt r.payload 0 4
      (s.switchStatus ≠ 0 → Does (.stbySwitch m) s (refused s.switchStatus)) ∧
      (s.switchStatus = 0 → (lead < 1000 ∨ 10000000 < lead) → Does (.stbySwitch m) s (fun t =>
        t = { s with hp := t.hp, freeCtr := t.freeCtr } ∧ ∃ status, 1 ≤ status ∧ t.Answered m.toNat 9 status 0 [])) ∧
      (s.switchStatus = 0 → 1000 ≤ lead → lead ≤ 10000000 →
        (∀ x, s.releaseInstant (s.now + lead * 1000) = some x →
          (x ≤ s.now + 60000000000 → Does (.stbySwitch m) s (fun t =>
            t = { s with hp := t.hp, stby := { s.stby with
              switchAt := some x, tx := t.stby.tx, txSeq := t.stby.txSeq, txAt := t.stby.txAt } } ∧
            t.Answered m.toNat 0 0 0 (leBytes 8 x))) ∧
          (s.now + 60000000000 < x → Does (.stbySwitch m) s (refused 0xD))) ∧
        (s.releaseInstant (s.now + lead * 1000) = none → Does (.stbySwitch m) s (refused 0xD)))) ∧
    (s.request m.toNat 0x93 = some r →
      ((s.dev.role = .primary ∨ s.dev.role = .standby) → Does (.stbyLeave m) s (fun t =>
        t.dev.role = .solo ∧ t.sram = s.sram ∧ (∀ a, shimAddr a = false → t.feram.read a = s.feram.read a) ∧ t.pending = s.pending ∧
        (s.dev.role = .primary → t.dev.state = s.dev.state) ∧ (s.dev.role = .standby → t.dev.state = .stop) ∧
        t.stby.switchAt = none ∧ t.Answered m.toNat 0 0 0 [])) ∧
      ((s.dev.role = .solo ∨ s.dev.role = .node) → Does (.stbyLeave m) s (refused 0xB))))

/-! ### Update and security -/

/-- UPD_BEGIN, UPD_DATA, UPD_VERIFIED, UPD_DATA_TIMEOUT and UPD_STATUS (R438, R439, R445, Table NVM-8): an update begins when none
stands, data is staged in order in the firmware bank that is not active, a complete image whose checks pass is VERIFIED and one whose
checks fail is discarded with result 4; 60 s without data discard it too. Refused with 1 beside another update, with 2 where updates are
not served, 3 under the owner lock, 5 in RUN while the machine moves, 7 for a wrong offset and 8 for a length over the bank. -/
def Obligations.UpdateIsDownloadedAndVerified : Prop :=
  ∀ (s : State) (m : BitVec 4),
    (s.request m.toNat 0x70 = none → Gives (.updBegin m) s s) ∧ (s.request m.toNat 0x71 = none → Gives (.updData m) s s) ∧
    (s.request m.toNat 0x73 = none → Gives (.updStatus m) s s) ∧
    (∀ (r : Request),
    let refused (status : Nat) (t : State) : Prop :=
      t = { s with hp := t.hp, freeCtr := t.freeCtr } ∧ t.Answered m.toNat 9 status 0 []
    (s.request m.toNat 0x70 = some r →
      ((s.upd.stage ≠ .none ∨ s.upd.jState ≠ 0) → Does (.updBegin m) s (refused 1)) ∧
      (s.upd.stage = .none → s.upd.jState = 0 →
        (s.updServed = false → Does (.updBegin m) s (refused 2)) ∧
        (s.updServed = true → s.sec.locked = true → Does (.updBegin m) s (refused 3)) ∧
        (s.updServed = true → s.sec.locked = false →
          (s.dev.state = .run → s.moving.1 = true → Does (.updBegin m) s (refused 5)) ∧
          ((s.dev.state = .run → s.moving.1 = false) →
            (1984 * 1024 < leAt r.payload 0 4 → Does (.updBegin m) s (refused 8)) ∧
            (leAt r.payload 0 4 ≤ 1984 * 1024 → Does (.updBegin m) s (fun t =>
              t = { s with upd := t.upd, hp := t.hp, nvm := t.nvm, params := t.params, freeCtr := t.freeCtr } ∧
              t.upd.stage = .download ∧ t.upd.len = leAt r.payload 0 4 ∧ t.upd.staged = [] ∧ t.upd.lockSession = some r.session ∧
              t.upd.lastData = s.clk.ticks ∧ t.upd.oldVersion = s.sec.fwVersion ∧ t.Answered m.toNat 0 0 0 (leBytes 4 0))))))) ∧
    (s.request m.toNat 0x71 = some r →
      let open_ : Prop :=
        s.updServed = true ∧ s.upd.stage = .download ∧ s.upd.verifying = false ∧ s.upd.lockSession = some r.session
      let off := leAt r.payload 0 4
      let data := r.payload.drop 4
      let bs := s.upd.staged ++ data
      (¬ open_ → Does (.updData m) s (refused 2)) ∧
      (open_ → off ≠ s.upd.staged.length → Does (.updData m) s (refused 7)) ∧
      (open_ → off = s.upd.staged.length → s.upd.len < off + data.length → Does (.updData m) s (refused 8)) ∧
      (open_ → off = s.upd.staged.length → off + data.length ≤ s.upd.len → Does (.updData m) s (fun t =>
        t = { s with hp := t.hp, stby := t.stby, sram := s.sram.writeL (s.fwSpare + off) data, upd := { s.upd with
          staged := bs, lastData := s.clk.ticks, verifying := bs.length == s.upd.len } } ∧
        ((s.dev.role ≠ .primary ∨ bs.length ≠ s.upd.len) → t.stby = s.stby) ∧
        (s.dev.role = .primary → bs.length = s.upd.len → t.stby = (s.scarfSend (updFrames bs)).stby) ∧
        t.Answered m.toNat 0 0 0 (leBytes 4 bs.length)))) ∧
    (s.request m.toNat 0x73 = some r →
      (s.updServed = false → Does (.updStatus m) s (refused 2)) ∧
      (s.updServed = true → Does (.updStatus m) s (fun t => t = { s with hp := t.hp } ∧
        t.Answered m.toNat 0 0 0 (leBytes 1 s.updStageCode ++ leBytes 1 s.upd.result ++ leBytes 1 s.upd.reason ++
          leBytes 1 s.upd.jTrials ++ leBytes 4 s.upd.staged.length ++ leBytes 4 s.upd.newVersion ++ leBytes 4 s.updConfirmLeft ++
          leBytes 8 s.upd.handover))))) ∧
    (∀ v : Verdict,
      let changed (t : State) : Prop := t = { s with upd := t.upd, nvm := t.nvm, params := t.params, hp := t.hp, freeCtr := t.freeCtr }
      let due : Prop := s.upd.stage = .download ∧ s.upd.verifying = true ∧ s.pwr.sec = true
      (¬ due → Gives (.updVerified v) s s) ∧
      (due → s.imageStatus s.upd.staged v = 0 → Does (.updVerified v) s (fun t => changed t ∧ t.upd.stage = .verified ∧
        t.upd.staged = s.upd.staged ∧ t.upd.newVersion = leAt s.upd.staged 8 4 ∧ t.upd.newSecVer = leAt s.upd.staged 6 2 ∧
        t.upd.newPair = leAt s.upd.staged 0xC 2)) ∧
      (due → s.imageStatus s.upd.staged v ≠ 0 → Does (.updVerified v) s (fun t => changed t ∧ t.upd.stage = .none ∧
        t.upd.staged = [] ∧ t.upd.result = 4 ∧ t.upd.lockSession = none))) ∧
    (let due : Prop := (s.upd.stage = .download ∨ s.upd.stage = .verified) ∧ 60 * secTicks ≤ s.elapsed s.upd.lastData
     (¬ due → Gives .updDataTimeout s s) ∧
     (due → Does .updDataTimeout s (fun t =>
        t = { s with upd := t.upd, nvm := t.nvm, params := t.params, hp := t.hp, freeCtr := t.freeCtr } ∧
        t.upd.stage = .none ∧ t.upd.staged = [] ∧ t.upd.reason = 9 ∧ t.upd.lockSession = none)))

/-- UPD_ACTIVATE, UPD_ACTIVATION_DONE, HANDOVER, HANDOVER_COMPLETE and HANDOVER_NOGAP (R440 to R442, R446): the checks come in the order
of Table NVM-8, a measurement of the hold-up between them where the newest does not pass; the image is rewritten through the journal,
whose control area is all that changes in FeRAM at once, or in PRIMARY the standby activates first; control moves to the other bank in a
gap, and the new image starts its trial, which ends at once where its settings cannot be converted.

TRIAL_CONFIRM, CONFIRM_TIMEOUT and REVERT_DONE (R405, R443, R444): health that has held for 1 s confirms the update and blows the
fuses to the image's security version, never back; without it the update reverts, and once the old image is restored UPD_REVERT is
raised with the old versions in force.

UPD_OFFER and UPD_VERDICT (R179): a standby puts the segments of an image together, takes an image that passes its checks and pairs with
its firmware, and activates it when asked; a primary notes the verification, goes on with its own activation once the standby has
confirmed, and gives it up where the standby fails. -/
def Obligations.UpdateIsActivatedAndTried : Prop :=
  (∀ (s : State),
     let shimOnly (t : State) : Prop := ∀ a, shimAddr a = false → t.feram.read a = s.feram.read a
     let controlOnly (t : State) : Prop := ∀ a, (a < 0x3F0000 ∨ 0x3F0480 ≤ a) → t.feram.read a = s.feram.read a
     (∀ (m : BitVec 4),
       ((s.request m.toNat 0x72 = none ∨ s.upd.mbx = some m.toNat) → ∀ vin, Gives (.updActivate m vin) s s) ∧
       (∀ r, s.request m.toNat 0x72 = some r → s.upd.mbx ≠ some m.toNat → ∀ vin,
         let moves : Prop := s.dev.state = .run ∧ s.moving.1 = true
         let t0 : State := if s.dev.state = .run then s.moving.2 else s
         let refused (status : Nat) (t : State) : Prop := t = { t0 with hp := t.hp } ∧ t.Answered m.toNat 9 status 0 []
         let refused6 (t : State) : Prop := t = { s with
             hp := t.hp, freeCtr := t.freeCtr, params := t.params, pwr := t.pwr, upd := { s.upd with measFor := none } } ∧
           t.Answered m.toNat 9 6 0 []
         (s.updServed = false → Does (.updActivate m vin) s (refused 2)) ∧
         (s.updServed = true → s.sec.locked = true → Does (.updActivate m vin) s (refused 3)) ∧
         (s.updServed = true → s.sec.locked = false →
           (s.dev.state ≠ .recovery → s.editBusy = true → Does (.updActivate m vin) s (refused 4)) ∧
           ((s.dev.state = .recovery ∨ s.editBusy = false) →
             (moves → Does (.updActivate m vin) s (refused 5)) ∧
             (¬ moves → s.holdupFresh = true →
               (s.activateStatus2 ≠ 0 → Does (.updActivate m vin) s (fun t =>
                 t = { t0 with hp := t.hp, upd := { s.upd with measFor := none } } ∧ t.Answered m.toNat 9 s.activateStatus2 0 [])) ∧
               (s.activateStatus2 = 0 → s.dev.role ≠ .primary → Does (.updActivate m vin) s (fun t =>
                 t = { t0 with upd := t.upd, nvm := t.nvm, feram := t.feram } ∧ controlOnly t ∧
                 t.upd = { s.upd with
                   mbx := some m.toNat, measFor := none, lockSession := none, stage := .activating, jState := 1,
                   jN := ceilDiv s.upd.len 0x10000, jK := 0, jW := 0, peer := 0, jSeq := s.upd.jSeq + 1 } ∧
                 t.nvm = { s.nvm with jobs := s.nvm.jobs ++ [.update (2048 * ceilDiv s.upd.len 0x10000 + 1)] })) ∧
               (s.activateStatus2 = 0 → s.dev.role = .primary → Does (.updActivate m vin) s (fun t =>
                 t = { t0 with stby := t.stby, upd := { s.upd with
                   mbx := some m.toNat, measFor := none, lockSession := none, stage := .activating, peer := 3 } } ∧
                 t.stby = (s.scarfSend (updFrames [])).stby))) ∧
             (¬ moves → s.holdupFresh = false →
               (s.upd.measFor = some m.toNat → s.pwr.holdup ≠ none → Gives (.updActivate m vin) s t0) ∧
               (s.upd.measFor = some m.toNat → s.pwr.holdup = none → Does (.updActivate m vin) s refused6) ∧
               (s.upd.measFor ≠ some m.toNat → s.pn 0x783 ≠ 1 →
                 (vin < 4750 → Does (.updActivate m vin) s (fun t => refused6 t ∧ t.pn 0x789 = 3)) ∧
                 (4750 ≤ vin → s.pwr.holdup = none → Gives (.updActivate m vin) s { t0 with
                   pwr := { s.pwr.seeVin vin with hold := false, holdup := some { start := s.clk.ticks, vin := vin } },
                   upd := { s.upd with measFor := some m.toNat } }))))))) ∧
     ((s.updLastRow = none ∨ s.upd.stage ≠ .activating ∨ s.rowsRun = false ∨ s.otherTurn = false) → Gives .updActivationDone s s) ∧
     (∀ i, s.updLastRow = some i → s.upd.stage = .activating → s.rowsRun = true → s.otherTurn = true →
       Does .updActivationDone s (fun t =>
         t.upd.stage = .activated ∧ t.upd.jState = 2 ∧ t.upd.jTrials = 0 ∧ t.nvm.jobs = s.nvm.jobs.eraseIdx i ∧ shimOnly t ∧
         t = { s with upd := t.upd, nvm := t.nvm, params := t.params, hp := t.hp, flt := t.flt, freeCtr := t.freeCtr,
                      feram := t.feram } ∧
         (s.upd.fromRecovery = false → t.flt = s.flt ∧ t.hp = s.hp) ∧
         (s.upd.fromRecovery = true → t.flt = { s.flt with
           awaiting := s.flt.awaiting ++ [Awaiting.mk s.flt.seqNewest false 5 s.upd.mbx s.clk.ticks] }))) ∧
     (let due : Prop := s.upd.stage = .activated ∧ s.upd.fromRecovery = false ∧ s.hp.stopped = false ∧ s.coresRun = true ∧
        s.handoverGap = true ∧ (s.dev.state = .stop ∨ s.dev.state = .run)
      (¬ due → Gives .handover s s) ∧
      (due → Does .handover s (fun t =>
         t = { s with upd := { s.upd with handover := s.now }, hp := t.hp, params := t.params, sched := t.sched, ctxs := t.ctxs,
                      freeCtr := t.freeCtr } ∧
         t.hp.stopped = true ∧ t.pv 0x10B = 1 - s.pv 0x10B))) ∧
     (let due : Prop := s.upd.stage = .activated ∧ s.hp.stopped = true ∧ s.coresRun = true
      let after (t : State) : Prop :=
         t.upd.handed = true ∧ t.upd.mbx = none ∧ t.hp.stopped = false ∧ t.hp.fwver = s.upd.newVersion ∧
         t.sec = { s.sec with fwVersion := s.upd.newVersion, fwSec := s.upd.newSecVer, fwPair := s.upd.newPair } ∧
         t.sram = s.sram ∧ t.pending = s.pending ∧ t.img = s.img ∧ t.prog = s.prog ∧
         (∀ m, s.upd.mbx = some m → (s.mailbox m).req ≠ none → t.Answered m 0 0 0 (leBytes 8 s.upd.handover))
      (¬ due → Gives .handoverComplete s s) ∧
      (due → (∀ e, s.nvm.copyFor s.upd.newFormat = some e → s.upd.newFormat ≤ e.2.format) → Does .handoverComplete s (fun t =>
         after t ∧ t.upd.stage = .trial ∧ t.feram = s.feram)) ∧
      (due → Does .handoverComplete s (fun t => after t ∧ shimOnly t ∧
         (t.upd.stage = .trial ∨ (t.upd.stage = .reverting ∧ t.upd.reason = 2))))) ∧
     (let due : Prop := s.upd.stage = .activated ∧ s.hp.stopped = false ∧ s.upd.fromRecovery = false ∧
        60 * secTicks ≤ s.elapsed s.upd.activatedAt
      (¬ due → Gives .handoverNogap s s) ∧
      (due → Does .handoverNogap s (fun t =>
         t = { s with upd := t.upd, nvm := t.nvm, hp := t.hp, feram := t.feram } ∧ shimOnly t ∧ t.upd.stage = .reverting ∧
         t.upd.reason = 6 ∧ RowJob.update (1024 * s.upd.jK + 1) ∈ t.nvm.jobs)))) ∧
  (∀ (s : State),
     let shimOnly (t : State) : Prop := ∀ a, shimAddr a = false → t.feram.read a = s.feram.read a
     (let due : Prop := s.upd.stage = .trial ∧ s.coresRun = true ∧ s.clk.ticks < s.upd.confirmBy
      (¬ due → Gives .trialConfirm s s) ∧
      (due → s.trialHealthy = false → Gives .trialConfirm s { s with upd := { s.upd with healthyFrom := none } }) ∧
      (due → s.trialHealthy = true → s.upd.healthyFrom = none →
         Gives .trialConfirm s { s with upd := { s.upd with healthyFrom := some s.clk.ticks } }) ∧
      (∀ t0, due → s.trialHealthy = true → s.upd.healthyFrom = some t0 →
         (s.elapsed t0 < secTicks → Gives .trialConfirm s s) ∧
         (secTicks ≤ s.elapsed t0 → Does .trialConfirm s (fun t =>
           t = { s with upd := t.upd, sec := t.sec, nvm := t.nvm, params := t.params, stby := t.stby, freeCtr := t.freeCtr,
                        feram := t.feram } ∧ shimOnly t ∧
           t.upd.stage = .none ∧ t.upd.result = 1 ∧ t.upd.jState = 0 ∧ (s.dev.role ≠ .standby → t.stby = s.stby) ∧
           t.sec = { s.sec with fuses := max s.sec.fuses (min 256 s.sec.fwSec), blowTo := max s.sec.fuses (min 256 s.sec.fwSec) })))) ∧
     (¬ (s.upd.stage = .trial ∧ s.upd.confirmBy ≤ s.clk.ticks) → Gives .confirmTimeout s s) ∧
     (s.upd.stage = .trial → s.upd.confirmBy ≤ s.clk.ticks → Does .confirmTimeout s (fun t =>
       t = { s with upd := t.upd, nvm := t.nvm, hp := t.hp, feram := t.feram } ∧ shimOnly t ∧ t.upd.stage = .reverting ∧
       t.upd.reason = 1)) ∧
     ((s.updLastRow = none ∨ s.upd.stage ≠ .reverting ∨ s.rowsRun = false ∨ s.otherTurn = false ∨ s.handoverGap = false) →
       Gives .revertDone s s) ∧
     (∀ i, s.updLastRow = some i → s.upd.stage = .reverting → s.rowsRun = true → s.otherTurn = true → s.handoverGap = true →
       let back : Prop := s.upd.handed = true ∧ s.upd.fromRecovery = false
       Does .revertDone s (fun t => ∃ u v : State,
         u.upd.stage = .none ∧ u.upd.result = 2 ∧ shimOnly u ∧ u.nvm.jobs = s.nvm.jobs.eraseIdx i ∧
         (back → u.sram = s.sram.copyRegion s.feram 0 s.fwSpare 0x200000 ∧ u.hp.fwver = s.upd.oldVersion ∧ u.sec = { s.sec with
             fwVersion := s.upd.oldVersion, fwSec := s.upd.oldSec, fwPair := s.upd.oldPair }) ∧
         (¬ back → u.sram = s.sram ∧ u.sec = s.sec) ∧
         v = (if (u.raise 28 0 0).dev.role = .standby then (u.raise 28 0 0).scarfSend [ctrlFrame 7 (leBytes 1 2 ++ leBytes 1 0)]
              else u.raise 28 0 0) ∧
         (s.upd.handed = false ∨ s.upd.fromRecovery = false → t = v.mirror) ∧
         (s.upd.handed = true → s.upd.fromRecovery = true → t = State.mirror { v with flt := { v.flt with
           awaiting := v.flt.awaiting ++ [Awaiting.mk v.flt.seqNewest false 5 none v.clk.ticks] } })))) ∧
  (∀ (s : State) (h : ScarfHdr), s.scarfGood h = true →
     let taken := s.scarfTaken h
     let frame (t : State) : Prop :=
       t = { taken with upd := t.upd, nvm := t.nvm, params := t.params, stby := t.stby, freeCtr := t.freeCtr, feram := t.feram } ∧
       ∀ a, (a < 0x3F0000 ∨ 0x3F0480 ≤ a) → t.feram.read a = taken.feram.read a
     (taken.dev.role ≠ .standby → ∀ left seg v, Gives (.updOffer h left seg v) s taken) ∧
     (taken.dev.role = .standby → ∀ (seg : List Byte) (v : Verdict),
       let data := taken.stby.updBuf ++ seg
       (∀ left, left ≠ 0 → Gives (.updOffer h left seg v) s { taken with stby := { taken.stby with updBuf := data } }) ∧
       (data = [] → taken.upd.stage = .verified → Does (.updOffer h 0 seg v) s (fun t => frame t ∧ t.upd.stage = .activating ∧
         t.upd.staged = taken.upd.staged ∧ t.upd.jState = 1 ∧ t.stby.updBuf = [])) ∧
       (data = [] → taken.upd.stage ≠ .verified → Does (.updOffer h 0 seg v) s (fun t => t = { taken with stby := t.stby })) ∧
       (let fit : Prop := taken.upd.stage = .none ∧ taken.upd.jState = 0 ∧ taken.imageStatus data v = 0 ∧ leAt data 0xC 2 = taken.sec.fwPair
        data ≠ [] →
          (fit → Does (.updOffer h 0 seg v) s (fun t => frame t ∧ t.feram = taken.feram ∧ t.upd.stage = .verified ∧
            t.upd.staged = data ∧ t.upd.newVersion = leAt data 8 4 ∧ t.stby.updBuf = [])) ∧
          (¬ fit → Does (.updOffer h 0 seg v) s (fun t => t = { taken with stby := t.stby })))) ∧
     (taken.dev.role ≠ .primary → ∀ what ok, Gives (.updVerdict h what ok) s taken) ∧
     (taken.dev.role = .primary →
       let waits : Prop := taken.upd.stage = .activating ∧ taken.upd.peer = 3
       (∀ ok, Gives (.updVerdict h 0 ok) s { taken with upd := { taken.upd with peer := if ok = true then 1 else 2 } }) ∧
       (∀ what ok, what ≠ 0 → ¬ waits → Gives (.updVerdict h what ok) s taken) ∧
       (waits → Does (.updVerdict h 2 true) s (fun t => frame t ∧ t.upd.stage = .activating ∧ t.upd.jState = 1 ∧ t.upd.peer = 0)) ∧
       (∀ what, what ≠ 0 → what ≠ 2 → waits → Gives (.updVerdict h what true) s taken) ∧
       (∀ what, what ≠ 0 → waits → Does (.updVerdict h what false) s (fun t => ∃ u : State, t = (u.raise 28 0 0).mirror ∧
         u.upd.stage = .none ∧ u.upd.result = 2 ∧ u.sram = taken.sram))))

/-- CHALLENGE and CHALLENGE_EXPIRY (R409): a session holds one fresh challenge; it is gone after 600 s.

CLAIM, TRANSFER and RELEASE (R408, R409, Table SEC-9): an owner change that passes every check waits for its record; one that does not
is refused with the status of the first check that fails. The first of them that names the session's challenge uses it, whether it is
refused or not. -/
def Obligations.OwnershipChanges : Prop :=
  (∀ (s : State),
     (∀ (m : BitVec 4) r, s.ownRequest m.toNat 0x80 0 = some r →
       let c := Challenge.mk (r.session % 16) (leBytes 32 (Config.random s.sec.drawn)) s.clk.ticks
       Does (.challenge m) s (fun t =>
         t = { s with hp := t.hp, sec := { s.sec with
           drawn := s.sec.drawn + 1, challenges := s.sec.challenges.filter (fun d => d.slot != r.session % 16) ++ [c] } } ∧
         t.Answered m.toNat 0 0 0 c.value)) ∧
     (∀ slot : BitVec 4, Does (.challengeExpiry slot) s (fun t =>
       t = { s with sec := { s.sec with challenges := t.sec.challenges } } ∧
       ∀ c, c ∈ t.sec.challenges ↔
         c ∈ s.sec.challenges ∧ ¬ (c.slot = slot.toNat ∧ 600 * secTicks ≤ s.elapsed c.since)))) ∧
  (∀ (s : State) (m : BitVec 4),
     (s.ownRequest m.toNat 0x80 0 = none → Gives (.challenge m) s s) ∧
     (s.ownRequest m.toNat 0x80 1 = none → ∀ p, Gives (.claim m p) s s) ∧
     (s.ownRequest m.toNat 0x80 2 = none → ∀ g p, Gives (.transfer m g p) s s) ∧
     (s.ownRequest m.toNat 0x80 3 = none → ∀ g, Gives (.ownRelease m g) s s)) ∧
  (∀ (s : State) (m : BitVec 4) (r : Request),
     let key := (r.payload.drop 4).take 97
     let starts (owner : Option (List Byte)) (clear : Bool) (t : State) : Prop :=
       t = { s with sec := t.sec, img := t.img, sched := t.sched, ctxs := t.ctxs, params := t.params, freeCtr := t.freeCtr } ∧
       t.sec = { s.sec with
         challenges := s.sec.challenges.filter (fun c => c.slot != r.session % 16),
         change := some (OwnerChange.mk owner clear m.toNat) } ∧
       ∃ k, t.img = { s.img with commits := s.img.commits ++ [k] } ∧ k.kind = .record ∧ k.extra.ownerChange = true ∧
         k.extra.all = clear ∧ k.durable = false
     let refused (used : Prop) (status : Nat) (t : State) : Prop :=
       t = { s with hp := t.hp, sec := { s.sec with challenges := t.sec.challenges } } ∧
       (used → t.sec.challenges = s.sec.challenges.filter (fun c => c.slot != r.session % 16)) ∧
       (¬ used → t.sec.challenges = s.sec.challenges) ∧ t.Answered m.toNat 9 status 0 []
     let held : Prop := s.challengeOf r.session ≠ none
     (s.ownRequest m.toNat 0x80 1 = some r →
       (s.ownState = false → ∀ p, Does (.claim m p) s (refused held 1)) ∧
       (s.ownState = true →
         (r.requester ≠ 1 → ∀ p, Does (.claim m p) s (refused held 2)) ∧
         (r.requester = 1 → s.sec.owner ≠ none → ∀ p, Does (.claim m p) s (refused held 3)) ∧
         (r.requester = 1 → s.sec.owner = none →
           (¬ held → ∀ p, Does (.claim m p) s (refused held 5)) ∧
           (held → Does (.claim m false) s (refused held 7)) ∧
           (held → s.ownLate ≠ 0 → Does (.claim m true) s (refused held s.ownLate)) ∧
           (held → s.ownLate = 0 → Does (.claim m true) s (starts (some key) false))))) ∧
     (s.ownRequest m.toNat 0x80 2 = some r →
       let status (sigOk : Bool) : Nat := s.tokenStatus r.session (readToken (r.payload.drop 200)) [1] (keyIdOf key) sigOk
       (s.ownState = false → ∀ g p, Does (.transfer m g p) s (refused held 1)) ∧
       (s.ownState = true → s.sec.owner = none → ∀ g p, Does (.transfer m g p) s (refused held 4)) ∧
       (s.ownState = true → s.sec.owner ≠ none → ∀ g,
         (status g ≠ 0 → ∀ p, Does (.transfer m g p) s (refused held (status g))) ∧
         (status g = 0 → Does (.transfer m g false) s (refused held 7)) ∧
         (status g = 0 → s.ownLate ≠ 0 → Does (.transfer m g true) s (refused held s.ownLate)) ∧
         (status g = 0 → s.ownLate = 0 → Does (.transfer m g true) s (starts (some key) true)))) ∧
     (s.ownRequest m.toNat 0x80 3 = some r →
       let tok := readToken (r.payload.drop 4)
       let named : Prop := ∃ c, s.challengeOf r.session = some c ∧ c.value = tok.challenge
       let status (sigOk : Bool) : Nat := s.tokenStatus r.session tok [2] 0 sigOk
       (s.ownState = false → ∀ g, Does (.ownRelease m g) s (refused named 1)) ∧
       (s.ownState = true → s.sec.owner = none → ∀ g, Does (.ownRelease m g) s (refused named 4)) ∧
       (s.ownState = true → s.sec.owner ≠ none → ∀ g,
         (status g ≠ 0 → Does (.ownRelease m g) s (refused named (status g))) ∧
         (status g = 0 → s.ownLate ≠ 0 → Does (.ownRelease m g) s (refused named s.ownLate)) ∧
         (status g = 0 → s.ownLate = 0 → Does (.ownRelease m g) s (starts none true)))))

/-- INSTALL, LOCK, UNLOCK and the end of an unlock (R411, R413, R414): a policy with a higher serial replaces the one in force and ends
sessions it no longer grants; the owner lock is set for good and opened by a token for its duration.

DEBUG, DEBUG_END, DEBUG_EXPIRY, ATTEST, TAMPER_TRIP and TAMPER_ZEROISE (R369, R419, R420, R421). A command that fails a check of Table
SEC-9 is refused with its status, and an event that is not due changes nothing. -/
def Obligations.PolicyDebugAndTamper : Prop :=
  (∀ (s : State),
     let logged (t : State) : Prop :=
       t = { s with sec := t.sec, hp := t.hp, nvm := t.nvm, params := t.params, freeCtr := t.freeCtr }
     let refused (m : BitVec 4) (status : Nat) (t : State) : Prop := t = { s with hp := t.hp } ∧ t.Answered m.toNat 9 status 0 []
     (∀ (m : BitVec 4) r, s.ownRequest m.toNat 0x81 1 = some r →
       let blob := r.payload.drop 4
       (s.sec.owner = none → ∀ g, Does (.install m g) s (refused m 4)) ∧
       (s.sec.owner ≠ none → ∀ g, s.policyOk blob = false ∨ g = false → Does (.install m g) s (refused m 8)) ∧
       (s.sec.owner ≠ none → s.policyOk blob = true →
         (s.sec.policySerial < leAt blob 8 4 → Does (.install m true) s (fun t =>
           t.sec.policy = blob ∧ t.sec.policySerial = leAt blob 8 4 ∧ t.sram = s.sram ∧ t.feram = s.feram ∧
           t.Answered m.toNat 0 0 0 (leBytes 48 (Config.sha384 blob)) ∧
           ∀ k, k < 16 → (s.session k).isOpen = true → (s.session k).id ≠ r.session →
             ({ s.sec with policy := blob }).keeps (s.session k) = false → (t.session k).isOpen = false)) ∧
         (leAt blob 8 4 ≤ s.sec.policySerial → Does (.install m true) s (refused m 9)))) ∧
     (∀ (m : BitVec 4) r, s.ownRequest m.toNat 0x81 2 = some r →
       (s.sec.owner = none → Does (.lock m) s (refused m 4)) ∧
       (s.sec.owner ≠ none → Does (.lock m) s (fun t =>
         logged t ∧ t.sec = { s.sec with lockSet := true, lockOpenUntil := none } ∧ t.Answered m.toNat 0 0 0 []))) ∧
     (∀ (m : BitVec 4) r, s.ownRequest m.toNat 0x81 3 = some r →
       let tok := readToken (r.payload.drop 4)
       let failed (status : Nat) (t : State) : Prop := t = { s with hp := t.hp, sec := { s.sec with challenges := t.sec.challenges } } ∧
         t.Answered m.toNat 9 status 0 []
       (s.sec.owner = none → ∀ g, Does (.unlock m g) s (failed 4)) ∧
       (s.sec.owner ≠ none → ∀ g, s.tokenStatus r.session tok [3] 0 g ≠ 0 →
         Does (.unlock m g) s (failed (s.tokenStatus r.session tok [3] 0 g))) ∧
       (s.sec.owner ≠ none → ∀ g, s.tokenStatus r.session tok [3] 0 g = 0 → Does (.unlock m g) s (fun t =>
         logged t ∧ t.Answered m.toNat 0 0 0 (leBytes 4 tok.dur) ∧ t.sec = { s.sec with
           challenges := s.sec.challenges.filter (fun c => c.slot != r.session % 16),
           lockOpenUntil := if s.sec.lockSet = true then some (s.clk.ticks + tok.dur * secTicks) else none }))) ∧
     (∀ t0, s.sec.lockOpenUntil = some t0 →
       (t0 ≤ s.clk.ticks → Does .unlockExpiry s (fun t => logged t ∧ t.sec = { s.sec with lockOpenUntil := none })) ∧
       (s.clk.ticks < t0 → Gives .unlockExpiry s s)) ∧
     (s.sec.lockOpenUntil = none → Gives .unlockExpiry s s) ∧
     (∀ m : BitVec 4,
       (s.ownRequest m.toNat 0x81 1 = none → ∀ g, Gives (.install m g) s s) ∧ (s.ownRequest m.toNat 0x81 2 = none → Gives (.lock m) s s) ∧
       (s.ownRequest m.toNat 0x81 3 = none → ∀ g, Gives (.unlock m g) s s) ∧
       (s.ownRequest m.toNat 0x81 4 = none → ∀ g, Gives (.debug m g) s s) ∧
       (s.ownRequest m.toNat 0x81 5 = none → Gives (.debugEnd m) s s) ∧ (s.request m.toNat 0x82 = none → Gives (.attest m) s s))) ∧
  (∀ (s : State),
     (∀ (m : BitVec 4) r, s.ownRequest m.toNat 0x81 4 = some r →
       let tok := readToken (r.payload.drop 4)
       let failed (status : Nat) (t : State) : Prop := t = { s with hp := t.hp, sec := { s.sec with challenges := t.sec.challenges } } ∧
         t.Answered m.toNat 9 status 0 []
       let meant : Prop := tok.kind ≠ 5 ↔ s.sec.owner ≠ none
       (s.ownState = false → ∀ g, Does (.debug m g) s (failed 1)) ∧
       (s.ownState = true → ¬ meant → ∀ g, Does (.debug m g) s (failed 4)) ∧
       (s.ownState = true → meant → ∀ g, s.tokenStatus r.session tok [4, 5] 0 g ≠ 0 →
         Does (.debug m g) s (failed (s.tokenStatus r.session tok [4, 5] 0 g))) ∧
       (s.ownState = true → meant → ∀ g, s.tokenStatus r.session tok [4, 5] 0 g = 0 → Does (.debug m g) s (fun t =>
         ∃ u : State, u = { s with sec := u.sec, tmr := u.tmr } ∧ u.sec.debug = (if tok.kind = 5 then 2 else 1) ∧
           u.sec.debugUntil = s.clk.ticks + tok.dur * secTicks ∧ u.tmr.mode = .split ∧ u.tmr.dbgBroken = true ∧
           t = (u.raise 30 0 0).ok m.toNat (leBytes 4 tok.dur)))) ∧
     (∀ (m : BitVec 4) r, s.ownRequest m.toNat 0x81 5 = some r →
       (s.ownState = true → Does (.debugEnd m) s (fun t =>
         t = { s with hp := t.hp, sec := { s.sec with debug := 0 } } ∧ t.Answered m.toNat 0 0 0 [])) ∧
       (s.ownState = false → Does (.debugEnd m) s (fun t => t = { s with hp := t.hp } ∧ t.Answered m.toNat 9 1 0 []))) ∧
     (s.sec.debug ≠ 0 → s.sec.debugUntil ≤ s.clk.ticks → Gives .debugExpiry s { s with sec := { s.sec with debug := 0 } }) ∧
     ((s.sec.debug = 0 ∨ s.clk.ticks < s.sec.debugUntil) → Gives .debugExpiry s s) ∧
     (∀ (m : BitVec 4) r, s.request m.toNat 0x82 = some r → 32 ≤ r.payload.length → Does (.attest m) s (fun t =>
       t = { s with hp := t.hp, sec := { s.sec with drawn := s.sec.drawn + 1 } } ∧
       ∃ rest, rest.length = 0x210 - 56 ∧ t.Answered m.toNat 0 0 0 (leBytes 2 1 ++ leBytes 2 0x210 ++
         leBytes 2 (partNumber s.dev.part) ++ leBytes 2 s.sec.fuses ++ leBytes 16 (Config.deviceId % 2 ^ 128) ++
         r.payload.take 32 ++ rest))) ∧
     (∀ sensor : BitVec 2,
       let trips : Prop := s.dev.state ≠ .off ∧ s.pwr.sec = true ∧ s.fclkUp = true ∧ (sensor ≠ 0 ∨ s.pwr.warnLive = false)
       (¬ trips → Gives (.tamperTrip sensor) s s) ∧
       (trips → Does (.tamperTrip sensor) s (fun t => ∃ u : State,
         u = { s with sec := u.sec, nvm := { s.nvm with setDirty := true }, params := u.params, freeCtr := u.freeCtr } ∧
         u.sec = { s.sec with keys := [], prov := [], tls := [], srxZero := true, tamperLast := 2 ^ sensor.toNat } ∧
         u.pn 0xB1B = 2 ^ sensor.toNat ∧
         t = { u.raise 25 0 0 with sec := { (u.raise 25 0 0).sec with tamperRec := some (u.raise 25 0 0).flt.seqNewest } }))) ∧
     (s.sec.tamperRec = none → Gives .tamperZeroise s s) ∧
     (∀ q, s.sec.tamperRec = some q →
       (s.resetReady q = true → Gives .tamperZeroise s { s with sec := { s.sec with nvmZero := true, tamperRec := none } }) ∧
       (s.resetReady q = false → Gives .tamperZeroise s s)))

/-! ### Hot standby -/

/-- The link (R157 to R161, R174): it comes up with both lanes in lock, and a unit that joins sends HELLO; it goes down 15 µs after the
last valid frame or with a lane's lock, and carries HEARTBEAT when there is nothing else to send; a frame with a bad CRC or out of
sequence is discarded and counted, and while a lane has no lock nothing is received; a LEVEL standby whose partner leaves takes over with
the next epoch, in the state that its primary last sent.

HELLO (R162, R163): of two units that may pair, the first row of Table STBY-4 that matches refuses, with its code, or gives this
unit its role; the primary's conditions are checked before it takes it. -/
def Obligations.LinkTakeoverAndRoles : Prop :=
  (∀ (s : State),
     let queued : List ScarfTx := if s.stby.txAt = s.clk.ticks then s.stby.tx else []
     let sent (t : State) (kind : Nat) (payload : List Byte) : Prop :=
       t = { s with stby := { s.stby with tx := t.stby.tx, txSeq := (s.stby.txSeq + 1) % 2 ^ 32, txAt := s.clk.ticks } } ∧
       t.stby.tx = queued ++ [ScarfTx.mk kind 0 (s.stby.txSeq % 2 ^ 32) 0 payload]
     ((s.pwr.scarf = false ∨ s.stby.linkUp = true) → Gives .scarfLinkUp s s) ∧
     (s.pwr.scarf = true → s.stby.linkUp = false →
       let up (joins : Bool) (t : State) : Prop := t = { s with flt := t.flt, stby := { s.stby with
         lane0 := true, lane1 := true, linkUp := true, rxAt := s.clk.ticks, rxTime := s.now, rxSeq := none, joining := joins,
         tx := t.stby.tx, txSeq := t.stby.txSeq, txAt := t.stby.txAt } }
       ((s.pn 0xE00 ≠ 1 ∨ s.pv 0xE05 ≠ 1) → Does .scarfLinkUp s (fun t => up false t ∧ t.stby.tx = s.stby.tx)) ∧
       (s.pn 0xE00 = 1 → s.pv 0xE05 = 1 → Does .scarfLinkUp s (fun t => up true t ∧
         (s.mayPair = true → ∃ f, t.stby.tx = queued ++ [f] ∧ f.kind = 2)))) ∧
     (Gives (.scarfLaneLockLoss 0) s { s with stby := { s.stby with lane0 := false, tx := [] } } ∧
      Gives (.scarfLaneLockLoss 1) s { s with stby := { s.stby with lane1 := false, tx := [] } } ∧
      ∀ lane, 2 ≤ lane → Gives (.scarfLaneLockLoss lane) s s) ∧
     (let lost : Prop := s.stby.linkUp = true ∧ (15 * usTicks ≤ s.elapsed s.stby.rxAt ∨ s.stby.lane0 = false ∨ s.stby.lane1 = false)
      (¬ lost → Gives .scarfLinkLost s s) ∧
      (lost → Does .scarfLinkLost s (fun t =>
       t.stby.linkUp = false ∧ (∀ a, shimAddr a = false → t.feram.read a = s.feram.read a) ∧ t.pending = s.pending ∧
       (s.dev.role ≠ .node → t.dev.role = .solo)))) ∧
     (s.stby.lane0 = true → s.stby.lane1 = true →
       ((s.stby.joining = false ∨ s.mayPair = false) → Does .scarfHeartbeatSend s (fun t =>
         sent t 1 (leBytes 8 s.now ++ leBytes 1 (roleCode s.dev.role) ++ leBytes 1 s.stby.sync ++ leBytes 2 0 ++ leBytes 4 s.stby.epoch))) ∧
       (s.stby.joining = true → s.mayPair = true → Does .scarfHeartbeatSend s (fun t =>
         sent t 2 (leBytes 2 (partNumber s.dev.part) ++ leBytes 2 s.sec.fwPair ++ leBytes 16 s.sec.ownerKeyId ++
           leBytes 48 s.program.hash ++ leBytes 48 s.prog.netHash ++ leBytes 1 s.unit ++ leBytes 1 (devCode s.dev.state) ++
           leBytes 2 0 ++ leBytes 4 s.stby.epoch)))) ∧
     ((s.stby.lane0 = false ∨ s.stby.lane1 = false) → Gives .scarfHeartbeatSend s s) ∧
     (∀ h : ScarfHdr, s.scarfGood h = true →
       let taken := s.scarfTaken h
       (∀ stime role sync epoch,
         let noted : State := { taken with stby := { taken.stby with partnerTime := stime, partnerEpoch := epoch } }
         ((taken.dev.role ≠ .standby ∨ role ≠ 0) → Gives (.scarfHeartbeat h stime role sync epoch) s noted.mirror) ∧
         (taken.dev.role = .standby → role = 0 → Does (.scarfHeartbeat h stime role sync epoch) s (fun t =>
           t.dev.role = .solo ∧ t.dev.state = .stop ∧ t.sram = taken.sram))) ∧
       (∀ code,
         let told (t : State) : Prop := t.dev.role = .solo ∧ (code ≠ 0 → t.stby.refusal = code)
         (taken.dev.role = .standby → taken.stby.sync = 2 → Does (.leave h code) s (fun t => told t ∧
           t.stby.epoch = max taken.stby.epoch taken.stby.partnerEpoch + 1 ∧ t.stby.acked = [] ∧ t.stby.staged = [] ∧
           (taken.stby.follow = none → t.dev.state = taken.dev.state) ∧
           (∀ a st, taken.stby.follow = some (a, st) → t.dev.state = (if st = 4 then .run else if st = 5 then .halt else .stop)))) ∧
         (taken.dev.role = .standby → taken.stby.sync ≠ 2 → Does (.leave h code) s (fun t => told t ∧
           t.dev.state = .stop ∧ t.sram = taken.sram)) ∧
         (taken.dev.role = .primary → Does (.leave h code) s (fun t => told t ∧
           t.dev.state = taken.dev.state ∧ t.stby.sync = 0 ∧ t.sram = taken.sram)) ∧
         (taken.dev.role ≠ .standby → taken.dev.role ≠ .primary → Does (.leave h code) s (fun t =>
           t.dev = taken.dev ∧ t.sram = taken.sram ∧ t.img = taken.img ∧ (code ≠ 0 → t.stby.refusal = code))))) ∧
     (∀ (h : ScarfHdr) (c : Instr), s.scarfGood h = false →
       ((∃ st rl sy ep, c = .scarfHeartbeat h st rl sy ep) ∨ (∃ p, c = .hello h p) ∨ (∃ k, c = .leave h k) ∨ (∃ k, c = .ack h k) ∨
        (∃ r, c = .nak h r) ∨ (∃ n r k, c = .dropFrame h n r k) ∨ c = .resync h ∨ (∃ p q d, c = .copyPage h p q d) ∨
        (∃ l, c = .copyCells h l) ∨ (∃ p q, c = .copyEnd h p q) ∨ (∃ d a, c = .ctrlState h d a) ∨ (∃ f, c = .ctrlForce h f) ∨
        (∃ p l d v, c = .editOffer h p l d v) ∨ (∃ a d, c = .editVerdict h a d) ∨ (∃ a, c = .switch h a) ∨ c = .switchDone h ∨
        (∃ l d v, c = .updOffer h l d v) ∨ (∃ w ok, c = .updVerdict h w ok)) →
       ((s.stby.lane0 = false ∨ s.stby.lane1 = false) → Gives c s s) ∧
       (s.stby.lane0 = true → s.stby.lane1 = true → s.pn 0xE0A + 1 < 2 ^ 32 → Gives c s { s with
           params := tset s.params 0xE0A (s.pn 0xE0A + 1 : Nat),
           stby := { s.stby with rxSeq := if h.crcOk = true then some h.seq else none } }))) ∧
  (∀ (s : State) (h : ScarfHdr) (p : Hello), s.scarfGood h = true →
     let taken := s.scarfTaken h
     (taken.mayPair = false → Gives (.hello h p) s taken) ∧
     (taken.mayPair = true →
       let paired (t : State) (role : Role) : Prop :=
         t.dev = { taken.dev with role := role } ∧ t.stby.sync = 1 ∧ t.stby.refusal = 0 ∧ t.stby.partnerEpoch = p.epoch ∧
         t.sram = taken.sram ∧ t.feram = taken.feram ∧ t.prog.armed = none ∧ (taken.prog.armed = none → t.prog = taken.prog)
       (taken.negotiate p = none → Does (.hello h p) s (fun t => t = { taken with stby := t.stby } ∧
         (taken.stby.joining = true → t.stby = taken.stby))) ∧
       (∀ c, taken.negotiate p = some (.error c) → Does (.hello h p) s (fun t =>
         t = { taken with stby := t.stby, nvm := t.nvm, params := t.params, freeCtr := t.freeCtr } ∧
         t.stby.refusal = c ∧ t.stby.joining = false)) ∧
       (taken.negotiate p = some (.ok .standby) → Does (.hello h p) s (fun t => paired t .standby)) ∧
       (taken.negotiate p = some (.ok .primary) → taken.primaryBad = none → Does (.hello h p) s (fun t => paired t .primary)) ∧
       (∀ c, taken.negotiate p = some (.ok .primary) → taken.primaryBad = some c → Does (.hello h p) s (fun t =>
         t.dev = taken.dev ∧ t.stby.refusal = c))))

/-- Deltas (R165 to R168): a standby stages pages and their masks, acknowledges a delta whose pages are all there and whose CRC
matches, and applies it: the marked points of pages newer than their copies, the cells, and for an edit its program; a delta that is
incomplete, wrong or too large, or a frame of which is lost, is refused with NAK, and so are the later ones until the resync. The
primary's acknowledged peg may emit, and one that is refused or whose time passes starts a resync.

The copy (R170): CTRL RESYNC discards image, DB and cells; each page and record copied is taken; COPY_END makes the copy whole
and rebuilds the retentive store. -/
def Obligations.DeltasAndCopies : Prop :=
  (∀ (s : State),
     let naks (c : Instr) (taken : State) (peg reason : Nat) : Prop := Does c s (fun t =>
       t.stby.staged = [] ∧ t.stby.refusing = true ∧ t.stby.sync = 1 ∧ t.stby.copyDone = false ∧ t.stby.acked = taken.stby.acked ∧
       t.prog.armed = none ∧ t.sram = taken.sram ∧ t.img = taken.img ∧
       (taken.prog.armed = none → t = { taken with stby := t.stby, hp := t.hp } ∧
         (taken.stby.lane0 = true → taken.stby.lane1 = true →
          t.stby.tx = (if taken.stby.txAt = taken.clk.ticks then taken.stby.tx else []) ++
            [ScarfTx.mk 0x14 0 (taken.stby.txSeq % 2 ^ 32) peg (leBytes 1 reason)])))
     (∀ h : ScarfHdr, s.scarfGood h = true →
       let taken := s.scarfTaken h
       (taken.takesDeltas = true →
         (∀ page data mask,
           (taken.stby.stagedFrames < 256 → Does (.deltaPage h page data mask) s (fun t =>
             t = { taken with params := t.params, stby := { taken.stby with staged := taken.stby.staged ++ [DeltaPg.mk page data mask] } })) ∧
           (256 ≤ taken.stby.stagedFrames → naks (.deltaPage h page data mask) taken h.peg 3)) ∧
         (∀ page mask, Does (.deltaMask h page mask) s (fun t =>
           t = { taken with stby := { taken.stby with staged := t.stby.staged } } ∧ t.stby.staged.length = taken.stby.staged.length ∧
           ∀ (i : Nat) (g : DeltaPg), taken.stby.staged[i]? = some g →
             t.stby.staged[i]? = some (if g.page = page then DeltaPg.mk g.page g.data mask else g))) ∧
         (∀ d : DeltaEnd,
           let crc := (crc32c (taken.stby.staged.flatMap (fun g => g.data ++ g.mask))).toNat
           (taken.stby.staged.length = d.pages → crc = d.crc → Does (.deltaEnd h d) s (fun t =>
             t = { taken with stby := t.stby, hp := t.hp } ∧ t.stby.staged = [] ∧
             t.stby.acked = taken.stby.acked ++ [Delta.mk h.peg d.ctx d.pegAt taken.stby.staged d.rows d.cells] ∧
             t.stby.sync = (if taken.stby.copyDone = true then 2 else taken.stby.sync) ∧
             t.stby.tx = (if taken.stby.txAt = taken.clk.ticks then taken.stby.tx else []) ++
               [ScarfTx.mk 0x13 0 (taken.stby.txSeq % 2 ^ 32) h.peg (leBytes 4 d.crc)])) ∧
           (taken.stby.staged.length ≠ d.pages → naks (.deltaEnd h d) taken h.peg 2) ∧
           (taken.stby.staged.length = d.pages → crc ≠ d.crc → naks (.deltaEnd h d) taken h.peg 1))) ∧
       (taken.takesDeltas = false → (∀ page data mask, Gives (.deltaPage h page data mask) s taken) ∧
         (∀ page mask, Gives (.deltaMask h page mask) s taken) ∧ ∀ d, Gives (.deltaEnd h d) s taken) ∧
       (∀ c reason count,
         (taken.dev.role = .standby → reason ≤ 4 → Does (.dropFrame h c reason count) s (fun t =>
           t = { taken with ctxs := t.ctxs } ∧ (t.ctx c).drops = count ∧ (t.ctx c).lastReason = reason ∧
           (t.ctx c).consec = min 255 ((taken.ctx c).consec + 1) ∧ ∀ k, k ≠ c → t.ctx k = taken.ctx k)) ∧
         ((taken.dev.role ≠ .standby ∨ 4 < reason) → Gives (.dropFrame h c reason count) s taken))) ∧
     (∀ h : ScarfHdr, s.scarfGood h = false →
       let c1 (page : Nat) (data mask : List Byte) : Instr := .deltaPage h page data mask
       ((s.stby.lane0 = false ∨ s.stby.lane1 = false) → (∀ page data mask, Gives (c1 page data mask) s s) ∧
         (∀ page mask, Gives (.deltaMask h page mask) s s) ∧ ∀ d, Gives (.deltaEnd h d) s s) ∧
       (s.stby.lane0 = true → s.stby.lane1 = true →
         (s.takesDeltas = false → (∀ page data mask, Gives (c1 page data mask) s (s.scarfDropped h)) ∧
           (∀ page mask, Gives (.deltaMask h page mask) s (s.scarfDropped h)) ∧ ∀ d, Gives (.deltaEnd h d) s (s.scarfDropped h)) ∧
         (s.takesDeltas = true →
           let reason := if h.crcOk = true then 2 else 1
           (∀ page data mask, naks (c1 page data mask) (s.scarfDropped h) h.peg reason) ∧
           (∀ page mask, naks (.deltaMask h page mask) (s.scarfDropped h) h.peg reason) ∧
           ∀ d, naks (.deltaEnd h d) (s.scarfDropped h) h.peg reason))) ∧
     (s.stby.acked = [] → Gives .deltaApply s s) ∧
     (∀ d rest, s.stby.acked = d :: rest →
       let applied (t : State) : Prop :=
         t.stby = { s.stby with acked := rest } ∧ t.feram = s.feram ∧
         t.sram = writePts s.sram ((d.pages.filter (fun g => match tfind s.stby.copied g.page with
           | some q => decide (q < d.peg)
           | none => true)).flatMap DeltaPg.writes) ∧
         t.img.pegSeq = d.peg ∧ t.img.lastPeg = d.pegAt
       let plain (t : State) : Prop := t.img.cells = d.cells.foldl Cells.take s.img.cells ∧
         ∃ k, t.img.commits = s.img.commits ++ [k] ∧ k.seq = d.peg ∧ k.rows = d.rows ∧ k.durable = false
       (d.ctx ≠ 255 → Does .deltaApply s (fun t => applied t ∧ plain t ∧
         t = { s with sram := t.sram, img := t.img, stby := t.stby, ctxs := t.ctxs } ∧
         t.ctx d.ctx = { s.ctx d.ctx with
           consec := 0, capRaised := false, commitAt := some s.clk.ticks, lastPegAt := some d.pegAt } ∧
         ∀ k, k ≠ d.ctx → t.ctx k = s.ctx k)) ∧
       (d.ctx = 255 → s.prog.armed = none → Does .deltaApply s (fun t => applied t ∧ plain t ∧
         t = { s with sram := t.sram, img := t.img, stby := t.stby })) ∧
       (∀ e, d.ctx = 255 → s.prog.armed = some e → Does .deltaApply s (fun t => applied t ∧ t.prog.armed = none ∧
         t.prog.active = some e.newProg ∧ t.prog.bank = 1 - s.prog.bank ∧ t.prog.slot = e.slot ∧ t.prog.chain = e.chain))) ∧
     (∀ (h : ScarfHdr), s.scarfGood h = true →
       let taken := s.scarfTaken h
       let due (crc : Nat) : Prop := ∃ o ∈ taken.stby.outstanding, o.peg = h.peg ∧ o.crc = crc
       (∀ crc, ¬ due crc → Gives (.ack h crc) s taken) ∧
       (∀ crc, due crc → Does (.ack h crc) s (fun t => ∃ u : State, t = u.finishDrain.mirror ∧
         (taken.dev.drain = none → taken.stby.owesDone = false → u.finishDrain = u) ∧
         u = { taken with stby := u.stby, params := u.params, img := { taken.img with commits := u.img.commits } } ∧
         u.stby = { taken.stby with
           outstanding := taken.stby.outstanding.filter (fun o => o.peg != h.peg),
           sync := if taken.stby.copyDone = true then 2 else taken.stby.sync } ∧
         ∀ k ∈ u.img.commits, k.seq = h.peg → k.acked = true)) ∧
       (∀ reason, taken.waitsAcks = false → Gives (.nak h reason) s taken) ∧
       (∀ reason, taken.waitsAcks = true → Does (.nak h reason) s (fun t => t.sram = taken.sram ∧ t.pending = taken.pending ∧
         t.stby.outstanding = [] ∧ (∀ k ∈ t.img.commits, k.acked = true) ∧
         t = ((taken.bump 0xE0C 32).raiseEvent 24 1 reason).ackGivenUp))) ∧
     (let late : Prop := s.waitsAcks = true ∧ s.stby.linkUp = true ∧ ∃ o ∈ s.stby.outstanding, o.deadline ≤ s.clk.ticks
      (¬ late → Gives .ackDeadline s s) ∧
      (late → Does .ackDeadline s (fun t => t.sram = s.sram ∧ t.pending = s.pending ∧ t.stby.outstanding = [] ∧
         (∀ k ∈ t.img.commits, k.acked = true) ∧ t = ((s.bump 0xE0B 32).raiseEvent 24 2 0).ackGivenUp)))) ∧
  (∀ (s : State) (h : ScarfHdr), s.scarfGood h = true →
     let taken := s.scarfTaken h
     (taken.dev.role ≠ .standby → Gives (.resync h) s taken ∧ (∀ page peg data, Gives (.copyPage h page peg data) s taken) ∧
       (∀ cells, Gives (.copyCells h cells) s taken) ∧ ∀ pages cells, Gives (.copyEnd h pages cells) s taken) ∧
     (taken.dev.role = .standby →
       Does (.resync h) s (fun t =>
         (taken.prog.armed = none →
           t = { taken with sram := t.sram, hp := t.hp, img := { taken.img with cells := Cells.init }, stby := t.stby }) ∧
         t.prog.armed = none ∧ (∀ a, t.sram.read a = if imageByte a = true then 0#8 else taken.sram.read a) ∧
         t.img.cells = Cells.init ∧ t.stby.sync = 1 ∧ t.stby.refusing = false ∧ t.stby.staged = [] ∧ t.stby.acked = [] ∧
         t.stby.copied = [] ∧ t.stby.copyDone = false) ∧
       (∀ page peg data,
         (page ∈ taken.imagePages → Does (.copyPage h page peg data) s (fun t =>
           t = { taken with sram := taken.sram.writeL (pageAddr page) (data.take 4096), stby := t.stby } ∧
           t.stby.copied = tset taken.stby.copied page peg)) ∧
         (page ∉ taken.imagePages → Gives (.copyPage h page peg data) s taken)) ∧
       (∀ cells, Gives (.copyCells h cells) s { taken with img := { taken.img with
         cells := cells.foldl Cells.take taken.img.cells } }) ∧
       (∀ pages cells,
         (pages ≠ taken.stby.copied.length → Gives (.copyEnd h pages cells) s taken) ∧
         (pages = taken.stby.copied.length → Does (.copyEnd h pages cells) s (fun t =>
           t = { taken with stby := { taken.stby with copyDone := true, progress := 1000 }, img := t.img } ∧
           ∃ k, t.img = { taken.img with commits := taken.img.commits ++ [k] } ∧ k.extra.all = true ∧ k.durable = false)))))

/-- CTRL STATE, CTRL FORCE, EDIT_OFFER, EDIT_VERDICT and the planned switchover (R155, R162 to R164, R169, R176, R178): the standby
follows its primary's state at the instant sent; it puts a container together from its segments, checks it and answers; what passes is
armed or activated. The primary goes on with the load that waits, or refuses it with the standby's status; what pairing offers goes on
item by item. At X the roles exchange, unless the standby is no longer LEVEL or may not be primary. -/
def Obligations.StandbyFollowsAndSwitches : Prop :=
  ∀ (s : State),
    (∀ h : ScarfHdr, s.scarfGood h = true →
      let taken := s.scarfTaken h
      (taken.dev.role ≠ .standby → (∀ st at_, Gives (.ctrlState h st at_) s taken) ∧ (∀ f, Gives (.ctrlForce h f) s taken) ∧
        (∀ p l d v, Gives (.editOffer h p l d v) s taken) ∧ ∀ at_, Gives (.switch h at_) s taken) ∧
      (taken.dev.role = .standby →
        (∀ st at_, st ≠ 3 → st ≠ 4 → st ≠ 5 → Gives (.ctrlState h st at_) s taken) ∧
        (∀ st at_, (st = 3 ∨ st = 4 ∨ st = 5) →
          ((taken.now < at_ ∨ taken.prog.activation ≠ none) → Gives (.ctrlState h st at_) s { taken with stby := { taken.stby with
            follow := some (at_, st), partnerState := st } }) ∧
          (at_ ≤ taken.now → taken.prog.activation = none → Does (.ctrlState h st at_) s (fun t =>
            t.dev.state = (if st = 4 then .run else if st = 5 then .halt else .stop) ∧ t.dev.role = .standby ∧ t.stby.follow = none ∧
            ∀ a, shimAddr a = false → t.feram.read a = taken.feram.read a))) ∧
        (∀ forces, Gives (.ctrlForce h forces) s { taken with img := { taken.img with
          forces := forces.foldl (fun l f => tset l f.1 f.2) [] } }) ∧
        (∀ purpose left data v, left ≠ 0 → Gives (.editOffer h purpose left data v) s { taken with stby := { taken.stby with
          offerBuf := taken.stby.offerBuf ++ data } }) ∧
        (∀ data v,
          let bs := taken.stby.offerBuf ++ data
          let u : State := { taken with stby := { taken.stby with offerBuf := [] } }
          let edit : Bool := leAt bs 6 1 == 2 || leAt bs 6 1 == 3
          let check := u.checkContainer edit (if edit = true then [2, 3] else [1, 4]) bs bs.length v
          (u.offerGate edit ≠ 0 → Does (.editOffer h 0 0 data v) s (fun t => t = { u with stby := t.stby })) ∧
          (u.offerGate edit = 0 → ∀ e, check = .error e → Does (.editOffer h 0 0 data v) s (fun t => t = { u with stby := t.stby })) ∧
          (u.offerGate edit = 0 → ∀ k, check = .ok k →
            (edit = true → Does (.editOffer h 0 0 data v) s (fun t =>
              t = { u with stby := t.stby, sram := t.sram, feram := t.feram, prog := t.prog } ∧ t.prog.staging = .armed ∧
              ∃ e, t.prog.armed = some e ∧ e.kind = k.box.kind ∧ e.newProg = k.newProg ∧ e.affected = k.affected)) ∧
            (edit = false → Does (.editOffer h 0 0 data v) s (fun t =>
              t = { u with stby := t.stby, sram := t.sram, feram := t.feram, prog := t.prog, img := t.img } ∧
              t.prog.staging = .checking ∧ t.prog.armed = u.prog.armed ∧ t.prog.activation ≠ none))) ∧
          (∀ purpose, purpose ≠ 0 → Does (.editOffer h purpose 0 data v) s (fun t => t = { u with stby := t.stby } ∨
            (t = { u with stby := t.stby, sram := t.sram, feram := t.feram, prog := t.prog, img := t.img } ∧
             t.prog.staging = .checking ∧ t.prog.activation ≠ none)))) ∧
        (∀ at_, Gives (.switch h at_) s { taken with stby := { taken.stby with switchAt := some at_ } })) ∧
      (taken.dev.role ≠ .primary → ∀ status detail, Gives (.editVerdict h status detail) s taken) ∧
      (taken.dev.role = .primary →
        (∀ m status detail, taken.prog.waitMbx = some m → status ≠ 0 → (taken.mailbox m).req ≠ none →
          Does (.editVerdict h status detail) s (fun t => t = { taken with hp := t.hp, prog := t.prog } ∧
            t.Answered m 9 0x1E status [] ∧ t.prog.lastStatus = 0x1E ∧ t.prog.lockSession = none)) ∧
        (∀ m detail, taken.prog.waitMbx = some m → Gives (.editVerdict h 0 detail) s (taken.verdictPassed m)) ∧
        (taken.prog.waitMbx = none →
          (∀ k rest, taken.stby.offers = k :: rest →
            (∀ detail, Gives (.editVerdict h 0 detail) s
              (State.mirror (State.offerNext { taken with stby := { taken.stby with offers := rest } }))) ∧
            ∀ status detail, status ≠ 0 → Does (.editVerdict h status detail) s (fun t => t.dev.role = .solo ∧
              t.dev.state = taken.dev.state ∧ t.sram = taken.sram)) ∧
          (taken.stby.offers = [] →
            Gives (.editVerdict h 0 0) s taken ∧
            ∀ status detail, (status ≠ 0 ∨ detail ≠ 0) →
              Does (.editVerdict h status detail) s (fun t => t.prog.armed = none ∧ t.sram = taken.sram ∧ t.feram = taken.feram)))) ∧
      Gives (.switchDone h) s { taken with stby := { taken.stby with holdEmit := false } }) ∧
    ((s.stby.switchAt = none ∨ ∃ x, s.stby.switchAt = some x ∧ s.now < x) → Gives .switchInstant s s) ∧
    (∀ x, s.stby.switchAt = some x → x ≤ s.now →
      ((s.stby.sync ≠ 2 ∨ (s.dev.role ≠ .primary ∧ s.dev.role ≠ .standby)) →
        Gives .switchInstant s { s with stby := { s.stby with switchAt := none } }) ∧
      (s.stby.sync = 2 → s.dev.role = .primary → s.pegBefore x = true → Gives .switchInstant s s) ∧
      (s.stby.sync = 2 → s.dev.role = .primary → s.pegBefore x = false → Does .switchInstant s (fun t =>
        t.dev = { s.dev with role := .standby } ∧ t.stby.switchAt = none ∧ t.stby.sync = 2 ∧ t.sram = s.sram ∧ t.prog.armed = none ∧
        ∀ c, (t.ctx c).releasing = false)) ∧
      (s.stby.sync = 2 → s.dev.role = .standby → s.primaryBad = none → Does .switchInstant s (fun t =>
        t.dev = { s.dev with role := .primary } ∧ t.stby.switchAt = none ∧ t.stby.holdEmit = true ∧ t.sram = s.sram ∧
        t.prog.armed = none ∧ t.stby.epoch = max s.stby.epoch s.stby.partnerEpoch + 1)) ∧
      (∀ c, s.stby.sync = 2 → s.dev.role = .standby → s.primaryBad = some c → Does .switchInstant s (fun t =>
        t.dev.role = .solo ∧ t.dev.state = .stop ∧ t.stby.refusal = c ∧ t.sram = s.sram)))

/-! ### Field bays and remote I/O -/

/-- The bay cycle (R185, R187, R189, R191, R193, R196, R197, R261, R265): at its start, once in each cycle, the engine puts the
cycle-start message and a command frame on every lane; a good message sets the bay's time; an output channel applies current now and
next at its instant; the latch measures L+, the die and every channel and answers a sample frame for every channel; the frames that
arrive good on lanes without a fault are written as one unit with BAYFLT and the unused points; a stream result goes into its
modulator's buffer. A frame without sync or CRC is discarded and counted. -/
def Obligations.BayCyclesCarryCommandsAndSamples : Prop :=
  ∀ (s : State) (x : Nat), bayExists s.dev.part x = true →
    let e := s.engBay x
    let b := s.bay x
    let c := cycleOf s.now
    let chans := List.range (bayChannels s.dev.part)
    let ofBay (t : State) : Prop := t = { s with bays := t.bays } ∧ ∀ y, y ≠ x → t.bay y = s.bay y
    (s.engineOn = true → s.dev.state ≠ .boot → tget false s.eng.restart x = false →
      (e.lastCycle ≠ some c →
        let out := e.out.map (fun (o : Nat × OutEntry) => (o.1, o.2.advance c))
        Gives (.bayCycleStart x) s (s.setEngBay x { e with
          out := out, lastCycle := some c, urgent := [],
          cmds := chans.map (fun n => (n, s.cmdFrame x n c (s.bayFresh x c) out)),
          msg := some (CycleMsg.mk (cycleNum c) c (s.clk.ticks - (s.now - c) * 2 / 5) (s.bayFresh x c) (s.baySafeNow x)) })) ∧
      (e.lastCycle = some c → Gives (.bayCycleStart x) s s)) ∧
    (∀ m0 err, e.msg = some m0 → b.runs = true →
      (∀ m, m0.receive err = some m → Does (.cycleStartMessage x err) s (fun t =>
        t = { s with bays := t.bays, eng := t.eng } ∧ (t.engBay x).msg = none ∧ (t.bay x).timeSet = true ∧
        (t.bay x).timeBase = m.c ∧ (t.bay x).timeTick = m.sentAt ∧ (t.bay x).fresh = m.fresh ∧
        (m.fresh = true → (t.bay x).silent = false ∧ (t.bay x).safeNow = m.safeNow ∧ (t.bay x).lastFresh = s.clk.ticks) ∧
        (m.fresh = false → (t.bay x).silent = b.silent ∧ (t.bay x).lastFresh = b.lastFresh))) ∧
      (m0.receive err = none →
        Gives (.cycleStartMessage x err) s ((s.setEngBay x { e with msg := none }).bumpBay x 0x12))) ∧
    (∀ n f0 err, tfind e.cmds n = some f0 → b.runs = true →
      (∀ f, f0.receive err = some f → f.urgent = false → Does (.commandFrame x n err) s (fun t =>
        t = { s with bays := t.bays, eng := t.eng } ∧ t.engBay x = { e with cmds := tdel e.cmds n } ∧
        ((t.bay x).chan n).lastFrame = s.clk.ticks ∧ ((t.bay x).chan n).laneSilent = false ∧
        (modeIsOut (b.mode n) = true → (b.chan n).aout.trimState = 0 → (b.chan n).next = none →
          (∀ v, f.cur = some v → f.next = none → ((t.bay x).chan n).applied = v) ∧
          (∀ v off, f.cur = none → f.next = some (v, off) → ((t.bay x).chan n).next = some (f.c + off * 1000, v) ∧
            ((t.bay x).chan n).applied = (b.chan n).applied)))) ∧
      (f0.receive err = none →
        Gives (.commandFrame x n err) s ((s.setEngBay x { e with cmds := tdel e.cmds n }).bumpBay x 0x12))) ∧
    (∀ n tm v, b.runs = true → (b.chan n).aout.trimState = 0 → (b.chan n).next = some (tm, v) → b.timeSet = true →
      tm ≤ b.local_ s.clk.ticks → Does (.applyNext x n) s (fun t => ofBay t ∧ ((t.bay x).chan n).applied = v ∧
        ((t.bay x).chan n).next = none)) ∧
    (∀ r lp temp, b.runs = true → b.timeSet = true →
      (b.latched ≠ some (cycleOf (b.local_ s.clk.ticks)) → s.engineOn = true →
        Does (.bayLatch x r lp temp) s (fun t =>
          t = { s with bays := t.bays, eng := t.eng, net := t.net, params := t.params, freeCtr := t.freeCtr } ∧
          (t.bay x).latched = some (cycleOf (b.local_ s.clk.ticks)) ∧ (t.bay x).lp = lp ∧ (t.bay x).temp = temp ∧
          ∀ n ∈ chans, (∀ q, r[n]? = some q → ((t.bay x).chan n).reading = q) ∧
            ∃ f, tfind (t.engBay x).samples n = some f ∧ f.cycle = cycleNum (cycleOf (b.local_ s.clk.ticks)) ∧
              f.late = (b.chan n).late)) ∧
      (b.latched = some (cycleOf (b.local_ s.clk.ticks)) → Gives (.bayLatch x r lp temp) s s)) ∧
    (∀ errs, s.engineOn = true → s.pwr.sram = true → (∃ l, e.lastCycle = some l ∧ e.taken ≠ some l) → e.bayflt = false →
      bit e.word 1 = false → e.lost = false → (∀ l ∈ e.lanes, l.2.fault = false) →
      let good (n : Nat) : Option Sample := (e.frame errs n).bind id
      let lane (n : Nat) : Lane := (tget Lane.init e.lanes n).count (good n).isSome
      (∀ n ∈ chans, (lane n).fault = false) →
      Does (.sampleFrame x errs) s (fun t =>
        t = { s with eng := t.eng, flt := t.flt, sram := t.sram, img := t.img, params := t.params, freeCtr := t.freeCtr } ∧
        (t.engBay x).taken = e.lastCycle ∧ (t.engBay x).samples = [] ∧
        (∀ n ∈ chans, tfind (t.engBay x).lanes n = some (lane n) ∧
          ∀ f, good n = some f → tfind (t.engBay x).flags n = some (f.late, f.safe)) ∧
        t.sram = writePts s.sram (chans.flatMap (fun n => match good n with
          | some f => s.unitOf x n f
          | none => []) ++ [(s.bayN x 5 + 16, 0)] ++ s.unusedPts x))) ∧
    (∀ n f0 err, tfind e.streams n = some f0 → n < 16 → modExists s.dev.part x (n / 8) = true → s.engineOn = true →
      let head := s.pn (bayPid x (modOff (n / 8) 5))
      (∀ f, f0.receive s.now err = some f → s.pwr.sram = true → head < 4096 → Does (.streamFrame x n err) s (fun t =>
        t = { s with eng := t.eng, params := t.params, sram := s.sram.writeL (dmaBase x (n / 8) + 4 * head) (leBytes 4 f.entry) } ∧
        t.engBay x = { e with streams := tdel e.streams n } ∧ t.pn (bayPid x (modOff (n / 8) 5)) = (head + 1) % 4096 ∧
        t.pn (bayPid x (modOff (n / 8) 7)) = f.eoc)) ∧
      (f0.receive s.now err = none →
        Gives (.streamFrame x n err) s ((s.setEngBay x { e with streams := tdel e.streams n }).bumpBay x 0x12)))

/-- Management of a bay (R194, R208, R213, R241, R286, Table BAY-5): a request goes out as a 64-byte frame while none is outstanding, is
answered within the cycle with its tag and the status first, is repeated three times and then fails; a bad frame is discarded and
counted; a configuration is written into the copy that is not newest and taken into force by its CRC; DIAG_POLL reads every record into
the DG area. -/
def Obligations.BayManagement : Prop :=
  ∀ (s : State) (x : Nat), bayExists s.dev.part x = true → s.engineOn = true →
    let e := s.engBay x
    let b := s.bay x
    let k := if b.cfgCopy = 0 then 1 else 0
    let tag := (e.tag + 1) % 256
    let answers (ty : Nat) (data resp : List Byte) (t : State) : Prop :=
      t = { s with eng := t.eng, bays := t.bays } ∧ (∀ y, y ≠ x → t.bay y = s.bay y) ∧
      t.engBay x = { e with tag := tag, mgmt := some (Mgmt.mk ty tag data 0 (some (mgmtFrame ty tag resp))) }
    (e.mgmt = none → tget false s.eng.restart x = false → b.runs = true →
      Does (.bayIdent x []) s (fun t => answers 0x11 [] (0#8 :: s.identBytes x) t ∧ t.bays = s.bays) ∧
      (∀ err, frameOk 0x9F 64 (flipBytes (mgmtFrame 0x11 tag []) err) = false → s.pn (bayPid x 0x12) + 1 < 2 ^ 32 →
        Does (.bayIdent x err) s (fun t => t = { s with eng := t.eng, params := t.params } ∧
          t.engBay x = { e with tag := tag, mgmt := some (Mgmt.mk 0x11 tag [] 0 none) } ∧
          t.pn (bayPid x 0x12) = s.pn (bayPid x 0x12) + 1)) ∧
      (∀ off data, 1 ≤ data.length → data.length ≤ 48 → off + data.length ≤ 0x1000 → Does (.cfgWrite x off data []) s (fun t =>
        answers 0x12 (leBytes 2 off ++ leBytes 1 data.length ++ data) [0#8] t ∧
        t.bay x = { b with feram := b.feram.writeL (copyBase k + off) data })) ∧
      (∀ crc, (crc32 (copyBody b.feram k)).toNat = crc → Does (.cfgCommit x crc []) s (fun t =>
        (t.bay x).cfgCopy = k ∧ (t.bay x).cfgSeq = (b.cfgSeq + 1) % 2 ^ 32 ∧ (t.bay x).cfgCrc = crc ∧
        (t.bay x).resetSeen = false ∧ t.sram = s.sram ∧
        ∃ g, (t.engBay x).mgmt = some g ∧ g.ty = 0x13 ∧
          g.resp = some (mgmtFrame 0x13 tag (0#8 :: leBytes 4 ((b.cfgSeq + 1) % 2 ^ 32))))) ∧
      (∀ off n, 1 ≤ n → n ≤ 48 → off + n ≤ 0x1000 → Does (.cfgRead x off n []) s (fun t => t.bays = s.bays ∧
        answers 0x14 (leBytes 2 off ++ leBytes 1 n)
          (0#8 :: b.feram.readN (copyBase (if b.cfgCopy = 1 then 1 else 0) + off) n) t)) ∧
      (∀ n, n < bayChannels s.dev.part → Does (.diagRead x (n + 1) []) s (fun t => t.bays = s.bays ∧
        answers 0x15 (leBytes 1 (n + 1)) (0#8 :: recordBytes (s.chanRecord x n)) t)) ∧
      (∀ n, n < 16 → b.mode n ≠ 0 → b.mode n ≠ 0xFF → Does (.protClear x n 0 []) s (fun t =>
        answers 0x16 (leBytes 1 n ++ leBytes 1 0) [0#8] t ∧ (t.bay x).par = b.par ∧ (t.bay x).feram = b.feram)) ∧
      (∀ n data, n < 16 → (b.mode n = 16 ∨ b.mode n = 17) → (b.chan n).aout.trimState = 0 → Does (.trimWrite x n 1 data []) s (fun t =>
        answers 0x17 (leBytes 1 n ++ leBytes 1 1 ++ leBytes 2 0 ++ leBytes 4 (ofInt 32 data)) [0#8] t ∧
        ((t.bay x).chan n).aout.trimState = 1))) ∧
    (∀ g, e.mgmt = some g →
      (∀ r err, g.resp = some r →
        let q := flipBytes r err
        let unanswered := s.setEngBay x { e with mgmt := some { g with resp := none } }
        ((q = r ∨ frameOk 0x9F 64 q = true) → (readMgmt q).2.1 = g.tag → Gives (.mgmtResponse x err) s
          (s.setEngBay x { e with mgmt := none, lastResp := (readMgmt q).2.2, mgmtFailed := false })) ∧
        ((q = r ∨ frameOk 0x9F 64 q = true) → (readMgmt q).2.1 ≠ g.tag → Gives (.mgmtResponse x err) s unanswered) ∧
        (q ≠ r → frameOk 0x9F 64 q = false → Gives (.mgmtResponse x err) s (unanswered.bumpBay x 0x12))) ∧
      (∀ err,
        (3 ≤ g.tries → Gives (.mgmtTimeout x err) s (s.setEngBay x { e with mgmt := none, mgmtFailed := true })) ∧
        (g.tries < 3 → b.runs = false → Gives (.mgmtTimeout x err) s (s.setEngBay x { e with
          mgmt := some { g with tries := g.tries + 1, resp := none } }))) ∧
      (g.tries < 3 → b.runs = true → g.ty = 0x11 → Gives (.mgmtTimeout x []) s (s.setEngBay x { e with
        mgmt := some { g with tries := g.tries + 1, resp := some (mgmtFrame 0x11 g.tag (0#8 :: s.identBytes x)) } }))) ∧
    (s.coresRun = true → s.pwr.sram = true → Does .diagPoll s (fun t => t.eng.diagAt = s.clk.ticks ∧ t.feram = s.feram ∧
      t.pending = s.pending ∧ t.flt = s.flt ∧ t.hp = s.hp ∧
      (e.mgmt = none → e.lost = false → b.runs = true → (t.engBay x).lastRead = b.readAll s.clk.ticks ∧ (t.bay x).lpMin = b.lp)))

/-- The alive lane, silence, clock loss, field supply, reset, limp-home and the pins of a bay (R195, R199, R200, R202, R205, R206, R207,
R211). -/
def Obligations.BayAliveSupplyAndLimp : Prop :=
  ∀ (s : State) (x n : Nat), bayExists s.dev.part x = true →
    let e := s.engBay x
    let b := s.bay x
    let ofBay (t : State) : Prop :=
      t = { s with bays := t.bays, params := t.params, freeCtr := t.freeCtr } ∧ ∀ y, y ≠ x → t.bay y = s.bay y
    (∀ hb, b.statusWord hb % 256 + b.statusWord hb / 256 = 255 ∧ bit (b.statusWord hb) 7 = false ∧
      bit (b.statusWord hb) 0 = hb ∧ bit (b.statusWord hb) 1 = b.common) ∧
    (∀ err : W16, b.runs = true →
      let w := (BitVec.ofNat 16 (b.statusWord (!b.hb)) ^^^ err).toNat
      (w % 256 + w / 256 = 255 → bit w 7 = false → bit w 1 = false → s.engineOn = true →
        s.dev.state ≠ .boot → bit w 0 ≠ e.hb → tget false s.eng.restart x = false → e.lost = false → e.bayflt = false →
        e.laneFault = false → Does (.aliveStatusWord x err) s (fun t => t = { s with eng := t.eng, flt := t.flt, bays := t.bays } ∧
          t.bay x = { b with hb := !b.hb } ∧
          (t.engBay x).word = w ∧ (t.engBay x).hb = bit w 0 ∧ (t.engBay x).wordAt = s.clk.ticks)) ∧
      ((w % 256 + w / 256 ≠ 255 ∨ bit w 7 = true) → Gives (.aliveStatusWord x err) s (s.setBay x { b with hb := !b.hb }))) ∧
    (s.engineOn = true → e.lost = false →
      (100 * usTicks ≤ s.elapsed e.wordAt → Does (.bayLost x) s (fun t =>
        (t.engBay x).lost = true ∧ (t.engBay x).bayflt = true ∧ bit (t.engBay x).sticky 6 = true ∧ t.sram = s.sram)) ∧
      (s.elapsed e.wordAt < 100 * usTicks → Gives (.bayLost x) s s)) ∧
    (b.runs = true → b.silent = false →
      (b.silentTicks ≤ s.elapsed b.lastFresh → s.pn (bayPid x 0xF) + 1 < 2 ^ 32 →
        Does (.baySilent x) s (fun t => ofBay t ∧ (t.bay x).silent = true ∧ (t.bay x).fresh = false ∧
          t.pn (bayPid x 0xF) = s.pn (bayPid x 0xF) + 1)) ∧
      (s.elapsed b.lastFresh < b.silentTicks → Gives (.baySilent x) s s)) ∧
    (b.runs = true → n < bayChannels s.dev.part → (b.chan n).laneSilent = false →
      (b.silentTicks ≤ s.elapsed (b.chan n).lastFrame →
        Does (.laneSilent x n) s (fun t => ofBay t ∧ ((t.bay x).chan n).laneSilent = true)) ∧
      (s.elapsed (b.chan n).lastFrame < b.silentTicks → Gives (.laneSilent x n) s s)) ∧
    (b.runs = true → Does (.bayClockLoss x) s (fun t => ofBay t ∧ (t.bay x).clockLost = true ∧ (t.bay x).timeSet = false ∧
      (t.bay x).lostAt = s.clk.ticks ∧ (t.bay x).m0.stopped = true ∧ (t.bay x).m1.stopped = true)) ∧
    (b.clockLost = true → b.inReset = false →
      (msTicks ≤ s.elapsed b.lostAt → Does (.bayClockReturn x) s (fun t => ofBay t ∧
        (t.bay x).clockLost = false ∧ (t.bay x).silent = true ∧ (t.bay x).fresh = false)) ∧
      (s.elapsed b.lostAt < msTicks → Gives (.bayClockReturn x) s s)) ∧
    (∀ lp, b.inReset = false →
      (lp < 1920 → msTicks ≤ s.elapsed b.highAt → Does (.lpWarning x lp) s (fun t => ofBay t ∧ (t.bay x).warn = true ∧
        (t.bay x).lp = lp ∧ (t.bay x).lpMin = min b.lpMin lp)) ∧
      ((1920 ≤ lp ∨ s.elapsed b.highAt < msTicks) → Gives (.lpWarning x lp) s s)) ∧
    (∀ lp, b.inReset = false →
      (lp < 1600 → (b.uv = true ∨ s.pn (bayPid x 0x10) + 1 < 2 ^ 32) →
        Does (.lpUndervolt x lp) s (fun t => ofBay t ∧ (t.bay x).uv = true ∧ (t.bay x).qualified = false ∧
          (t.bay x).m0.stopped = true ∧ (t.bay x).m1.stopped = true ∧ (∀ i, i < 16 → ((t.bay x).chan i).restored = false) ∧
          (b.uv = false → t.pn (bayPid x 0x10) = s.pn (bayPid x 0x10) + 1))) ∧
      (1600 ≤ lp → Gives (.lpUndervolt x lp) s s)) ∧
    (∀ lp, b.inReset = false → b.qualified = false →
      (1750 < lp → 10 * msTicks ≤ s.elapsed b.lowAt → Does (.lpQualified x lp) s (fun t => ofBay t ∧
        (t.bay x).uv = false ∧ (t.bay x).qualified = true ∧ (t.bay x).qualifiedAt = s.clk.ticks)) ∧
      ((lp ≤ 1750 ∨ s.elapsed b.lowAt < 10 * msTicks) → Gives (.lpQualified x lp) s s)) ∧
    (b.qualified = true → b.inReset = false → n < 16 → (b.chan n).restored = false →
      (200 * n * usTicks ≤ s.elapsed b.qualifiedAt → Does (.channelRestore x n) s (fun t => ofBay t ∧
        ((t.bay x).chan n).restored = true ∧ ((t.bay x).chan n).aout.tap = 3)) ∧
      (s.elapsed b.qualifiedAt < 200 * n * usTicks → Gives (.channelRestore x n) s s)) ∧
    (∀ lp, lp < 1200 →
      (b.inReset = false → s.pn (bayPid x 0x11) + 1 < 2 ^ 32 → Does (.bayReset x lp) s (fun t => ofBay t ∧ (t.bay x).inReset = true ∧
        (t.bay x).resetSeen = true ∧ (t.bay x).timeSet = false ∧ (t.bay x).qualified = false ∧ (t.bay x).feram = b.feram ∧
        (t.bay x).lp = lp ∧ t.pn (bayPid x 0x11) = s.pn (bayPid x 0x11) + 1 ∧
        ∀ i, i < 16 → ((t.bay x).chan i).restored = false ∧ ((t.bay x).chan i).next = none ∧
          ((t.bay x).chan i).dout.clampAcc = (b.chan i).dout.clampAcc)) ∧
      (b.inReset = true → Gives (.bayReset x lp) s (s.putBay x { b with lp := lp, uv := true, lowAt := s.clk.ticks }))) ∧
    (∀ lp, 1200 ≤ lp → Gives (.bayReset x lp) s s) ∧
    (∀ lp sel, b.inReset = true →
      (1300 < lp → Does (.bayConfigLoaded x lp sel) s (fun t => (t.bay x).inReset = false ∧
        (t.bay x).almsel = sel ∧ (t.bay x).lp = lp ∧ t.feram = s.feram)) ∧
      (lp ≤ 1300 → Gives (.bayConfigLoaded x lp sel) s s)) ∧
    (∀ volt held, b.runs = true →
      (limpLevel x volt b.limp = true → 5000 ≤ held →
        Does (.limpAssert x volt held) s (fun t => ofBay t ∧ (t.bay x).limp = true ∧ (t.bay x).par = b.par)) ∧
      (limpLevel x volt b.limp = false → 5000 ≤ held →
        Does (.limpRelease x volt held) s (fun t => ofBay t ∧ (t.bay x).limp = false ∧ (t.bay x).par = b.par)) ∧
      (held < 5000 → Gives (.limpAssert x volt held) s s ∧ Gives (.limpRelease x volt held) s s)) ∧
    (∀ code : BitVec 4, Does (.selCodeChange x code) s (fun t => ofBay t ∧ (t.bay x).sel = code.toNat ∧
      (t.bay x).isns = (t.bay x).outNa code.toNat * 500 ∧ (t.bay x).fltLow = ((t.bay x).common && decide (500 ≤ b.lp))))

/-- R235: where clear_on_low is 1, a change of the value applied under R191 from 1 to 0 clears the OC latch and cancels a pending retry,
retry_left and the other latches staying as they are; where it is 0, or the value does not fall, the OC latch and the retry stay. -/
def Obligations.FallingValueClearsTheOcLatch : Prop :=
  ∀ (s : State) (x n : Nat) (tm v : Nat),
    let b := s.bay x
    let c := b.chan n
    b.runs = true → n < 16 → modeIsDo (b.mode n) = true → c.aout.trimState = 0 → c.next = some (tm, v) → b.timeSet = true →
    tm ≤ b.local_ s.clk.ticks →
    Does (.applyNext x n) s (fun t =>
      t = { s with bays := t.bays } ∧ (∀ y, y ≠ x → t.bay y = s.bay y) ∧
      let k := (t.bay x).chan n
      k.applied = v ∧ k.dout.retryLeft = c.dout.retryLeft ∧ k.dout.thermal = c.dout.thermal ∧
      k.dout.clampLock = c.dout.clampLock ∧ k.dout.clampAcc = c.dout.clampAcc ∧
      (b.cn n 0x21 = 1 → c.applied % 2 = 1 → v % 2 = 0 → k.dout.oc = false ∧ k.dout.retryDue = none) ∧
      ((b.cn n 0x21 ≠ 1 ∨ c.applied % 2 = 0 ∨ v % 2 = 1) → k.dout.oc = c.dout.oc ∧ k.dout.retryDue = c.dout.retryDue))

/-- Digital inputs and counters (R220, R221, R224, R226 to R228): a level that the comparator has given for the filter time becomes the
debounced state; a wire break is declared below i_min and cleared at it, each for wb.time; a counter counts the chosen edges modulo
2^32, a quadrature decoder up when A leads B; both tracks at once are a transition error; a phase shorter than 38 BCLK cycles is an
overspeed and one shorter than 5 no edge. Nothing changes but the bay's channels and the counters. -/
def Obligations.DigitalInputsAndCounters : Prop :=
  ∀ (s : State) (x n : Nat), s.bayActs x n = true →
    let b := s.bay x
    let c := b.chan n
    let on (post : Chan → Prop) (t : State) : Prop :=
      t = { s with bays := t.bays, params := t.params, freeCtr := t.freeCtr } ∧ (∀ y, y ≠ x → t.bay y = s.bay y) ∧
      (t.bay x).par = b.par ∧ (t.bay x).feram = b.feram ∧ post ((t.bay x).chan n)
    (modeIsDi (b.mode n) = true → ∀ volt held,
      let level := comparator x n (b.inType n) volt c.raw
      (c.din.deb ≠ level → b.cn n 5 ≤ held → s.heldSince held c.din.since = true →
        Does (.debounceChange x n volt held) s (on (fun k => k.din.deb = level ∧ k.raw = level ∧
          (level = true → c.din.wireBreak = true → k.din.wireBreak = false ∧ bit k.live 0 = false)))) ∧
      ((c.din.deb = level ∨ held < b.cn n 5) → Gives (.debounceChange x n volt held) s s)) ∧
    (modeIsDi (b.mode n) = true → ∀ i held,
      (b.cn n 7 = 1 → c.din.deb = false → c.din.wireBreak = false → i < b.cn n 8 → b.cn n 9 * 1000 ≤ held →
        s.heldSince held c.din.since = true → s.pn (s.chanPid x n 11) + 1 < 2 ^ 32 →
        Does (.wireBreakDeclare x n i held) s (fun t => t.pn (s.chanPid x n 11) = s.pn (s.chanPid x n 11) + 1 ∧
          on (fun k => k.din.wireBreak = true ∧ bit k.live 0 = true ∧ bit k.sticky 0 = true) t)) ∧
      ((b.cn n 7 ≠ 1 ∨ c.din.deb = true ∨ b.cn n 8 ≤ i ∨ held < b.cn n 9 * 1000) → Gives (.wireBreakDeclare x n i held) s s) ∧
      (c.din.wireBreak = true →
        (c.din.deb = true ∨ (b.cn n 8 ≤ i ∧ b.cn n 9 * 1000 ≤ held ∧ s.heldSince held c.din.since = true)) →
        Does (.wireBreakClear x n i held) s (on (fun k =>
          k.din.wireBreak = false ∧ bit k.live 0 = false ∧ k.din.invalidUntil = s.clk.ticks + b.cn n 5 * usTicks))) ∧
      (c.din.deb = false → (i < b.cn n 8 ∨ held < b.cn n 9 * 1000) → Gives (.wireBreakClear x n i held) s s)) ∧
    (b.mode n = 3 → ∀ volt phase,
      let level := comparator x n (b.inType n) volt c.raw
      let chosen : Prop := b.cn n 0x10 = 2 ∨ (b.cn n 0x10 = 0 ∧ level = true) ∨ (b.cn n 0x10 = 1 ∧ level = false)
      ((phase < 5 ∨ level = c.raw) → Gives (.counterEdge x n volt phase) s s) ∧
      (5 ≤ phase → level ≠ c.raw →
        (b.countsEdges n = false → Does (.counterEdge x n volt phase) s (on (fun k =>
          k.raw = level ∧ k.din.synced = true ∧ k.din.count = c.din.count))) ∧
        (b.countsEdges n = true → 39 ≤ phase → Does (.counterEdge x n volt phase) s (on (fun k =>
          k.raw = level ∧ k.events = c.events ∧
          k.din.count = (if chosen then (c.din.count + 1) % 2 ^ 32 else c.din.count)))) ∧
        (b.countsEdges n = true → phase < 39 → Does (.counterEdge x n volt phase) s (on (fun k =>
          k.raw = level ∧ (phase < 38 → bit k.events 0 = true) ∧ (38 ≤ phase → k.events = c.events) ∧
          (k.din.count = c.din.count ∨ (chosen ∧ k.din.count = (c.din.count + 1) % 2 ^ 32))))))) ∧
    (b.mode n = 4 → ∀ va vb phase,
      let d := b.chan (n + 1)
      let la := comparator x n (b.inType n) va c.raw
      let lb := comparator x (n + 1) (b.inType (n + 1)) vb d.raw
      let da := c.raw != la
      let db := d.raw != lb
      let chosen : Prop := b.cn n 0x11 = 4 ∨ (b.cn n 0x11 = 2 ∧ da = true) ∨ (b.cn n 0x11 = 1 ∧ da = true ∧ la = true)
      let leads : Bool := if da then la != lb else la == lb
      let up : Bool := leads != (b.cn n 0x12 == 1)
      ((phase < 5 ∨ (da = false ∧ db = false)) → Gives (.quadEdge x n va vb phase) s s) ∧
      (5 ≤ phase → b.countsEdges n = false → (da = true ∨ db = true) → Does (.quadEdge x n va vb phase) s (on (fun k =>
        k.raw = la ∧ k.din.synced = true ∧ k.din.count = c.din.count))) ∧
      (39 ≤ phase → b.countsEdges n = true → da ≠ db → Does (.quadEdge x n va vb phase) s (fun t =>
        ((t.bay x).chan (n + 1)).raw = lb ∧ on (fun k => k.raw = la ∧ k.events = c.events ∧
          (chosen → k.din.dirUp = up ∧ k.din.count = (if up = true then (c.din.count + 1) % 2 ^ 32
            else (c.din.count + 2 ^ 32 - 1) % 2 ^ 32)) ∧
          (¬ chosen → k.din.count = c.din.count)) t)) ∧
      (5 ≤ phase → b.countsEdges n = true → da = true → db = true → Does (.quadEdge x n va vb phase) s (on (fun k =>
        k.raw = la ∧ bit k.events 2 = true ∧ bit k.sticky 2 = true ∧ k.din.count = c.din.count ∧
        (phase < 38 → bit k.events 0 = true)))))

/-- Protected digital outputs (R231 to R234, R236, R238 to R240): over-current, thermal and clamp latches switch their group off; a
retry falls due after 100 ms and is taken while the drive is on; a window ends at its time; retries come back after 10 s on; energies
accumulate and decay by 1 mJ in 25 ms; open load and external high are set and cleared after their times. What has not lasted its time
changes nothing. -/
def Obligations.ProtectedOutputsLatchAndRetry : Prop :=
  ∀ (s : State) (x n l : Nat), s.doGroup x n = some l →
    let b := s.bay x
    let c := b.chan l
    let k0 := b.chan n
    let on (post : Bay → Prop) (t : State) : Prop :=
      t = { s with bays := t.bays, params := t.params, freeCtr := t.freeCtr } ∧ (∀ y, y ≠ x → t.bay y = s.bay y) ∧
      (t.bay x).par = b.par ∧ (t.bay x).feram = b.feram ∧ post (t.bay x)
    (c.dout.sw = true → Does (.hardLimit x n) s (on (fun k => bit (k.chan n).sticky 5 = true))) ∧
    (c.dout.sw = false → Gives (.hardLimit x n) s s) ∧
    (∀ i held,
      ((c.dout.sw = true ∨ (c.dout.thermal = true ∧ c.dout.oc = false ∧ c.dout.offAt = s.clk.ticks)) → b.tripLevel l < i →
        8 ≤ held → s.heldSince held c.dout.runFrom = true → s.pn (s.chanPid x l 0x25) + 1 < 2 ^ 32 →
        Does (.ocTrip x n i held) s (fun t => t.pn (s.chanPid x l 0x25) = s.pn (s.chanPid x l 0x25) + 1 ∧
          on (fun k => (k.chan l).dout.oc = true ∧ (k.chan l).dout.sw = false ∧
            (k.chan l).dout.retryLeft = c.dout.retryLeft ∧
            (k.chan l).dout.retryDue = (if c.dout.retryLeft ≠ 0 then some (s.clk.ticks + 100 * msTicks) else none)) t)) ∧
      ((i ≤ b.tripLevel l ∨ held < 8 ∨ s.heldSince held c.dout.runFrom = false) → Gives (.ocTrip x n i held) s s)) ∧
    (∀ e, c.dout.inrush = some e →
      (c.dout.sw = true → e ≤ s.clk.ticks → Does (.inrushWindowEnd x l) s (on (fun k => (k.chan l).dout.inrush = none ∧
        (k.chan l).dout.runFrom = max e c.dout.runFrom))) ∧
      (s.clk.ticks < e → Gives (.inrushWindowEnd x l) s s)) ∧
    (c.dout.sw = true →
      (10 * secTicks ≤ s.elapsed c.dout.onAt → Does (.retryRestore x l) s (on (fun k =>
        (k.chan l).dout.retryLeft = b.cn l 0x1B))) ∧
      (s.elapsed c.dout.onAt < 10 * secTicks → Gives (.retryRestore x l) s s)) ∧
    (∀ i held,
      (c.dout.sw = true → c.dout.inrush = none → i < b.cn l 0x22 → 50000 ≤ held → s.heldSince held c.dout.quietFrom = true →
        Does (.openloadSet x n i held) s (on (fun k => bit (k.chan n).sticky 6 = true))) ∧
      ((c.dout.sw = false ∨ b.cn l 0x22 ≤ i ∨ held < 50000) → Gives (.openloadSet x n i held) s s) ∧
      (bit k0.live 6 = true → b.cn l 0x22 ≤ i → 50000 ≤ held →
        Does (.openloadClear x n i held) s (on (fun k => bit (k.chan n).live 6 = false))) ∧
      ((bit k0.live 6 = false ∨ i < b.cn l 0x22 ∨ held < 50000) → Gives (.openloadClear x n i held) s s)) ∧
    (∀ d, c.dout.retryDue = some d →
      (d ≤ s.clk.ticks → b.driveDo l = true → c.dout.thermal = false → c.dout.clampLock = false →
        Does (.retryDue x l) s (on (fun k => (k.chan l).dout.oc = false ∧ (k.chan l).dout.retryDue = none ∧
          (k.chan l).dout.retryLeft = c.dout.retryLeft - 1))) ∧
      ((s.clk.ticks < d ∨ b.driveDo l = false ∨ c.dout.thermal = true ∨ c.dout.clampLock = true) → Gives (.retryDue x l) s s)) ∧
    (∀ temp : Int,
      (1700 ≤ temp → Does (.thermalTrip x n temp) s (on (fun k => (k.chan l).dout.thermal = true ∧
        (k.chan l).dout.sw = false ∧ (k.chan n).reading.temp = temp))) ∧
      (temp < 1700 → Gives (.thermalTrip x n temp) s s)) ∧
    (∀ energy, s.pulseOpen x n l = true →
      (k0.dout.pulse.getD 0 ≤ 300 → 300 < energy → Does (.clampOver x n energy) s (on (fun k =>
        (k.chan l).dout.clampLock = true ∧ (k.chan l).dout.sw = false ∧ bit (k.chan n).live 8 = true))) ∧
      ((300 < k0.dout.pulse.getD 0 ∨ energy ≤ 300) → Gives (.clampOver x n energy) s s) ∧
      (k0.dout.pulse.getD 0 ≤ energy → Does (.clampPulseEnd x n energy) s (on (fun k =>
        (k.chan n).dout.clampAcc = k0.dout.clampAcc + energy ∧ (k.chan n).dout.clampLast = energy ∧
        ((300 < energy ∨ b.cn l 0x1D ≤ k0.dout.clampAcc + energy) → (k.chan l).dout.clampLock = true) ∧
        (energy ≤ 300 → k0.dout.clampAcc + energy < b.cn l 0x1D → (k.chan l).dout.clampLock = c.dout.clampLock ∧
          (c.dout.sw = false → (∀ i, i ≠ l → n ∉ b.members i) → (k.chan n).dout.pulse = none))))) ∧
      (energy < k0.dout.pulse.getD 0 → Gives (.clampPulseEnd x n energy) s s)) ∧
    (s.pulseOpen x n l = false → ∀ energy, Gives (.clampOver x n energy) s s ∧ Gives (.clampPulseEnd x n energy) s s) ∧
    (25 * msTicks ≤ s.elapsed b.decayAt → Does (.clampDecay x) s (on (fun k => k.decayAt = s.clk.ticks ∧
      ∀ i, i < 16 → (k.chan i).dout.clampAcc = (b.chan i).dout.clampAcc - 1))) ∧
    (s.elapsed b.decayAt < 25 * msTicks → Gives (.clampDecay x) s s) ∧
    (∀ volt held,
      (c.dout.sw = false → k0.dout.pulse.getD 0 = 0 → inRise x n 1 < volt → 10000 ≤ held →
        s.heldSince held c.dout.offAt = true → Does (.extHighSet x n volt held) s (on (fun k =>
          bit (k.chan n).sticky 7 = true ∧ (k.chan n).high = true))) ∧
      ((c.dout.sw = true ∨ volt ≤ inRise x n 1 ∨ held < 10000) → Gives (.extHighSet x n volt held) s s) ∧
      (bit k0.live 7 = true → volt ≤ inRise x n 1 → 10000 ≤ held → Does (.extHighClear x n volt held) s (on (fun k =>
        bit (k.chan n).live 7 = false ∧ (k.chan n).high = false))) ∧
      ((bit k0.live 7 = false ∨ inRise x n 1 < volt ∨ held < 10000) → Gives (.extHighClear x n volt held) s s))

/-- Analog inputs (R247, R250, R252, R254 to R257, R259, R261 to R264): an output of the sinc filter passes, or withholds the next ones
after a step; a conversion's filter output waits for its delivery; a result gives value, code, sequence and its range bits by the limits
of its mode, and a stream frame; crossings count; maintenance visits store what their code stands for; the current shunt opens above
30 mA and recloses. -/
def Obligations.AnalogInputsConvertAndDeliver : Prop :=
  ∀ (s : State) (x : Nat),
    let b := s.bay x
    let on (post : Bay → Prop) (t : State) : Prop :=
      t = { s with bays := t.bays, params := t.params, freeCtr := t.freeCtr } ∧ (∀ y, y ≠ x → t.bay y = s.bay y) ∧
      (t.bay x).par = b.par ∧ (t.bay x).feram = b.feram ∧ post (t.bay x)
    (∀ m v, m < 2 → s.visitOf x m = some v →
      let delivers : Prop := v.kind = .scan ∨ v.kind = .urgent
      (∀ y : Int,
        let z := clampCode y
        ((¬ delivers ∨ v.outs = [] ∨ ∃ p rest, v.outs = p :: rest ∧ b.isStep v.ch z p = false) →
          Does (.sincOutput x m y) s (on (fun k =>
            (k.modl m).visit = some { v with skip := v.skip - 1, outs := (z :: v.outs).take 32 } ∧ k.chans = b.chans))) ∧
        (∀ p rest, delivers → v.outs = p :: rest → b.isStep v.ch z p = true → Does (.sincOutput x m y) s (on (fun k =>
          (k.modl m).visit = some { v with skip := v.filt.settling, outs := (z :: v.outs).take 32 } ∧
          bit (k.chan v.ch).live 4 = true)))) ∧
      (delivers → v.skip = 0 → Does (.conversionEnd x m) s (on (fun k =>
        (∃ p, (k.modl m).pend = (b.modl m).pend ++ [p] ∧ p.ch = v.ch ∧ p.code = v.code ∧
          p.urgent = decide (v.kind = .urgent) ∧ p.first = v.first ∧ p.eoc = b.local_ s.clk.ticks ∧ p.at_ = s.clk.ticks) ∧
        (b.visitEnds m s.clk.ticks v = false → (k.modl m).visit = some { v with
          left := if v.left ≤ 1 then b.cn v.ch 9 else v.left - 1, skip := v.filt.a, first := false })))) ∧
      ((¬ delivers ∨ v.skip ≠ 0) → Gives (.conversionEnd x m) s s) ∧
      (∀ code,
        let lead := b.measured x v.ch (clampCode code)
        let r := b.scaledOf x v.ch (clampCode code)
        (v.kind = .lead → v.skip = 0 → Does (.leadVisitEnd x m code) s (on (fun k =>
          (k.chan v.ch).ain.leadMeas = lead.toNat ∧
          (k.chan v.ch).ain.owLead = (decide (50000 < lead) || decide ((ainLimits (b.mode v.ch) false).2 < lead))))) ∧
        ((v.kind ≠ .lead ∨ v.skip ≠ 0) → Gives (.leadVisitEnd x m code) s s) ∧
        (v.kind = .test → v.skip = 0 → Does (.testVisitEnd x m code) s (on (fun k =>
          (k.chan v.ch).ain.owTest = (r.ovr || r.under || decide (b.cv v.ch 0x18 * 1000 <
            (b.userValue v.ch r.scaled - (b.chan v.ch).ain.lastValid).natAbs))))) ∧
        ((v.kind ≠ .test ∨ v.skip ≠ 0) → Gives (.testVisitEnd x m code) s s))) ∧
    (∀ m (y : Int), s.visitOf x m = none → Gives (.sincOutput x m y) s s ∧ Gives (.conversionEnd x m) s s ∧
      Gives (.leadVisitEnd x m y) s s ∧ Gives (.testVisitEnd x m y) s s) ∧
    (∀ m p rest compliance, m < 2 → (b.modl m).pend = p :: rest → modExists s.dev.part x m = true → b.runs = true →
      modeIsAin (b.mode p.ch) = true → p.ch < 16 →
      let r := b.scaledOf x p.ch p.code
      (4 * usTicks ≤ s.elapsed p.at_ → s.pn (s.chanPid x p.ch 0x24) + 1 < 2 ^ 32 →
        Does (.resultDelivery x m compliance) s (fun t =>
          t.pn (s.chanPid x p.ch 0x24) = s.pn (s.chanPid x p.ch 0x24) + 1 ∧
          on (fun k =>
            let a := (k.chan p.ch).ain
            a.value = b.userValue p.ch r.scaled ∧ a.code = p.code ∧ a.seq = ((b.chan p.ch).ain.seq + 1) % 65536 ∧
            a.eoc = some p.eoc ∧ a.newSample = true ∧ a.owResult = (decide (11 ≤ b.mode p.ch) && compliance) ∧
            bit (k.chan p.ch).live 0 = r.ovr ∧ bit (k.chan p.ch).live 1 = r.under ∧
            bit (k.chan p.ch).live 2 = (a.owResult || a.owTest || a.owLead || a.owCurrent) ∧
            (k.modl m).pend = rest ∧ (k.modl m).seq = ((b.modl m).seq + 1) % 65536 ∧
            ∃ f, (k.modl m).streams = (b.modl m).streams ++ [f] ∧ f.ch = p.ch ∧ f.code = p.code ∧ f.eoc = p.eoc ∧
              f.seq = ((b.modl m).seq + 1) % 65536 ∧ f.urgent = p.urgent ∧ f.first = p.first ∧
              f.outRange = (r.ovr || r.under)) t)) ∧
      (s.elapsed p.at_ < 4 * usTicks → Gives (.resultDelivery x m compliance) s s)) ∧
    (∀ m compliance, (b.modl m).pend = [] → Gives (.resultDelivery x m compliance) s s) ∧
    (∀ k, s.coresRun = true → (s.engBay x).crossed = [k] → s.pn (s.chanPid x k.1 0x15) + 1 < 2 ^ 32 →
      Does (.thresholdEvent x) s (fun t =>
        t = { s with eng := t.eng, params := t.params, nvm := t.nvm, freeCtr := t.freeCtr } ∧ (t.engBay x).crossed = [] ∧
        t.pn (s.chanPid x k.1 0x15) = s.pn (s.chanPid x k.1 0x15) + 1)) ∧
    ((s.engBay x).crossed = [] → Gives (.thresholdEvent x) s s) ∧
    (∀ n, s.bayActs x n = true → b.mode n = 10 →
      let c := b.chan n
      (∀ i held, c.ain.shuntOpen = false →
        (30000 < i → ((bit c.live 3 = true ∧ s.elapsed c.ain.shuntAt ≤ msTicks) ∨ 1000 ≤ held) →
          Does (.shuntTrip x n i held) s (on (fun k =>
            (k.chan n).ain.shuntOpen = true ∧ (k.chan n).ain.shuntAt = s.clk.ticks ∧ bit (k.chan n).live 3 = true))) ∧
        ((i ≤ 30000 ∨ (bit c.live 3 = false ∧ held < 1000)) → Gives (.shuntTrip x n i held) s s)) ∧
      (c.ain.shuntOpen = true →
        (secTicks ≤ s.elapsed c.ain.shuntAt → Does (.shuntReclose x n) s (on (fun k =>
          (k.chan n).ain.shuntOpen = false ∧ (k.chan n).ain.shuntAt = s.clk.ticks))) ∧
        (s.elapsed c.ain.shuntAt < secTicks → Gives (.shuntReclose x n) s s)) ∧
      (∀ i, c.ain.shuntOpen = false → bit c.live 3 = true →
        (100 * msTicks ≤ s.elapsed c.ain.shuntAt → i ≤ 30000 → Does (.shuntOffClear x n i) s (on (fun k =>
          bit (k.chan n).live 3 = false))) ∧
        ((s.elapsed c.ain.shuntAt < 100 * msTicks ∨ 30000 < i) → Gives (.shuntOffClear x n i) s s)) ∧
      (∀ (i : Int) held,
        (100000 ≤ held → ((b.cv n 0x19 ≠ 0 ∧ i < b.cv n 0x19) ∨ b.cv n 0x19 ≤ i) →
          Does (.currentOpenWire x n i held) s (on (fun k =>
            (k.chan n).ain.owCurrent = decide (i < b.cv n 0x19) ∧ (i < b.cv n 0x19 → bit (k.chan n).live 2 = true)))) ∧
        (held < 100000 → Gives (.currentOpenWire x n i held) s s)))

/-- Analog outputs (R277 to R281): the tap goes up below 2.0 V of headroom and down after 100 ms with 2.5 V; at 150 °C it is forced
down, and the limiter lowers its ceiling by 1 % of the driven value where no lower tap serves; compliance and open loop are marked and
counted, and clear once absent; 50 ms of compliance force the output low in modes 16 and 17. -/
def Obligations.AnalogOutputsTapLimitAndComply : Prop :=
  ∀ (s : State) (x n : Nat),
    let b := s.bay x
    let c := b.chan n
    let on (post : Chan → Prop) (t : State) : Prop :=
      t = { s with bays := t.bays, params := t.params, nvm := t.nvm, freeCtr := t.freeCtr } ∧ (∀ y, y ≠ x → t.bay y = s.bay y) ∧
      (t.bay x).par = b.par ∧ (t.bay x).feram = b.feram ∧ post ((t.bay x).chan n)
    let onTap (tap : Nat) (forced : Bool) : State → Prop := on (fun k =>
      k.aout.tap = tap ∧ k.aout.tapAt = s.clk.ticks ∧ ((∀ i, i ≠ n → n ∉ b.members i) → bit k.live 7 = forced))
    (s.tapActs x n = true → ∀ volt,
      (200 ≤ b.headroom n volt → Gives (.tapStepUp x n volt) s s) ∧
      (∀ tap, b.headroom n volt < 200 → bit c.live 7 = false → b.tapAbove n = some tap →
        Does (.tapStepUp x n volt) s (onTap tap false)) ∧
      (b.headroom n volt < 200 → bit c.live 7 = true → b.saturated n volt = true → b.tapInUse n ≠ 3 →
        Does (.tapStepUp x n volt) s (onTap (b.tapSelect n volt) false)) ∧
      (∀ tap held, b.tapBelow n = some tap →
        (volt + 250 ≤ b.tapVolt tap → 100000 ≤ held → s.heldSince held c.aout.tapAt = true →
          Does (.tapStepDown x n volt held) s (onTap tap (bit c.live 7))) ∧
        ((b.tapVolt tap < volt + 250 ∨ held < 100000 ∨ s.heldSince held c.aout.tapAt = false) →
          Gives (.tapStepDown x n volt held) s s)) ∧
      (∀ tap (temp : Int), b.forcedTap n volt = some tap →
        (1500 ≤ temp → Does (.tapForced x n temp volt) s (onTap tap true)) ∧
        (temp < 1500 → Gives (.tapForced x n temp volt) s s))) ∧
    (s.bayActs x n = true → modeIsAo (b.mode n) = true →
      (∀ temp : Int,
        (bit c.live 7 = true → temp < 1400 → Does (.tapForcedClear x n temp) s (on (fun k => bit k.live 7 = false ∧
          k.reading.temp = temp))) ∧
        ((bit c.live 7 = false ∨ 1400 ≤ temp) → Gives (.tapForcedClear x n temp) s s)) ∧
      (∀ temp : Int, msTicks ≤ s.elapsed c.aout.limitAt →
        (1500 ≤ temp → (s.tapActs x n = false ∨ b.forcedTap n c.reading.volt = none) → c.aout.driven ≠ 0 →
          Does (.limiterStep x n temp) s (on (fun k => k.aout.limitAt = s.clk.ticks ∧
            k.aout.ceiling = some (c.aout.ceiling.getD (100 * c.aout.driven) - c.aout.driven)))) ∧
        (∀ l, temp < 1450 → c.aout.ceiling = some l → Does (.limiterStep x n temp) s (on (fun k =>
          k.aout.limitAt = s.clk.ticks ∧
          k.aout.ceiling = (if 100 * b.unlimited n ≤ l + max 1 c.aout.driven then none else some (l + max 1 c.aout.driven))))) ∧
        (1450 ≤ temp → temp < 1500 → Gives (.limiterStep x n temp) s s)) ∧
      (∀ temp : Int, s.elapsed c.aout.limitAt < msTicks → Gives (.limiterStep x n temp) s s) ∧
      (∀ volt i,
        (c.aout.compSince = none → b.aoForm n ≠ none → b.shortfall x n volt i = true →
          s.pn (s.chanPid x n 0x16) + 1 < 2 ^ 32 → Does (.complianceOnset x n volt i) s (fun t =>
            t.pn (s.chanPid x n 0x16) = s.pn (s.chanPid x n 0x16) + 1 ∧
            on (fun k => k.aout.compSince = some s.clk.ticks ∧ bit k.live 0 = true) t)) ∧
        ((c.aout.compSince ≠ none ∨ b.aoForm n = none ∨ b.shortfall x n volt i = false) →
          Gives (.complianceOnset x n volt i) s s)) ∧
      (∀ volt i held,
        (c.aout.compSince ≠ none → b.shortfall x n volt i = false → 1000 ≤ held → Does (.complianceClear x n volt i held) s (on (fun k =>
          k.aout.compSince = none ∧ bit k.live 0 = false))) ∧
        ((c.aout.compSince = none ∨ b.shortfall x n volt i = true ∨ held < 1000) →
          Gives (.complianceClear x n volt i held) s s)) ∧
      (∀ volt (rb : Int) held,
        (bit c.live 2 = true → b.loopOpen n volt rb = false → 10000 ≤ held → Does (.openloopClear x n volt rb held) s (on (fun k =>
          bit k.live 2 = false))) ∧
        ((bit c.live 2 = false ∨ b.loopOpen n volt rb = true ∨ held < 10000) → Gives (.openloopClear x n volt rb held) s s))) ∧
    (s.bayActs x n = true →
      (∀ t0, (b.mode n = 16 ∨ b.mode n = 17) → c.aout.compSince = some t0 → c.aout.forcedLow = false → b.aoForm n ≠ none →
        (50 * msTicks ≤ s.elapsed t0 → Does (.alarmForcedLow x n) s (on (fun k => k.aout.forcedLow = true ∧ bit k.live 1 = true))) ∧
        (s.elapsed t0 < 50 * msTicks → Gives (.alarmForcedLow x n) s s)) ∧
      (∀ volt (rb : Int) held, bit c.live 2 = false →
        (((b.mode n = 16 ∧ b.tapInUse n = 3 ∧ b.saturated n volt = true ∧ rb < 200000) ∨ (b.mode n = 17 ∧ volt < 50)) →
          2500 ≤ c.aout.driven → 10000 ≤ held → Does (.openloopSet x n volt rb held) s (on (fun k =>
            bit k.live 2 = true ∧ k.reading.out = rb))) ∧
        ((b.loopOpen n volt rb = false ∨ held < 10000) → Gives (.openloopSet x n volt rb held) s s)))

/-- The SRX master (R294, R295, R299, R302, R305, R310, R312, R316): a segment's cycle misses INs that did not come and sends the OUT of
every node that is not REFUSED; an accepted IN renews its node and, while it is LIVE, writes its inputs as one unit; a frame that fails
its checks is counted and changes nothing else; on a ring the second copy of a frame is eliminated and counted, one outside the history
discarded, and what a frame leaves out counts as lost; an exchange without answer is sent again and then times out; a rekey moves the
generation on. -/
def Obligations.SrxMasterExchangesWithNodes : Prop :=
  ∀ (s : State),
    (∀ sg g c, s.segCfg sg = some g → s.cycleAt g = some c → s.mastersSrx = true → s.dev.state ≠ .lockout →
      (∀ l, (s.seg sg).last = some l → l < c) → (s.freshSeg (s.seg sg)).seq + (s.segNodes sg).length + 1 < 2 ^ 31 →
      (∀ d ∈ s.segNodes sg, (s.node d.num).inSeen = true ∧ (s.node d.num).state ≠ 4) → ((s.segNodes sg).map NodeCfg.num).Nodup →
      s.inWindow g c = true → (s.seg sg).safeLeft = 0 → s.pn (segPid sg 9) + 1 < 2 ^ 64 → (∀ d ∈ s.segNodes sg, d.seg = sg) → g.seg = sg →
      Does (.segmentCycle sg) s (fun t =>
        t = { s with net := t.net, params := t.params } ∧ (t.seg sg).last = some c ∧
        (t.seg sg).seq = (s.freshSeg (s.seg sg)).seq + (s.segNodes sg).length ∧ t.net.tx.length = (s.segNodes sg).length ∧
        t.pn (segPid sg 9) = s.pn (segPid sg 9) + 1 ∧
        ∀ d ∈ s.segNodes sg, (t.node d.num).inSeen = false ∧ (t.node d.num).cycle = c ∧
          ∀ p ∈ (t.node d.num).pend, p ∈ (s.node d.num).pend ∧ ¬ (p.written + 2000 ≤ c ∧ p.applyAt ≤ c))) ∧
    (∀ sg (f : SrxFrame) g d, s.segCfg sg = some g → s.pwr.net = true → s.fclkUp = true →
      let h := readSrxHdr f.bytes
      let pl := f.bytes.drop 32
      srxWellFormed f.bytes 2 = true → h.seg = sg → s.srxOn = true → s.nodeCfg h.sender = some d → d.seg = sg → d.num = h.sender →
      (f.tagOk = true → (s.recover d (g.port == 3) f.rtag).1 = none → Gives (.srxIn sg f) s (s.recover d (g.port == 3) f.rtag).2) ∧
      ((s.recover d (g.port == 3) f.rtag).1 ≠ none → leAt pl 0 4 = (s.node d.num).outSeq → (s.node d.num).inSeen = false →
      s.now < (s.node d.num).cycle + g.cycle * 1000 → h.epoch ≤ s.stby.epoch →
       (f.tagOk = true → bit h.flags 2 = false → pl.length = 8 + d.inLen → bit (leAt pl 4 2) 2 = false →
        (s.node d.num).state = 2 → s.pwr.sram = true → Does (.srxIn sg f) s (fun t =>
          t = { s with net := t.net, sram := t.sram, img := t.img, params := t.params, freeCtr := t.freeCtr } ∧
          (t.node d.num).inSeen = true ∧ (t.node d.num).misses = 0 ∧ (t.node d.num).status = leAt pl 4 2 ∧
          (t.node d.num).epoch = h.epoch ∧
          t.sram = writePts s.sram (d.inPoints (pl.drop 8) ++ (if d.fltPt = 0xFFFFFFFF then []
            else [(d.fltPt, b2n (t.node d.num).fltPoint)])))) ∧
      (f.tagOk = false → s.net.authTimes.length < 63 → s.pn 0xC0A + 1 < 2 ^ 32 → Does (.srxIn sg f) s (fun t =>
        t = { s with net := t.net, params := t.params } ∧ t.pn 0xC0A = s.pn 0xC0A + 1 ∧
        t.net = { s.net with segs := t.net.segs, authTimes := s.clk.ticks :: s.net.authTimes } ∧
        (t.seg sg).authFail = (s.seg sg).authFail + 1)))) ∧
    (∀ (d : NodeCfg) (ring : Bool) (rtag : Nat) (c : NetConfig), s.net.cfg = some c →
      let found := recoverSeq c.ports.cbHist (s.node d.num).recovered rtag
      (ring = false → s.recover d ring rtag = (some s, s)) ∧ (ring = true → found = .rogue → s.recover d ring rtag = (none, s)) ∧
      (ring = true → found = .duplicate → s.recover d ring rtag = (none, s.bump 0xC08 64)) ∧
      (∀ seen lost, ring = true → found = .take seen lost → ∃ t, s.recover d ring rtag = (some t, t) ∧
        t = { s with net := t.net, params := t.params, freeCtr := t.freeCtr } ∧ (t.node d.num).recovered = seen ∧
        (s.pn 0xC09 + lost < 2 ^ 64 → t.pn 0xC09 = s.pn 0xC09 + lost))) ∧
    (∀ sg node g d, s.segCfg sg = some g → s.nodeCfg node = some d → d.seg = sg → d.num = node → (s.node node).inSeen = false →
      (s.node node).cycle + g.cycle * 1000 ≤ s.now → s.mastersSrx = true → (s.node node).misses + 1 < d.missLimit →
      s.pn (segPid sg 0xA) + 1 < 2 ^ 32 → Gives (.inMissed sg node) s
        { s.setNode node { s.node node with
            inSeen := true, misses := (s.node node).misses + 1, missed := (s.node node).missed + 1 } with
          params := tset s.params (segPid sg 0xA) (s.pn (segPid sg 0xA) + 1 : Nat) }) ∧
    (∀ node c, s.net.cfg = some c → (s.node node).recovered ≠ [] → c.ports.cbReset * msTicks ≤ s.elapsed (s.node node).recoverAt →
      Gives (.sequenceRecoveryReset node) s (s.setNode node { s.node node with recovered := [] })) ∧
    (∀ (f : SrxFrame) d g,
      let h := readSrxHdr f.bytes
      let pl := f.bytes.drop 32
      let answers (k : Exchange) : Bool :=
        k.id == leAt pl 0 2 && k.node == h.sender && decide (k.first ≤ leAt pl 4 4) && decide (leAt pl 4 4 ≤ k.seq)
      s.pwr.net = true → s.fclkUp = true → srxWellFormed f.bytes 0x11 = true → s.nodeKey h.sender ≠ none → f.tagOk = true →
      12 ≤ pl.length → pl.length = 12 + leAt pl 8 2 → s.nodeCfg h.sender = some d → d.num = h.sender → s.segCfg d.seg = some g →
      h.seg = d.seg →
      ((s.recover d (g.port == 3) f.rtag).1 = none → Gives (.arsp f) s (s.recover d (g.port == 3) f.rtag).2) ∧
      ∀ s1, (s.recover d (g.port == 3) f.rtag).1 = some s1 →
      (∀ e, s.net.exchanges.find? answers = some e → h.epoch ≤ s.stby.epoch →
        e.index = 0x1005 → leAt pl 2 1 = 0 → 14 ≤ pl.length → Does (.arsp f) s (fun t =>
          t = { s with net := t.net, params := t.params, freeCtr := t.freeCtr } ∧
          t.net.exchanges = s.net.exchanges.filter (fun k => k.id != e.id) ∧
          (t.node h.sender).epoch = h.epoch ∧ (t.node h.sender).diag = leAt pl 12 2)) ∧
      (s.net.exchanges.find? answers = none → Gives (.arsp f) s (s1.netFail 0xC0B))) ∧
    (∀ e d g nk, s.net.exchanges.find? (fun k => k.id == e.id) = some e → s.pn 0xC0D * msTicks ≤ s.elapsed e.sentAt →
      s.nodeCfg e.node = some d → s.segCfg d.seg = some g → s.nodeKey e.node = some nk →
      (e.retries < s.pn 0xC0E → s.srxOn = true → Does (.acyclicTimeout e.id) s (fun t => t = { s with net := t.net } ∧
        (t.node e.node).txSeq = (s.node e.node).txSeq + 1 ∧ t.net.tx.length = 1 ∧
        t.net.exchanges.find? (fun k => k.id == e.id) = some { e with
          retries := e.retries + 1, seq := (s.node e.node).txSeq + 1, sentAt := s.clk.ticks })) ∧
      (s.pn 0xC0E ≤ e.retries → e.index = 0x1005 → Gives (.acyclicTimeout e.id) s { s with net := { s.net with
        exchanges := s.net.exchanges.filter (fun k => k.id != e.id) } })) ∧
    (∀ node d, s.nodeCfg node = some d → s.mastersSrx = true → (s.node node).step ≠ 0 → s.dev.state ≠ .lockout →
      (∀ t0, (s.node node).retryAt = some t0 → t0 ≤ s.clk.ticks) →
      (∀ e ∈ s.net.exchanges, e.node = node → e.index = 0x1005) →
      Does (.nodeStartupRetry node) s (fun t => t = { s with net := t.net } ∧ (t.node node).state = (s.node node).state ∧
        (t.net.exchanges.length = s.net.exchanges.length + 1 ∨ t.net.exchanges = s.net.exchanges))) ∧
    (s.sec.ns ≠ none → s.pwr.sec = true → s.pn 0xC12 * 3600 * secTicks ≤ s.elapsed s.net.rekeyAt →
      Gives .rekey s { s with
        sec := { s.sec with keyGen := (s.sec.keyGen + 1) % 2 ^ 32 }, net := { s.net with rekeyAt := s.clk.ticks } }) ∧
    (s.pwr.net = true → s.net.linkA = false → s.net.cfg = none →
      Gives (.portLinkChange 0 1000 true) s { s with net := { s.net with linkA := true } } ∧
      (∀ speed full, (speed ≠ 1000 ∨ full = false) → Gives (.portLinkChange 0 speed full) s s))

/-- A unit in the NODE role (R306 to R308, R310, R311, R315): an accepted OUT latches its epoch and puts its image and steps in place of
those held, and is answered; one of an old epoch is answered stale and its outputs ignored; CLAIM latches a greater epoch; SAFE and
silence make the safe state; an object is read or written once per request. -/
def Obligations.NodeAnswersItsMaster : Prop :=
  ∀ (s : State) (x : Nat), s.slaveOn x = true →
    let k := s.slave x
    (∀ (f : SrxFrame) k1,
      let h := readSrxHdr f.bytes
      let pl := f.bytes.drop 32
      let image := (pl.drop 4).take 34
      leAt pl 0 1 ≤ 3 → leAt pl 2 2 = 34 → pl.length = 4 + 34 + leAt pl 0 1 * (8 + 34) → s.slaveChecks x 1 0 f = .inl k1 →
      (k1.staleEpoch h.epoch = false → Does (.srxOut x f) s (fun t => t = { s with net := t.net, eng := t.eng } ∧
        (t.slave x).image = image ∧ (t.slave x).applied = image ∧ (t.slave x).epoch = some h.epoch ∧
        (t.slave x).lastOut = some s.now ∧ (bit h.flags 0 = true → (t.slave x).silent = false) ∧
        t.net.tx.length = 1 ∧
        ∀ n, n < bayChannels s.dev.part → modeIsOut (s.mode x n) = true → ∃ o, tfind (t.engBay x).out n = some o ∧
          o.cur = imageValue image (s.mode x n) n ∧ o.valid = true)) ∧
      (k1.staleEpoch h.epoch = true → Does (.srxOut x f) s (fun t => t = { s with net := t.net } ∧
        (t.slave x).image = k1.image ∧ (t.slave x).applied = k1.applied ∧ (t.slave x).epoch = k1.epoch ∧
        t.net.tx.length = 1))) ∧
    (∀ (f : SrxFrame) pid, s.slaveChecks x 1 0 f = .inr pid →
      let pl := f.bytes.drop 32
      leAt pl 0 1 ≤ 3 → leAt pl 2 2 = 34 → pl.length = 4 + 34 + leAt pl 0 1 * (8 + 34) →
      Gives (.srxOut x f) s (s.netFail pid)) ∧
    (∀ (f : SrxFrame) k1, (readSrxHdr f.bytes).len = 8 → s.slaveChecks x 3 1 f = .inl k1 →
      Gives (.srxClaim x f) s (s.setSlave x (k1.latchEpoch (readSrxHdr f.bytes).epoch))) ∧
    (∀ (f : SrxFrame) k1, (readSrxHdr f.bytes).len = 0 → s.slaveChecks x 4 0 f = .inl k1 →
      k1.staleEpoch (readSrxHdr f.bytes).epoch = false → Does (.srxSafe x f) s (fun t =>
        t = { s with net := t.net } ∧ (t.slave x).silent = true ∧ (t.slave x).epoch = some (readSrxHdr f.bytes).epoch)) ∧
    (k.epoch ≠ none → k.timeout * msTicks ≤ s.elapsed k.lastFresh →
      Gives (.nodeSilent x) s (s.setSlave x { k with silent := true, epoch := none })) ∧
    (∀ (f : SrxFrame) unwrapped nk k1,
      let h := readSrxHdr f.bytes
      let pl := f.bytes.drop 32
      s.nodeKey (s.slaveNum x) = some nk → srxWellFormed f.bytes 0x10 = true → 1 ≤ h.seg → h.seg ≤ 8 → 8 ≤ pl.length →
      (pl.drop 8).length = leAt pl 6 2 → (pl.drop 8).length ≤ 1024 → leAt pl 0 2 < 128 → f.tagOk = true →
      k.fresher (h.sender, 2, 0) h.gen h.seq = some k1 → bit h.flags 1 = false → leAt pl 3 1 = 0 →
      (leAt pl 2 1 = 1 → 0x1000 ≤ leAt pl 4 2 → leAt pl 4 2 ≤ 0x1005 → pl.drop 8 = [] →
        Does (.areq x f unwrapped) s (fun t => t = { s with net := t.net } ∧ t.net.tx.length = 1 ∧
          (t.slave x).nkSeq = k1.nkSeq + 1 ∧ ∃ r, (t.slave x).responses = ((leAt pl 0 2, s.clk.ticks, r) :: k1.responses).take 4 ∧
            r = leBytes 2 (leAt pl 0 2) ++ leBytes 1 0 ++ leBytes 1 0 ++ leBytes 4 h.seq ++
              leBytes 2 (s.readObject x (leAt pl 4 2)).2.length ++ leBytes 2 0 ++ (s.readObject x (leAt pl 4 2)).2)) ∧
      (∀ v, leAt pl 2 1 = 2 → leAt pl 4 2 = 0x1003 → pl.drop 8 = leBytes 2 v → 1 ≤ v → v ≤ 1000 →
        Does (.areq x f unwrapped) s (fun t => t = { s with net := t.net } ∧ (t.slave x).timeout = v ∧
          (t.slave x).nkSeq = k1.nkSeq + 1)))
end

