-- ==== Sys2Proof/Laws/Bay.lean ====
section
/-!
SUPPORT. What the comparators of a bay give for every device (R220): the thresholds are free values inside the limits of Table ELEC-12.
-/

namespace Sys2Proof.Machine

theorem inRise_le (x n ty : Nat) : inRise x n ty ≤ 1400 := by unfold inRise; split <;> omega

theorem le_inRise (x n ty : Nat) : 800 ≤ inRise x n ty := by unfold inRise; split <;> omega

theorem le_inFall (x n ty : Nat) : 650 ≤ inFall x n ty := by
  unfold inFall
  exact Nat.le_trans (by split <;> omega) (Nat.le_max_left _ _)

/-- Above every device's rising threshold. -/
theorem inRise_lt (x n ty volt : Nat) (h : 1400 < volt) : inRise x n ty < volt := Nat.lt_of_le_of_lt (inRise_le x n ty) h

/-- A voltage above every rising threshold gives ON. -/
theorem comparator_high (x n ty volt : Nat) (old : Bool) (h : 1400 < volt) : comparator x n ty volt old = true :=
  if_pos (inRise_lt x n ty volt h)

/-- A voltage below every falling threshold gives OFF. -/
theorem comparator_low (x n ty volt : Nat) (old : Bool) (h : volt < 650) : comparator x n ty volt old = false := by
  unfold comparator
  rw [if_neg (by have := le_inRise x n ty; omega), if_pos (Nat.lt_of_lt_of_le h (le_inFall x n ty))]

end Sys2Proof.Machine
end

