-- ==== Sys2Proof/Laws/Container.lean ====
section
/-!
SUPPORT. Little-endian bytes read back, where a container names its key, and when a container passes its checks.
-/

namespace Sys2Proof.Machine

@[simp] theorem leBytes_length (n v : Nat) : (leBytes n v).length = n := by
  induction n generalizing v with
  | zero => rfl
  | succ k ih => simp [leBytes, ih]

/-- Bytes before an offset drop out. -/
theorem drop_leBytes (n k v : Nat) (h : n ≤ k) : (leBytes n v).drop k = [] := List.drop_eq_nil_of_le (by simpa using h)

theorem leNat_leBytes (n v : Nat) : leNat (leBytes n v) = v % 256 ^ n := by
  induction n generalizing v with
  | zero => simp [leBytes, leNat]; omega
  | succ k ih =>
    simp only [leBytes, leNat, ih, BitVec.toNat_ofNat]
    rw [show 256 ^ (k + 1) = 256 * 256 ^ k from Nat.pow_succ', Nat.mod_mul]

/-- A field in the middle of a byte string is the number written there. -/
theorem leAt_leBytes (pre post : List Byte) (o n v : Nat) (h : pre.length = o) :
    leAt (pre ++ (leBytes n v ++ post)) o n = v % 256 ^ n := by
  rw [leAt, ← h, List.drop_left, List.take_left' (leBytes_length n v), leNat_leBytes]

/-- A container read names the key of its header (Table EDIT-1). -/
theorem parse_keyId {bs : List Byte} {db : Nat} {b : Parsed} (h : parse bs db = .ok b) : b.keyId = leAt bs 0x90 16 := by
  simp only [parse, bind, Except.bind] at h
  repeat' split at h
  all_goals first | cases h; rfl | cases h

/-- A program container of the right size, signed with the owner's key, passes where its program does (Table EDIT-7). -/
theorem checkContainer_ok (s : State) (edit : Bool) (kinds : List Nat) (bs : List Byte) (len : Nat) (p : Checked → Bool)
    (hlen : bs.length = len)
    (hsize : (leAt bs 0xC 4 == bs.length && decide (bs.length ≤ slotSize) && leAt bs 6 1 != 4) = true)
    (howner : s.sec.owner.isSome = true) (hkey : leAt bs 0x90 16 = s.sec.ownerKeyId)
    (hk : (match parse bs s.program.dbSize with
      | .ok box => kinds.contains box.kind && box.kind != 4 && (match s.checkProgram edit box bs.length with
        | .ok k => p k
        | .error _ => false)
      | .error _ => false) = true) :
    ∃ k, s.checkContainer edit kinds bs len ⟨true, true⟩ = .ok k ∧ p k = true := by
  subst hlen
  cases hb : parse bs s.program.dbSize with
  | error e => simp [hb] at hk
  | ok box =>
    simp only [hb, Bool.and_eq_true] at hk
    obtain ⟨⟨hkind, h4⟩, hp⟩ := hk
    cases hc : s.checkProgram edit box bs.length with
    | error e => simp [hc] at hp
    | ok k =>
      refine ⟨k, ?_, by simpa [hc] using hp⟩
      have hid := parse_keyId hb
      simp only [Bool.and_eq_true, bne_iff_ne, ne_eq] at hsize h4
      simp [State.checkContainer, hb, demand, State.trustCheck, hsize, List.contains_iff_mem.mp hkind, howner, hid, hkey, h4, hc, bind,
        Except.bind]

end Sys2Proof.Machine
end

