-- ==== Sys2Proof/Laws/Memory.lean ====
section
/-!
SUPPORT. The laws of the sparse tables and byte memories: a read after a write, and every operation keeps the canonical form.
-/

namespace Sys2Proof.Machine

/-! ### Sparse tables -/

theorem tget_tset_same {α : Type} (d v : α) (t : List (Nat × α)) (k : Nat) : tget d (tset t k v) k = v := by
  induction t with
  | nil => simp [tset, tget]
  | cons e r ih =>
    obtain ⟨a, b⟩ := e
    unfold tset
    split
    · simp [tget]
    · split
      · simp [tget]
      · simp only [tget]
        rw [if_neg (by omega)]
        exact ih

theorem tget_tset_other {α : Type} (d v : α) (t : List (Nat × α)) (k j : Nat) (h : j ≠ k) :
    tget d (tset t k v) j = tget d t j := by
  induction t with
  | nil => simp [tset, tget, Ne.symm h]
  | cons e r ih =>
    obtain ⟨a, b⟩ := e
    unfold tset
    split
    · simp [tget, Ne.symm h]
    · split
      · next hka => subst hka; simp [tget, Ne.symm h]
      · simp only [tget, ih]

@[simp] theorem tget_tset {α : Type} (d v : α) (t : List (Nat × α)) (k j : Nat) :
    tget d (tset t k v) j = if j = k then v else tget d t j := by
  split
  · next h => subst h; exact tget_tset_same d v t j
  · next h => exact tget_tset_other d v t k j h

theorem tfind_tset_same {α : Type} (v : α) (t : List (Nat × α)) (k : Nat) : tfind (tset t k v) k = some v := by
  induction t with
  | nil => simp [tset, tfind]
  | cons e r ih =>
    obtain ⟨a, b⟩ := e
    unfold tset
    split
    · simp [tfind]
    · split
      · simp [tfind]
      · simp only [tfind]
        rw [if_neg (by omega)]
        exact ih

theorem tfind_tset_other {α : Type} (v : α) (t : List (Nat × α)) (k j : Nat) (h : j ≠ k) :
    tfind (tset t k v) j = tfind t j := by
  induction t with
  | nil => simp [tset, tfind, Ne.symm h]
  | cons e r ih =>
    obtain ⟨a, b⟩ := e
    unfold tset
    split
    · simp [tfind, Ne.symm h]
    · split
      · next hka => subst hka; simp [tfind, Ne.symm h]
      · simp only [tfind, ih]

@[simp] theorem tfind_tset {α : Type} (v : α) (t : List (Nat × α)) (k j : Nat) :
    tfind (tset t k v) j = if j = k then some v else tfind t j := by
  split
  · next h => subst h; exact tfind_tset_same v t j
  · next h => exact tfind_tset_other v t k j h

/-- What a table holds after an update is the new value or was there before. -/
theorem mem_tset {α : Type} {v : α} {t : List (Nat × α)} {k : Nat} {e : Nat × α} (h : e ∈ tset t k v) :
    e = (k, v) ∨ e ∈ t := by
  induction t with
  | nil => simpa [tset] using h
  | cons x r ih =>
    obtain ⟨a, b⟩ := x
    unfold tset at h
    split at h
    · simpa using h
    · split at h
      · next hka => subst hka; simp only [List.mem_cons] at h ⊢; exact h.imp_right Or.inr
      · simp only [List.mem_cons] at h ⊢
        rcases h with h | h
        · exact .inr (.inl h)
        · exact (ih h).imp_right .inr

/-- A value a table answers for a key is the default or one of its entries. -/
theorem tget_mem {α : Type} (d : α) (t : List (Nat × α)) (k : Nat) : tget d t k = d ∨ (k, tget d t k) ∈ t := by
  induction t with
  | nil => exact .inl rfl
  | cons x r ih =>
    obtain ⟨a, b⟩ := x
    simp only [tget]
    split
    · next h => subst h; exact .inr (by simp)
    · exact ih.imp_right (by simp_all)

/-! ### Byte memories -/

theorem Memory.read_write_same (m : Memory) (a : Nat) (b : Byte) (lo : Nat) (h : Memory.wfFrom lo m = true) :
    Memory.read (Memory.write m a b) a = b := by
  induction m generalizing lo with
  | nil =>
    unfold Memory.write
    split
    · next hb => subst hb; rfl
    · simp [Memory.read]
  | cons e r ih =>
    obtain ⟨x, y⟩ := e
    simp only [Memory.wfFrom, Bool.and_eq_true, decide_eq_true_eq] at h
    have below : ∀ (r : Memory) (lo : Nat), Memory.wfFrom lo r = true → a < lo → Memory.read r a = Memory.blank := by
      intro r
      induction r with
      | nil => intros; rfl
      | cons e2 r2 ih2 =>
        obtain ⟨x2, y2⟩ := e2
        intro lo2 h2 hlt
        simp only [Memory.wfFrom, Bool.and_eq_true, decide_eq_true_eq] at h2
        simp only [Memory.read]
        rw [if_neg (by omega)]
        exact ih2 (x2 + 1) h2.2 (by omega)
    unfold Memory.write
    split
    · next hlt =>
      split
      · next hb =>
        subst hb
        simp only [Memory.read]
        rw [if_neg (by omega)]
        exact below r (x + 1) h.2 (by omega)
      · simp [Memory.read]
    · split
      · next hax =>
        subst hax
        split
        · next hb => subst hb; exact below r (a + 1) h.2 (by omega)
        · simp [Memory.read]
      · simp only [Memory.read]
        rw [if_neg (by omega)]
        exact ih (x + 1) h.2

theorem Memory.read_write_other (m : Memory) (a c : Nat) (b : Byte) (h : c ≠ a) :
    Memory.read (Memory.write m a b) c = Memory.read m c := by
  induction m with
  | nil =>
    unfold Memory.write
    split
    · rfl
    · simp [Memory.read, Ne.symm h]
  | cons e r ih =>
    obtain ⟨x, y⟩ := e
    unfold Memory.write
    split
    · split
      · rfl
      · simp [Memory.read, Ne.symm h]
    · split
      · next hax =>
        subst hax
        split
        · simp [Memory.read, Ne.symm h]
        · simp [Memory.read, Ne.symm h]
      · simp only [Memory.read, ih]

theorem Memory.wfFrom_mono (m : Memory) (lo hi : Nat) (h : Memory.wfFrom hi m = true) (hle : lo ≤ hi) :
    Memory.wfFrom lo m = true := by
  cases m with
  | nil => rfl
  | cons e r =>
    obtain ⟨x, y⟩ := e
    simp only [Memory.wfFrom, Bool.and_eq_true, decide_eq_true_eq] at h ⊢
    exact ⟨⟨by omega, h.1.2⟩, h.2⟩

theorem Memory.wfFrom_write (m : Memory) (lo a : Nat) (b : Byte) (h : Memory.wfFrom lo m = true) (ha : lo ≤ a) :
    Memory.wfFrom lo (Memory.write m a b) = true := by
  induction m generalizing lo with
  | nil =>
    unfold Memory.write
    split
    · rfl
    · next hb => simp [Memory.wfFrom, ha, hb]
  | cons e r ih =>
    obtain ⟨x, y⟩ := e
    have h0 := h
    simp only [Memory.wfFrom, Bool.and_eq_true, decide_eq_true_eq] at h
    unfold Memory.write
    split
    · next hlt =>
      split
      · exact h0
      · next hb =>
        simp only [Memory.wfFrom, Bool.and_eq_true, decide_eq_true_eq]
        exact ⟨⟨ha, hb⟩, ⟨by omega, h.1.2⟩, h.2⟩
    · split
      · next hax =>
        subst hax
        split
        · exact Memory.wfFrom_mono r lo (a + 1) h.2 (by omega)
        · next hb =>
          simp only [Memory.wfFrom, Bool.and_eq_true, decide_eq_true_eq]
          exact ⟨⟨ha, hb⟩, h.2⟩
      · simp only [Memory.wfFrom, Bool.and_eq_true, decide_eq_true_eq]
        exact ⟨h.1, ih (x + 1) h.2 (by omega)⟩

/-- A write keeps the canonical form. -/
theorem Memory.wf_write (m : Memory) (a : Nat) (b : Byte) (h : Memory.wf m = true) :
    Memory.wf (Memory.write m a b) = true := Memory.wfFrom_write m 0 a b h (Nat.zero_le a)

/-- In a canonical memory a byte reads as it was written and every other byte is as before. -/
theorem Memory.read_write (m : Memory) (a c : Nat) (b : Byte) (h : Memory.wf m = true) :
    Memory.read (Memory.write m a b) c = if c = a then b else Memory.read m c := by
  split
  · next hc => subst hc; exact Memory.read_write_same m c b 0 h
  · next hc => exact Memory.read_write_other m a c b hc

theorem Memory.wf_writeL (m : Memory) (a : Nat) (bs : List Byte) (h : Memory.wf m = true) :
    Memory.wf (Memory.writeL m a bs) = true := by
  induction bs generalizing m a with
  | nil => exact h
  | cons b r ih => exact ih _ _ (Memory.wf_write m a b h)

theorem Memory.read_writeL_other (m : Memory) (a c : Nat) (bs : List Byte) (hc : c < a ∨ a + bs.length ≤ c) :
    Memory.read (Memory.writeL m a bs) c = Memory.read m c := by
  induction bs generalizing m a with
  | nil => rfl
  | cons b r ih =>
    simp only [List.length_cons] at hc
    simp only [Memory.writeL]
    rw [ih _ (a + 1) (by omega), Memory.read_write_other m a c b (by omega)]

theorem Memory.wfFrom_restrict (m : Memory) (p : Nat → Bool) (lo : Nat) (h : Memory.wfFrom lo m = true) :
    Memory.wfFrom lo (Memory.restrict m p) = true := by
  induction m generalizing lo with
  | nil => rfl
  | cons e r ih =>
    obtain ⟨x, y⟩ := e
    simp only [Memory.wfFrom, Bool.and_eq_true, decide_eq_true_eq] at h
    have hr := ih (x + 1) h.2
    by_cases hp : p x = true
    · have : Memory.restrict ((x, y) :: r) p = (x, y) :: Memory.restrict r p := by simp [Memory.restrict, hp]
      rw [this]
      simp only [Memory.wfFrom, Bool.and_eq_true, decide_eq_true_eq]
      exact ⟨h.1, hr⟩
    · have : Memory.restrict ((x, y) :: r) p = Memory.restrict r p := by simp [Memory.restrict, hp]
      rw [this]
      exact Memory.wfFrom_mono _ lo (x + 1) hr (by omega)

theorem Memory.wf_restrict (m : Memory) (p : Nat → Bool) (h : Memory.wf m = true) :
    Memory.wf (Memory.restrict m p) = true := Memory.wfFrom_restrict m p 0 h

theorem Memory.wf_overlay (m src : Memory) (h : Memory.wf m = true) : Memory.wf (Memory.overlay m src) = true := by
  unfold Memory.overlay
  induction src generalizing m with
  | nil => exact h
  | cons e r ih => exact ih _ (Memory.wf_write m e.1 e.2 h)

/-! ### Points -/

theorem Memory.wf_copyRegion (dst src : Memory) (a b n : Nat) (h : Memory.wf dst = true) :
    Memory.wf (Memory.copyRegion dst src a b n) = true := by
  have fold : ∀ (l : Memory) (m : Memory), Memory.wf m = true →
      Memory.wf (l.foldl (fun acc (c : Host.Cell) => Memory.write acc (c.1 - a + b) c.2) m) = true := by
    intro l
    induction l with
    | nil => exact fun m k => k
    | cons c r ih => exact fun m k => ih _ (Memory.wf_write m _ c.2 k)
  exact fold _ _ (Memory.wf_restrict dst _ h)

theorem wf_writePt (m : Memory) (pt v : Nat) (h : Memory.wf m = true) : Memory.wf (writePt m pt v) = true := by
  unfold writePt
  dsimp only
  split
  · exact Memory.wf_write m _ _ h
  · exact Memory.wf_write _ _ _ (Memory.wf_write m _ _ h)

theorem wf_writePts (m : Memory) (ws : List (Nat × Nat)) (h : Memory.wf m = true) :
    Memory.wf (writePts m ws) = true := by
  unfold writePts
  induction ws generalizing m with
  | nil => exact h
  | cons e r ih => exact ih _ (wf_writePt m e.1 e.2 h)

/-! ### The blocks and copies of FeRAM -/

theorem wf_copyBlock (m : Memory) (a b : Nat) (h : Memory.wf m = true) : Memory.wf (copyBlock m a b) = true :=
  Memory.wf_writeL m b _ h

theorem wf_foldl_writeL {α : Type} (l : List α) (f : α → Nat) (g : α → List Byte) (m : Memory) (h : Memory.wf m = true) :
    Memory.wf (l.foldl (fun (a : Memory) w => a.writeL (f w) (g w)) m) = true := by
  induction l generalizing m with
  | nil => exact h
  | cons e r ih => exact ih _ (Memory.wf_writeL m _ _ h)

end Sys2Proof.Machine
end

