-- ==== Sys2Proof/Laws/State.lean ====
section
/-!
SUPPORT. What each plain update of the state does, field by field, so that no proof unfolds a record update: the field it sets, and
every other field as it was; then what an accessor reads after its own update.
-/

namespace Sys2Proof.Machine

/-! ### `State.setPv` -/

@[simp] theorem State.setPv_pending (s : State) (p : Nat) (v : Int) : (s.setPv p v).pending = s.pending := rfl
@[simp] theorem State.setPv_freeCtr (s : State) (p : Nat) (v : Int) : (s.setPv p v).freeCtr = s.freeCtr := rfl
@[simp] theorem State.setPv_dev (s : State) (p : Nat) (v : Int) : (s.setPv p v).dev = s.dev := rfl
@[simp] theorem State.setPv_clk (s : State) (p : Nat) (v : Int) : (s.setPv p v).clk = s.clk := rfl
@[simp] theorem State.setPv_pwr (s : State) (p : Nat) (v : Int) : (s.setPv p v).pwr = s.pwr := rfl
@[simp] theorem State.setPv_sram (s : State) (p : Nat) (v : Int) : (s.setPv p v).sram = s.sram := rfl
@[simp] theorem State.setPv_feram (s : State) (p : Nat) (v : Int) : (s.setPv p v).feram = s.feram := rfl
@[simp] theorem State.setPv_params (s : State) (p : Nat) (v : Int) : (s.setPv p v).params = tset s.params p v := rfl
@[simp] theorem State.setPv_bootParams (s : State) (p : Nat) (v : Int) : (s.setPv p v).bootParams = s.bootParams := rfl
@[simp] theorem State.setPv_blocks (s : State) (p : Nat) (v : Int) : (s.setPv p v).blocks = s.blocks := rfl
@[simp] theorem State.setPv_ctxs (s : State) (p : Nat) (v : Int) : (s.setPv p v).ctxs = s.ctxs := rfl
@[simp] theorem State.setPv_img (s : State) (p : Nat) (v : Int) : (s.setPv p v).img = s.img := rfl
@[simp] theorem State.setPv_sched (s : State) (p : Nat) (v : Int) : (s.setPv p v).sched = s.sched := rfl
@[simp] theorem State.setPv_prog (s : State) (p : Nat) (v : Int) : (s.setPv p v).prog = s.prog := rfl
@[simp] theorem State.setPv_flt (s : State) (p : Nat) (v : Int) : (s.setPv p v).flt = s.flt := rfl
@[simp] theorem State.setPv_wdg (s : State) (p : Nat) (v : Int) : (s.setPv p v).wdg = s.wdg := rfl
@[simp] theorem State.setPv_tmr (s : State) (p : Nat) (v : Int) : (s.setPv p v).tmr = s.tmr := rfl
@[simp] theorem State.setPv_hp (s : State) (p : Nat) (v : Int) : (s.setPv p v).hp = s.hp := rfl
@[simp] theorem State.setPv_nvm (s : State) (p : Nat) (v : Int) : (s.setPv p v).nvm = s.nvm := rfl
@[simp] theorem State.setPv_upd (s : State) (p : Nat) (v : Int) : (s.setPv p v).upd = s.upd := rfl
@[simp] theorem State.setPv_sec (s : State) (p : Nat) (v : Int) : (s.setPv p v).sec = s.sec := rfl
@[simp] theorem State.setPv_stby (s : State) (p : Nat) (v : Int) : (s.setPv p v).stby = s.stby := rfl
@[simp] theorem State.setPv_net (s : State) (p : Nat) (v : Int) : (s.setPv p v).net = s.net := rfl
@[simp] theorem State.setPv_eng (s : State) (p : Nat) (v : Int) : (s.setPv p v).eng = s.eng := rfl
@[simp] theorem State.setPv_bays (s : State) (p : Nat) (v : Int) : (s.setPv p v).bays = s.bays := rfl

/-! ### `State.setCtx` -/

@[simp] theorem State.setCtx_pending (s : State) (c : Nat) (x : Ctx) : (s.setCtx c x).pending = s.pending := rfl
@[simp] theorem State.setCtx_freeCtr (s : State) (c : Nat) (x : Ctx) : (s.setCtx c x).freeCtr = s.freeCtr := rfl
@[simp] theorem State.setCtx_dev (s : State) (c : Nat) (x : Ctx) : (s.setCtx c x).dev = s.dev := rfl
@[simp] theorem State.setCtx_clk (s : State) (c : Nat) (x : Ctx) : (s.setCtx c x).clk = s.clk := rfl
@[simp] theorem State.setCtx_pwr (s : State) (c : Nat) (x : Ctx) : (s.setCtx c x).pwr = s.pwr := rfl
@[simp] theorem State.setCtx_sram (s : State) (c : Nat) (x : Ctx) : (s.setCtx c x).sram = s.sram := rfl
@[simp] theorem State.setCtx_feram (s : State) (c : Nat) (x : Ctx) : (s.setCtx c x).feram = s.feram := rfl
@[simp] theorem State.setCtx_params (s : State) (c : Nat) (x : Ctx) : (s.setCtx c x).params = s.params := rfl
@[simp] theorem State.setCtx_bootParams (s : State) (c : Nat) (x : Ctx) : (s.setCtx c x).bootParams = s.bootParams := rfl
@[simp] theorem State.setCtx_blocks (s : State) (c : Nat) (x : Ctx) : (s.setCtx c x).blocks = s.blocks := rfl
@[simp] theorem State.setCtx_ctxs (s : State) (c : Nat) (x : Ctx) : (s.setCtx c x).ctxs = tset s.ctxs c x := rfl
@[simp] theorem State.setCtx_img (s : State) (c : Nat) (x : Ctx) : (s.setCtx c x).img = s.img := rfl
@[simp] theorem State.setCtx_sched (s : State) (c : Nat) (x : Ctx) : (s.setCtx c x).sched = s.sched := rfl
@[simp] theorem State.setCtx_prog (s : State) (c : Nat) (x : Ctx) : (s.setCtx c x).prog = s.prog := rfl
@[simp] theorem State.setCtx_flt (s : State) (c : Nat) (x : Ctx) : (s.setCtx c x).flt = s.flt := rfl
@[simp] theorem State.setCtx_wdg (s : State) (c : Nat) (x : Ctx) : (s.setCtx c x).wdg = s.wdg := rfl
@[simp] theorem State.setCtx_tmr (s : State) (c : Nat) (x : Ctx) : (s.setCtx c x).tmr = s.tmr := rfl
@[simp] theorem State.setCtx_hp (s : State) (c : Nat) (x : Ctx) : (s.setCtx c x).hp = s.hp := rfl
@[simp] theorem State.setCtx_nvm (s : State) (c : Nat) (x : Ctx) : (s.setCtx c x).nvm = s.nvm := rfl
@[simp] theorem State.setCtx_upd (s : State) (c : Nat) (x : Ctx) : (s.setCtx c x).upd = s.upd := rfl
@[simp] theorem State.setCtx_sec (s : State) (c : Nat) (x : Ctx) : (s.setCtx c x).sec = s.sec := rfl
@[simp] theorem State.setCtx_stby (s : State) (c : Nat) (x : Ctx) : (s.setCtx c x).stby = s.stby := rfl
@[simp] theorem State.setCtx_net (s : State) (c : Nat) (x : Ctx) : (s.setCtx c x).net = s.net := rfl
@[simp] theorem State.setCtx_eng (s : State) (c : Nat) (x : Ctx) : (s.setCtx c x).eng = s.eng := rfl
@[simp] theorem State.setCtx_bays (s : State) (c : Nat) (x : Ctx) : (s.setCtx c x).bays = s.bays := rfl

/-! ### `State.setBay` -/

@[simp] theorem State.setBay_pending (s : State) (x : Nat) (b : Bay) : (s.setBay x b).pending = s.pending := rfl
@[simp] theorem State.setBay_freeCtr (s : State) (x : Nat) (b : Bay) : (s.setBay x b).freeCtr = s.freeCtr := rfl
@[simp] theorem State.setBay_dev (s : State) (x : Nat) (b : Bay) : (s.setBay x b).dev = s.dev := rfl
@[simp] theorem State.setBay_clk (s : State) (x : Nat) (b : Bay) : (s.setBay x b).clk = s.clk := rfl
@[simp] theorem State.setBay_pwr (s : State) (x : Nat) (b : Bay) : (s.setBay x b).pwr = s.pwr := rfl
@[simp] theorem State.setBay_sram (s : State) (x : Nat) (b : Bay) : (s.setBay x b).sram = s.sram := rfl
@[simp] theorem State.setBay_feram (s : State) (x : Nat) (b : Bay) : (s.setBay x b).feram = s.feram := rfl
@[simp] theorem State.setBay_params (s : State) (x : Nat) (b : Bay) : (s.setBay x b).params = s.params := rfl
@[simp] theorem State.setBay_bootParams (s : State) (x : Nat) (b : Bay) : (s.setBay x b).bootParams = s.bootParams := rfl
@[simp] theorem State.setBay_blocks (s : State) (x : Nat) (b : Bay) : (s.setBay x b).blocks = s.blocks := rfl
@[simp] theorem State.setBay_ctxs (s : State) (x : Nat) (b : Bay) : (s.setBay x b).ctxs = s.ctxs := rfl
@[simp] theorem State.setBay_img (s : State) (x : Nat) (b : Bay) : (s.setBay x b).img = s.img := rfl
@[simp] theorem State.setBay_sched (s : State) (x : Nat) (b : Bay) : (s.setBay x b).sched = s.sched := rfl
@[simp] theorem State.setBay_prog (s : State) (x : Nat) (b : Bay) : (s.setBay x b).prog = s.prog := rfl
@[simp] theorem State.setBay_flt (s : State) (x : Nat) (b : Bay) : (s.setBay x b).flt = s.flt := rfl
@[simp] theorem State.setBay_wdg (s : State) (x : Nat) (b : Bay) : (s.setBay x b).wdg = s.wdg := rfl
@[simp] theorem State.setBay_tmr (s : State) (x : Nat) (b : Bay) : (s.setBay x b).tmr = s.tmr := rfl
@[simp] theorem State.setBay_hp (s : State) (x : Nat) (b : Bay) : (s.setBay x b).hp = s.hp := rfl
@[simp] theorem State.setBay_nvm (s : State) (x : Nat) (b : Bay) : (s.setBay x b).nvm = s.nvm := rfl
@[simp] theorem State.setBay_upd (s : State) (x : Nat) (b : Bay) : (s.setBay x b).upd = s.upd := rfl
@[simp] theorem State.setBay_sec (s : State) (x : Nat) (b : Bay) : (s.setBay x b).sec = s.sec := rfl
@[simp] theorem State.setBay_stby (s : State) (x : Nat) (b : Bay) : (s.setBay x b).stby = s.stby := rfl
@[simp] theorem State.setBay_net (s : State) (x : Nat) (b : Bay) : (s.setBay x b).net = s.net := rfl
@[simp] theorem State.setBay_eng (s : State) (x : Nat) (b : Bay) : (s.setBay x b).eng = s.eng := rfl
@[simp] theorem State.setBay_bays (s : State) (x : Nat) (b : Bay) : (s.setBay x b).bays = tset s.bays x b := rfl

/-! ### `State.setEngBay` -/

@[simp] theorem State.setEngBay_pending (s : State) (x : Nat) (b : EngBay) : (s.setEngBay x b).pending = s.pending := rfl
@[simp] theorem State.setEngBay_freeCtr (s : State) (x : Nat) (b : EngBay) : (s.setEngBay x b).freeCtr = s.freeCtr := rfl
@[simp] theorem State.setEngBay_dev (s : State) (x : Nat) (b : EngBay) : (s.setEngBay x b).dev = s.dev := rfl
@[simp] theorem State.setEngBay_clk (s : State) (x : Nat) (b : EngBay) : (s.setEngBay x b).clk = s.clk := rfl
@[simp] theorem State.setEngBay_pwr (s : State) (x : Nat) (b : EngBay) : (s.setEngBay x b).pwr = s.pwr := rfl
@[simp] theorem State.setEngBay_sram (s : State) (x : Nat) (b : EngBay) : (s.setEngBay x b).sram = s.sram := rfl
@[simp] theorem State.setEngBay_feram (s : State) (x : Nat) (b : EngBay) : (s.setEngBay x b).feram = s.feram := rfl
@[simp] theorem State.setEngBay_params (s : State) (x : Nat) (b : EngBay) : (s.setEngBay x b).params = s.params := rfl
@[simp] theorem State.setEngBay_bootParams (s : State) (x : Nat) (b : EngBay) : (s.setEngBay x b).bootParams = s.bootParams := rfl
@[simp] theorem State.setEngBay_blocks (s : State) (x : Nat) (b : EngBay) : (s.setEngBay x b).blocks = s.blocks := rfl
@[simp] theorem State.setEngBay_ctxs (s : State) (x : Nat) (b : EngBay) : (s.setEngBay x b).ctxs = s.ctxs := rfl
@[simp] theorem State.setEngBay_img (s : State) (x : Nat) (b : EngBay) : (s.setEngBay x b).img = s.img := rfl
@[simp] theorem State.setEngBay_sched (s : State) (x : Nat) (b : EngBay) : (s.setEngBay x b).sched = s.sched := rfl
@[simp] theorem State.setEngBay_prog (s : State) (x : Nat) (b : EngBay) : (s.setEngBay x b).prog = s.prog := rfl
@[simp] theorem State.setEngBay_flt (s : State) (x : Nat) (b : EngBay) : (s.setEngBay x b).flt = s.flt := rfl
@[simp] theorem State.setEngBay_wdg (s : State) (x : Nat) (b : EngBay) : (s.setEngBay x b).wdg = s.wdg := rfl
@[simp] theorem State.setEngBay_tmr (s : State) (x : Nat) (b : EngBay) : (s.setEngBay x b).tmr = s.tmr := rfl
@[simp] theorem State.setEngBay_hp (s : State) (x : Nat) (b : EngBay) : (s.setEngBay x b).hp = s.hp := rfl
@[simp] theorem State.setEngBay_nvm (s : State) (x : Nat) (b : EngBay) : (s.setEngBay x b).nvm = s.nvm := rfl
@[simp] theorem State.setEngBay_upd (s : State) (x : Nat) (b : EngBay) : (s.setEngBay x b).upd = s.upd := rfl
@[simp] theorem State.setEngBay_sec (s : State) (x : Nat) (b : EngBay) : (s.setEngBay x b).sec = s.sec := rfl
@[simp] theorem State.setEngBay_stby (s : State) (x : Nat) (b : EngBay) : (s.setEngBay x b).stby = s.stby := rfl
@[simp] theorem State.setEngBay_net (s : State) (x : Nat) (b : EngBay) : (s.setEngBay x b).net = s.net := rfl
@[simp] theorem State.setEngBay_eng (s : State) (x : Nat) (b : EngBay) : (s.setEngBay x b).eng = { s.eng with bays := tset s.eng.bays x b } := rfl
@[simp] theorem State.setEngBay_bays (s : State) (x : Nat) (b : EngBay) : (s.setEngBay x b).bays = s.bays := rfl

/-! ### `State.setMailbox` -/

@[simp] theorem State.setMailbox_pending (s : State) (m : Nat) (x : Mailbox) : (s.setMailbox m x).pending = s.pending := rfl
@[simp] theorem State.setMailbox_freeCtr (s : State) (m : Nat) (x : Mailbox) : (s.setMailbox m x).freeCtr = s.freeCtr := rfl
@[simp] theorem State.setMailbox_dev (s : State) (m : Nat) (x : Mailbox) : (s.setMailbox m x).dev = s.dev := rfl
@[simp] theorem State.setMailbox_clk (s : State) (m : Nat) (x : Mailbox) : (s.setMailbox m x).clk = s.clk := rfl
@[simp] theorem State.setMailbox_pwr (s : State) (m : Nat) (x : Mailbox) : (s.setMailbox m x).pwr = s.pwr := rfl
@[simp] theorem State.setMailbox_sram (s : State) (m : Nat) (x : Mailbox) : (s.setMailbox m x).sram = s.sram := rfl
@[simp] theorem State.setMailbox_feram (s : State) (m : Nat) (x : Mailbox) : (s.setMailbox m x).feram = s.feram := rfl
@[simp] theorem State.setMailbox_params (s : State) (m : Nat) (x : Mailbox) : (s.setMailbox m x).params = s.params := rfl
@[simp] theorem State.setMailbox_bootParams (s : State) (m : Nat) (x : Mailbox) : (s.setMailbox m x).bootParams = s.bootParams := rfl
@[simp] theorem State.setMailbox_blocks (s : State) (m : Nat) (x : Mailbox) : (s.setMailbox m x).blocks = s.blocks := rfl
@[simp] theorem State.setMailbox_ctxs (s : State) (m : Nat) (x : Mailbox) : (s.setMailbox m x).ctxs = s.ctxs := rfl
@[simp] theorem State.setMailbox_img (s : State) (m : Nat) (x : Mailbox) : (s.setMailbox m x).img = s.img := rfl
@[simp] theorem State.setMailbox_sched (s : State) (m : Nat) (x : Mailbox) : (s.setMailbox m x).sched = s.sched := rfl
@[simp] theorem State.setMailbox_prog (s : State) (m : Nat) (x : Mailbox) : (s.setMailbox m x).prog = s.prog := rfl
@[simp] theorem State.setMailbox_flt (s : State) (m : Nat) (x : Mailbox) : (s.setMailbox m x).flt = s.flt := rfl
@[simp] theorem State.setMailbox_wdg (s : State) (m : Nat) (x : Mailbox) : (s.setMailbox m x).wdg = s.wdg := rfl
@[simp] theorem State.setMailbox_tmr (s : State) (m : Nat) (x : Mailbox) : (s.setMailbox m x).tmr = s.tmr := rfl
@[simp] theorem State.setMailbox_hp (s : State) (m : Nat) (x : Mailbox) : (s.setMailbox m x).hp = { s.hp with mbx := tset s.hp.mbx m x } := rfl
@[simp] theorem State.setMailbox_nvm (s : State) (m : Nat) (x : Mailbox) : (s.setMailbox m x).nvm = s.nvm := rfl
@[simp] theorem State.setMailbox_upd (s : State) (m : Nat) (x : Mailbox) : (s.setMailbox m x).upd = s.upd := rfl
@[simp] theorem State.setMailbox_sec (s : State) (m : Nat) (x : Mailbox) : (s.setMailbox m x).sec = s.sec := rfl
@[simp] theorem State.setMailbox_stby (s : State) (m : Nat) (x : Mailbox) : (s.setMailbox m x).stby = s.stby := rfl
@[simp] theorem State.setMailbox_net (s : State) (m : Nat) (x : Mailbox) : (s.setMailbox m x).net = s.net := rfl
@[simp] theorem State.setMailbox_eng (s : State) (m : Nat) (x : Mailbox) : (s.setMailbox m x).eng = s.eng := rfl
@[simp] theorem State.setMailbox_bays (s : State) (m : Nat) (x : Mailbox) : (s.setMailbox m x).bays = s.bays := rfl

/-! ### `State.setSession` -/

@[simp] theorem State.setSession_pending (s : State) (k : Nat) (x : Session) : (s.setSession k x).pending = s.pending := rfl
@[simp] theorem State.setSession_freeCtr (s : State) (k : Nat) (x : Session) : (s.setSession k x).freeCtr = s.freeCtr := rfl
@[simp] theorem State.setSession_dev (s : State) (k : Nat) (x : Session) : (s.setSession k x).dev = s.dev := rfl
@[simp] theorem State.setSession_clk (s : State) (k : Nat) (x : Session) : (s.setSession k x).clk = s.clk := rfl
@[simp] theorem State.setSession_pwr (s : State) (k : Nat) (x : Session) : (s.setSession k x).pwr = s.pwr := rfl
@[simp] theorem State.setSession_sram (s : State) (k : Nat) (x : Session) : (s.setSession k x).sram = s.sram := rfl
@[simp] theorem State.setSession_feram (s : State) (k : Nat) (x : Session) : (s.setSession k x).feram = s.feram := rfl
@[simp] theorem State.setSession_params (s : State) (k : Nat) (x : Session) : (s.setSession k x).params = s.params := rfl
@[simp] theorem State.setSession_bootParams (s : State) (k : Nat) (x : Session) : (s.setSession k x).bootParams = s.bootParams := rfl
@[simp] theorem State.setSession_blocks (s : State) (k : Nat) (x : Session) : (s.setSession k x).blocks = s.blocks := rfl
@[simp] theorem State.setSession_ctxs (s : State) (k : Nat) (x : Session) : (s.setSession k x).ctxs = s.ctxs := rfl
@[simp] theorem State.setSession_img (s : State) (k : Nat) (x : Session) : (s.setSession k x).img = s.img := rfl
@[simp] theorem State.setSession_sched (s : State) (k : Nat) (x : Session) : (s.setSession k x).sched = s.sched := rfl
@[simp] theorem State.setSession_prog (s : State) (k : Nat) (x : Session) : (s.setSession k x).prog = s.prog := rfl
@[simp] theorem State.setSession_flt (s : State) (k : Nat) (x : Session) : (s.setSession k x).flt = s.flt := rfl
@[simp] theorem State.setSession_wdg (s : State) (k : Nat) (x : Session) : (s.setSession k x).wdg = s.wdg := rfl
@[simp] theorem State.setSession_tmr (s : State) (k : Nat) (x : Session) : (s.setSession k x).tmr = s.tmr := rfl
@[simp] theorem State.setSession_hp (s : State) (k : Nat) (x : Session) : (s.setSession k x).hp = { s.hp with sessions := tset s.hp.sessions k x } := rfl
@[simp] theorem State.setSession_nvm (s : State) (k : Nat) (x : Session) : (s.setSession k x).nvm = s.nvm := rfl
@[simp] theorem State.setSession_upd (s : State) (k : Nat) (x : Session) : (s.setSession k x).upd = s.upd := rfl
@[simp] theorem State.setSession_sec (s : State) (k : Nat) (x : Session) : (s.setSession k x).sec = s.sec := rfl
@[simp] theorem State.setSession_stby (s : State) (k : Nat) (x : Session) : (s.setSession k x).stby = s.stby := rfl
@[simp] theorem State.setSession_net (s : State) (k : Nat) (x : Session) : (s.setSession k x).net = s.net := rfl
@[simp] theorem State.setSession_eng (s : State) (k : Nat) (x : Session) : (s.setSession k x).eng = s.eng := rfl
@[simp] theorem State.setSession_bays (s : State) (k : Nat) (x : Session) : (s.setSession k x).bays = s.bays := rfl

/-! ### `State.setSlave` -/

@[simp] theorem State.setSlave_pending (s : State) (x : Nat) (k : Slave) : (s.setSlave x k).pending = s.pending := rfl
@[simp] theorem State.setSlave_freeCtr (s : State) (x : Nat) (k : Slave) : (s.setSlave x k).freeCtr = s.freeCtr := rfl
@[simp] theorem State.setSlave_dev (s : State) (x : Nat) (k : Slave) : (s.setSlave x k).dev = s.dev := rfl
@[simp] theorem State.setSlave_clk (s : State) (x : Nat) (k : Slave) : (s.setSlave x k).clk = s.clk := rfl
@[simp] theorem State.setSlave_pwr (s : State) (x : Nat) (k : Slave) : (s.setSlave x k).pwr = s.pwr := rfl
@[simp] theorem State.setSlave_sram (s : State) (x : Nat) (k : Slave) : (s.setSlave x k).sram = s.sram := rfl
@[simp] theorem State.setSlave_feram (s : State) (x : Nat) (k : Slave) : (s.setSlave x k).feram = s.feram := rfl
@[simp] theorem State.setSlave_params (s : State) (x : Nat) (k : Slave) : (s.setSlave x k).params = s.params := rfl
@[simp] theorem State.setSlave_bootParams (s : State) (x : Nat) (k : Slave) : (s.setSlave x k).bootParams = s.bootParams := rfl
@[simp] theorem State.setSlave_blocks (s : State) (x : Nat) (k : Slave) : (s.setSlave x k).blocks = s.blocks := rfl
@[simp] theorem State.setSlave_ctxs (s : State) (x : Nat) (k : Slave) : (s.setSlave x k).ctxs = s.ctxs := rfl
@[simp] theorem State.setSlave_img (s : State) (x : Nat) (k : Slave) : (s.setSlave x k).img = s.img := rfl
@[simp] theorem State.setSlave_sched (s : State) (x : Nat) (k : Slave) : (s.setSlave x k).sched = s.sched := rfl
@[simp] theorem State.setSlave_prog (s : State) (x : Nat) (k : Slave) : (s.setSlave x k).prog = s.prog := rfl
@[simp] theorem State.setSlave_flt (s : State) (x : Nat) (k : Slave) : (s.setSlave x k).flt = s.flt := rfl
@[simp] theorem State.setSlave_wdg (s : State) (x : Nat) (k : Slave) : (s.setSlave x k).wdg = s.wdg := rfl
@[simp] theorem State.setSlave_tmr (s : State) (x : Nat) (k : Slave) : (s.setSlave x k).tmr = s.tmr := rfl
@[simp] theorem State.setSlave_hp (s : State) (x : Nat) (k : Slave) : (s.setSlave x k).hp = s.hp := rfl
@[simp] theorem State.setSlave_nvm (s : State) (x : Nat) (k : Slave) : (s.setSlave x k).nvm = s.nvm := rfl
@[simp] theorem State.setSlave_upd (s : State) (x : Nat) (k : Slave) : (s.setSlave x k).upd = s.upd := rfl
@[simp] theorem State.setSlave_sec (s : State) (x : Nat) (k : Slave) : (s.setSlave x k).sec = s.sec := rfl
@[simp] theorem State.setSlave_stby (s : State) (x : Nat) (k : Slave) : (s.setSlave x k).stby = s.stby := rfl
@[simp] theorem State.setSlave_net (s : State) (x : Nat) (k : Slave) : (s.setSlave x k).net = { s.net with slaves := tset s.net.slaves x k } := rfl
@[simp] theorem State.setSlave_eng (s : State) (x : Nat) (k : Slave) : (s.setSlave x k).eng = s.eng := rfl
@[simp] theorem State.setSlave_bays (s : State) (x : Nat) (k : Slave) : (s.setSlave x k).bays = s.bays := rfl

/-! ### `State.setSeg` -/

@[simp] theorem State.setSeg_pending (s : State) (k : Nat) (x : SegState) : (s.setSeg k x).pending = s.pending := rfl
@[simp] theorem State.setSeg_freeCtr (s : State) (k : Nat) (x : SegState) : (s.setSeg k x).freeCtr = s.freeCtr := rfl
@[simp] theorem State.setSeg_dev (s : State) (k : Nat) (x : SegState) : (s.setSeg k x).dev = s.dev := rfl
@[simp] theorem State.setSeg_clk (s : State) (k : Nat) (x : SegState) : (s.setSeg k x).clk = s.clk := rfl
@[simp] theorem State.setSeg_pwr (s : State) (k : Nat) (x : SegState) : (s.setSeg k x).pwr = s.pwr := rfl
@[simp] theorem State.setSeg_sram (s : State) (k : Nat) (x : SegState) : (s.setSeg k x).sram = s.sram := rfl
@[simp] theorem State.setSeg_feram (s : State) (k : Nat) (x : SegState) : (s.setSeg k x).feram = s.feram := rfl
@[simp] theorem State.setSeg_params (s : State) (k : Nat) (x : SegState) : (s.setSeg k x).params = s.params := rfl
@[simp] theorem State.setSeg_bootParams (s : State) (k : Nat) (x : SegState) : (s.setSeg k x).bootParams = s.bootParams := rfl
@[simp] theorem State.setSeg_blocks (s : State) (k : Nat) (x : SegState) : (s.setSeg k x).blocks = s.blocks := rfl
@[simp] theorem State.setSeg_ctxs (s : State) (k : Nat) (x : SegState) : (s.setSeg k x).ctxs = s.ctxs := rfl
@[simp] theorem State.setSeg_img (s : State) (k : Nat) (x : SegState) : (s.setSeg k x).img = s.img := rfl
@[simp] theorem State.setSeg_sched (s : State) (k : Nat) (x : SegState) : (s.setSeg k x).sched = s.sched := rfl
@[simp] theorem State.setSeg_prog (s : State) (k : Nat) (x : SegState) : (s.setSeg k x).prog = s.prog := rfl
@[simp] theorem State.setSeg_flt (s : State) (k : Nat) (x : SegState) : (s.setSeg k x).flt = s.flt := rfl
@[simp] theorem State.setSeg_wdg (s : State) (k : Nat) (x : SegState) : (s.setSeg k x).wdg = s.wdg := rfl
@[simp] theorem State.setSeg_tmr (s : State) (k : Nat) (x : SegState) : (s.setSeg k x).tmr = s.tmr := rfl
@[simp] theorem State.setSeg_hp (s : State) (k : Nat) (x : SegState) : (s.setSeg k x).hp = s.hp := rfl
@[simp] theorem State.setSeg_nvm (s : State) (k : Nat) (x : SegState) : (s.setSeg k x).nvm = s.nvm := rfl
@[simp] theorem State.setSeg_upd (s : State) (k : Nat) (x : SegState) : (s.setSeg k x).upd = s.upd := rfl
@[simp] theorem State.setSeg_sec (s : State) (k : Nat) (x : SegState) : (s.setSeg k x).sec = s.sec := rfl
@[simp] theorem State.setSeg_stby (s : State) (k : Nat) (x : SegState) : (s.setSeg k x).stby = s.stby := rfl
@[simp] theorem State.setSeg_net (s : State) (k : Nat) (x : SegState) : (s.setSeg k x).net = { s.net with segs := tset s.net.segs k x } := rfl
@[simp] theorem State.setSeg_eng (s : State) (k : Nat) (x : SegState) : (s.setSeg k x).eng = s.eng := rfl
@[simp] theorem State.setSeg_bays (s : State) (k : Nat) (x : SegState) : (s.setSeg k x).bays = s.bays := rfl

/-! ### `State.setNode` -/

@[simp] theorem State.setNode_pending (s : State) (n : Nat) (y : NodeState) : (s.setNode n y).pending = s.pending := rfl
@[simp] theorem State.setNode_freeCtr (s : State) (n : Nat) (y : NodeState) : (s.setNode n y).freeCtr = s.freeCtr := rfl
@[simp] theorem State.setNode_dev (s : State) (n : Nat) (y : NodeState) : (s.setNode n y).dev = s.dev := rfl
@[simp] theorem State.setNode_clk (s : State) (n : Nat) (y : NodeState) : (s.setNode n y).clk = s.clk := rfl
@[simp] theorem State.setNode_pwr (s : State) (n : Nat) (y : NodeState) : (s.setNode n y).pwr = s.pwr := rfl
@[simp] theorem State.setNode_sram (s : State) (n : Nat) (y : NodeState) : (s.setNode n y).sram = s.sram := rfl
@[simp] theorem State.setNode_feram (s : State) (n : Nat) (y : NodeState) : (s.setNode n y).feram = s.feram := rfl
@[simp] theorem State.setNode_params (s : State) (n : Nat) (y : NodeState) : (s.setNode n y).params = s.params := rfl
@[simp] theorem State.setNode_bootParams (s : State) (n : Nat) (y : NodeState) : (s.setNode n y).bootParams = s.bootParams := rfl
@[simp] theorem State.setNode_blocks (s : State) (n : Nat) (y : NodeState) : (s.setNode n y).blocks = s.blocks := rfl
@[simp] theorem State.setNode_ctxs (s : State) (n : Nat) (y : NodeState) : (s.setNode n y).ctxs = s.ctxs := rfl
@[simp] theorem State.setNode_img (s : State) (n : Nat) (y : NodeState) : (s.setNode n y).img = s.img := rfl
@[simp] theorem State.setNode_sched (s : State) (n : Nat) (y : NodeState) : (s.setNode n y).sched = s.sched := rfl
@[simp] theorem State.setNode_prog (s : State) (n : Nat) (y : NodeState) : (s.setNode n y).prog = s.prog := rfl
@[simp] theorem State.setNode_flt (s : State) (n : Nat) (y : NodeState) : (s.setNode n y).flt = s.flt := rfl
@[simp] theorem State.setNode_wdg (s : State) (n : Nat) (y : NodeState) : (s.setNode n y).wdg = s.wdg := rfl
@[simp] theorem State.setNode_tmr (s : State) (n : Nat) (y : NodeState) : (s.setNode n y).tmr = s.tmr := rfl
@[simp] theorem State.setNode_hp (s : State) (n : Nat) (y : NodeState) : (s.setNode n y).hp = s.hp := rfl
@[simp] theorem State.setNode_nvm (s : State) (n : Nat) (y : NodeState) : (s.setNode n y).nvm = s.nvm := rfl
@[simp] theorem State.setNode_upd (s : State) (n : Nat) (y : NodeState) : (s.setNode n y).upd = s.upd := rfl
@[simp] theorem State.setNode_sec (s : State) (n : Nat) (y : NodeState) : (s.setNode n y).sec = s.sec := rfl
@[simp] theorem State.setNode_stby (s : State) (n : Nat) (y : NodeState) : (s.setNode n y).stby = s.stby := rfl
@[simp] theorem State.setNode_net (s : State) (n : Nat) (y : NodeState) : (s.setNode n y).net = { s.net with nodes := tset s.net.nodes n y } := rfl
@[simp] theorem State.setNode_eng (s : State) (n : Nat) (y : NodeState) : (s.setNode n y).eng = s.eng := rfl
@[simp] theorem State.setNode_bays (s : State) (n : Nat) (y : NodeState) : (s.setNode n y).bays = s.bays := rfl

/-! ### `State.bumpPage` -/

@[simp] theorem State.bumpPage_pending (s : State) (g : Nat) : (s.bumpPage g).pending = s.pending := rfl
@[simp] theorem State.bumpPage_freeCtr (s : State) (g : Nat) : (s.bumpPage g).freeCtr = s.freeCtr := rfl
@[simp] theorem State.bumpPage_dev (s : State) (g : Nat) : (s.bumpPage g).dev = s.dev := rfl
@[simp] theorem State.bumpPage_clk (s : State) (g : Nat) : (s.bumpPage g).clk = s.clk := rfl
@[simp] theorem State.bumpPage_pwr (s : State) (g : Nat) : (s.bumpPage g).pwr = s.pwr := rfl
@[simp] theorem State.bumpPage_sram (s : State) (g : Nat) : (s.bumpPage g).sram = s.sram := rfl
@[simp] theorem State.bumpPage_feram (s : State) (g : Nat) : (s.bumpPage g).feram = s.feram := rfl
@[simp] theorem State.bumpPage_params (s : State) (g : Nat) : (s.bumpPage g).params = s.params := rfl
@[simp] theorem State.bumpPage_bootParams (s : State) (g : Nat) : (s.bumpPage g).bootParams = s.bootParams := rfl
@[simp] theorem State.bumpPage_blocks (s : State) (g : Nat) : (s.bumpPage g).blocks = s.blocks := rfl
@[simp] theorem State.bumpPage_ctxs (s : State) (g : Nat) : (s.bumpPage g).ctxs = s.ctxs := rfl
@[simp] theorem State.bumpPage_img (s : State) (g : Nat) : (s.bumpPage g).img = { s.img with vers := tset s.img.vers g (s.pageVer g + 1) } := rfl
@[simp] theorem State.bumpPage_sched (s : State) (g : Nat) : (s.bumpPage g).sched = s.sched := rfl
@[simp] theorem State.bumpPage_prog (s : State) (g : Nat) : (s.bumpPage g).prog = s.prog := rfl
@[simp] theorem State.bumpPage_flt (s : State) (g : Nat) : (s.bumpPage g).flt = s.flt := rfl
@[simp] theorem State.bumpPage_wdg (s : State) (g : Nat) : (s.bumpPage g).wdg = s.wdg := rfl
@[simp] theorem State.bumpPage_tmr (s : State) (g : Nat) : (s.bumpPage g).tmr = s.tmr := rfl
@[simp] theorem State.bumpPage_hp (s : State) (g : Nat) : (s.bumpPage g).hp = s.hp := rfl
@[simp] theorem State.bumpPage_nvm (s : State) (g : Nat) : (s.bumpPage g).nvm = s.nvm := rfl
@[simp] theorem State.bumpPage_upd (s : State) (g : Nat) : (s.bumpPage g).upd = s.upd := rfl
@[simp] theorem State.bumpPage_sec (s : State) (g : Nat) : (s.bumpPage g).sec = s.sec := rfl
@[simp] theorem State.bumpPage_stby (s : State) (g : Nat) : (s.bumpPage g).stby = s.stby := rfl
@[simp] theorem State.bumpPage_net (s : State) (g : Nat) : (s.bumpPage g).net = s.net := rfl
@[simp] theorem State.bumpPage_eng (s : State) (g : Nat) : (s.bumpPage g).eng = s.eng := rfl
@[simp] theorem State.bumpPage_bays (s : State) (g : Nat) : (s.bumpPage g).bays = s.bays := rfl

/-! ### `State.hostData` -/

@[simp] theorem State.hostData_pending (s : State) (d : List Nat) : (s.hostData d).pending = s.pending := rfl
@[simp] theorem State.hostData_freeCtr (s : State) (d : List Nat) : (s.hostData d).freeCtr = s.freeCtr := rfl
@[simp] theorem State.hostData_dev (s : State) (d : List Nat) : (s.hostData d).dev = s.dev := rfl
@[simp] theorem State.hostData_clk (s : State) (d : List Nat) : (s.hostData d).clk = s.clk := rfl
@[simp] theorem State.hostData_pwr (s : State) (d : List Nat) : (s.hostData d).pwr = s.pwr := rfl
@[simp] theorem State.hostData_sram (s : State) (d : List Nat) : (s.hostData d).sram = s.sram := rfl
@[simp] theorem State.hostData_feram (s : State) (d : List Nat) : (s.hostData d).feram = s.feram := rfl
@[simp] theorem State.hostData_params (s : State) (d : List Nat) : (s.hostData d).params = s.params := rfl
@[simp] theorem State.hostData_bootParams (s : State) (d : List Nat) : (s.hostData d).bootParams = s.bootParams := rfl
@[simp] theorem State.hostData_blocks (s : State) (d : List Nat) : (s.hostData d).blocks = s.blocks := rfl
@[simp] theorem State.hostData_ctxs (s : State) (d : List Nat) : (s.hostData d).ctxs = s.ctxs := rfl
@[simp] theorem State.hostData_img (s : State) (d : List Nat) : (s.hostData d).img = s.img := rfl
@[simp] theorem State.hostData_sched (s : State) (d : List Nat) : (s.hostData d).sched = s.sched := rfl
@[simp] theorem State.hostData_prog (s : State) (d : List Nat) : (s.hostData d).prog = s.prog := rfl
@[simp] theorem State.hostData_flt (s : State) (d : List Nat) : (s.hostData d).flt = s.flt := rfl
@[simp] theorem State.hostData_wdg (s : State) (d : List Nat) : (s.hostData d).wdg = s.wdg := rfl
@[simp] theorem State.hostData_tmr (s : State) (d : List Nat) : (s.hostData d).tmr = s.tmr := rfl
@[simp] theorem State.hostData_hp (s : State) (d : List Nat) : (s.hostData d).hp = { s.hp with rdata := d } := rfl
@[simp] theorem State.hostData_nvm (s : State) (d : List Nat) : (s.hostData d).nvm = s.nvm := rfl
@[simp] theorem State.hostData_upd (s : State) (d : List Nat) : (s.hostData d).upd = s.upd := rfl
@[simp] theorem State.hostData_sec (s : State) (d : List Nat) : (s.hostData d).sec = s.sec := rfl
@[simp] theorem State.hostData_stby (s : State) (d : List Nat) : (s.hostData d).stby = s.stby := rfl
@[simp] theorem State.hostData_net (s : State) (d : List Nat) : (s.hostData d).net = s.net := rfl
@[simp] theorem State.hostData_eng (s : State) (d : List Nat) : (s.hostData d).eng = s.eng := rfl
@[simp] theorem State.hostData_bays (s : State) (d : List Nat) : (s.hostData d).bays = s.bays := rfl

/-! ### `State.awaitCopy` -/

@[simp] theorem State.awaitCopy_pending (s : State) (m : Nat) : (s.awaitCopy m).pending = s.pending := rfl
@[simp] theorem State.awaitCopy_freeCtr (s : State) (m : Nat) : (s.awaitCopy m).freeCtr = s.freeCtr := rfl
@[simp] theorem State.awaitCopy_dev (s : State) (m : Nat) : (s.awaitCopy m).dev = s.dev := rfl
@[simp] theorem State.awaitCopy_clk (s : State) (m : Nat) : (s.awaitCopy m).clk = s.clk := rfl
@[simp] theorem State.awaitCopy_pwr (s : State) (m : Nat) : (s.awaitCopy m).pwr = s.pwr := rfl
@[simp] theorem State.awaitCopy_sram (s : State) (m : Nat) : (s.awaitCopy m).sram = s.sram := rfl
@[simp] theorem State.awaitCopy_feram (s : State) (m : Nat) : (s.awaitCopy m).feram = s.feram := rfl
@[simp] theorem State.awaitCopy_params (s : State) (m : Nat) : (s.awaitCopy m).params = s.params := rfl
@[simp] theorem State.awaitCopy_bootParams (s : State) (m : Nat) : (s.awaitCopy m).bootParams = s.bootParams := rfl
@[simp] theorem State.awaitCopy_blocks (s : State) (m : Nat) : (s.awaitCopy m).blocks = s.blocks := rfl
@[simp] theorem State.awaitCopy_ctxs (s : State) (m : Nat) : (s.awaitCopy m).ctxs = s.ctxs := rfl
@[simp] theorem State.awaitCopy_img (s : State) (m : Nat) : (s.awaitCopy m).img = s.img := rfl
@[simp] theorem State.awaitCopy_sched (s : State) (m : Nat) : (s.awaitCopy m).sched = s.sched := rfl
@[simp] theorem State.awaitCopy_prog (s : State) (m : Nat) : (s.awaitCopy m).prog = s.prog := rfl
@[simp] theorem State.awaitCopy_flt (s : State) (m : Nat) : (s.awaitCopy m).flt = s.flt := rfl
@[simp] theorem State.awaitCopy_wdg (s : State) (m : Nat) : (s.awaitCopy m).wdg = s.wdg := rfl
@[simp] theorem State.awaitCopy_tmr (s : State) (m : Nat) : (s.awaitCopy m).tmr = s.tmr := rfl
@[simp] theorem State.awaitCopy_hp (s : State) (m : Nat) : (s.awaitCopy m).hp = s.hp := rfl
@[simp] theorem State.awaitCopy_nvm (s : State) (m : Nat) : (s.awaitCopy m).nvm = { s.nvm with setDirty := true, setWaiting := s.nvm.setWaiting ++ [m] } := rfl
@[simp] theorem State.awaitCopy_upd (s : State) (m : Nat) : (s.awaitCopy m).upd = s.upd := rfl
@[simp] theorem State.awaitCopy_sec (s : State) (m : Nat) : (s.awaitCopy m).sec = s.sec := rfl
@[simp] theorem State.awaitCopy_stby (s : State) (m : Nat) : (s.awaitCopy m).stby = s.stby := rfl
@[simp] theorem State.awaitCopy_net (s : State) (m : Nat) : (s.awaitCopy m).net = s.net := rfl
@[simp] theorem State.awaitCopy_eng (s : State) (m : Nat) : (s.awaitCopy m).eng = s.eng := rfl
@[simp] theorem State.awaitCopy_bays (s : State) (m : Nat) : (s.awaitCopy m).bays = s.bays := rfl

/-! ### `State.draw` -/

@[simp] theorem State.draw_pending (s : State) : s.draw.2.pending = s.pending := rfl
@[simp] theorem State.draw_freeCtr (s : State) : s.draw.2.freeCtr = s.freeCtr + 1 := rfl
@[simp] theorem State.draw_dev (s : State) : s.draw.2.dev = s.dev := rfl
@[simp] theorem State.draw_clk (s : State) : s.draw.2.clk = s.clk := rfl
@[simp] theorem State.draw_pwr (s : State) : s.draw.2.pwr = s.pwr := rfl
@[simp] theorem State.draw_sram (s : State) : s.draw.2.sram = s.sram := rfl
@[simp] theorem State.draw_feram (s : State) : s.draw.2.feram = s.feram := rfl
@[simp] theorem State.draw_params (s : State) : s.draw.2.params = s.params := rfl
@[simp] theorem State.draw_bootParams (s : State) : s.draw.2.bootParams = s.bootParams := rfl
@[simp] theorem State.draw_blocks (s : State) : s.draw.2.blocks = s.blocks := rfl
@[simp] theorem State.draw_ctxs (s : State) : s.draw.2.ctxs = s.ctxs := rfl
@[simp] theorem State.draw_img (s : State) : s.draw.2.img = s.img := rfl
@[simp] theorem State.draw_sched (s : State) : s.draw.2.sched = s.sched := rfl
@[simp] theorem State.draw_prog (s : State) : s.draw.2.prog = s.prog := rfl
@[simp] theorem State.draw_flt (s : State) : s.draw.2.flt = s.flt := rfl
@[simp] theorem State.draw_wdg (s : State) : s.draw.2.wdg = s.wdg := rfl
@[simp] theorem State.draw_tmr (s : State) : s.draw.2.tmr = s.tmr := rfl
@[simp] theorem State.draw_hp (s : State) : s.draw.2.hp = s.hp := rfl
@[simp] theorem State.draw_nvm (s : State) : s.draw.2.nvm = s.nvm := rfl
@[simp] theorem State.draw_upd (s : State) : s.draw.2.upd = s.upd := rfl
@[simp] theorem State.draw_sec (s : State) : s.draw.2.sec = s.sec := rfl
@[simp] theorem State.draw_stby (s : State) : s.draw.2.stby = s.stby := rfl
@[simp] theorem State.draw_net (s : State) : s.draw.2.net = s.net := rfl
@[simp] theorem State.draw_eng (s : State) : s.draw.2.eng = s.eng := rfl
@[simp] theorem State.draw_bays (s : State) : s.draw.2.bays = s.bays := rfl

/-! ### An accessor after its own update -/

@[simp] theorem State.ctx_setCtx (s : State) (c k : Nat) (x : Ctx) : (s.setCtx c x).ctx k = if k = c then x else s.ctx k :=
  tget_tset Ctx.init x s.ctxs c k

@[simp] theorem State.bay_setBay (s : State) (x k : Nat) (b : Bay) : (s.setBay x b).bay k = if k = x then b else s.bay k :=
  tget_tset Bay.init b s.bays x k

@[simp] theorem State.engBay_setEngBay (s : State) (x k : Nat) (b : EngBay) :
    (s.setEngBay x b).engBay k = if k = x then b else s.engBay k :=
  tget_tset EngBay.init b s.eng.bays x k

@[simp] theorem State.mailbox_setMailbox (s : State) (m k : Nat) (x : Mailbox) :
    (s.setMailbox m x).mailbox k = if k = m then x else s.mailbox k :=
  tget_tset Mailbox.init x s.hp.mbx m k

@[simp] theorem State.session_setSession (s : State) (m k : Nat) (x : Session) :
    (s.setSession m x).session k = if k = m then x else s.session k :=
  tget_tset Session.init x s.hp.sessions m k

@[simp] theorem State.slave_setSlave (s : State) (m k : Nat) (x : Slave) :
    (s.setSlave m x).slave k = if k = m then x else s.slave k :=
  tget_tset Slave.init x s.net.slaves m k

@[simp] theorem State.seg_setSeg (s : State) (m k : Nat) (x : SegState) :
    (s.setSeg m x).seg k = if k = m then x else s.seg k :=
  tget_tset SegState.init x s.net.segs m k

@[simp] theorem State.node_setNode (s : State) (m k : Nat) (x : NodeState) :
    (s.setNode m x).node k = if k = m then x else s.node k :=
  tget_tset NodeState.init x s.net.nodes m k

@[simp] theorem State.pageVer_bumpPage (s : State) (g k : Nat) :
    (s.bumpPage g).pageVer k = if k = g then s.pageVer g + 1 else s.pageVer k :=
  tget_tset 0 (s.pageVer g + 1) s.img.vers g k

@[simp] theorem State.pv_setPv (s : State) (p k : Nat) (v : Int) : (s.setPv p v).pv k = if k = p then v else s.pv k := by
  unfold State.pv
  rw [State.setPv_params, tfind_tset]
  by_cases h : k = p
  · rw [if_pos h, if_pos h]
  · rw [if_neg h, if_neg h]

@[simp] theorem State.pn_setPv (s : State) (p k : Nat) (v : Int) :
    (s.setPv p v).pn k = if k = p then v.toNat else s.pn k := by
  simp only [State.pn, State.pv_setPv]
  split <;> rfl

@[simp] theorem State.setCtx_ctx_same (s : State) (c : Nat) (x : Ctx) : (s.setCtx c x).ctx c = x := by simp

/-- A slot set in every answer that reads only other contexts. -/
theorem State.ctx_setCtx_other (s : State) (c k : Nat) (x : Ctx) (h : k ≠ c) : (s.setCtx c x).ctx k = s.ctx k := by
  simp [h]

end Sys2Proof.Machine
end

