-- ==== Sys2Proof/Laws/Core.lean ====
section
/-!
SUPPORT. What a core instruction can do (R42, R57, R94): the operations through which every one of them answers, each said once, so
that a proof about an instruction cites these and not the operations' text.
-/

namespace Sys2Proof.Machine

/-- A context that does not hold the cores executes nothing (R94). -/
theorem coreDo_off {s : State} {c : Nat} (f : CoreRegs → Shot → CoreAns) (h : s.onCores c = none) : s.coreDo c f = .next s := by
  simp only [State.coreDo, h]

/-- On the cores, new registers are the context's and nothing else changes. -/
theorem coreDo_regs {s : State} {c : Nat} {sh : Shot} {f : CoreRegs → Shot → CoreAns} {g : CoreRegs} (h : s.onCores c = some sh)
    (hf : f (s.ctx c).regs sh = .regs g) : s.coreDo c f = .next (s.setCtx c { s.ctx c with regs := g }) := by
  simp only [State.coreDo, h, hf]

/-- On the cores, a violation drops the shot (R58). -/
theorem coreDo_drop {s : State} {c : Nat} {sh : Shot} {f : CoreRegs → Shot → CoreAns} {r : DropReason} (h : s.onCores c = some sh)
    (hf : f (s.ctx c).regs sh = .drop r) : s.coreDo c f = .next (s.dropAndDispatch c r) := by
  simp only [State.coreDo, h, hf]

/-- On the cores, a store goes into the shot buffer (R42). -/
theorem coreDo_store {s : State} {c : Nat} {sh : Shot} {f : CoreRegs → Shot → CoreAns} {g : CoreRegs} {ws : List (Nat × Nat)}
    (h : s.onCores c = some sh) (hf : f (s.ctx c).regs sh = .store g ws) : s.coreDo c f = .next (s.coreStore c sh g ws) := by
  simp only [State.coreDo, h, hf]

/-- Words no program can hold are no event (log 9). -/
theorem coreDo_illegal {s : State} {c : Nat} {sh : Shot} {f : CoreRegs → Shot → CoreAns} (h : s.onCores c = some sh)
    (hf : f (s.ctx c).regs sh = .illegal) : s.coreDo c f = .next s := by
  simp only [State.coreDo, h, hf]

/-- Everything a core instruction can do: nothing, new registers, a drop, or a store. -/
theorem coreDo_cases {s t : State} {c : Nat} {f : CoreRegs → Shot → CoreAns} (h : s.coreDo c f = .next t) :
    t = s ∨ (∃ sh g, s.onCores c = some sh ∧ f (s.ctx c).regs sh = .regs g ∧ t = s.setCtx c { s.ctx c with regs := g }) ∨
      (∃ sh r, s.onCores c = some sh ∧ f (s.ctx c).regs sh = .drop r ∧ t = s.dropAndDispatch c r) ∨
      (∃ sh g ws, s.onCores c = some sh ∧ f (s.ctx c).regs sh = .store g ws ∧ t = s.coreStore c sh g ws) := by
  unfold State.coreDo at h
  split at h
  · cases h; exact .inl rfl
  · next sh hs =>
    split at h <;> cases h
    · exact .inl rfl
    · next r hr => exact .inr (.inr (.inl ⟨sh, r, hs, hr, rfl⟩))
    · next g hg => exact .inr (.inl ⟨sh, g, hs, hg, rfl⟩)
    · next g ws hg => exact .inr (.inr (.inr ⟨sh, g, ws, hs, hg, rfl⟩))

/-- A write whose pages the buffer holds goes in at once and the registers follow (R42). -/
theorem coreStore_held {s : State} {c : Nat} {sh : Shot} {g : CoreRegs} {ws : List (Nat × Nat)}
    (hr : s.writeRefused c sh ws = none) (hp : sh.newPages ws = []) :
    s.coreStore c sh g ws = s.setCtx c { s.ctx c with regs := g, shot := some (sh.put s.program ws) } := by
  simp [State.coreStore, hr, hp]

/-- A write to new pages waits for their first-write copies (R42). -/
theorem coreStore_waits {s : State} {c : Nat} {sh : Shot} {g : CoreRegs} {ws : List (Nat × Nat)}
    (hr : s.writeRefused c sh ws = none) (hp : sh.newPages ws ≠ []) :
    s.coreStore c sh g ws =
      (s.setCtx c { s.ctx c with
        shot := some { s.takePages sh (sh.newPages ws) with
          waiting := some { pages := sh.newPages ws, writes := ws, after := g } } }).notePool := by
  simp [State.coreStore, hr, hp]

/-- A write beyond the row cap or the quota drops the shot (R54, R57). -/
theorem coreStore_refused {s : State} {c : Nat} {sh : Shot} {g : CoreRegs} {ws : List (Nat × Nat)} {r : DropReason}
    (hr : s.writeRefused c sh ws = some r) : s.coreStore c sh g ws = s.dropAndDispatch c r := by
  simp [State.coreStore, hr]

/-- An integer operation with a legal source under the width rule (R107). -/
theorem intOp_narrow {s : State} {c : Nat} {sh : Shot} {w : IWidth} {d : BitVec 4} {src : Src} {b : W32}
    (f : W32 → W32 → W32 × Option Bool) (h : s.onCores c = some sh) (hs : s.intSrc sh (s.ctx c).regs w true src = some (.ok b)) :
    s.intOp c w true d src f =
      (let g := (s.ctx c).regs
       let r := f (iwExtend w g.w[d.toNat]) b
       .next (s.setCtx c { s.ctx c with
         regs := { g with w := g.w.set d.toNat r.1, ba := r.2.getD g.ba, pc := g.pc + BitVec.ofNat 20 (srcLen src) } })) := by
  simp only [State.intOp]
  rw [coreDo_regs h (by simp only [hs]; rfl)]
  simp only [if_true]
  cases (f (iwExtend w (s.ctx c).regs.w[d.toNat]) b).2 <;> rfl

/-- An integer operation with a legal source on all 32 bits (R107). -/
theorem intOp_wide {s : State} {c : Nat} {sh : Shot} {w : IWidth} {d : BitVec 4} {src : Src} {b : W32}
    (f : W32 → W32 → W32 × Option Bool) (h : s.onCores c = some sh) (hs : s.intSrc sh (s.ctx c).regs w false src = some (.ok b)) :
    s.intOp c w false d src f =
      (let g := (s.ctx c).regs
       let r := f g.w[d.toNat] b
       .next (s.setCtx c { s.ctx c with
         regs := { g with w := g.w.set d.toNat r.1, ba := r.2.getD g.ba, pc := g.pc + BitVec.ofNat 20 (srcLen src) } })) := by
  simp only [State.intOp]
  rw [coreDo_regs h (by simp only [hs]; rfl)]
  simp only [Bool.false_eq_true, if_false]
  cases (f (s.ctx c).regs.w[d.toNat] b).2 <;> rfl

/-- A source that fails drops the shot, whatever the operation (R34, R96, R111). -/
theorem intOp_drop {s : State} {c : Nat} {sh : Shot} {w : IWidth} {narrow : Bool} {d : BitVec 4} {src : Src} {r : DropReason}
    (f : W32 → W32 → W32 × Option Bool) (h : s.onCores c = some sh)
    (hs : s.intSrc sh (s.ctx c).regs w narrow src = some (.error r)) : s.intOp c w narrow d src f = .next (s.dropAndDispatch c r) := by
  simp only [State.intOp]
  exact coreDo_drop h (by simp only [hs])

/-- A real operation in binary32 with a legal source clears the upper half of Fd (R108). -/
theorem realOp_single {s : State} {c : Nat} {sh : Shot} {d : BitVec 3} {src : Src} {b : Nat}
    (f : FloatFmt → Nat → Nat → Nat) (h : s.onCores c = some sh) (hs : s.realSrc sh (s.ctx c).regs .b32 src = some (.ok b)) :
    s.realOp c .b32 d src f =
      (let g := (s.ctx c).regs
       .next (s.setCtx c { s.ctx c with
         regs := (g.setF d (f .b32 (g.f[d.toNat].toNat % 2 ^ 32) b)).adv (srcLen src) })) := by
  simp only [State.realOp]
  rw [coreDo_regs h (by simp only [hs]; rfl)]

/-- A real operation in binary64 with a legal source (R108). -/
theorem realOp_double {s : State} {c : Nat} {sh : Shot} {d : BitVec 3} {src : Src} {b : Nat}
    (f : FloatFmt → Nat → Nat → Nat) (h : s.onCores c = some sh) (hs : s.realSrc sh (s.ctx c).regs .b64 src = some (.ok b)) :
    s.realOp c .b64 d src f =
      (let g := (s.ctx c).regs
       .next (s.setCtx c { s.ctx c with regs := (g.setF d (f .b64 g.f[d.toNat].toNat b)).adv (srcLen src) })) := by
  simp only [State.realOp]
  rw [coreDo_regs h (by simp only [hs]; rfl)]

/-- A real source that fails drops the shot. -/
theorem realOp_drop {s : State} {c : Nat} {sh : Shot} {w : FWidth} {d : BitVec 3} {src : Src} {r : DropReason}
    (f : FloatFmt → Nat → Nat → Nat) (h : s.onCores c = some sh) (hs : s.realSrc sh (s.ctx c).regs w src = some (.error r)) :
    s.realOp c w d src f = .next (s.dropAndDispatch c r) := by
  simp only [State.realOp]
  exact coreDo_drop h (by simp only [hs])

end Sys2Proof.Machine
end

