-- ==== Sys2Proof/Laws/Shapes.lean ====
section
/-!
SUPPORT. What each shared operation can change: one lemma an operation, which gives its result as a record update of the fields it may
touch; every other field is as it was. A proof takes the lemma apart and sees the untouched fields by rfl.
-/

namespace Sys2Proof.Machine

/-! ### Counters, the log, free values -/

theorem State.bump_shape (s : State) (pid w : Nat) : ∃ p f, s.bump pid w = { s with params := p, freeCtr := f } := by
  unfold State.bump
  extract_lets v
  split
  · exact ⟨_, s.freeCtr, rfl⟩
  · exact ⟨_, _, rfl⟩

/-- A counter below its largest value counts one. -/
theorem State.bump_lt {s : State} {pid w : Nat} (h : s.pn pid + 1 < 2 ^ w) : s.bump pid w = s.setPv pid ((s.pn pid + 1 : Nat) : Int) := by
  simp [State.bump, h]

theorem State.worst_shape (s : State) (pid v : Nat) : ∃ p, s.worst pid v = { s with params := p } := by
  unfold State.worst
  split
  · exact ⟨_, rfl⟩
  · exact ⟨s.params, rfl⟩

theorem State.notePool_shape (s : State) : ∃ p, s.notePool = { s with params := p } := by
  unfold State.notePool
  extract_lets f
  split
  · exact ⟨_, rfl⟩
  · exact ⟨s.params, rfl⟩

theorem State.logRec_shape (s : State) (type : Nat) (bytes : List Byte) (q : Nat) (r : Bool) :
    ∃ p f q' o, s.logRec type bytes q r =
      { s with params := p, freeCtr := f, nvm := { s.nvm with logQueue := q', overflow := o } } := by
  simp only [State.logRec]
  generalize (if r = true then 256 else 248) = n
  split
  · exact (State.worst_shape _ _ _).imp fun p h => ⟨s.freeCtr, _, _, h⟩
  · obtain ⟨p, f, h⟩ := s.bump_shape 0xA13 32
    simp only [h]
    exact ⟨p, f, s.nvm.logQueue, _, rfl⟩

theorem State.log_shape (s : State) (type : Nat) (bytes : List Byte) :
    ∃ p f q o, s.log type bytes = { s with params := p, freeCtr := f, nvm := { s.nvm with logQueue := q, overflow := o } } :=
  s.logRec_shape type bytes 0 false

/-- A record that finds room is queued with the time, whatever its kind (R433). -/
theorem State.log_queued {s : State} (type : Nat) (bytes : List Byte) (h : s.nvm.logQueue.length < 248) :
    (s.log type bytes).nvm.logQueue = s.nvm.logQueue ++
      [{ seq := 0, type := type, stime := s.now, bytes := bytes, chain := 0, faultSeq := 0, reserved := false }] := by
  simp only [State.log, State.logRec, Bool.false_eq_true, if_false, h, if_true]
  exact (State.worst_shape _ _ _).elim fun p hp => by rw [hp]

/-! ### Mirrors and bits -/

theorem State.mirror_shape (s : State) :
    ∃ i d b, s.mirror = { s with hp := { s.hp with irqStat := i, dstateSeen := d, braceSeen := b } } := ⟨_, _, _, rfl⟩

theorem State.hstatSet_shape (s : State) (b : Nat) :
    ∃ p f i h, s.hstatSet b = { s with params := p, freeCtr := f, hp := { s.hp with irqStat := i, hstat := h } } := by
  obtain ⟨p, f, h⟩ := s.bump_shape 0x117 32
  simp only [State.hstatSet, h]
  exact ⟨p, f, _, _, rfl⟩

theorem State.setLive_shape (s : State) (src : Nat) (b : Bool) :
    ∃ l, s.setLive src b = { s with flt := { s.flt with live := l } } := ⟨_, rfl⟩

/-! ### Responses -/

theorem State.answer_shape (s : State) (m completion status detail : Nat) (data : List Byte) :
    ∃ x y, s.answer m completion status detail data = { s with hp := { s.hp with mbx := x, sessions := y } } := by
  unfold State.answer
  extract_lets x
  split
  · exact ⟨s.hp.mbx, s.hp.sessions, rfl⟩
  · extract_lets resp t k y e
    split
    · exact ⟨_, s.hp.sessions, rfl⟩
    · split
      · exact ⟨_, _, rfl⟩
      · exact ⟨_, s.hp.sessions, rfl⟩

/-- A mailbox with a request holds the response after it (R337). -/
theorem State.answer_answered {s : State} {m : Nat} {q : Request} (completion status detail : Nat) (data : List Byte)
    (h : (s.mailbox m).req = some q) :
    ∃ r, ((s.answer m completion status detail data).mailbox m).resp = some r ∧ r.completion = completion ∧ r.status = status ∧
      r.detail = detail ∧ r.data = data := by
  have key : (s.answer m completion status detail data).mailbox m =
      { s.mailbox m with
        resp := some { completion := completion, status := status, detail := detail, data := data, rep := false, reply := 0,
                       clear := q.session == 0, session := none },
        waitFrom := none, committed := true } := by
    unfold State.answer
    extract_lets x
    simp only [x, h]
    split
    · simp [State.mailbox, State.setMailbox]
    · split <;> simp [State.mailbox, State.setMailbox, State.setSession]
  exact ⟨_, by rw [key], rfl, rfl, rfl, rfl⟩

/-- No other mailbox sees a response. -/
theorem State.answer_other {s : State} {m k : Nat} (completion status detail : Nat) (data : List Byte) (h : k ≠ m) :
    (s.answer m completion status detail data).mailbox k = s.mailbox k := by
  unfold State.answer
  extract_lets x
  split
  · rfl
  · extract_lets resp t i y e
    split
    · simp [t, State.mailbox, State.setMailbox, h]
    · split <;> simp [t, State.mailbox, State.setMailbox, State.setSession, h]

theorem State.ok_shape (s : State) (m : Nat) (data : List Byte) :
    ∃ x y, s.ok m data = { s with hp := { s.hp with mbx := x, sessions := y } } := s.answer_shape m 0 0 0 data

theorem State.refuse_shape (s : State) (m status detail : Nat) :
    ∃ x y, s.refuse m status detail = { s with hp := { s.hp with mbx := x, sessions := y } } := s.answer_shape m 9 status detail []

theorem State.abort_shape (s : State) (m : Nat) :
    ∃ x y, s.abort m = { s with hp := { s.hp with mbx := x, sessions := y } } := s.answer_shape m 0x0B 0 0 []

theorem State.answerClear_shape (s : State) (m completion : Nat) :
    ∃ x, s.answerClear m completion = { s with hp := { s.hp with mbx := x } } := ⟨_, rfl⟩

/-- A fold of operations that change one part only changes that part only. -/
theorem foldl_shape {α σ β : Type} (put : σ → β → σ) (f : σ → α → σ) (hput : ∀ s x y, put (put s x) y = put s y)
    (hid : ∀ s, ∃ x, s = put s x) (hf : ∀ s a, ∃ x, f s a = put s x) (l : List α) (s : σ) : ∃ x, l.foldl f s = put s x := by
  induction l generalizing s with
  | nil => exact hid s
  | cons a r ih =>
    obtain ⟨x, hx⟩ := hf s a
    obtain ⟨y, hy⟩ := ih (f s a)
    exact ⟨y, by rw [List.foldl_cons, hy, hx, hput]⟩

theorem State.abortWaiting_shape (s : State) (id : Nat) : ∃ x, s.abortWaiting id = { s with hp := { s.hp with mbx := x } } := by
  unfold State.abortWaiting
  refine foldl_shape (fun (s : State) x => { s with hp := { s.hp with mbx := x } }) _ (fun _ _ _ => rfl)
    (fun s => ⟨s.hp.mbx, rfl⟩) (fun t m => ?_) _ s
  extract_lets x
  split
  · split
    · exact t.answerClear_shape m 0x0B
    · exact ⟨t.hp.mbx, rfl⟩
  · exact ⟨t.hp.mbx, rfl⟩

theorem State.overtake_shape (s : State) (dest : DevState) :
    ∃ x y p f q o a b, s.overtake dest =
      { s with hp := { s.hp with mbx := x, sessions := y }, params := p, freeCtr := f,
               nvm := { s.nvm with logQueue := q, overflow := o }, dev := { s.dev with drainMbx := a, runMbx := b } } := by
  have one : ∀ (m : Option Nat) (k : Bool) (u : State), ∃ x y,
      (match m with
       | some m => if k = true then u else u.abort m
       | none => u) = { u with hp := { u.hp with mbx := x, sessions := y } } := by
    intro m k u
    cases m with
    | none => exact ⟨u.hp.mbx, u.hp.sessions, rfl⟩
    | some m =>
      cases k
      · exact u.abort_shape m
      · exact ⟨u.hp.mbx, u.hp.sessions, rfl⟩
  have two : ∀ (o : Option DevState) (u : State), ∃ p f q k,
      (match o with
       | some d => if (d == dest) = true then u else u.log 3 (leBytes 1 (devCode d) ++ leBytes 1 (devCode dest))
       | none => u) = { u with params := p, freeCtr := f, nvm := { u.nvm with logQueue := q, overflow := k } } := by
    intro o u
    cases o with
    | none => exact ⟨u.params, u.freeCtr, u.nvm.logQueue, u.nvm.overflow, rfl⟩
    | some d =>
      dsimp only
      split
      · exact ⟨u.params, u.freeCtr, u.nvm.logQueue, u.nvm.overflow, rfl⟩
      · exact u.log_shape _ _
  obtain ⟨x1, y1, h1⟩ := one s.dev.drainMbx (s.dev.drain == some dest) s
  obtain ⟨x2, y2, h2⟩ := one s.dev.runMbx (dest == DevState.run) { s with hp := { s.hp with mbx := x1, sessions := y1 } }
  obtain ⟨p, f, q, o, h3⟩ := two s.dev.drain { s with hp := { s.hp with mbx := x2, sessions := y2 } }
  unfold State.overtake
  extract_lets t u v
  have ht : t = _ := h1
  clear_value t
  subst ht
  have hu : u = _ := h2
  clear_value u
  subst hu
  have hv : v = _ := h3
  clear_value v
  subst hv
  exact ⟨x2, y2, p, f, q, o, _, _, rfl⟩

/-! ### Shots and the cores -/

theorem State.setPhase_shape (s : State) (c : Nat) (p : ShotPhase) : ∃ x, s.setPhase c p = { s with ctxs := x } := by
  unfold State.setPhase
  extract_lets x
  split
  · exact ⟨s.ctxs, rfl⟩
  · exact ⟨_, rfl⟩

theorem State.dispatch_shape (s : State) :
    ∃ x p f k, s.dispatch = { s with ctxs := x, params := p, freeCtr := f, sched := { s.sched with cores := k } } := by
  have one : ∀ (o : Option Nat), ∃ x p f,
      (match o with
       | some c => if c = 0 then s else (s.setPhase c .preempted).bump 0x707 64
       | none => s) = { s with ctxs := x, params := p, freeCtr := f } := by
    intro o
    cases o with
    | none => exact ⟨s.ctxs, s.params, s.freeCtr, rfl⟩
    | some c =>
      dsimp only
      split
      · exact ⟨s.ctxs, s.params, s.freeCtr, rfl⟩
      · obtain ⟨x, hx⟩ := s.setPhase_shape c .preempted
        obtain ⟨p, f, hb⟩ := (s.setPhase c .preempted).bump_shape 0x707 64
        rw [hb, hx]
        exact ⟨x, p, f, rfl⟩
  have two : ∀ (o : Option Nat) (u : State), ∃ x,
      (match o with
       | some c => if c = 0 then u else u.setPhase c .core
       | none => u) = { u with ctxs := x } := by
    intro o u
    cases o with
    | none => exact ⟨u.ctxs, rfl⟩
    | some c =>
      dsimp only
      split
      · exact ⟨u.ctxs, rfl⟩
      · exact u.setPhase_shape c .core
  unfold State.dispatch
  extract_lets next s1 s2
  split
  · exact ⟨s.ctxs, s.params, s.freeCtr, s.sched.cores, rfl⟩
  · obtain ⟨x1, p1, f1, h1⟩ := one s.sched.cores
    obtain ⟨x2, h2⟩ := two s.coreChoice { s with ctxs := x1, params := p1, freeCtr := f1 }
    have hs1 : s1 = _ := h1
    clear_value s1
    subst hs1
    have hs2 : s2 = _ := h2
    clear_value s2
    subst hs2
    exact ⟨x2, p1, f1, next, rfl⟩

theorem State.dropShot_shape (s : State) (c : Nat) (r : DropReason) :
    ∃ x k, s.dropShot c r = { s with ctxs := x, sched := { s.sched with cores := k } } := by
  unfold State.dropShot
  extract_lets x
  split
  · exact ⟨s.ctxs, s.sched.cores, rfl⟩
  · exact ⟨_, _, rfl⟩

/-- A dropped shot leaves the slot and waits for its abandonment with its reason (R58). -/
theorem State.dropShot_ctx {s : State} {c : Nat} {sh : Shot} (r : DropReason) (h : (s.ctx c).shot = some sh) :
    (s.dropShot c r).ctx c = { s.ctx c with shot := none, dying := (s.ctx c).dying ++ [(sh, r)] } := by
  simp only [State.dropShot, h]
  simp [State.ctx, State.setCtx]

theorem State.dropAll_shape (s : State) (r : DropReason) :
    ∃ x : List (Nat × Ctx) × Option Nat, s.dropAll r = { s with ctxs := x.1, sched := { s.sched with cores := x.2 } } := by
  unfold State.dropAll
  refine foldl_shape (fun (s : State) (x : List (Nat × Ctx) × Option Nat) => { s with ctxs := x.1, sched := { s.sched with cores := x.2 } }) _
    (fun _ _ _ => rfl) (fun s => ⟨(s.ctxs, s.sched.cores), rfl⟩) (fun t c => ?_) _ s
  obtain ⟨x, k, h⟩ := t.dropShot_shape c r
  exact ⟨(x, k), h⟩

theorem State.dropAndDispatch_shape (s : State) (c : Nat) (r : DropReason) :
    ∃ x p f k, s.dropAndDispatch c r =
      { s with ctxs := x, params := p, freeCtr := f, sched := { s.sched with cores := k } } := by
  obtain ⟨x1, k1, h1⟩ := s.dropShot_shape c r
  obtain ⟨x, p, f, k, h⟩ := (s.dropShot c r).dispatch_shape
  rw [State.dropAndDispatch, h, h1]
  exact ⟨x, p, f, k, rfl⟩

theorem State.coreStore_shape (s : State) (c : Nat) (sh : Shot) (g : CoreRegs) (ws : List (Nat × Nat)) :
    ∃ x p f k, s.coreStore c sh g ws =
      { s with ctxs := x, params := p, freeCtr := f, sched := { s.sched with cores := k } } := by
  unfold State.coreStore
  split
  · exact s.dropAndDispatch_shape c _
  · extract_lets pages sh1
    split
    · exact ⟨_, s.params, s.freeCtr, s.sched.cores, rfl⟩
    · exact (State.notePool_shape _).elim fun p h => ⟨_, p, s.freeCtr, s.sched.cores, h⟩

/-- A core instruction touches the contexts, the pool and pre-emption counters, and who holds the cores; memory, outputs, the log
and everything else stay (R42: a shot writes into its buffer only). -/
theorem coreDo_shape {s t : State} {c : Nat} {f : CoreRegs → Shot → CoreAns} (h : s.coreDo c f = .next t) :
    ∃ x p n k, t = { s with ctxs := x, params := p, freeCtr := n, sched := { s.sched with cores := k } } := by
  unfold State.coreDo at h
  split at h
  · cases h; exact ⟨s.ctxs, s.params, s.freeCtr, s.sched.cores, rfl⟩
  · split at h <;> cases h
    · exact ⟨s.ctxs, s.params, s.freeCtr, s.sched.cores, rfl⟩
    · exact s.dropAndDispatch_shape c _
    · exact ⟨_, s.params, s.freeCtr, s.sched.cores, rfl⟩
    · exact s.coreStore_shape c _ _ _

/-! ### Transitions and faults -/

theorem State.pinLow_shape (s : State) :
    ∃ l r, s.pinLow = { s with flt := { s.flt with nfaultLow := true, lowSince := l, releaseAsked := r } } := ⟨_, _, rfl⟩

theorem State.scarfSend_shape (s : State) (fs : List ScarfOut) :
    ∃ a b c, s.scarfSend fs = { s with stby := { s.stby with tx := a, txSeq := b, txAt := c } } := by
  unfold State.scarfSend
  split
  · exact ⟨_, _, _, rfl⟩
  · exact ⟨s.stby.tx, s.stby.txSeq, s.stby.txAt, rfl⟩

theorem State.blockReset_shape (s : State) (src index : Nat) :
    ∃ a b c d e, s.blockReset src index =
      { s with net := { s.net with linkA := a, linkB := b }, stby := { s.stby with lane0 := c, lane1 := d },
               eng := { s.eng with restart := e } } := by
  unfold State.blockReset
  split
  · exact ⟨_, _, s.stby.lane0, s.stby.lane1, s.eng.restart, rfl⟩
  · exact ⟨s.net.linkA, s.net.linkB, _, _, s.eng.restart, rfl⟩
  · exact ⟨s.net.linkA, s.net.linkB, s.stby.lane0, s.stby.lane1, _, rfl⟩

theorem State.updDiscard_shape (s : State) (reason status : Nat) :
    ∃ p f n u, s.updDiscard reason status = { s with params := p, freeCtr := f, nvm := n, upd := u } := by
  unfold State.updDiscard
  extract_lets t
  obtain ⟨p, f, q, o, h⟩ := s.log_shape 0x56 (s.updBytes reason status s.now)
  simp only [t, h]
  exact ⟨p, f, _, _, rfl⟩

theorem State.releaseLock_shape (s : State) : ∃ h g, s.releaseLock = { s with hp := h, prog := g } := by
  unfold State.releaseLock
  split
  · exact ⟨s.hp, _, rfl⟩
  · extract_lets t
    have ht : ∃ h, t = { s with hp := h } := by
      simp only [t]
      split
      · next m _ =>
        obtain ⟨x, y, h⟩ := s.abort_shape m
        exact ⟨_, h⟩
      · exact ⟨s.hp, rfl⟩
    obtain ⟨h, ht⟩ := ht
    rw [ht]
    exact ⟨_, _, rfl⟩

theorem State.refuseLoad_shape (s : State) (m status detail : Nat) :
    ∃ h g, s.refuseLoad m status detail = { s with hp := h, prog := g } := by
  unfold State.refuseLoad
  extract_lets t
  obtain ⟨x, y, h⟩ := s.refuse_shape m status detail
  simp only [t, h]
  exact ⟨_, _, rfl⟩

theorem State.abandonEdit_shape (s : State) (cause : Nat) :
    ∃ p f n g, s.abandonEdit cause = { s with params := p, freeCtr := f, nvm := n, prog := g } := by
  unfold State.abandonEdit
  split
  · exact ⟨s.params, s.freeCtr, s.nvm, s.prog, rfl⟩
  · next e _ =>
    extract_lets t
    obtain ⟨p, f, q, o, h⟩ := s.log_shape 0x21 (leBytes 1 cause ++ leBytes 7 0 ++ leBytes 8 e.at_)
    simp only [t, h]
    exact ⟨p, f, _, _, rfl⟩

theorem State.editOnTransition_shape (s : State) (dest : DevState) :
    ∃ p f n g, s.editOnTransition dest = { s with params := p, freeCtr := f, nvm := n, prog := g } := by
  unfold State.editOnTransition
  split
  · exact ⟨s.params, s.freeCtr, s.nvm, _, rfl⟩
  · exact ⟨s.params, s.freeCtr, s.nvm, s.prog, rfl⟩
  · exact s.abandonEdit_shape 1

/-- What a transition or a fault's reactions never touch: the queue, the clocks and supplies, SRAM, FeRAM but for the state rows of
the shim journal, the owner store with its fuses and keys, and the settings as they came up. -/
structure State.Steady (s t : State) : Prop where
  pending : t.pending = s.pending
  clk : t.clk = s.clk
  pwr : t.pwr = s.pwr
  sram : t.sram = s.sram
  feram : ∀ a, shimAddr a = false → t.feram.read a = s.feram.read a
  sec : t.sec = s.sec
  bootParams : t.bootParams = s.bootParams
  blocks : t.blocks = s.blocks

/-- Steady with all of FeRAM as it was. -/
theorem State.Steady.same {s t : State} (p : t.pending = s.pending) (c : t.clk = s.clk) (w : t.pwr = s.pwr) (r : t.sram = s.sram)
    (f : t.feram = s.feram) (k : t.sec = s.sec) (b : t.bootParams = s.bootParams) (l : t.blocks = s.blocks) : s.Steady t :=
  ⟨p, c, w, r, fun _ _ => by rw [f], k, b, l⟩

theorem State.Steady.refl (s : State) : s.Steady s := State.Steady.same rfl rfl rfl rfl rfl rfl rfl rfl

theorem State.Steady.trans {s t u : State} (h : s.Steady t) (k : t.Steady u) : s.Steady u :=
  ⟨k.pending.trans h.pending, k.clk.trans h.clk, k.pwr.trans h.pwr, k.sram.trans h.sram, fun a n => (k.feram a n).trans (h.feram a n), k.sec.trans h.sec,
    k.bootParams.trans h.bootParams, k.blocks.trans h.blocks⟩

/-- A choice between two operations is as steady as both. -/
theorem State.Steady.ite {s t u : State} {p : Prop} [Decidable p] (h : s.Steady t) (k : s.Steady u) :
    s.Steady (if p then t else u) := by
  split
  · exact h
  · exact k

theorem State.Steady.mirror {s t : State} (h : s.Steady t) : s.Steady t.mirror :=
  ⟨h.pending, h.clk, h.pwr, h.sram, h.feram, h.sec, h.bootParams, h.blocks⟩

/-- A row write changes the bytes of its row and nothing else. -/
theorem State.writeRow_read (s : State) (addr a : Nat) (bs : List Byte) (h : a < addr ∨ addr + 64 ≤ a) :
    (s.writeRow addr bs).feram.read a = s.feram.read a := by
  apply Memory.read_writeL_other
  simpa [rowBytes] using h

theorem State.writeRow_steady (s : State) (n : Nat) (bs : List Byte) : s.Steady (s.writeRow (0x3F0080 + 64 * (n % 16)) bs) := by
  refine ⟨rfl, rfl, rfl, rfl, fun a ha => s.writeRow_read _ a bs ?_, rfl, rfl, rfl⟩
  simp only [shimAddr, Bool.and_eq_false_iff, decide_eq_false_iff_not] at ha
  omega

theorem State.Steady.withUpd {s t : State} (h : s.Steady t) (u : Update) : s.Steady { t with upd := u } :=
  ⟨h.pending, h.clk, h.pwr, h.sram, h.feram, h.sec, h.bootParams, h.blocks⟩

/-- A state row of the shim journal: nothing but that row and the journal's own fields change. -/
theorem State.writeShim_steady (s : State) : s.Steady s.writeShim :=
  (s.writeRow_steady (s.upd.jSeq + 1) (Update.stateRow { s.upd with jSeq := s.upd.jSeq + 1 } s.upd.oldVersion)).withUpd
    { s.upd with jSeq := s.upd.jSeq + 1 }

theorem State.log_steady (s : State) (type : Nat) (bytes : List Byte) : s.Steady (s.log type bytes) := by
  obtain ⟨p, f, q, o, h⟩ := s.log_shape type bytes
  rw [h]
  exact (State.Steady.same rfl rfl rfl rfl rfl rfl rfl rfl)

theorem State.logRec_steady (s : State) (type : Nat) (bytes : List Byte) (q : Nat) (r : Bool) :
    s.Steady (s.logRec type bytes q r) := by
  obtain ⟨p, f, q, o, h⟩ := s.logRec_shape type bytes q r
  rw [h]
  exact (State.Steady.same rfl rfl rfl rfl rfl rfl rfl rfl)

theorem State.bump_steady (s : State) (pid w : Nat) : s.Steady (s.bump pid w) := by
  obtain ⟨p, f, h⟩ := s.bump_shape pid w
  rw [h]
  exact (State.Steady.same rfl rfl rfl rfl rfl rfl rfl rfl)

theorem State.updDiscard_steady (s : State) (reason status : Nat) : s.Steady (s.updDiscard reason status) := by
  obtain ⟨p, f, n, u, h⟩ := s.updDiscard_shape reason status
  rw [h]
  exact (State.Steady.same rfl rfl rfl rfl rfl rfl rfl rfl)

theorem State.updReverted_steady (s : State) : s.Steady s.updReverted := by
  have abort : ∀ m, s.Steady (s.abort m) := fun m => by
    obtain ⟨x, y, h⟩ := s.abort_shape m
    rw [h]
    exact (State.Steady.same rfl rfl rfl rfl rfl rfl rfl rfl)
  have refuse : ∀ m a b, s.Steady (s.refuse m a b) := fun m a b => by
    obtain ⟨x, y, h⟩ := s.refuse_shape m a b
    rw [h]
    exact (State.Steady.same rfl rfl rfl rfl rfl rfl rfl rfl)
  unfold State.updReverted
  extract_lets t u
  have h1 : s.Steady t := by
    simp only [t]
    split
    · exact State.Steady.ite (refuse _ _ _) (State.Steady.ite (refuse _ _ _) (abort _))
    · exact State.Steady.refl s
  have h2 : t.Steady u := (t.log_steady _ _).trans (State.bump_steady _ _ _)
  clear_value u t
  refine ((h1.trans h2).trans ?_).trans (State.writeShim_steady _)
  exact State.Steady.same rfl rfl rfl rfl rfl rfl rfl rfl

theorem State.updRevert_steady (s : State) (reason : Nat) : s.Steady (s.updRevert reason) := by
  unfold State.updRevert
  refine State.Steady.trans ?_ (State.writeShim_steady _)
  exact State.Steady.same rfl rfl rfl rfl rfl rfl rfl rfl

theorem State.updPartnerGone_steady (s : State) : s.Steady s.updPartnerGone := by
  unfold State.updPartnerGone
  split
  · exact State.Steady.trans (t := { s with upd := { s.upd with reason := 7 } }) (State.Steady.same rfl rfl rfl rfl rfl rfl rfl rfl)
      (State.updReverted_steady _)
  · exact State.Steady.refl s

theorem State.abandonUpdate_steady (s : State) : s.Steady s.abandonUpdate := by
  unfold State.abandonUpdate
  split
  · exact s.updDiscard_steady 8 0
  · exact s.updDiscard_steady 8 0
  · exact s.updRevert_steady 8
  · exact s.updRevert_steady 8
  · exact State.Steady.refl s

theorem State.abandonEdit_steady (s : State) (cause : Nat) : s.Steady (s.abandonEdit cause) := by
  obtain ⟨p, f, n, g, h⟩ := s.abandonEdit_shape cause
  rw [h]
  exact (State.Steady.same rfl rfl rfl rfl rfl rfl rfl rfl)

theorem State.editOnTransition_steady (s : State) (dest : DevState) : s.Steady (s.editOnTransition dest) := by
  obtain ⟨p, f, n, g, h⟩ := s.editOnTransition_shape dest
  rw [h]
  exact (State.Steady.same rfl rfl rfl rfl rfl rfl rfl rfl)

theorem State.verdictLost_steady (s : State) : s.Steady s.verdictLost := by
  unfold State.verdictLost
  split
  · next m _ =>
    obtain ⟨h, g, e⟩ := s.refuseLoad_shape m 0x1E 0
    rw [e]
    exact (State.Steady.same rfl rfl rfl rfl rfl rfl rfl rfl)
  · exact State.Steady.refl s

theorem State.scarfSend_steady (s : State) (fs : List ScarfOut) : s.Steady (s.scarfSend fs) := by
  obtain ⟨a, b, c, h⟩ := s.scarfSend_shape fs
  rw [h]
  exact (State.Steady.same rfl rfl rfl rfl rfl rfl rfl rfl)

theorem State.leavePair_steady (s : State) (tell : Bool) : s.Steady (s.leavePair tell) := by
  unfold State.leavePair
  split
  · extract_lets s' t u
    have h1 : s.Steady s' := State.Steady.ite (s.scarfSend_steady _) (State.Steady.refl s)
    have h2 : s'.Steady t := s'.log_steady _ _
    have h3 : t.Steady u := ((t.abandonEdit_steady 2).trans (State.verdictLost_steady _)).trans (State.updPartnerGone_steady _)
    exact ((h1.trans h2).trans h3).trans (State.Steady.same rfl rfl rfl rfl rfl rfl rfl rfl)
  · exact State.Steady.refl s

theorem State.stopReleases_steady (s : State) : s.Steady s.stopReleases := (State.Steady.same rfl rfl rfl rfl rfl rfl rfl rfl)

theorem State.leaveRun_steady (s : State) : s.Steady s.leaveRun := by
  obtain ⟨x, h⟩ := s.dropAll_shape .state
  have h1 : s.Steady (s.dropAll .state) := by
    rw [h]
    exact (State.Steady.same rfl rfl rfl rfl rfl rfl rfl rfl)
  unfold State.leaveRun
  extract_lets t clearOut clearBay gone
  have h2 : s.Steady t := h1.trans (State.stopReleases_steady _)
  clear_value t
  exact h2.trans (State.Steady.same rfl rfl rfl rfl rfl rfl rfl rfl)

theorem State.overtake_steady (s : State) (dest : DevState) : s.Steady (s.overtake dest) := by
  obtain ⟨x, y, p, f, q, o, a, b, h⟩ := s.overtake_shape dest
  rw [h]
  exact (State.Steady.same rfl rfl rfl rfl rfl rfl rfl rfl)

/-- A transition (R27): what it never touches. -/
theorem State.enter_steady (s : State) (dest : DevState) (requester : Nat) (imm : Bool) : s.Steady (s.enter dest requester imm) := by
  unfold State.enter
  extract_lets from_ s1 s2 s3 s4 s4' s5 clean cmp
  have h1 : s.Steady s1 :=
    State.Steady.ite s.leaveRun_steady (State.Steady.ite (State.Steady.same rfl rfl rfl rfl rfl rfl rfl rfl) (State.Steady.refl s))
  have h2 : s1.Steady s2 := s1.editOnTransition_steady dest
  have h3 : s2.Steady s3 := State.Steady.ite s2.abandonUpdate_steady (State.Steady.refl s2)
  have h4 : s3.Steady s4 :=
    State.Steady.ite (State.Steady.ite (s3.scarfSend_steady _) (State.Steady.refl s3)) (s3.leavePair_steady true)
  have h5 : s4.Steady s4' := s4.overtake_steady dest
  have h6 : s4'.Steady s5 := s4'.log_steady _ _
  have h7 := ((((h1.trans h2).trans h3).trans h4).trans h5).trans h6
  clear_value s5 s4' s4 s3 s2 s1
  exact State.Steady.mirror (h7.trans (State.Steady.same rfl rfl rfl rfl rfl rfl rfl rfl))

/-- A transition ends in its destination with no sub-state (R27, R28). -/
theorem State.enter_state (s : State) (dest : DevState) (requester : Nat) (imm : Bool) :
    (s.enter dest requester imm).dev.state = dest ∧ (s.enter dest requester imm).dev.sub = .none ∧
      (s.enter dest requester imm).dev.drain = none := ⟨rfl, rfl, rfl⟩

theorem State.blockReset_steady (s : State) (src index : Nat) : s.Steady (s.blockReset src index) := by
  obtain ⟨a, b, c, d, e, h⟩ := s.blockReset_shape src index
  rw [h]
  exact (State.Steady.same rfl rfl rfl rfl rfl rfl rfl rfl)

theorem State.severityAction_steady (s : State) (sev src seq : Nat) : s.Steady (s.severityAction sev src seq) := by
  unfold State.severityAction
  extract_lets again
  refine State.Steady.ite (State.Steady.same rfl rfl rfl rfl rfl rfl rfl rfl) (State.Steady.ite (State.Steady.refl s) ?_)
  split
  · exact s.enter_steady _ _ _
  · exact State.Steady.ite ((s.enter_steady .safe 0 true).trans (State.Steady.same rfl rfl rfl rfl rfl rfl rfl rfl)) (s.enter_steady _ _ _)
  · split
    · exact State.Steady.refl s
    · exact s.updDiscard_steady 8 0
    · exact s.updDiscard_steady 8 0
    · exact s.updRevert_steady 8
  · exact State.Steady.ite ((s.enter_steady .safe 0 true).trans (State.Steady.same rfl rfl rfl rfl rfl rfl rfl rfl))
      (State.Steady.same rfl rfl rfl rfl rfl rfl rfl rfl)

theorem State.formRecord_steady (s : State) (src index data sev flags esc : Nat) :
    s.Steady (s.formRecord src index data sev flags esc) := by
  unfold State.formRecord
  extract_lets p seq r waits s' f0 f1 t0 t1 t2 t3 u f2 t4
  have hs : s.Steady s' := State.Steady.ite (s.log_steady _ _) (State.Steady.refl s)
  clear_value s'
  have h0 : s.Steady t0 := hs.trans (State.Steady.same rfl rfl rfl rfl rfl rfl rfl rfl)
  have h1 : t0.Steady t1 := t0.logRec_steady _ _ _ _
  have h2 : t1.Steady t2 := State.Steady.ite (State.Steady.same rfl rfl rfl rfl rfl rfl rfl rfl) (State.Steady.refl t1)
  have h3 : t2.Steady t3 := State.Steady.ite (t2.blockReset_steady _ _) (State.Steady.refl t2)
  have h4 : t3.Steady t4 := by
    have e : t3.Steady u := t3.enter_steady .safe 0 true
    clear_value u
    exact State.Steady.ite (e.trans (State.Steady.same rfl rfl rfl rfl rfl rfl rfl rfl)) (State.Steady.refl t3)
  clear_value t4 t3 t2 t1 t0
  exact State.Steady.mirror (((((h0.trans h1).trans h2).trans h3).trans h4).trans
    (State.Steady.ite (t4.severityAction_steady _ _ _) (State.Steady.refl t4)))

/-- A fault, with all its reactions (R374-R379): what it never touches. -/
theorem State.raiseWith_steady (s : State) (src index data sev flags esc : Nat) :
    s.Steady (s.raiseWith src index data sev flags esc) := by
  unfold State.raiseWith
  refine State.Steady.ite (State.Steady.refl s) ?_
  extract_lets s1 s2
  have h1 : s.Steady s1 := s.bump_steady _ _
  have h2 : s1.Steady s2 :=
    State.Steady.ite (State.Steady.same rfl rfl rfl rfl rfl rfl rfl rfl) (State.Steady.same rfl rfl rfl rfl rfl rfl rfl rfl)
  exact (h1.trans h2).trans (State.Steady.ite
    (State.Steady.ite (State.Steady.refl s2) (State.Steady.same rfl rfl rfl rfl rfl rfl rfl rfl)) (s2.formRecord_steady _ _ _ _ _ _))

theorem State.raise_steady (s : State) (src index data : Nat) : s.Steady (s.raise src index data) :=
  s.raiseWith_steady src index data 0 0 0

theorem State.condOver_steady (s : State) (src : Nat) : s.Steady (s.condOver src) := (State.Steady.same rfl rfl rfl rfl rfl rfl rfl rfl)

theorem State.dropAndDispatch_steady (s : State) (c : Nat) (r : DropReason) : s.Steady (s.dropAndDispatch c r) := by
  obtain ⟨x, p, f, k, h⟩ := s.dropAndDispatch_shape c r
  rw [h]
  exact (State.Steady.same rfl rfl rfl rfl rfl rfl rfl rfl)

theorem State.clearSticky_steady (s : State) (mask : Nat) : s.Steady (s.clearSticky mask) := by
  have fold : ∀ (p : Nat → Bool) (l : List Nat) (u : State),
      u.Steady (l.foldl (fun u n => if p n = true then u.raiseStanding n else u) u) := by
    intro p l
    induction l with
    | nil => exact State.Steady.refl
    | cons a r ih =>
      intro u
      exact State.Steady.trans (State.Steady.ite (u.raise_steady a _ _) (State.Steady.refl u)) (ih _)
  unfold State.clearSticky
  extract_lets f t
  have h : s.Steady t := (State.Steady.same rfl rfl rfl rfl rfl rfl rfl rfl)
  clear_value t
  exact State.Steady.mirror (h.trans (fold (fun n => bit mask n && bit s.flt.sticky n && bit s.liveBits n) (List.range 32) t))

end Sys2Proof.Machine
end

