-- ==== Sys2Proof/Laws/Cycle.lean ====
section
/-!
SUPPORT. What one FCLK cycle, an access over the fabric, a join of cores and the use of a challenge can change, one lemma an operation.
-/

namespace Sys2Proof.Machine

/-! ### One FCLK cycle (R64, R88, R427) -/

theorem State.closeWindows_shape (s : State) : ∃ p c, s.closeWindows = { s with params := p, sched := c } := by
  unfold State.closeWindows
  extract_lets u0 _ t share u
  obtain ⟨p, hp⟩ : ∃ p, u0 = { s with params := p } := s.worst_shape _ _
  obtain ⟨q, c, ht⟩ : ∃ q c, t = { s with params := q, sched := c } := by
    by_cases h : s.now / 1000000 = s.sched.bankWin
    · exact ⟨s.params, s.sched, if_pos h⟩
    · exact ⟨p, _, (if_neg h).trans (by rw [hp])⟩
  obtain ⟨r, hu⟩ : ∃ r, u = { s with params := r, sched := c } := by
    simp only [u]
    split
    · exact ⟨_, by rw [ht]; rfl⟩
    · exact ⟨q, ht⟩
  split
  · exact ⟨q, c, ht⟩
  · exact ⟨r, _, by rw [hu]⟩

theorem State.measureCycle_shape (s : State) : ∃ p f c, s.measureCycle = { s with params := p, freeCtr := f, sched := c } := by
  obtain ⟨p, c, h⟩ := s.closeWindows_shape
  unfold State.measureCycle
  rw [h]
  simp only [State.draw]
  by_cases hit : (Config.freeValue s.freeCtr % 2 == 1 && s.pwr.sram) = true
  · simp only [hit, if_true]
    obtain ⟨q, f, hb⟩ := State.bump_shape { s with params := p, sched := c, freeCtr := s.freeCtr + 1 } 0x708 64
    exact ⟨q, f, _, by rw [hb]⟩
  · simp only [hit]
    exact ⟨p, _, _, rfl⟩

/-- The start of a commit touches the commits and the NVM controller's counts; as many commits wait as before. -/
theorem State.startCommit_shape (s : State) : ∃ k n,
    s.startCommit = { s with img := { s.img with commits := k }, nvm := n } ∧ k.length = s.img.commits.length := by
  unfold State.startCommit
  split
  · split
    · exact ⟨_, _, rfl, by simp⟩
    · exact ⟨s.img.commits, s.nvm, rfl, rfl⟩
  · exact ⟨s.img.commits, s.nvm, rfl, rfl⟩

/-! ### The fabric (R20-R22) -/

/-- A word without an error changes nothing. -/
@[simp] theorem State.eccRead_zero (s : State) : s.eccRead 0 = s := rfl

theorem State.withFlt_steady (s : State) (f : Faults) : s.Steady { s with flt := f } :=
  State.Steady.same rfl rfl rfl rfl rfl rfl rfl rfl

theorem State.eccRead_steady (s : State) (flips : Nat) : s.Steady (s.eccRead flips) := by
  unfold State.eccRead
  split
  · exact State.Steady.refl s
  · split
    · unfold State.corrected
      exact State.Steady.ite ((s.withFlt_steady _).trans (State.raise_steady _ 6 0 0)) (s.withFlt_steady _)
    · exact s.raise_steady 5 0 0

/-- A write that a master may make goes into SRAM alone; any other raises FABRIC and writes nothing (R21). -/
theorem State.fabricWrites_cases (s : State) (m : Master) (a : Nat) (bs : List Byte) :
    (s.fabricWrites m a bs = { s with sram := s.sram.writeL a bs } ∧ ∀ i < bs.length, s.mayWrite m (a + i) = true) ∨
    (s.fabricWrites m a bs = s.raise 8 0 0 ∧ ∃ i < bs.length, s.mayWrite m (a + i) = false) := by
  unfold State.fabricWrites
  split
  · rename_i h
    exact .inl ⟨rfl, fun i hi => by simpa using List.all_eq_true.mp h i (List.mem_range.mpr hi)⟩
  · rename_i h
    refine .inr ⟨rfl, ?_⟩
    simpa using h

/-! ### Joins and challenges -/

/-- A challenge that is used changes the session's challenges and nothing else. -/
theorem State.consume_shape (s : State) (session : Nat) (named : Option (List Byte)) :
    ∃ k, s.consume session named = { s with sec := { s.sec with challenges := k } } := by
  unfold State.consume
  split
  · split
    · exact ⟨_, rfl⟩
    · exact ⟨s.sec.challenges, rfl⟩
  · exact ⟨_, rfl⟩
  · exact ⟨s.sec.challenges, rfl⟩

theorem State.joined_shape (s : State) (pause : Nat) : ∃ p, s.joined pause = { s with params := p } := by
  obtain ⟨p, h⟩ := (s.setPv 0x80A (pause : Nat)).worst_shape 0x80B pause
  exact ⟨p, by simp only [State.joined, h]; rfl⟩

theorem State.rejoin_shape (s : State) : ∃ p f, s.rejoin = { s with params := p, freeCtr := f } := by
  obtain ⟨p, h⟩ := State.joined_shape s.draw.2 (s.draw.1 % 1001)
  exact ⟨p, _, h⟩

end Sys2Proof.Machine
end

