-- ==== Sys2Proof/WellFormed.lean ====
section
/-!
DEFINITION. Which commands a host, a program or the environment can form: the numbers an operand may take (R2, R3, R93-R98,
R188, R293). A command outside these names a context, bay, channel, segment or node that no family member has; `exec` is
total on it all the same.
-/

namespace Sys2Proof

/-- A user context number (R67). -/
def ctxOk (c : Nat) : Bool := decide (1 ≤ c) && decide (c ≤ 63)

/-- A field bay, A or B (R184). -/
def bayOk (x : Nat) : Bool := decide (x < 2)

/-- A channel of a bay (R3). -/
def chOk (n : Nat) : Bool := decide (n < 16)

/-- A modulator of a bay (R249). -/
def modOk (m : Nat) : Bool := decide (m < 2)

/-- An extension word's address names one of the areas a program reads (R34, R95). -/
def dirOk (p : PointAddr) : Bool := decide (p.toNat / 0x100000 ≤ 6)

/-- A source operand of a W-format integer instruction (R95). -/
def srcOk (s : Src) : Bool :=
  match s with
  | .dir p => dirOk p
  | _ => true

/-- A source operand of a real instruction: no immediate, registers F0-F7 only (R95, R108). -/
def realSrcOk (s : Src) : Bool :=
  match s with
  | .imm _ => false
  | .reg r => decide (r.toNat < 8)
  | .dir p => dirOk p
  | .ind _ _ => true

/-- A memory operand (R107, R111). -/
def memOk (s : Src) : Bool :=
  match s with
  | .dir p => dirOk p
  | .ind _ _ => true
  | _ => false

/-- A core instruction takes operands that Tables ISA-4 and ISA-6 give it; an event names what exists. -/
def wellFormed (i : Instr) : Bool :=
  match i with
  | .mov c _ _ s | .add c _ _ s | .sub c _ _ s | .mul c _ _ s | .div c _ _ s | .mod c _ _ s | .andWord c _ _ s
  | .orWord c _ _ s | .xorWord c _ _ s | .shl c _ _ s | .shr c _ _ s | .rol c _ _ s | .ror c _ _ s | .cmpEq c _ _ s
  | .cmpNe c _ _ s | .cmpLt c _ _ s | .cmpLe c _ _ s | .cmpGt c _ _ s | .cmpGe c _ _ s | .btoi c _ _ s
  | .itob c _ _ s => ctxOk c && srcOk s
  | .movStore c _ _ d | .fmovStore c _ _ d => ctxOk c && memOk d
  | .lea c _ s => ctxOk c && memOk s
  | .itof c _ _ _ | .ftoi c _ _ _ | .fcvt c _ _ _ | .crd c _ _ | .bmov c _ _ _ _ | .firstWriteCopyDone c | .jmp c _
  | .jc c _ | .jnc c _ | .call c _ | .ret c | .junction c _ _ | .diag c _ _ _ | .urgent c _ _ | .trussCompletion c
  | .release c | .dataPinComplete c | .peg c | .shotAbandoned c => ctxOk c
  | .fmov c _ _ s | .fadd c _ _ s | .fsub c _ _ s | .fmul c _ _ s | .fdiv c _ _ s | .fsqrt c _ _ s | .fabs c _ _ s
  | .fneg c _ _ s | .fcmpEq c _ _ s | .fcmpNe c _ _ s | .fcmpLt c _ _ s | .fcmpLe c _ _ s | .fcmpGt c _ _ s
  | .fcmpGe c _ _ s => ctxOk c && realSrcOk s
  | .faultRaise n _ _ | .graceExpiry n => decide (n < 32)
  | .networkRequestMailbox f => f.requester == 2 || f.requester == 3
  | .bayCycleStart x | .cycleStartMessage x _ | .bayLatch x _ _ _ | .sampleFrame x _ | .bayIdent x _ | .cfgWrite x _ _ _
  | .cfgCommit x _ _ | .cfgRead x _ _ _ | .diagRead x _ _ | .mgmtResponse x _ | .mgmtTimeout x _ | .aliveStatusWord x _
  | .bayLost x | .baySilent x | .bayClockLoss x | .bayClockReturn x | .lpWarning x _ | .lpUndervolt x _
  | .lpQualified x _ | .bayReset x _ | .bayConfigLoaded x _ _ | .limpAssert x _ _ | .limpRelease x _ _ | .clampDecay x
  | .thresholdEvent x | .selCodeChange x _ | .srxOut x _ | .srxClaim x _ | .srxSafe x _ | .nodeSilent x
  | .areq x _ _ => bayOk x
  | .commandFrame x n _ | .applyNext x n | .protClear x n _ _ | .trimWrite x n _ _ _ | .laneSilent x n
  | .channelRestore x n | .debounceChange x n _ _ | .wireBreakDeclare x n _ _ | .wireBreakClear x n _ _
  | .counterEdge x n _ _ | .quadEdge x n _ _ _ | .hardLimit x n | .ocTrip x n _ _ | .inrushWindowEnd x n
  | .retryDue x n | .retryRestore x n | .thermalTrip x n _ | .clampOver x n _ | .clampPulseEnd x n _
  | .openloadSet x n _ _ | .openloadClear x n _ _ | .extHighSet x n _ _ | .extHighClear x n _ _ | .shuntTrip x n _ _
  | .shuntReclose x n | .shuntOffClear x n _ | .currentOpenWire x n _ _ | .tapStepUp x n _ | .tapStepDown x n _ _
  | .tapForced x n _ _ | .tapForcedClear x n _ | .limiterStep x n _ | .complianceOnset x n _ _ | .complianceClear x n _ _ _
  | .alarmForcedLow x n | .openloopSet x n _ _ _ | .openloopClear x n _ _ _ | .streamFrame x n _ => bayOk x && chOk n
  | .sincOutput x m _ | .conversionEnd x m | .resultDelivery x m _ | .leadVisitEnd x m _
  | .testVisitEnd x m _ => bayOk x && modOk m
  | .tlsHandshake h => h.port < 2
  | .gptpPdelay p _ | .portLinkChange p _ _ | .gptpSyncTransmit p => decide (p < 2)
  | .segmentCycle g | .srxIn g _ | .inMissed g _ => decide (g ≤ 16)
  | .scarfLaneLockLoss l => decide (l < 2)
  | _ => true

end Sys2Proof
end

