-- ==== Sys2Proof/Tests/Slice0.lean ====
section
/-!
SUPPORT. Tests on small states: the checks of well-formedness refuse an ill-formed command each; one step of each family gives what the
spec's rule says; and a witness shows for each statement with hypotheses that some state and operands meet them together.
-/

namespace Sys2Proof.Tests

set_option Elab.async false

open Sys2Proof Sys2Proof.Machine

/-! ### Well-formedness -/

theorem test_wf_add : wellFormed (.add 1 .s16 3 (.imm 7)) = true := by decide
theorem test_wf_context : wellFormed (.add 64 .s16 3 (.imm 7)) = false := by decide
theorem test_wf_context_zero : wellFormed (.ret 0) = false := by decide
theorem test_wf_direct_area : wellFormed (.mov 1 .s16 0 (.dir 0x700000)) = false := by decide
theorem test_wf_real_immediate : wellFormed (.fadd 1 .b32 0 (.imm 1)) = false := by decide
theorem test_wf_real_register : wellFormed (.fmov 1 .b32 0 (.reg 8)) = false := by decide
theorem test_wf_store_operand : wellFormed (.movStore 1 .s16 0 (.reg 2)) = false := by decide
theorem test_wf_lea_operand : wellFormed (.lea 1 0 (.imm 2)) = false := by decide
theorem test_wf_fault_source : wellFormed (.faultRaise 32 0 0) = false := by decide
theorem test_wf_requester : wellFormed (.networkRequestMailbox (NetFrame.mk 1 0 [])) = false := by decide
theorem test_wf_bay : wellFormed (.bayLost 2) = false := by decide
theorem test_wf_channel : wellFormed (.laneSilent 0 16) = false := by decide
theorem test_wf_modulator : wellFormed (.sincOutput 0 2 0) = false := by decide
theorem test_wf_port : wellFormed (.gptpSyncTransmit 2) = false := by decide
theorem test_wf_segment : wellFormed (.segmentCycle 17) = false := by decide
theorem test_wf_lane : wellFormed (.scarfLaneLockLoss 2) = false := by decide

/-! ### Helpers -/

/-- The command answers a next state with this property. -/
def ran (c : Instr) (s : State) (p : State → Bool) : Bool :=
  match exec c s with
  | .next t => p t
  | _ => false

/-- A context of period 1 ms with code from word 16 and networks 0 to 3. -/
def tEntry : CtxEntry :=
  { ctx := 1, dropCap := 3, quota := 16, period := 1000, pegOffset := 900, phase := 0, entry := 16, codeFirst := 16,
    codeLen := 64, netFirst := 0, netCount := 4 }

/-- A program that owns QW0 to QW7 and Q0 to Q15, declares MW0 to MW63 for the words 16 and 17, retains MW32 to MW63,
and has the network LDN M5, OUT M6. -/
def tProg : Program :=
  { Program.empty with
    progId := 5, ctxs := [tEntry], codeFirst := 16,
    owns := [OwnEntry.mk 1 3 0 8, OwnEntry.mk 1 1 0 16],
    inds := [IndEntry.mk 0 0 16 0x500000 64, IndEntry.mk 0 0 16 0x500000 64, IndEntry.mk 0 0 17 0x700000 64],
    nets := [Network.mk 0 [0x04400005#32, 0x18400006#32]],
    rets := [RetRange.mk 5 32 32 3], dbSize := 64, reads := [ReadEntry.mk 1 [0, 0x5000]] }

/-- A shot on the cores. -/
def tShot : Shot :=
  { t0 := 1000000, pegAt := 1900000, phase := .core, pins := [], snap := [], buf := [BufPage.mk 0x5000 0], masks := [],
    writes := [], rows := [], cells := Cells.init, waiting := none, junction := none, doneAt := none }

/-- A unit with every domain on, in a state of its own. -/
def tUnit (d : DevState) : State :=
  { State.reset with
    dev := { Device.init with state := d },
    pwr := { Power.init with core := true, truss := true, sram := true, nvm := true, net := true, host := true, sec := true,
                             scarf := true, hold := true },
    clk := { Clock.init with stime := 1000000, ticks := 400000, aclk := true },
    prog := { Prog.init with active := some tProg, slot := 2, truss := TrussStore.init.load 0 tProg } }

/-- The slot of the test context. -/
def tCtx (sh : Option Shot) : Ctx :=
  { Ctx.init with
    cfg := some tEntry, regs := CoreRegs.atEntry 16, shot := sh, pegDue := sh.map Shot.pegAt, releasing := true,
    nextRelease := 2000000 }

/-- Context 1 on the cores with registers of its own. -/
def tCore (f : CoreRegs → CoreRegs) : State :=
  { tUnit .run with
    sched := { Sched.init with cores := some 1 },
    ctxs := [(1, { tCtx (some tShot) with regs := f (CoreRegs.atEntry 16) })] }

/-- W3 of context 1 afterwards, and BA. -/
def w3 (t : State) : W32 × Bool := ((t.ctx 1).regs.w[3], (t.ctx 1).regs.ba)

/-- W3 with a value, W4 with another. -/
def wSet (a b : W32) (g : CoreRegs) : CoreRegs := (g.setW 3 a).setW 4 b

/-! ### Core instructions: results of Table ISA-9 worked by hand -/

theorem test_mov_sign : ran (.mov 1 .s16 3 (.imm 0xFFFE#16)) (tCore id) (fun t => w3 t == (0xFFFFFFFE#32, false)) = true := by
  decide +kernel
theorem test_mov_unsigned : ran (.mov 1 .u16 3 (.imm 0xFFFE#16)) (tCore id) (fun t => w3 t == (0xFFFE#32, false)) = true := by
  decide +kernel
theorem test_add_wraps16 : ran (.add 1 .s16 3 (.reg 4)) (tCore (wSet 0x7FFF 1)) (fun t => w3 t == (0xFFFF8000#32, false)) = true := by
  decide +kernel
theorem test_sub_wraps32 : ran (.sub 1 .i32 3 (.reg 4)) (tCore (wSet 0 1)) (fun t => w3 t == (0xFFFFFFFF#32, false)) = true := by
  decide +kernel
theorem test_mul_low : ran (.mul 1 .u16 3 (.reg 4)) (tCore (wSet 0x100 0x101)) (fun t => w3 t == (0x100#32, false)) = true := by
  decide +kernel
theorem test_div_zero : ran (.div 1 .i32 3 (.reg 4)) (tCore (wSet 7 0)) (fun t => w3 t == (0#32, true)) = true := by decide +kernel
theorem test_div_truncates : ran (.div 1 .i32 3 (.reg 4)) (tCore (wSet 0xFFFFFFF9 2)) (fun t => w3 t == (0xFFFFFFFD#32, false)) = true := by
  decide +kernel
theorem test_mod_sign : ran (.mod 1 .s16 3 (.reg 4)) (tCore (wSet 0xFFFFFFF9 2)) (fun t => w3 t == (0xFFFFFFFF#32, false)) = true := by
  decide +kernel
theorem test_and : ran (.andWord 1 .u16 3 (.reg 4)) (tCore (wSet 0xF0F0 0xFF)) (fun t => w3 t == (0xF0#32, false)) = true := by
  decide +kernel
theorem test_or : ran (.orWord 1 .u16 3 (.reg 4)) (tCore (wSet 0xF000 0xFF)) (fun t => w3 t == (0xF0FF#32, false)) = true := by
  decide +kernel
theorem test_xor : ran (.xorWord 1 .u16 3 (.reg 4)) (tCore (wSet 0xF0F0 0xFF)) (fun t => w3 t == (0xF00F#32, false)) = true := by
  decide +kernel
theorem test_shl_cut : ran (.shl 1 .s16 3 (.reg 4)) (tCore (wSet 0x4001 17)) (fun t => w3 t == (0xFFFF8002#32, false)) = true := by
  decide +kernel
theorem test_shr : ran (.shr 1 .i32 3 (.reg 4)) (tCore (wSet 0x80000000 33)) (fun t => w3 t == (0x40000000#32, false)) = true := by
  decide +kernel
theorem test_rol16 : ran (.rol 1 .u16 3 (.reg 4)) (tCore (wSet 0x8001 1)) (fun t => w3 t == (3#32, false)) = true := by decide +kernel
theorem test_ror32 : ran (.ror 1 .i32 3 (.reg 4)) (tCore (wSet 1 1)) (fun t => w3 t == (0x80000000#32, false)) = true := by decide +kernel
theorem test_cmp_signed : ran (.cmpLt 1 .s16 3 (.reg 4)) (tCore (wSet 0xFFFFFFFF 1)) (fun t => (w3 t).2) = true := by decide +kernel
theorem test_cmp_unsigned : ran (.cmpGt 1 .u16 3 (.reg 4)) (tCore (wSet 0xFFFFFFFF 1)) (fun t => (w3 t).2) = true := by decide +kernel
theorem test_cmp_others :
    (ran (.cmpEq 1 .i32 3 (.reg 4)) (tCore (wSet 5 5)) (fun t => (w3 t).2) &&
     ran (.cmpNe 1 .i32 3 (.reg 4)) (tCore (wSet 5 5)) (fun t => !(w3 t).2) &&
     ran (.cmpLe 1 .i32 3 (.reg 4)) (tCore (wSet 5 5)) (fun t => (w3 t).2) &&
     ran (.cmpGe 1 .i32 3 (.reg 4)) (tCore (wSet 4 5)) (fun t => !(w3 t).2)) = true := by decide +kernel
theorem test_btoi : ran (.btoi 1 .u16 3 (.imm 0x1234#16)) (tCore id) (fun t => w3 t == (1234#32, false)) = true := by decide +kernel
theorem test_btoi_bad : ran (.btoi 1 .u16 3 (.imm 0x12A4#16)) (tCore id) (fun t => w3 t == (0#32, true)) = true := by decide +kernel
theorem test_itob : ran (.itob 1 .i32 3 (.reg 4)) (tCore (wSet 0 12345678)) (fun t => w3 t == (0x12345678#32, false)) = true := by
  decide +kernel
theorem test_itob_range : ran (.itob 1 .u16 3 (.reg 4)) (tCore (wSet 0 10000)) (fun t => w3 t == (0#32, true)) = true := by decide +kernel
theorem test_pc_past_extension :
    ran (.mov 1 .s16 3 (.dir 0x500001)) (tCore id) (fun t => (t.ctx 1).regs.pc == 18#20) = true := by decide +kernel
theorem test_lea_indirect_wraps :
    ran (.lea 1 2 (.ind 1 (-1))) (tCore (fun g => g.setA 1 0x500000)) (fun t => (t.ctx 1).regs.a[2] == 0x5FFFFF#24) = true := by
  decide +kernel
theorem test_fadd : ran (.fadd 1 .b32 2 (.reg 3)) (tCore (fun g => (g.setF 2 0x3F800000).setF 3 0x40000000))
    (fun t => (t.ctx 1).regs.f[2] == 0x40400000#64) = true := by decide +kernel
theorem test_fdiv_zero : ran (.fdiv 1 .b64 2 (.reg 3)) (tCore (fun g => g.setF 2 0x3FF0000000000000))
    (fun t => (t.ctx 1).regs.f[2] == 0x7FF0000000000000#64) = true := by decide +kernel
theorem test_fsqrt : ran (.fsqrt 1 .b64 2 (.reg 3)) (tCore (fun g => g.setF 3 0x4010000000000000))
    (fun t => (t.ctx 1).regs.f[2] == 0x4000000000000000#64) = true := by decide +kernel
theorem test_fmul_fsub_fneg_fabs :
    (ran (.fmul 1 .b32 2 (.reg 3)) (tCore (fun g => (g.setF 2 0x40400000).setF 3 0x40000000))
       (fun t => (t.ctx 1).regs.f[2] == 0x40C00000#64) &&
     ran (.fsub 1 .b32 2 (.reg 3)) (tCore (fun g => (g.setF 2 0x40400000).setF 3 0x40000000))
       (fun t => (t.ctx 1).regs.f[2] == 0x3F800000#64) &&
     ran (.fneg 1 .b32 2 (.reg 3)) (tCore (fun g => g.setF 3 0x40000000)) (fun t => (t.ctx 1).regs.f[2] == 0xC0000000#64) &&
     ran (.fabs 1 .b32 2 (.reg 3)) (tCore (fun g => g.setF 3 0xC0000000)) (fun t => (t.ctx 1).regs.f[2] == 0x40000000#64)) = true := by
  decide +kernel
theorem test_fcmp_nan :
    (ran (.fcmpNe 1 .b32 2 (.reg 3)) (tCore (fun g => g.setF 3 0x7FC00000)) (fun t => (w3 t).2) &&
     ran (.fcmpGe 1 .b32 2 (.reg 3)) (tCore (fun g => g.setF 3 0x7FC00000)) (fun t => !(w3 t).2)) = true := by decide +kernel
theorem test_itof : ran (.itof 1 .b32 2 3) (tCore (wSet 0xFFFFFFFF 0)) (fun t => (t.ctx 1).regs.f[2] == 0xBF800000#64) = true := by
  decide +kernel
theorem test_ftoi_even : ran (.ftoi 1 .b32 3 2) (tCore (fun g => g.setF 2 0x40200000)) (fun t => w3 t == (2#32, false)) = true := by
  decide +kernel
theorem test_ftoi_saturates : ran (.ftoi 1 .b32 3 2) (tCore (fun g => g.setF 2 0x4F000000)) (fun t => w3 t == (0x7FFFFFFF#32, true)) = true := by
  decide +kernel
theorem test_fcvt : ran (.fcvt 1 .b64 2 3) (tCore (fun g => g.setF 3 0x3F800000))
    (fun t => (t.ctx 1).regs.f[2] == 0x3FF0000000000000#64) = true := by decide +kernel

/-- The hypotheses of the integer and real statements: a source found legal for each operand form. -/
theorem witness_int_sources :
    (tCore id).onCores 1 = some tShot ∧
    (tCore id).intSrc tShot (CoreRegs.atEntry 16) .s16 true (.imm 0xFFFF#16) = some (.ok 0xFFFFFFFF#32) ∧
    (tCore id).intSrc tShot (CoreRegs.atEntry 16) .i32 false (.dir 0x500002) = some (.ok 0#32) ∧
    (tCore id).intSrc tShot ((CoreRegs.atEntry 16).setA 1 0x500000) .s16 false (.ind 1 4) = some (.ok 0#32) ∧
    (tCore id).intSrc tShot (CoreRegs.atEntry 16) .i32 true (.reg 15) = some (.ok 0#32) ∧
    (tCore id).realSrc tShot (CoreRegs.atEntry 16) .b64 (.dir 0x500004) = some (.ok 0) ∧
    (tCore id).realSrc tShot (CoreRegs.atEntry 16) .b32 (.reg 7) = some (.ok 0) :=
  ⟨by decide +kernel, rfl, rfl, rfl, rfl, rfl, rfl⟩

/-! ### Stores, block moves, jumps, drops -/

theorem test_store : ran (.movStore 1 .i32 3 (.dir 0x500002)) (tCore (wSet 0x12345678 0))
    (fun t => (match (t.ctx 1).shot with
      | some sh => sh.writes == [(0x500002, 0x5678), (0x500003, 0x1234)]
      | none => false) && t.sram == []) = true := by decide +kernel
theorem test_store_needs_page : ran (.movStore 1 .s16 3 (.dir 0x600000)) (tCore (wSet 9 0))
    (fun t => (match (t.ctx 1).shot with
      | some sh => (sh.waiting.map WaitingWrite.pages) == some [0x6000] && sh.writes == []
      | none => false) && (t.ctx 1).regs.pc == 16#20) = true := by decide +kernel
theorem test_fmov_store : ran (.fmovStore 1 .b32 2 (.dir 0x500002)) (tCore (fun g => g.setF 2 0x3F800000))
    (fun t => match (t.ctx 1).shot with
      | some sh => sh.writes == [(0x500002, 0), (0x500003, 0x3F80)]
      | none => false) = true := by decide +kernel
theorem test_store_not_owned : ran (.movStore 1 .s16 3 (.ind 1 0)) (tCore (fun g => g.setA 1 0x300010))
    (fun t => (t.ctx 1).shot == none && (t.ctx 1).dying.map Prod.snd == [.addr]) = true := by decide +kernel

/-- A state whose first-write copy is awaited. -/
def tWait : State :=
  (tCore id).setCtx 1 (tCtx (some { tShot with
    waiting := some { pages := [0x6000], writes := [(0x600000, 9)], after := CoreRegs.atEntry 18 } }))

theorem test_first_write_copy : ran (.firstWriteCopyDone 1) tWait
    (fun t => (t.ctx 1).regs.pc == 18#20 && (match (t.ctx 1).shot with
      | some sh => sh.writes == [(0x600000, 9)] && sh.waiting == none
      | none => false)) = true := by decide +kernel
theorem witness_first_write :
    (tWait.ctx 1).shot = some { tShot with
      waiting := some { pages := [0x6000], writes := [(0x600000, 9)], after := CoreRegs.atEntry 18 } } ∧
    tWait.sched.cores = some 1 := by decide +kernel

/-- A block move of 3 words from MW1 to MW2: the ranges overlap upwards. -/
def tMove : State :=
  { tCore (fun g => ((g.setA 0 0x500001).setA 1 0x500002).setW 3 3) with sram := writePts [] [(0x500001, 7), (0x500002, 8), (0x500003, 9)] }

theorem test_bmov_overlap : ran (.bmov 1 .s16 3 0 1) tMove
    (fun t => match (t.ctx 1).shot with
      | some sh => sh.writes == [(0x500002, 7), (0x500003, 8), (0x500004, 9)]
      | none => false) = true := by decide +kernel
theorem witness_bmov :
    tMove.onCores 1 = some tShot ∧ (∃ e, tMove.program.indAt 16 0 = some e ∧ e.covers 0x500001 3 = true) ∧
    (∃ e, tMove.program.indAt 16 1 = some e ∧ e.covers 0x500002 3 = true) ∧
    tMove.writeRefused 1 tShot [(0x500002, 7)] = none ∧ tShot.newPages [(0x500002, 7)] = [] :=
  ⟨by decide +kernel, ⟨_, rfl, by decide +kernel⟩, ⟨_, rfl, by decide +kernel⟩, by decide +kernel, by decide +kernel⟩

theorem test_jumps :
    (ran (.jmp 1 20) (tCore id) (fun t => (t.ctx 1).regs.pc == 20#20) &&
     ran (.jc 1 20) (tCore id) (fun t => (t.ctx 1).regs.pc == 17#20) &&
     ran (.jnc 1 20) (tCore id) (fun t => (t.ctx 1).regs.pc == 20#20)) = true := by decide +kernel
theorem test_call_ret :
    (ran (.call 1 30) (tCore (fun g => g.setA 3 5)) (fun t => (t.ctx 1).regs.pc == 30#20 && (t.ctx 1).regs.calls == [(17#20, 5#24)]) &&
     ran (.ret 1) (tCore (fun g => { g with calls := [(17#20, 5#24)] })) (fun t => (t.ctx 1).regs.pc == 17#20 &&
       (t.ctx 1).regs.a[3] == 5#24) &&
     ran (.ret 1) (tCore id) (fun t => (match (t.ctx 1).shot with
       | some sh => sh.phase == .done
       | none => false))) = true := by decide +kernel
theorem test_junction : ran (.junction 1 1 0) (tCore (fun g => g.setW 14 6)) (fun t => (match (t.ctx 1).shot with
    | some sh => sh.phase == .truss && (match sh.junction with
      | some j => j.next == 0 && j.left == 2 && j.w14 == 6#32
      | none => false)
    | none => false) && t.sched.cores != some 1) = true := by decide +kernel
theorem test_crd : ran (.crd 1 3 (.imm 5)) { tCore id with
    prog := { Prog.init with active := some { tProg with nets := [] } } } (fun t => (t.ctx 1).regs.pc == 16#20 ||
      (t.ctx 1).regs.pc == 17#20) = true := by decide +kernel
theorem test_diag : ran (.diag 1 3 false (.dir 4)) { tCore id with sram := writePts [] [(0x700004, 0xABC)] }
    (fun t => w3 t == (0xABC#32, false)) = true := by decide +kernel
theorem test_urgent : ran (.urgent 1 false 2) (tCore id) (fun t => (t.engBay 0).urgent == [2]) = true := by decide +kernel
theorem test_bad_address_drops : ran (.mov 1 .s16 3 (.ind 1 (-1))) (tCore id)
    (fun t => (t.ctx 1).dying.map Prod.snd == [.addr] && (t.ctx 1).regs.w[3] == 0#32) = true := by decide +kernel
theorem test_off_core : ran (.add 2 .s16 3 (.imm 1)) (tCore id) (fun t => t == tCore id) = true := by decide +kernel
theorem witness_retcap :
    ({ tCore id with params := [(0x605, 0)] } : State).onCores 1 = some tShot ∧
    ({ tCore id with params := [(0x605, 0)] } : State).writeOperand 1 (CoreRegs.atEntry 16) (.dir 0x500020) 1 false = some (.ok 0x500020) ∧
    ran (.movStore 1 .s16 3 (.dir 0x500020)) { tCore id with params := [(0x605, 0)] }
      (fun t => (t.ctx 1).dying.map Prod.snd == [.retcap]) = true :=
  ⟨by decide +kernel, rfl, by decide +kernel⟩

/-- A context in the truss, its one network waiting. -/
def tTruss : State :=
  { tCore id with
    sched := Sched.init,
    ctxs := [(1, tCtx (some { tShot with
      phase := .truss, junction := some { next := 0, left := 1, ba := true, a := Vector.replicate 4 0#24, w14 := 0#32 } }))] }

theorem test_network : ran (.networkStart .agree) tTruss (fun t => (match (t.ctx 1).shot with
    | some sh => (match sh.junction with
      | some j => j.next == 1 && j.left == 0 && j.ba
      | none => false) && sh.writes == [(0x400006, 1)]
    | none => false)) = true := by decide +kernel
theorem test_truss_done : ran (.trussCompletion 1)
    { tTruss with ctxs := [(1, tCtx (some { tShot with
      phase := .truss, junction := some { next := 1, left := 0, ba := true, a := Vector.replicate 4 0#24, w14 := 0#32 } }))] }
    (fun t => (t.ctx 1).regs.ba && (match (t.ctx 1).shot with
      | some sh => sh.junction == none
      | none => false)) = true := by decide +kernel

/-! ### Shots -/

/-- In RUN with context 1 free to release at its next grid instant. -/
def tRun : State := { tUnit .run with
  clk := { (tUnit .run).clk with stime := 2000000 }, ctxs := [(1, { tCtx none with pegDue := none })] }

theorem test_release : ran (.release 1) tRun (fun t => match (t.ctx 1).shot with
    | some sh => sh.t0 == 2000000 && sh.pegAt == 2900000 && sh.phase == .pin && (t.ctx 1).nextRelease == 3000000 &&
        sh.pins == [PinPage.mk 0 0] && (t.ctx 1).regs.pc == 16#20
    | none => false) = true := by decide +kernel
theorem witness_release : tRun.canRelease 1 = true ∧ (tRun.ctx 1).cfg = some tEntry ∧ tRun.dev.runMbx = none := by decide +kernel

/-- The same with the shot released and its data pages to pin. -/
def tPin : State := { tRun with
  ctxs := [(1, { tCtx (some { tShot with t0 := 2000000, pegAt := 2900000, phase := .pin, buf := [] }) with nextRelease := 3000000 })] }

theorem test_data_pin : ran (.dataPinComplete 1) tPin (fun t => match (t.ctx 1).shot with
    | some sh => sh.pins.map PinPage.page == [0x5000] && sh.phase == .core && t.sched.cores == some 1
    | none => false) = true := by decide +kernel
theorem witness_data_pin :
    tPin.pegBefore 2000000 = false ∧ tPin.releaseBefore 2000000 = false ∧ tPin.stby.acked = [] ∧ tPin.sched.cores ≠ some 1 ∧
    tPin.dev.state = .run := by decide +kernel

/-- A shot that wrote MW2 and was complete before its peg at 2.9 ms; the peg instant has come. -/
def tPeg (doneAt : Option Ns) : State := { tPin with
  clk := { tPin.clk with stime := 2900000 },
  ctxs := [(1, { tCtx (some { tShot with
    pegAt := 2900000, phase := .done, writes := [(0x500002, 77), (0x500020, 5)], rows := [3], doneAt := doneAt }) with
    nextRelease := 3000000, consec := 2 })] }

theorem test_peg_commits : ran (.peg 1) (tPeg (some 2899000)) (fun t =>
    t.committed 0x500002 == 77 && t.img.pegSeq == 1 && (t.ctx 1).consec == 0 && (t.ctx 1).shot == none &&
    t.img.commits.map Commit.rows == [[3]]) = true := by decide +kernel
theorem test_peg_late : ran (.peg 1) (tPeg (some 2900000)) (fun t =>
    t.committed 0x500002 == 0 && t.img.pegSeq == 0 && (t.ctx 1).dying.map Prod.snd == [.late]) = true := by decide +kernel
theorem witness_peg :
    ((tPeg (some 2900000)).ctx 1).pegDue = some 2900000 ∧ (tPeg (some 2900000)).pegFirst 1 2900000 = true ∧
    (tPeg (some 2900000)).dev.state = .run ∧ (tPeg (some 2900000)).dev.drain = none := by decide +kernel

theorem test_abandon_counts : ran (.shotAbandoned 1)
    { tRun with ctxs := [(1, { tCtx none with dying := [(tShot, .late)], drops := 4 })] }
    (fun t => (t.ctx 1).drops == 5 && (t.ctx 1).consec == 1 && (t.ctx 1).lastReason == 0) = true := by decide +kernel
theorem test_abandon_power : ran (.shotAbandoned 1)
    { tRun with ctxs := [(1, { tCtx none with dying := [(tShot, .power)], drops := 4 })] }
    (fun t => (t.ctx 1).drops == 4 && (t.ctx 1).lastReason == 5) = true := by decide +kernel
theorem test_window : ran .serverWindow { tRun with sched := { Sched.init with used := 400, exhausted := true } }
    (fun t => t.sched.used == 0 && !t.sched.exhausted && t.sched.fwLast == 1000 && t.sched.window == 2000000) = true := by decide +kernel
theorem test_budget : ran .serverBudgetExhausted { tRun with sched := { Sched.init with cores := some 0, used := 400000 } }
    (fun t => t.sched.exhausted && t.pn 0x705 == 1) = true := by decide +kernel
theorem witness_server :
    tRun.coresRun = true ∧ tRun.sched.window < tRun.windowOf tRun.now ∧ tRun.pn 0x704 * 400 ≤ 400000 := by decide +kernel

/-- A commit of row 3 with its header row being written. -/
def tCommit : Commit :=
  { kind := .peg 1, extra := CommitExtra.none, seq := 1, pegAt := 2900000, rows := [3], data := [(3, [9#8])],
    changed := [(0x300000, 500)], owned := [], frames := [], full := false, started := true, durable := false, acked := true, emitted := false }

/-- A unit whose commit record is on its way. -/
def tDurable : State := { tRun with img := { Image.init with commits := [tCommit] }, nvm := { Nvm.init with commitLeft := 1 } }

theorem test_commit_durable : ran .commitDurable tDurable (fun t =>
    t.nvm.commitSeq == 1 && t.nvm.half 3 && t.nvm.ring.map CommitRec.rows == [[3]] &&
    t.img.commits.map Commit.durable == [true]) = true := by decide +kernel
theorem witness_commit_durable :
    tDurable.headCommit = some tCommit ∧ tDurable.pwr.nvm = true ∧ tDurable.pwr.rowInhibit = false ∧ tDurable.pwr.pfStep < 4 ∧
    tDurable.dev.drain = none := by decide +kernel

/-- The commit durable; QW0 belongs to a channel of bay A where the map puts it. -/
def tEmit : State := { tRun with img := { Image.init with commits := [{ tCommit with durable := true }] } }

theorem test_emit : ran .emit tEmit (fun t => t.img.commits == [] && t.pn 0x612 ≤ 4294967295) = true := by decide +kernel
theorem witness_emit : tEmit.emitNext = some (1, { tCommit with durable := true }) ∧ tEmit.stby.holdEmit = false := by decide +kernel

/-! ### Requests -/

/-- A session of the host in slot 1 with every right. -/
def tSess (s : State) : State :=
  s.setSession 1 { Session.init with isOpen := true, used := true, id := 0x11, requester := 1, rights := 0xFFFFFFFF, idle := 60,
                                     lastReq := s.clk.ticks }

/-- The same with a request in mailbox 2. -/
def tAsk (s : State) (op session : Nat) (payload : List Byte) : State :=
  (tSess s).setMailbox 2 { Mailbox.init with
    state := .busy, owner := 1,
    req := some { opcode := op, session := session, seq := 1, payload := payload, requester := 1 } }

/-- Completion, status and detail of the answer in mailbox 2. -/
def answer2 (t : State) : Option (Nat × Nat × Nat) :=
  (t.mailbox 2).resp.map (fun p => (p.completion, p.status, p.detail))

/-- Data of the answer in mailbox 2. -/
def data2 (t : State) : List Byte :=
  match (t.mailbox 2).resp with
  | some p => p.data
  | none => []

/-! ### Programs -/

/-- PRG_BEGIN of a kind 1 container of 64 bytes, in STOP. -/
def tBegin : State := tAsk (tUnit .stop) 0x50 0x11 (leBytes 1 1 ++ leBytes 3 0 ++ leBytes 4 64)

theorem test_prg_begin : ran (.prgBegin 2) tBegin (fun t =>
    answer2 t == some (0, 0, 0) && t.prog.staging == .staging && t.prog.lockSession == some 0x11 && t.prog.stagedLen == 64) = true := by
  decide +kernel
theorem test_edit_begin : ran (.editBegin 2) (tAsk (tUnit .run) 0x58 0x11 (leBytes 4 64)) (fun t =>
    answer2 t == some (0, 0, 0) && t.prog.stagedKind == 2) = true := by decide +kernel
theorem test_prg_data : ran (.prgData 2) { tAsk (tUnit .stop) 0x51 0x11 (leBytes 4 0 ++ leBytes 4 99) with
    prog := { Prog.init with staging := .staging, lockSession := some 0x11, stagedKind := 1, stagedLen := 64 } }
    (fun t => data2 t == leBytes 4 4 && t.prog.staged == leBytes 4 99) = true := by decide +kernel
theorem witness_staging :
    (∃ r, tBegin.request 2 0x50 = some r ∧ tBegin.loadGate r.session false true false = none ∧ leAt r.payload 0 1 ∈ [1, 4] ∧
      leAt r.payload 1 3 = 0 ∧ leAt r.payload 4 4 ≤ slotSize) ∧
    (∃ r, (tAsk (tUnit .run) 0x58 0x11 (leBytes 4 64)).request 2 0x58 = some r ∧
      (tAsk (tUnit .run) 0x58 0x11 (leBytes 4 64)).loadGate r.session false true false = none) :=
  ⟨⟨_, rfl, by decide +kernel, by decide +kernel, by decide +kernel, by decide +kernel⟩, ⟨_, rfl, by decide +kernel⟩⟩
theorem test_staging_timeout : ran .stagingTimeout { tUnit .stop with
    prog := { Prog.init with staging := .staging, lockSession := some 0x11 }, clk := { Clock.init with ticks := 60 * secTicks } }
    (fun t => t.prog.staging == .idle && t.prog.lockSession == none) = true := by decide +kernel
theorem test_loaded_timeout : ran .loadedTimeout { tUnit .stop with
    prog := { Prog.init with staging := .loaded }, clk := { Clock.init with ticks := 600 * secTicks } }
    (fun t => t.prog.staging == .idle) = true := by decide +kernel

/-- A program whose record is durable and waits to come into force. -/
def tActivate : State := { tUnit .stop with
  prog := { Prog.init with
    active := some tProg, slot := 2, staging := .checking,
    activation := some { newProg := some { tProg with version := 9 }, net := none, slot := 1, chain := 0, slotBytes := 64, mbx := none,
                         recordDurable := true, clear := false, writes := [(0x600001, 5)] } },
  img := { Image.init with forces := [(0x100001, 1)] } }

theorem test_activation : ran .programActivation tActivate (fun t =>
    t.program.version == 9 && t.prog.slot == 1 && t.prog.bank == 1 && t.img.forces == [] && t.committed 0x600001 == 5 &&
    t.prog.staging == .idle) = true := by decide +kernel

/-- An edit armed for 2 ms, in RUN. -/
def tArmed : State := { tUnit .run with
  clk := { Clock.init with stime := 2000000 },
  prog := { Prog.init with
    active := some tProg, slot := 2, staging := .armed,
    armed := some { kind := 2, at_ := 2000000, lead := 1000, affected := [], newProg := { tProg with version := 9 }, migs := [],
                    slot := 2, chain := 1, slotBytes := 128 } } }

theorem test_edit_step : ran .editStep tArmed (fun t =>
    t.program.version == 9 && t.prog.chain == 1 && t.img.pegSeq == 1 && t.img.commits.length == 1 && t.prog.armed == none) = true := by
  decide +kernel


/-! ### A container that passes: one context whose code is RET -/

def tSecRow (ty off len : Nat) : List Byte := leBytes 4 ty ++ leBytes 4 off ++ leBytes 8 len

/-- The header up to the key ID (Table EDIT-1). -/
def tHead (kind flags n len base : Nat) : List Byte :=
  leBytes 4 0x4E435053 ++ leBytes 2 1 ++ leBytes 1 kind ++ leBytes 1 flags ++ leBytes 1 7 ++ leBytes 1 0 ++ leBytes 2 n ++ leBytes 4 len ++
    leBytes 16 5 ++ leBytes 16 9 ++ leBytes 48 base ++ leBytes 48 0

/-- The container: header, the sections CTX and CODE, the place of the signature. -/
def tBox (kind flags key : Nat) : List Byte :=
  tHead kind flags 2 368 0 ++ (leBytes 16 key ++ (leBytes 32 0 ++ tSecRow 1 0xE0 32 ++ tSecRow 2 0x100 12 ++
    (leBytes 1 1 ++ leBytes 1 3 ++ leBytes 2 16 ++ leBytes 4 10000 ++ leBytes 4 9000 ++ leBytes 12 0 ++ leBytes 4 1 ++ leBytes 4 0) ++
    (leBytes 4 0 ++ leBytes 4 1 ++ leBytes 4 0xD4000000) ++ leBytes 100 0))

theorem tBox_key (kind flags : Nat) (key : List Byte) : leAt (tBox kind flags (keyIdOf key)) 0x90 16 = keyIdOf key :=
  (leAt_leBytes _ _ _ _ _ (by simp [tHead])).trans (Nat.mod_mod _ _)

/-- The unit in a state, its owner known, with this container staged and its commit asked for. -/
def tCommitAsk (st : DevState) (op kind flags : Nat) (stage : Staging) : State :=
  { tAsk { tUnit st with sec := { SecState.init with owner := some [1#8] } } op 0x11 (leBytes 4 0) with
    prog := { Prog.init with
      active := some tProg, slot := 0, staging := stage, lockSession := some 0x11, stagedKind := if kind = 3 then 2 else kind,
      stagedLen := 368, staged := tBox kind flags (keyIdOf [1#8]) } }

theorem witness_prg_commit :
    ∃ k, (tCommitAsk .stop 0x52 1 0 .staging).checkContainer false [1] (tBox 1 0 (keyIdOf [1#8])) 368 ⟨true, true⟩ = .ok k ∧
      (!bit k.box.flags 0 && k.newProg.version == 9) = true :=
  checkContainer_ok (tCommitAsk .stop 0x52 1 0 .staging) false [1] _ 368 (fun k => !bit k.box.flags 0 && k.newProg.version == 9)
    (by decide +kernel) (by decide +kernel) (by decide +kernel) (tBox_key _ _ _) (by decide +kernel)
theorem witness_prg_commit_activating :
    ∃ k, (tCommitAsk .stop 0x52 1 1 .staging).checkContainer false [1] (tBox 1 1 (keyIdOf [1#8])) 368 ⟨true, true⟩ = .ok k ∧
      bit k.box.flags 0 = true :=
  checkContainer_ok (tCommitAsk .stop 0x52 1 1 .staging) false [1] _ 368 (fun k => bit k.box.flags 0)
    (by decide +kernel) (by decide +kernel) (by decide +kernel) (tBox_key _ _ _) (by decide +kernel)
theorem witness_prg_commit_gate :
    let s := tCommitAsk .stop 0x52 1 0 .staging
    (s.request 2 0x52).map Request.session = some 0x11 ∧ s.loadWaits 2 = false ∧ s.loadGate 0x11 true true false = none ∧
    s.prog.staging = .staging ∧ s.prog.stagedKind = 1 ∧ s.dev.role ≠ .primary := by decide +kernel
theorem test_prg_commit_loaded : ran (.prgCommit 2 ⟨true, true⟩) (tCommitAsk .stop 0x52 1 0 .loaded) (fun t =>
    t.prog.staging == .checking && t.img.commits.length == 1 && t.prog.active == some tProg &&
    t.feram.read 0x5E0000 == 0x53#8) = true := by decide +kernel
theorem witness_edit_apply :
    ∃ k, (tCommitAsk .run 0x59 3 0 .staging).checkContainer true [2, 3] (tBox 3 0 (keyIdOf [1#8])) 368 ⟨true, true⟩ = .ok k ∧
      (((tCommitAsk .run 0x59 3 0 .staging).editInstant k.affected 0).isSome) = true :=
  checkContainer_ok (tCommitAsk .run 0x59 3 0 .staging) true [2, 3] _ 368 (fun k => ((tCommitAsk .run 0x59 3 0 .staging).editInstant k.affected 0).isSome) (by decide +kernel)
    (by decide +kernel) (by decide +kernel) (tBox_key _ _ _) (by decide +kernel)
theorem witness_edit_apply_gate :
    let s := tCommitAsk .run 0x59 3 0 .staging
    (s.request 2 0x59).map Request.session = some 0x11 ∧ s.loadWaits 2 = false ∧ s.updateBlocks = false ∧
    s.loadGate 0x11 true (s.dev.state == .run || s.dev.state == .halt) s.updateBlocks = none ∧
    s.prog.staging = .staging ∧ s.prog.stagedKind = 2 ∧ s.dev.role ≠ .primary := by decide +kernel
theorem witness_edit_due : (tArmed.prog.armed.map tArmed.editDue) = some true := by decide +kernel

/-- No owner key: the check KEY fails at the key ID (Table EDIT-7). -/
theorem test_load_wrong_key : ran (.prgCommit 2 ⟨true, true⟩)
    { tCommitAsk .stop 0x52 1 0 .staging with sec := SecState.init }
    (fun t => t.prog.lastStatus == 9 && t.prog.lastDetail == 0x90 && t.prog.staging == .idle) = true := by decide +kernel

/-! ### Non-volatile memory -/

/-- A commit of rows 3 and 4 of which `left` rows remain. -/
def tRows (started : Bool) (left : Nat) : State := { tUnit .run with
  img := { Image.init with commits := [{ tCommit with rows := [3, 4], data := [(3, [9#8]), (4, [8#8])], started := started }] },
  nvm := { Nvm.init with commitLeft := left } }

theorem test_row_write : ran (.nvmRowWriteDone true) (tRows true 3) (fun t =>
    t.nvm.commitLeft == 2 && t.pn 0xA00 == 1 && t.feram.read (rowAddr true 4) == 8#8 && t.nvm.halves == []) = true := by decide +kernel
theorem test_row_write_fails : ran (.nvmRowWriteDone false) (tRows true 3) (fun t => bit t.flt.sticky 7 && t.nvm.commitLeft == 2) = true := by
  decide +kernel
theorem witness_rows :
    (∃ k, (tRows true 3).headCommit = some k ∧ k.started = true ∧ k.extra.all = false) ∧
    (∃ k, (tRows false 0).headCommit = some k ∧ k.started = false ∧ 2 ≤ k.rowsTotal) ∧
    (tRows true 3).rowsRun = true ∧ (tRows true 3).reservedQueued = false ∧ (tRows false 0).rowsRun = true ∧
    (tRows false 0).reservedQueued = false ∧ (tRows false 0).pwr.warnLive = false ∧ (tRows false 0).nvm.ringDone < 1024 :=
  ⟨⟨_, rfl, rfl, rfl⟩, ⟨_, rfl, rfl, by decide +kernel⟩, by decide +kernel⟩

/-- A settings copy's rows on their way, and log records and headers due. -/
def tJobs : State := { tUnit .stop with
  clk := { (tUnit .stop).clk with ticks := 8000000 },
  nvm := { Nvm.init with jobs := [.settings 3], ringSince := 512, setDirty := true, setWaiting := [2],
                         logQueue := [LogRec.mk 0 0x20 7 [1#8] 0 0 false] } }

theorem test_job_row : ran (.nvmRowWriteDone true) { tJobs with nvm := { Nvm.init with jobs := [.settings 3] } }
    (fun t => t.nvm.jobs == [.settings 2]) = true := by decide +kernel
theorem test_checkpoint : ran .checkpointStart tJobs (fun t => t.nvm.ringSince == 0 && t.nvm.jobs == [.settings 3, .checkpoint 17] &&
    t.nvm.ckptRun.map Checkpoint.seq == some 1) = true := by decide +kernel
theorem test_log_write : ran .logRecordWrite tJobs (fun t => t.nvm.logQueue == [] && t.nvm.logSeq == 1 && t.pn 0xA10 == 1 &&
    t.nvm.logRing.map LogRec.seq == [1]) = true := by decide +kernel
theorem test_log_header : ran .logHeaderWrite tJobs (fun t => t.nvm.headerSeq == 1 && t.nvm.headerAt == 8000000) = true := by
  decide +kernel
theorem test_settings_write : ran .settingsCopyWrite { tJobs with nvm := { tJobs.nvm with jobs := [] } }
    (fun t => !t.nvm.setDirty && t.nvm.setRunMbx == [2] && t.nvm.setRun.map SettingsCopy.seq == some 1) = true := by decide +kernel

/-- A settings copy of which the header row remains, with a SET in mailbox 2. -/
def tCopy : State := { tAsk (tUnit .stop) 0x21 0x11 (leBytes 4 1) with
  nvm := { Nvm.init with jobs := [.settings 1], setRun := some { SettingsCopy.blank with seq := 5, valid := true }, setRunMbx := [2] } }

theorem test_settings_durable : ran .settingsCopyDurable tCopy (fun t => answer2 t == some (0, 0, 0) && t.nvm.setRun == none &&
    t.nvm.jobs == [] && t.nvm.setA.seq == 5) = true := by decide +kernel
theorem witness_nvm :
    tJobs.rowsRun = true ∧ tJobs.otherTurn = true ∧ tJobs.sec.nvmZero = false ∧ tJobs.nvm.overflow = 0 ∧
    4000000 ≤ tJobs.clk.ticks - tJobs.nvm.headerAt ∧ tJobs.pwr.warnLive = false ∧ tJobs.nvm.setRun = none ∧ tJobs.nvm.setStarted = none ∧
    tJobs.nvm.ckptRun = none ∧ tJobs.headCommit = none ∧ tCopy.rowsRun = true ∧ tCopy.otherTurn = true ∧
    tCopy.reservedQueued = false ∧ tCopy.setSlot = 0 ∧ (tCopy.request 2 0x21).isSome = true := by decide +kernel

/-! ### Boot, power, reset -/

/-- A boot in which every check passes. -/
def tBoot : BootInput :=
  { selftest := 0xFFFF, rootOk := true, manifestOk := true, fallbackOk := true, firmwareOk := true, ownerOk := true, checkpointOk := true,
    badRows := [], program := ⟨true, true⟩, fwVersion := 7, fwSec := 0, fwPair := 0, fwFormat := 1, migrates := false, aclk := true,
    bayAnswers := [false, false] }

/-- The unit in BOOT with a settings copy of the firmware's format. -/
def tCold : State := { State.reset with nvm := { Nvm.init with setA := { SettingsCopy.blank with seq := 1, format := 1, valid := true } } }

theorem test_boot : ran (.bootStart tBoot) tCold (fun t => t.dev.state == .stop && t.pwr.core && t.hp.fwver == 7 && t.nvm.setCopy == 0) = true := by
  decide +kernel
theorem test_boot_fails :
    (ran (.bootStart { tBoot with firmwareOk := false }) tCold (fun t => t.dev.state == .recovery) &&
     ran (.bootStart { tBoot with rootOk := false }) tCold (fun t => t.dev.state == .boot && bit t.flt.sticky 26)) = true := by decide +kernel
theorem witness_boot :
    (∃ ck, tCold.nvm.newestCheckpoint = some ck ∧ 2 ≤ ck.slot ∧ 2 ≤ ck.netCopy) ∧
    (∃ k, tCold.nvm.copyFor 1 = some (0, k) ∧ k.format = 1) ∧
    tCold.dev.state = .boot ∧ tCold.pwr.core = false ∧ tCold.pwr.clkLost = false ∧ tCold.pwr.nresetLow = false ∧
    tCold.pwr.clkRecord = false ∧ tCold.upd.stage = .none ∧ tCold.nvm.ring = [] ∧ tCold.prog.active = none ∧
    tCold.sec.storeInvalid = false :=
  ⟨⟨_, rfl, by decide +kernel⟩, ⟨_, rfl, rfl⟩, by decide +kernel⟩
theorem test_power_on : ran (.powerOnReset 5000)
    { State.reset with dev := { Device.init with state := .off }, pwr := { Power.init with vinGood := false } }
    (fun t => t.dev.state == .boot && t.pwr.vin == 5000 && t.flt.nfaultLow) = true := by decide +kernel
theorem test_brown_out : ran (.brownOut 3800) { tRun with sram := [(5, 1#8)], feram := [(6, 2#8)] }
    (fun t => t.dev.state == .off && t.sram == [] && t.feram == [(6, 2#8)] && t.params == []) = true := by decide +kernel
theorem test_power_fail : ran (.powerFailWarning .vin 4300) { tPin with sram := [(5, 1#8)] }
    (fun t => t.pwr.warnLive && t.pwr.pfStep == 1 && !t.pwr.hold && !t.pwr.net && (t.ctx 1).shot == none && t.sram == [(5, 1#8)]) = true := by
  decide +kernel

/-- The power-fail sequence at a step. -/
def tFail (step : Nat) : State := { tUnit .stop with pwr := { (tUnit .stop).pwr with warnLive := true, pfStep := step, hold := false } }

theorem test_power_fail_commit : ran .powerFailCommitDone (tFail 1) (fun t => t.pwr.pfStep == 4 && !t.pwr.core && !t.pwr.nvm) = true := by
  decide +kernel
theorem test_pfi_recovered : ran (.pfiRecovered 4600) (tFail 4) (fun t => t.dev.state == .boot && t.pwr.cause == 3 && t.pwr.hold) = true := by
  decide +kernel
theorem test_power_fail_again : ran (.powerFailWarning .pfi 4600) (tFail 1) (fun t => t.pwr.vin == 4600 && t.pwr.pfStep == 1) = true := by
  decide +kernel
theorem witness_power_fail :
    tPin.dev.state ≠ .off ∧ tPin.pwr.warnLive = false ∧ (tFail 1).nvm.commitLeft = 0 ∧ (tFail 1).reservedQueued = false ∧
    (tFail 4).pwr.lockoutFlag = false := by decide +kernel
theorem test_row_inhibit : ran (.vinRowInhibit 3999) tRun (fun t => t.pwr.rowInhibit && t.pwr.vin == 3999) = true := by decide +kernel
theorem test_nreset :
    (ran .nresetAssert tRun (fun t => t.dev.state == .boot && t.pwr.cause == 1 && t.pwr.nresetLow && t.flt.nfaultLow && !t.pwr.core) &&
     ran .nresetAssert { State.reset with dev := { Device.init with state := .off } } (fun t => t.pwr.nresetLow) &&
     ran .nresetRelease { State.reset with pwr := { Power.init with nresetLow := true } } (fun t => !t.pwr.nresetLow)) = true := by
  decide +kernel
/-- In STOP when a hold-up measurement is due. -/
def tHold : State := { tUnit .stop with clk := { (tUnit .stop).clk with ticks := 100000 * secTicks } }

theorem test_holdup_start : ran (.holdupMeasureStart 5000) tHold
    (fun t => !t.pwr.hold && t.pwr.holdup == some ⟨100000 * secTicks, 5000⟩) = true := by decide +kernel
theorem test_holdup_low : ran (.holdupMeasureStart 4700) tHold (fun t => t.pn 0x789 == 3 && t.pwr.holdup == none) = true := by
  decide +kernel

/-- The worked example under R460, to the mV: 0.68 A for 100 µs while VIN falls from 4.980 V to 4.761 V is 295 µF. -/
theorem test_holdup_end : ran (.holdupMeasureEnd 4761 680 100000) { tUnit .stop with pwr := { (tUnit .stop).pwr with holdup := some ⟨0, 4980⟩ } }
    (fun t => t.pwr.hold && t.pn 0x787 == 295 && t.pn 0x789 == 1) = true := by decide +kernel
theorem witness_holdup :
    (tUnit .stop).fclkUp = true ∧ (tUnit .stop).pwr.holdup = none ∧ (tUnit .stop).pv 0x783 ≠ 1 ∧ tRun.pwr.nresetLow = false ∧
    tRun.pwr.lockoutFlag = false := by decide +kernel

/-! ### Faults and the watchdog -/

theorem test_fault : ran (.faultRaise 19 0 5) tRun (fun t => t.flt.seqNewest == 1 && bit t.flt.sticky 19 &&
    t.flt.records.map FaultRec.src == [19] && t.flt.records.map FaultRec.cls == [faultClass 19]) = true := by decide +kernel
theorem test_fault_sticky : ran (.faultRaise 19 0 5) { tRun with flt := { Faults.init with sticky := 2 ^ 19 } }
    (fun t => t.flt.seqNewest == 0 && t.pn (0x980 + 4 * 19 + 3) == 1) = true := by decide +kernel

/-- A reset waits for nothing more. -/
def tAwait (lockout : Bool) : State := { tUnit .stop with
  flt := { Faults.init with awaiting := [Awaiting.mk 0 lockout 3 none 0], nfaultLow := false } }

theorem test_fault_reset : ran .faultChipReset (tAwait false) (fun t => t.dev.state == .boot && t.pwr.cause == 3 && t.flt.sticky == 0) = true := by
  decide +kernel
theorem test_lockout : ran .lockoutEntry (tAwait true) (fun t => t.dev.state == .lockout && t.pwr.lockoutFlag && t.flt.nfaultLow) = true := by
  decide +kernel

/-- A grace time of source 9 that has ended, and nFAULT low for 1 ms with its release accepted. -/
def tGrace (sticky : Nat) : State := { tUnit .run with
  flt := { Faults.init with grace := [Grace.mk 9 4 300000], sticky := sticky, releaseAsked := true } }

theorem test_grace :
    (ran (.graceExpiry 9) (tGrace (2 ^ 9)) (fun t => t.flt.grace == [] && t.flt.awaiting == [Awaiting.mk 4 false 3 none 400000]) &&
     ran (.graceExpiry 8) (tGrace 0) (fun t => t == tGrace 0)) = true := by decide +kernel
theorem test_nfault_hold : ran .nfaultHoldEnd (tGrace 0) (fun t => !t.flt.nfaultLow && !t.flt.releaseAsked) = true := by decide +kernel
theorem test_collector : ran .collectorSelfFault tRun (fun t => bit t.flt.sticky 29 && t.flt.seqNewest == 1) = true := by decide +kernel
theorem test_collector_queued : ran .collectorSelfFault { tRun with
    flt := { Faults.init with queue := [4], records := [FaultRec.mk 4 9 0 0 0 0 0 0 0 0] } }
    (fun t => !bit t.flt.sticky 29 && t.flt.records.map FaultRec.flags == [1]) = true := by decide +kernel
theorem witness_reactions :
    (tAwait false).resetReady 0 = true ∧ (tAwait true).resetReady 0 = true ∧ (tAwait false).pwr.lockoutFlag = false ∧
    bit (tGrace (2 ^ 9)).flt.sticky 9 = true ∧ (tGrace 0).flt.nfaultLow = true ∧
    400000 ≤ (tGrace 0).clk.ticks - (tGrace 0).flt.lowSince := by decide +kernel

/-- FLT_ACK of everything up to sequence 6 with scope bits. -/
def tAck (st : DevState) (scope : Nat) : State := { tAsk (tUnit st) 0xA0 0x11 (leBytes 4 scope ++ leBytes 4 6) with
  flt := { Faults.init with newestPin := 6, newestSafe := 6, pending := [FaultRec.mk 6 9 0 0 0 0 0 0 0 0] } }

theorem test_flt_ack : ran (.fltAck 2) (tAck .run 1) (fun t => answer2 t == some (0, 0, 0) && t.flt.seqAcked == 6 && t.flt.pending == [] &&
    !t.flt.nfaultLow) = true := by decide +kernel
theorem test_flt_ack_safe : ran (.fltAck 2) (tAck .safe 2) (fun t => t.dev.state == .stop && data2 t == leBytes 4 3) = true := by decide +kernel
theorem witness_flt_ack :
    (tAck .run 1).flt.newestPin ≤ 6 ∧ (∃ r, (tAck .run 1).request 2 0xA0 = some r ∧ bit (leAt r.payload 0 1) 0 = true ∧
      leAt r.payload 4 4 = 6) ∧ (∃ r, (tAck .safe 2).request 2 0xA0 = some r ∧ bit (leAt r.payload 0 1) 1 = true) :=
  ⟨by decide +kernel, ⟨_, rfl, by decide +kernel, by decide +kernel⟩, ⟨_, rfl, by decide +kernel⟩⟩

/-- The watchdog at a count, KEY1 at another. -/
def tWdg (count : Nat) (key1 : Option Nat) (serviced : Bool) : State := { tUnit .run with
  wdg := { Watchdog.init with count := count, key1 := key1, serviced := serviced, cleanFrom := 0 } }

theorem test_wdg_service : ran (.wdgService 0) (tWdg 20000000 (some 19999950) true) (fun t => t.wdg.count == 0 && t.wdg.ladder == 0 &&
    t.wdg.lastSvc == 1000000) = true := by decide +kernel
theorem test_wdg_early : ran (.wdgService 0) (tWdg 3000000 (some 2999950) true) (fun t => t.wdg.early && t.wdg.ladder == 1 &&
    bit t.flt.sticky 0) = true := by decide +kernel
theorem test_wdg_key1 : ran .wdgKey1 (tWdg 5 none false) (fun t => t.wdg.key1 == some 5) = true := by decide +kernel
theorem test_wdg_cfg :
    (ran (.wdgCfgWrite 0x00C80064#32) (tWdg 5 none false) (fun t => t.wdg.cfgT == 100 && t.wdg.cfgOpen == 200) &&
     ran (.wdgCfgWrite 0x00C80064#32) (tWdg 5 none true) (fun t => t.wdg.cfgOpen == 100)) = true := by decide +kernel
theorem test_wdg_key_error : ran (.wdgKeyError 1#32 8) (tWdg 5 none false) (fun t => t.wdg.keyErr && t.wdg.evdPc == 8) = true := by
  decide +kernel
theorem test_wdg_timeouts :
    (ran (.wdgExpiry 8) (tWdg 40000000 none true) (fun t => t.wdg.ladder == 1 && !t.wdg.early && !t.wdg.keyErr) &&
     ran (.wdgKey1Timeout 8) (tWdg 65 (some 0) true) (fun t => t.wdg.keyErr && t.wdg.ladder == 1)) = true := by decide +kernel
theorem test_wdg_clean : ran .wdgCleanRun { tWdg 5 none true with
    wdg := { Watchdog.init with ladder := 3 }, clk := { (tUnit .run).clk with ticks := 60 * secTicks } } (fun t => t.wdg.ladder == 0) = true := by
  decide +kernel
theorem test_wdg_stat_clear : ran (.wdgStatClear 8#32) { tRun with wdg := { Watchdog.init with early := true, keyErr := true } }
    (fun t => !t.wdg.early && t.wdg.keyErr) = true := by decide +kernel
theorem witness_wdg :
    (tWdg 5 none false).wdgRuns = true ∧ (tWdg 5 none false).wdg.restarting = none ∧ (tWdg 5 none false).dev.state ≠ .lockout := by decide +kernel

theorem test_heartbeat : ran .firmwareHeartbeat tRun (fun t => t.flt.heartbeat == some 400000) = true := by decide +kernel
theorem test_heartbeat_loss : ran .heartbeatLoss { tRun with flt := { Faults.init with heartbeat := some 0 }, clk := { tRun.clk with ticks := 800000 } }
    (fun t => bit t.flt.live 31) = true := by decide +kernel

/-- A heartbeat just given, at a whole millisecond. -/
def tAlive : State := { tRun with flt := { Faults.init with heartbeat := some 400000 } }

theorem test_alive :
    (ran .aliveToggle tAlive (fun t => t.flt.alive && t.flt.aliveOn) &&
     ran .aliveToggle tRun (fun t => !t.flt.alive && !t.flt.aliveOn)) = true := by decide +kernel
theorem test_hbeat : ran .hbeatAdvance tAlive (fun t => t.hp.hbeat == 1 && t.hp.hbeatAt == 400000) = true := by decide +kernel
theorem test_restart_complete : ran .coreRestartComplete { tUnit .stop with wdg := { Watchdog.init with restarting := some 0 } }
    (fun t => t.wdg.restarting == none && t.pn 0x918 == 1000000) = true := by decide +kernel
theorem test_clk_loss : ran (.clkLoss true) tRun (fun t => t.pwr.clkLost && !t.fclkUp && t.pwr.clkRecord && t.wdg.ladder == 1) = true := by
  decide +kernel
theorem test_clk_release : ran .clkResetRelease { tRun with pwr := { tRun.pwr with clkLost := true } } (fun t => !t.pwr.clkLost) = true := by
  decide +kernel
theorem witness_heartbeat :
    tAlive.heartbeatRecent = true ∧ tAlive.severePending = false ∧ tAlive.fclkUp = true ∧ tAlive.now % 1000000 < 3 ∧
    tRun.heartbeatRecent = false ∧ tAlive.coresRun = true ∧ tAlive.pwr.host = true ∧ tRun.pwr.clkLost = false ∧
    tRun.wdg.expiredAt ≠ some tRun.clk.ticks := by decide +kernel

/-! ### Time -/

/-- A unit that follows SYNC_IN. -/
def tSync (st : DevState) : State := { tUnit st with
  params := [(0x747, 1)], clk := { (tUnit st).clk with source := 2, syncInOk := true, expected := some 1000000 } }

theorem test_discipline :
    (ran (.disciplineMeasure 20 (-7)) (tSync .run) (fun t => t.clk.offset == 20 && t.clk.rate == -7 && t.clk.lockCount == 1) &&
     ran (.disciplineMeasure 500000000 0) (tSync .run) (fun t => t.clk.rate == -250000 && t.clk.stime == 1000000) &&
     ran (.disciplineMeasure (-5000000000) 0) (tSync .stop) (fun t => t.clk.stime == 5001000000 && t.pn 0x746 == 1)) = true := by
  decide +kernel
theorem test_sync_in :
    (ran .syncInEdge (tSync .run) (fun t => t.clk.syncInOk && t.clk.missed == 0) &&
     ran .syncInEdge { tSync .run with clk := { (tSync .run).clk with expected := some 900000000 } }
       (fun t => t.pn 0x749 == 1 && t.clk.expected == some 900000000) &&
     ran .syncInEdgeMissed { tSync .run with clk := { (tSync .run).clk with stime := 2000000000, missed := 2 } }
       (fun t => !t.clk.syncInOk && t.clk.missed == 3)) = true := by decide +kernel
theorem witness_discipline :
    (tSync .run).clockSource = (tSync .run).clk.source ∧ (tSync .run).clk.source ≠ 0 ∧ (tSync .run).fclkUp = true ∧
    (tSync .run).dev.autoWait = false ∧ (tSync .run).pv 0x744 < 500000000 ∧ 20 ≤ (tSync .run).pv 0x744 ∧
    ¬ (10 * (900000000 - (tSync .run).now) ≤ (tSync .run).pn 0x748 * 1000) ∧
    10 * 1000000 + (tSync .run).pn 0x748 * 1000 < 10 * 2000000000 := by decide +kernel

/-- SYNC_OUT with a period of 1 ms. -/
def tOut (up : Bool) : State := { tUnit .run with
  params := [(0x74A, 1000), (0x74B, 100)], clk := { (tUnit .run).clk with stime := 3000000, syncOut := up, syncOutAt := if up then 2000000 else 0 } }

theorem test_sync_out :
    (ran .syncOutRise (tOut false) (fun t => t.clk.syncOut && t.clk.syncOutAt == 3000000) &&
     ran .syncOutFall (tOut true) (fun t => !t.clk.syncOut)) = true := by decide +kernel
theorem witness_sync_out :
    (tOut false).fclkUp = true ∧ (tOut true).clk.syncOutAt + (tOut true).pn 0x74B * 1000 ≤ (tOut true).now := by decide +kernel

/-- Both links up. -/
def tLink (st : DevState) : State := { tUnit st with net := { NetState.init with linkA := true, linkB := true } }

theorem test_gptp :
    (ran (.gptpSync ⟨0, 77, 200, 40⟩) (tLink .run) (fun t => t.net.gptp.gm == 77 && t.net.gptp.offset == 40 && t.net.gptp.relay == [1] &&
       t.net.gptp.state == 3) &&
     ran (.gptpPdelay 1 (some 350)) (tLink .run) (fun t => t.net.gptp.delays == [(1, 350)]) &&
     ran (.gptpSyncTransmit 1) { tLink .run with net := { (tLink .run).net with gptp := { NetState.init.gptp with state := 3, relay := [1] } } }
       (fun t => t.net.gptp.sent == 1 && t.net.gptp.relay == []) &&
     ran (.gptpSyncTransmit 1) (tLink .run) (fun t => t.net.gptp.state == 1)) = true := by decide +kernel
theorem witness_gptp :
    (tLink .run).net.link 0 = true ∧ (tLink .run).gptpMode = 3 ∧ (tLink .run).masterBetter 200 = true ∧ (tLink .run).pwr.net = true := by
  decide +kernel
theorem test_aclk :
    (ran .aclkLoss tRun (fun t => !t.clk.aclk && bit t.flt.live 2) &&
     ran .aclkStart { tRun with clk := { tRun.clk with aclk := false }, flt := { Faults.init with live := 4 } }
       (fun t => t.clk.aclk && !bit t.flt.live 2) &&
     ran .dieTempClear { tRun with flt := { Faults.init with live := 16 } } (fun t => t.flt.live == 0)) = true := by decide +kernel

/-- Auto-run waits for STIME and has waited long enough. -/
def tWaitRun : State := { tUnit .stop with
  params := [(0x701, 0)], dev := { (tUnit .stop).dev with autoWait := true }, clk := { (tUnit .stop).clk with ticks := 100000 * secTicks } }

theorem test_run_wait : ran .runWaitExpiry tWaitRun (fun t => t.dev.state == .run && !t.dev.autoWait) = true := by decide +kernel
theorem witness_run_wait :
    tWaitRun.runNotReady = false ∧ tWaitRun.pn 0x74E * secTicks ≤ tWaitRun.clk.ticks - tWaitRun.dev.since := by decide +kernel

/-! ### Triple execution -/

/-- A cycle in which the cores' copies of the result signal are these. -/
def tOdd (a b c : Nat) : CmpEvent := { signals := [CmpSignal.mk 2 a b c], pc := 0x40, crossOk := true }

theorem test_tmr :
    (ran (.tmrMismatch (tOdd 5 4 5)) tRun (fun t => t.tmr.isolated == some 1 && t.tmr.mode == .triple &&
       t.tmr.last.map Mismatch.source == some 1) &&
     ran (.tmrMismatch (tOdd 5 4 5)) { tRun with tmr := { Tmr.init with diffs := [(1, [1999000, 1998000, 1997000])] } }
       (fun t => t.tmr.retired == [1] && t.tmr.mode == .dual) &&
     ran (.tmrMismatch (tOdd 5 4 3)) tRun (fun t => t.tmr.last.map Mismatch.source == some 2) &&
     ran (.tmrMismatch { tOdd 5 5 5 with crossOk := false }) tRun (fun t => t.tmr.cmpPending)) = true := by decide +kernel

/-- Core 1 isolated, its scrub done or not. -/
def tIso (scrubbed : Bool) (at_ : Nat) : State :=
  { tRun with tmr := { Tmr.init with isolated := some 1, scrubbed := scrubbed, isoAt := at_ } }

theorem test_resync :
    (ran (.coreScrubDone true) (tIso false 399000) (fun t => t.tmr.scrubbed) &&
     ran (.coreScrubDone false) (tIso false 399000) (fun t => t.tmr.retired == [1] && t.tmr.mode == .dual) &&
     ran (.coreJoin 800) (tIso true 399000) (fun t => t.tmr.isolated == none && t.pn 0x804 == 1 && t.pn 0x806 == 1 && t.pn 0x80A == 800) &&
     ran .resyncTimeout (tIso true 384000) (fun t => t.tmr.last.map Mismatch.source == some 4)) = true := by decide +kernel

/-- A mode asked for, with or without the free core's work to return. -/
def tMode (m : ExecMode) (free : Bool) (back : Option Nat) : State := { tUnit .stop with
  tmr := { Tmr.init with mode := .dual, requested := some m, freeCore := free, returning := back } }

theorem test_mode :
    (ran .modeChange (tMode .triple false none) (fun t => t.tmr.mode == .triple && t.tmr.requested == none) &&
     ran .modeChange (tMode .triple true none) (fun t => t.tmr.returning == some 400000 && t.tmr.mode == .dual)) = true := by
  decide +kernel
theorem test_free_core_return :
    Does .freeCoreReturn (tMode .triple true (some 0)) (fun t => t.tmr.mode = .triple ∧ t.tmr.returning = none) := by
  refine ⟨_, rfl, ?_⟩
  simp only [State.rejoin, State.joined, State.worst]
  split <;> exact ⟨rfl, rfl⟩
theorem test_tmr_clear : ran .tmrCmpPendingClear { tUnit .run with
    tmr := { Tmr.init with cmpPending := true }, clk := { (tUnit .run).clk with ticks := 60 * secTicks } } (fun t => !t.tmr.cmpPending) = true := by
  decide +kernel
theorem test_interrupt : ran .interruptEntry { tRun with tmr := { Tmr.init with irqPending := 3 } }
    (fun t => t.tmr.irqPending == 0 && t.pn 0x809 == 1) = true := by decide +kernel
theorem witness_tmr :
    tRun.tmr.mode = .triple ∧ tRun.wdg.restarting = none ∧ tRun.tmr.isolated = none ∧ (tMode .triple false none).coresRun = true ∧
    (tIso true 384000).elapsed (tIso true 384000).tmr.isoAt ≥ 16000 ∧ tRun.coresRun = true := by decide +kernel

/-! ### The host port -/

theorem test_rdreg :
    (ran (.rdreg 0x3F 2) tRun (fun t => t.hp.rdata == [0xA55A0FF0, 0x48441C40]) &&
     ran (.rdreg 0x12 1) tRun (fun t => t.hp.rdata == [0]) &&
     ran .stimeLRead { tRun with clk := { tRun.clk with stime := 0x500000007 } } (fun t => t.hp.rdata == [7] && t.hp.stimeH == 5)) = true := by
  decide +kernel
theorem test_wrreg :
    (ran (.wrreg 0x3E [0xDEAD#32] false) tRun (fun t => t.hp.scratch == 0xDEAD) &&
     ran (.wrreg 0x07 [0xFFFFFFFF#32] false) tRun (fun t => t.hp.irqEn == 0x7FFFF) &&
     ran (.wrreg 0x3E [] true) tRun (fun t => t.hp.hstat == 2 && bit t.hp.irqStat 18)) = true := by decide +kernel
theorem test_clears :
    (ran (.hstatClear 1#32) { tRun with hp := { HostPort.init with hstat := 3 } } (fun t => t.hp.hstat == 2) &&
     ran (.irqStatClear 6#32) { tRun with hp := { HostPort.init with irqStat := 7 } } (fun t => t.hp.irqStat == 1)) = true := by decide +kernel
theorem test_port_mode :
    (ran .quadon tRun (fun t => t.hp.quad) && ran .quadoff tRun (fun t => t.hp.hstat == 1) &&
     ran .quadoff { tRun with hp := { HostPort.init with quad := true } } (fun t => !t.hp.quad) &&
     ran (.hostPortUnknownCode 0x9A#8) tRun (fun t => t.hp.hstat == 1)) = true := by decide +kernel

/-- The host's mailbox 3 in a state, the port with a claim. -/
def tMbx (st : MbxState) (claim : Option Nat) : State :=
  { (tUnit .run) with hp := { HostPort.init with claim := claim, mbx := [(3, { Mailbox.init with state := st, owner := 1 })] } }

theorem test_hprst :
    (ran .hprst (tMbx .claimed none) (fun t => (t.mailbox 3).state == .free) &&
     ran .hprst (tMbx .busy none) (fun t => (t.mailbox 3).state == .busy && (t.mailbox 3).discard)) = true := by decide +kernel
theorem test_mbx_bytes :
    (ran (.wrmbx 3 0xFFF [1, 2]) (tMbx .claimed none) (fun t => t.sram.read 0xFD3FFF == 1#8 && t.sram.read 0xFD3000 == 2#8) &&
     ran (.rdmbx 3 0 1 []) { tMbx .done none with sram := [(0xFD3000, 9#8)] } (fun t => t.hp.rdata == [9]) &&
     ran (.rdmbx 4 0 2 []) (tMbx .done none) (fun t => t.hp.rdata == [0, 0] && t.hp.hstat == 4)) = true := by decide +kernel
theorem test_mbx_states :
    (ran (.dbSet 8#16) (tMbx .claimed none) (fun t => (t.mailbox 3).state == .rung && t.hp.rings == [3]) &&
     ran (.mbxClaim 0x10#5) (tMbx .claimed none) (fun t => t.hp.claim == some 16) &&
     ran .mbxClaimResolve (tMbx .claimed (some 16)) (fun t => t.hp.grant == 0 && (t.mailbox 0).state == .claimed) &&
     ran .mbxClaimResolve (tMbx .claimed (some 3)) (fun t => t.hp.grant == 16 && t.hp.claim == none) &&
     ran (.mbxRelease 8#16) (tMbx .done none) (fun t => (t.mailbox 3).state == .free) &&
     ran (.mbxReleaseKeep 8#16) (tMbx .done none) (fun t => (t.mailbox 3).state == .claimed)) = true := by decide +kernel

/-- A TLS connection 4 on port A. -/
def tTls : State := { tLink .run with sec := { SecState.init with tls := [(4, 0)], tlsNext := 5 } }

theorem test_network_request : ran (.networkRequestMailbox ⟨2, 4, [7#8]⟩) tTls (fun t => (t.mailbox 0).state == .rung &&
    (t.mailbox 0).conn == 4 && t.hp.rings == [0] && t.sram.read 0xFD0000 == 7#8) = true := by decide +kernel
theorem witness_host :
    tRun.hostUp = true ∧ (tMbx .claimed none).hostOwns 3 = true ∧ (tMbx .claimed none).hostOwns 4 = false ∧
    (tMbx .claimed (some 16)).freeMailbox = some 0 ∧ (tMbx .claimed (some 16)).hostHeld < (tMbx .claimed (some 16)).pn 0x114 ∧
    tTls.serves = true ∧ tfind tTls.sec.tls 4 = some (2 - 2) ∧ tTls.freeMailbox = some 0 := by decide +kernel

/-! ### Requests and sessions -/

/-- A frame in mailbox 2: opcode, flags, session, sequence, payload, a tag of zeros. -/
def tRung (op flags session seq : Nat) (payload : List Byte) : State :=
  let s := tSess (tUnit .run)
  { s.setMailbox 2 { Mailbox.init with state := .rung, owner := 1 } with
    sram := Memory.writeL [] (mbxAddr 2)
      (leBytes 1 op ++ leBytes 1 flags ++ leBytes 2 session ++ leBytes 4 seq ++ leBytes 4 payload.length ++ payload),
    hp := { (s.setMailbox 2 { Mailbox.init with state := .rung, owner := 1 }).hp with rings := [2] } }

theorem test_take_clear : ran (.mailboxTake false []) (tRung 0x02 4 0 0 []) (fun t => (t.mailbox 2).state == .busy &&
    (t.mailbox 2).req.map Request.opcode == some 2 && (t.mailbox 2).resp == none && t.hp.rings == []) = true := by decide +kernel
theorem test_take_session : ran (.mailboxTake true []) (tRung 0x90 0 0x11 1 []) (fun t => (t.mailbox 2).req.map Request.session == some 0x11 &&
    (t.session 1).next == 2) = true := by decide +kernel
theorem test_take_errors :
    (ran (.mailboxTake true []) (tRung 0x02 4 0 0 [1]) (fun t => (t.mailbox 2).resp.map Response.completion == some 1) &&
     ran (.mailboxTake true []) (tRung 0x03 4 0 0 []) (fun t => (t.mailbox 2).resp.map Response.completion == some 2) &&
     ran (.mailboxTake true []) (tRung 0x90 0 0 0 []) (fun t => (t.mailbox 2).resp.map Response.completion == some 3)) = true := by
  decide +kernel
theorem witness_take :
    (tRung 0x02 4 0 0 []).serves = true ∧ (tRung 0x02 4 0 0 []).dispatch.sched.cores = some 0 ∧
    ((tRung 0x02 4 0 0 []).readHdr 2).frameOk = true ∧
    (tRung 0x90 0 0x11 1 []).findSession 0x11 1 0 ≠ none ∧ (tRung 0x90 0 0x11 1 []).sessionBusy 0x11 2 = false ∧
    ((tRung 0x90 0 0x11 1 []).readHdr 2).seq = ((tRung 0x90 0 0x11 1 []).session 1).next ∧
    (tRung 0x90 0 0x11 1 []).lateChecks (Request.mk 0x90 0x11 1 [] 1) = 0 := by decide +kernel

/-- A request answered and not yet written, of the host or discarded. -/
def tDone (discard : Bool) : State := (tSess (tUnit .run)).setMailbox 2 { Mailbox.init with
  state := .busy, owner := 1, discard := discard, req := some (Request.mk 0x02 0 1 [] 1),
  resp := some (Response.mk 0 0 0 [5#8] false 0 true none) }

theorem test_done :
    (ran (.mailboxDone 2) (tDone false) (fun t => (t.mailbox 2).state == .done && bit t.hp.irqStat 2 && t.pn 0x115 == 1 &&
       t.sram.read (mbxAddr 2 + 24) == 5#8) &&
     ran (.mailboxDone 2) (tDone true) (fun t => (t.mailbox 2).state == .free)) = true := by decide +kernel
theorem test_seq_wait : ran (.sequenceWaitTimeout 2)
    { (tSess (tUnit .run)).setMailbox 2 { Mailbox.init with
        state := .busy, owner := 1, req := some (Request.mk 0x90 0x11 9 [] 1), waitFrom := some 0 } with
      clk := { (tUnit .run).clk with ticks := 40000000 } }
    (fun t => (t.mailbox 2).resp.map Response.completion == some 5) = true := by decide +kernel
theorem test_session_idle : ran (.sessionIdleTimeout 1) { tSess (tUnit .run) with clk := { (tUnit .run).clk with ticks := 61 * secTicks } }
    (fun t => !(t.session 1).isOpen) = true := by decide +kernel
theorem test_tls :
    (ran (.tlsHandshake ⟨0, true, true, true, true, true, true⟩) (tLink .run) (fun t => t.sec.tls == [(0, 0)]) &&
     ran (.tlsHandshake ⟨0, false, true, true, true, true, true⟩) (tLink .run) (fun t => t.pn 0xB14 == 1 && t.sec.tls == []) &&
     ran (.tlsKeyUpdate 4 true) tTls (fun t => t.sec.tlsUpdates == [(4, 1)]) &&
     ran (.tlsConnectionClose 4) tTls (fun t => t.sec.tls == [])) = true := by decide +kernel
theorem witness_sessions :
    (tLink .run).tlsUp 0 = true ∧ (tSess (tUnit .run)).sessionBusy 0x11 16 = false ∧ ((tSess (tUnit .run)).session 1).isOpen = true := by
  decide +kernel

/-- OPEN of an anonymous session over the host port. -/
def tOpen (leg : Nat) : State :=
  let s := tAsk (tUnit .run) 0x10 (if leg = 1 then 0 else 0x12)
    (leBytes 1 1 ++ leBytes 1 0 ++ leBytes 2 30 ++ leBytes 1 leg ++ leBytes 1 (if leg = 1 then 1 else 0) ++ leBytes 134 0)
  { s with sec := { s.sec with prov := if leg = 1 then [] else [Provisional.mk 2 0x12 1 0 400000 9] } }

theorem test_open :
    (ran (.openLeg1 2) (tOpen 1) (fun t => answer2 t == some (0, 0, 0) && t.sec.prov.map Provisional.slot == [0]) &&
     ran (.openLeg2 2 false) (tOpen 2) (fun t => answer2 t == some (0, 0, 0) && (t.session 2).rights == 295 && (t.session 2).id == 0x12) &&
     ran (.openTimeout 2) { tOpen 2 with clk := { (tOpen 2).clk with ticks := 6 * secTicks } } (fun t => t.sec.prov == [] && t.pn 0xB15 == 1)) =
    true := by decide +kernel
theorem witness_open :
    (∃ r, (tOpen 1).request 2 0x10 = some r ∧ r.session = 0 ∧ leAt r.payload 4 1 = 1 ∧ leAt r.payload 0 1 = pathBit r.requester + 1) ∧
    (tOpen 1).freeSlot = some 0 ∧
    (∃ r, (tOpen 2).request 2 0x10 = some r ∧ leAt r.payload 4 1 = 2 ∧
      (tOpen 2).sec.prov.find? (fun v => v.id == r.session) = some (Provisional.mk 2 0x12 1 0 400000 9) ∧
      (tOpen 2).sec.grant 0 0 r.requester = .rights 295) :=
  ⟨⟨_, rfl, rfl, by decide +kernel, by decide +kernel⟩, by decide +kernel, ⟨_, rfl, by decide +kernel, by decide +kernel, by decide +kernel⟩⟩
theorem test_close : ran (.close 2) (tAsk (tUnit .run) 0x11 0x11 []) (fun t => (t.session 1).closing && answer2 t == some (0, 0, 0)) = true := by
  decide +kernel
theorem test_ident : ran (.ident 2) (tAsk (tUnit .run) 0x02 0 []) (fun t => (data2 t).take 8 == leBytes 4 0x4844 ++ leBytes 2 0x1C40 ++ [2, 32]) =
    true := by decide +kernel

/-! ### Parameters -/

theorem test_get : ran (.get 2) (tAsk { tUnit .run with params := [(0x745, 77)] } 0x20 0x11 (leBytes 2 1 ++ leBytes 2 0 ++ leBytes 2 0x745 ++ leBytes 2 0))
    (fun t => answer2 t == some (0, 0, 0) && data2 t == leBytes 2 1 ++ leBytes 2 0 ++ leBytes 2 0x745 ++ leBytes 2 0 ++ leBytes 2 4 ++
      leBytes 2 0 ++ leBytes 4 77) = true := by decide +kernel

/-- GETBLK of sys.name. -/
def tBlk : State := tAsk { tUnit .run with blocks := [(0x020, leBytes 32 0x41)] } 0x22 0x11 (leBytes 2 0x020 ++ leBytes 2 0 ++ leBytes 4 0 ++ leBytes 4 9)

theorem witness_getblk : tBlk.readStatus 0x020 = 0 ∧ (tBlk.pidRow 0x020).map PRow.ty = some 9 := by decide +kernel
theorem test_getblk : ran (.getblk 2) tBlk (fun t => answer2 t == some (0, 0, 0) &&
    data2 t == leBytes 2 0x020 ++ leBytes 2 32 ++ leBytes 4 0 ++ leBytes 4 1 ++ leBytes 4 1 ++ leBytes 32 0x41) = true := by decide +kernel
theorem test_cup :
    (ran (.cup 2) (tAsk (tUnit .run) 0x01 0x11 []) (fun t => answer2 t == some (0, 0, 0) && (data2 t).length == ((tUnit .run).cupReport true).length) &&
     ran (.cup 2) (tAsk (tUnit .run) 0x01 0 []) (fun t => answer2 t == some (0, 0, 0))) = true := by decide +kernel

/-- SET of time.lock_thr. -/
def tSet (v : Nat) : State := tAsk (tUnit .stop) 0x21 0x11 (leBytes 2 1 ++ leBytes 2 0 ++ leBytes 2 0x745 ++ leBytes 2 4 ++ leBytes 4 v)

theorem test_set : ran (.set 2) (tSet 50) (fun t => t.pv 0x745 == 50 && t.nvm.setDirty && t.nvm.setWaiting == [2] && answer2 t == none) = true := by
  decide +kernel
theorem test_set_range : ran (.set 2) (tSet 49) (fun t => (answer2 t).map Prod.fst == some 9 && data2 t == leBytes 4 0 && t.pv 0x745 != 49) = true := by
  decide +kernel
theorem witness_set :
    ∃ r es, (tSet 50).request 2 0x21 = some r ∧ leAt r.payload 0 2 = 1 ∧ readEntries 1 (r.payload.drop 4) = some es ∧
      es = [SetEntry.mk 0x745 (leBytes 4 50)] ∧ bit ((tSet 50).session 1).rights 1 = true ∧
      ((tSet 50).entryStatus ((tSet 50).preview es) ((tSet 50).session 1).rights es (SetEntry.mk 0x745 (leBytes 4 50))).1 = 0 :=
  ⟨_, _, rfl, by decide +kernel, rfl, by decide +kernel, by decide +kernel, by decide +kernel⟩
theorem witness_set_applied :
    (tSet 50).pidKept 0x745 = true ∧ (tSet 50).pidStages 0x745 = false ∧
    ((tSet 50).applyEntries [] [SetEntry.mk 0x745 (leBytes 4 50)] [SetEntry.mk 0x745 (leBytes 4 50)] 0 false).2.isNone = true := by decide +kernel

/-! ### STATE, the image, the log -/

/-- STATE with a target and the immediate flag. -/
def tState (s : State) (target imm : Nat) : State := tAsk s 0x30 0x11 (leBytes 1 target ++ leBytes 1 imm ++ leBytes 2 0)

theorem test_state_stop :
    (ran (.stateStop 2) (tState tRun 2 1) (fun t => t.dev.state == .stop && answer2 t == some (0, 0, 0)) &&
     ran (.stateStop 2) (tState tPin 2 0) (fun t => t.dev.state == .run && t.dev.drain == some .stop && answer2 t == none) &&
     ran (.stateStop 2) (tState (tUnit .halt) 2 0) (fun t => t.dev.state == .stop) &&
     ran (.stateStop 2) (tState { tRun with dev := { tRun.dev with drain := some .stop } } 2 0) (fun t => answer2 t == some (9, 1, 0))) = true := by
  decide +kernel
theorem test_state_halt :
    (ran (.stateHalt 2) (tState tRun 4 1) (fun t => t.dev.state == .halt && (data2 t).take 1 == [5]) &&
     ran (.stateHalt 2) (tState tPin 4 0) (fun t => t.dev.drain == some .halt)) = true := by decide +kernel
theorem test_state_run : ran (.stateRun 2) (tState { tUnit .stop with params := [(0x701, 0)] } 3 0)
    (fun t => t.dev.state == .run && t.dev.runMbx == some 2) = true := by decide +kernel
theorem test_state_test :
    (ran (.testEnter 2) (tState (tUnit .stop) 5 0) (fun t => t.dev.sub == .test && answer2 t == some (0, 0, 0)) &&
     ran (.testEnter 2) (tState tRun 5 0) (fun t => answer2 t == some (9, 1, 0)) &&
     ran (.testLeave 2) (tState { tUnit .stop with dev := { (tUnit .stop).dev with sub := .test } } 6 0) (fun t => t.dev.sub == .none) &&
     ran (.stateRestart 2) (tState (tUnit .stop) 7 0) (fun t => t.flt.awaiting == [Awaiting.mk 0 false 4 (some 2) 400000])) = true := by decide +kernel
theorem witness_state :
    (tState tRun 2 1).stateRequest 2 = some (2, true) ∧ (tState tPin 4 0).stateRequest 2 = some (4, false) ∧
    (tState { tUnit .stop with params := [(0x701, 0)] } 3 0).runNotReady = false ∧ (tUnit .stop).subNow = .none ∧ tRun.sec.debug = 0 := by
  decide +kernel

/-- A word and a bit with values, a force on each input. -/
def tImg : State := { tUnit .run with params := [(0x618, 1)], sram := writePts [] [(0x500002, 77), (0x400009, 1)], img := { Image.init with forces := [(0x000001, 1)] } }

theorem test_imgrd :
    (ran (.imgrd 2) (tAsk tImg 0x40 0x11 (leBytes 4 0x500002 ++ leBytes 2 1 ++ leBytes 2 0)) (fun t => (data2 t).drop 16 == leBytes 2 77) &&
     ran (.imgrd 2) (tAsk tImg 0x40 0x11 (leBytes 4 0x400008 ++ leBytes 2 3 ++ leBytes 2 0)) (fun t => (data2 t).drop 16 == [2])) = true := by
  decide +kernel
theorem test_force :
    (ran (.force 2) (tAsk tImg 0x41 0x11 (leBytes 1 1 ++ leBytes 1 0 ++ leBytes 2 1 ++ leBytes 4 0x300002 ++ leBytes 4 9))
       (fun t => t.img.forces == [(1, 1), (0x300002, 9)] && answer2 t == some (0, 0, 0)) &&
     ran (.force 2) (tAsk tImg 0x41 0x11 (leBytes 1 2 ++ leBytes 1 0 ++ leBytes 2 1 ++ leBytes 4 1 ++ leBytes 4 0)) (fun t => t.img.forces == []) &&
     ran (.force 2) (tAsk tImg 0x41 0x11 (leBytes 4 3)) (fun t => t.img.forces == [] && data2 t == leBytes 4 0)) = true := by decide +kernel
theorem witness_force : tImg.pv 0x618 ≠ 0 ∧ tImg.dev.role ≠ .primary ∧ forceable 0x300002 = true ∧ forceable 1 = true := by decide +kernel

/-- Two records in the log. -/
def tLog : State := { tUnit .run with nvm := { Nvm.init with logSeq := 2, logRing := [LogRec.mk 2 0x20 0 [] 0 0 false, LogRec.mk 1 0x20 0 [] 0 0 false] } }

theorem test_logrd :
    (ran (.logrd 2) (tAsk tLog 0x60 0x11 (leBytes 4 3 ++ leBytes 2 5 ++ leBytes 2 0)) (fun t => answer2 t == some (0, 0, 0) && leAt (data2 t) 4 2 == 0) &&
     ran (.logrd 2) (tAsk tLog 0x60 0x11 (leBytes 4 3 ++ leBytes 2 64 ++ leBytes 2 0)) (fun t => answer2 t == some (9, 1, 0))) = true := by decide +kernel

/-! ### Pair commands, update -/

theorem test_stby_status : ran (.stbyStatus 2) (tAsk (tUnit .run) 0x90 0x11 []) (fun t => answer2 t == some (0, 0, 0) && (data2 t).length == 16) = true := by
  decide +kernel

/-- A unit of a pair: its role, the link up, the copy made. -/
def tPair (role : Role) (st : DevState) : State := { tUnit st with
  params := [(0xE00, 1)], dev := { (tUnit st).dev with role := role },
  stby := { StbyState.init with lane0 := true, lane1 := true, linkUp := true, sync := 2, copyDone := true, epoch := 3, partnerEpoch := 4 } }

theorem test_stby_join :
    (ran (.stbyJoin 2) (tAsk (tPair .solo .stop) 0x91 0x11 []) (fun t => t.stby.joining && answer2 t == some (0, 0, 0)) &&
     ran (.stbyJoin 2) (tAsk (tPair .primary .stop) 0x91 0x11 []) (fun t => answer2 t == some (9, 0xB, 0))) = true := by decide +kernel
theorem test_stby_switch : ran (.stbySwitch 2) (tAsk (tPair .primary .run) 0x92 0x11 (leBytes 4 1000))
    (fun t => t.stby.switchAt == some 2000000 && data2 t == leBytes 8 2000000) = true := by decide +kernel
theorem test_stby_leave :
    (ran (.stbyLeave 2) (tAsk (tPair .primary .run) 0x93 0x11 []) (fun t => t.dev.role == .solo && t.dev.state == .run) &&
     ran (.stbyLeave 2) (tAsk (tPair .standby .run) 0x93 0x11 []) (fun t => t.dev.role == .solo && t.dev.state == .stop) &&
     ran (.stbyLeave 2) (tAsk (tUnit .run) 0x93 0x11 []) (fun t => answer2 t == some (9, 0xB, 0))) = true := by decide +kernel
theorem witness_pair_commands :
    (tPair .primary .run).switchStatus = 0 ∧ (tPair .primary .run).releaseInstant (1000000 + 1000 * 1000) = some 2000000 := by decide +kernel

/-- The manifest of an image of 512 bytes (Table SEC-4). -/
def tImage (secVer : Nat) : List Byte :=
  leBytes 4 0x4D465753 ++ leBytes 2 1 ++ leBytes 2 secVer ++ leBytes 4 77 ++ leBytes 2 0 ++ leBytes 2 0 ++ leBytes 4 512 ++ leBytes 492 0

/-- An update at a stage. -/
def tUpd (st : DevState) (stage : UpdStage) (f : Update → Update) : State := { tUnit st with
  upd := f { Update.init with stage := stage, lockSession := some 0x11, len := 512 } }

theorem test_upd_begin :
    (ran (.updBegin 2) (tAsk (tUnit .stop) 0x70 0x11 (leBytes 4 512)) (fun t => t.upd.stage == .download && t.upd.len == 512 && answer2 t == some (0, 0, 0)) &&
     ran (.updBegin 2) (tAsk (tUpd .stop .download id) 0x70 0x11 (leBytes 4 512)) (fun t => answer2 t == some (9, 1, 0))) = true := by decide +kernel
theorem test_upd_data : ran (.updData 2) (tAsk (tUpd .stop .download id) 0x71 0x11 (leBytes 4 0 ++ tImage 1))
    (fun t => t.upd.staged.length == 512 && t.upd.verifying) = true := by decide +kernel
theorem test_upd_verified :
    (ran (.updVerified ⟨true, true⟩) (tUpd .stop .download (fun u => { u with staged := tImage 1, verifying := true }))
       (fun t => t.upd.stage == .verified && t.upd.newVersion == 77 && t.upd.newSecVer == 1) &&
     ran (.updVerified ⟨false, true⟩) (tUpd .stop .download (fun u => { u with staged := tImage 1, verifying := true }))
       (fun t => t.upd.stage == .none && t.upd.result == 4)) = true := by decide +kernel
theorem test_upd_timeout : ran .updDataTimeout { tUpd .stop .download id with clk := { (tUnit .stop).clk with ticks := 60 * secTicks } }
    (fun t => t.upd.stage == .none && t.upd.reason == 9) = true := by decide +kernel
theorem test_upd_status : ran (.updStatus 2) (tAsk (tUpd .stop .verified (fun u => { u with staged := tImage 1 })) 0x73 0x11 [])
    (fun t => answer2 t == some (0, 0, 0) && leAt (data2 t) 4 4 == 512) = true := by decide +kernel

/-- UPD_ACTIVATE with a fresh hold-up measurement. -/
def tUpdAct : State :=
  let s := tAsk (tUpd .stop .verified id) 0x72 0x11 []
  { s with params := [(0x789, 1), (0x78A, 900000)] }

theorem test_upd_activate : ran (.updActivate 2 5000) tUpdAct (fun t => t.upd.stage == .activating && t.upd.jN == 1 &&
    t.nvm.jobs == [.update 2049]) = true := by decide +kernel
theorem test_upd_done : ran .updActivationDone { tUpd .stop .activating id with nvm := { Nvm.init with jobs := [.update 1] } }
    (fun t => t.upd.stage == .activated && t.nvm.jobs == []) = true := by decide +kernel
theorem test_handover : ran .handover (tUpd .stop .activated id) (fun t => t.hp.stopped && t.upd.handover == 1000000) = true := by decide +kernel
theorem test_handover_complete : ran .handoverComplete
    { tUpd .stop .activated (fun u => { u with newVersion := 77, newFormat := 1 }) with hp := { HostPort.init with stopped := true } }
    (fun t => t.upd.stage == .trial && t.hp.fwver == 77 && !t.hp.stopped) = true := by decide +kernel
theorem test_handover_nogap : ran .handoverNogap { tUpd .stop .activated (fun u => { u with jK := 1 }) with
    clk := { (tUnit .stop).clk with ticks := 60 * secTicks } } (fun t => t.upd.stage == .reverting && t.nvm.jobs == [.update 1025]) = true := by
  decide +kernel

/-- A trial whose health has held since `t0`. -/
def tTrial (t0 : Option Nat) : State := { tUpd .stop .trial (fun u => { u with healthyFrom := t0, confirmBy := 10 * secTicks, handover := 5 }) with
  clk := { (tUnit .stop).clk with ticks := 2 * secTicks }, sec := { SecState.init with fwSec := 3 },
  nvm := { Nvm.init with setCopy := 0 }, wdg := { Watchdog.init with serviced := true } }

theorem test_trial :
    (ran .trialConfirm (tTrial none) (fun t => t.upd.healthyFrom == some (2 * secTicks)) &&
     ran .trialConfirm (tTrial (some 0)) (fun t => t.upd.stage == .none && t.upd.result == 1 && t.sec.fuses == 3) &&
     ran .trialConfirm { tTrial (some 0) with wdg := Watchdog.init } (fun t => t.upd.healthyFrom == none && t.upd.stage == .trial)) = true := by
  decide +kernel
theorem test_confirm_timeout : ran .confirmTimeout { tTrial none with clk := { (tUnit .stop).clk with ticks := 10 * secTicks } }
    (fun t => t.upd.stage == .reverting && t.upd.reason == 1) = true := by decide +kernel
theorem test_revert : ran .revertDone { tUpd .stop .reverting (fun u => { u with handed := true, oldVersion := 7 }) with
    nvm := { Nvm.init with jobs := [.update 1] } } (fun t => t.upd.stage == .none && t.upd.result == 2 && t.hp.fwver == 7 && bit t.flt.sticky 28) =
    true := by decide +kernel
theorem witness_update :
    (tUpd .stop .verified id).updServed = true ∧ (tUpd .stop .verified id).editBusy = false ∧ tUpdAct.holdupFresh = true ∧
    (tUpd .stop .activated id).handoverGap = true ∧ (tUpd .stop .activated id).coresRun = true ∧ (tTrial none).trialHealthy = true ∧
    (tUpd .stop .download id).imageStatus (tImage 1) ⟨true, true⟩ = 0 ∧
    ({ tUpd .stop .activating id with nvm := { Nvm.init with jobs := [.update 1] } } : State).updLastRow = some 0 := by decide +kernel

/-- A scarf frame in sequence. -/
def tHdr : ScarfHdr := { seq := 1, peg := 9, crcOk := true }

theorem test_upd_offer :
    (ran (.updOffer tHdr 0 (tImage 1) ⟨true, true⟩) (tPair .standby .run) (fun t => t.upd.stage == .verified && t.upd.staged == tImage 1) &&
     ran (.updOffer tHdr 0 [] ⟨true, true⟩) { tPair .standby .run with upd := { Update.init with stage := .verified, len := 512 } }
       (fun t => t.upd.stage == .activating && t.upd.jState == 1)) = true := by decide +kernel
theorem test_upd_verdict :
    (ran (.updVerdict tHdr 0 true) (tPair .primary .run) (fun t => t.upd.peer == 1) &&
     ran (.updVerdict tHdr 2 true) { tPair .primary .run with upd := { Update.init with stage := .activating, peer := 3, len := 512 } }
       (fun t => t.upd.jState == 1 && t.upd.peer == 0)) = true := by decide +kernel
theorem witness_pair :
    (tPair .standby .run).scarfGood tHdr = true ∧ ((tPair .standby .run).scarfTaken tHdr).dev.role = .standby ∧
    leAt (tImage 1) 0xC 2 = ((tPair .standby .run).scarfTaken tHdr).sec.fwPair := by decide +kernel

/-! ### Ownership, policy, debug, tamper -/

/-- A token (Table SEC-7). -/
def tToken (kind dur newOwner signer : Nat) (chal sig : List Byte) : List Byte :=
  leBytes 4 0x4E544B53 ++ (leBytes 1 kind ++ (leBytes 3 0 ++ (leBytes 16 (Config.deviceId % 2 ^ 128) ++ (leBytes 16 signer ++ (chal ++
    (leBytes 4 dur ++ (leBytes 4 0 ++ (leBytes 16 newOwner ++ sig))))))))

theorem tToken_read (kind dur newOwner signer : Nat) (chal sig : List Byte) (h : chal.length = 32) :
    readToken (tToken kind dur newOwner signer chal sig) =
      { magic := 0x4E544B53, kind := kind % 256, device := Config.deviceId % 2 ^ 128, signer := signer % 2 ^ 128, challenge := chal,
        dur := dur % 2 ^ 32, newOwner := newOwner % 2 ^ 128, zeros := true } := by
  have h1 : chal.drop 36 = [] := List.drop_eq_nil_of_le (by omega)
  have h2 : chal.drop 40 = [] := List.drop_eq_nil_of_le (by omega)
  simp [readToken, tToken, leAt, List.drop_append, drop_leBytes, leNat_leBytes, h, h1, h2]

/-- A unit whose owner is known, session 0x11 holding a challenge, a request with an op. -/
def tOwn (owner : Option (List Byte)) (opcode op : Nat) (rest : List Byte) : State :=
  let s := tAsk (tUnit .stop) opcode 0x11 (leBytes 1 op ++ leBytes 3 0 ++ rest)
  { s with sec := { s.sec with owner := owner, challenges := [Challenge.mk 1 (leBytes 32 5) 400000] } }

/-- Tokens of kinds 1 to 4 by the owner pass, for a new owner where there is one. -/
theorem tToken_passes (s : State) (kinds : List Nat) (kind dur new : Nat)
    (hc : (s.challengeOf 0x11).map Challenge.value = some (leBytes 32 5)) (ho : s.sec.ownerKeyId = keyIdOf [1#8]) (hk : kind ∈ kinds)
    (hn : new % 2 ^ 128 = new) (h : (kind, dur) ∈ [(1, 0), (2, 0), (3, 60), (4, 60)]) :
    s.tokenStatus 0x11 (readToken (tToken kind dur new (keyIdOf [1#8]) (leBytes 32 5) (leBytes 96 0))) kinds new true = 0 := by
  rw [tToken_read _ _ _ _ _ _ (by simp), hn]
  obtain ⟨c, hc, hv⟩ := Option.map_eq_some_iff.mp hc
  simp only [List.mem_cons, Prod.mk.injEq, List.not_mem_nil, or_false] at h
  obtain ⟨rfl, rfl⟩ | ⟨rfl, rfl⟩ | ⟨rfl, rfl⟩ | ⟨rfl, rfl⟩ := h <;> simp [State.tokenStatus, hc, hv, ho, hk, keyIdOf]

/-- Requests whose token passes: TRANSFER, RELEASE, UNLOCK and DEBUG. -/
theorem witness_transfer :
    let rest := tToken 1 0 (keyIdOf (leBytes 97 7)) (keyIdOf [1#8]) (leBytes 32 5) (leBytes 96 0)
    let s := tOwn (some [1#8]) 0x80 2 (leBytes 196 7 ++ rest)
    ∃ r, s.ownRequest 2 0x80 2 = some r ∧ r.session = 0x11 ∧ (r.payload.drop 4).take 97 = leBytes 97 7 ∧
      s.tokenStatus r.session (readToken (r.payload.drop 200)) [1] (keyIdOf (leBytes 97 7)) true = 0 := by
  exact ⟨_, rfl, rfl, rfl, tToken_passes (tOwn (some [1#8]) 0x80 2 []) [1] 1 0 _ (by decide +kernel) rfl (by simp) (Nat.mod_mod _ _) (by simp)⟩
theorem witness_tokens (op kind dur : Nat) (h : (op, kind, dur) ∈ [(3, 2, 0), (3, 3, 60), (4, 4, 60)]) :
    let rest := tToken kind dur 0 (keyIdOf [1#8]) (leBytes 32 5) (leBytes 96 0)
    let s := tOwn (some [1#8]) (if kind = 2 then 0x80 else 0x81) op rest
    ∃ r, s.ownRequest 2 (if kind = 2 then 0x80 else 0x81) op = some r ∧ r.session = 0x11 ∧
      s.tokenStatus r.session (readToken (r.payload.drop 4)) [kind] 0 true = 0 := by
  simp only [List.mem_cons, Prod.mk.injEq, List.not_mem_nil, or_false] at h
  obtain ⟨rfl, rfl, rfl⟩ | ⟨rfl, rfl, rfl⟩ | ⟨rfl, rfl, rfl⟩ := h
  · exact ⟨_, rfl, rfl, tToken_passes (tOwn (some [1#8]) 0x80 3 []) [2] 2 0 0 (by decide +kernel) rfl (by simp) rfl (by simp)⟩
  · exact ⟨_, rfl, rfl, tToken_passes (tOwn (some [1#8]) 0x81 3 []) [3] 3 60 0 (by decide +kernel) rfl (by simp) rfl (by simp)⟩
  · exact ⟨_, rfl, rfl, tToken_passes (tOwn (some [1#8]) 0x81 4 []) [4] 4 60 0 (by decide +kernel) rfl (by simp) rfl (by simp)⟩
theorem test_challenge :
    (ran (.challenge 2) (tOwn none 0x80 0 []) (fun t => t.sec.challenges.map Challenge.slot == [1] && t.sec.drawn == 1) &&
     ran (.challengeExpiry 1) { tOwn none 0x80 0 [] with clk := { (tUnit .stop).clk with ticks := 700 * secTicks } }
       (fun t => t.sec.challenges == [])) = true := by decide +kernel
theorem test_claim :
    (ran (.claim 2 true) (tOwn none 0x80 1 (leBytes 196 7)) (fun t => t.sec.change.map OwnerChange.owner == some (some (leBytes 97 7)) &&
       t.sec.challenges == [] && t.img.commits.length == 1) &&
     ran (.claim 2 true) (tOwn (some [1#8]) 0x80 1 (leBytes 196 7)) (fun t => answer2 t == some (9, 3, 0)) &&
     ran (.ownRelease 2 true) (tOwn none 0x80 3 (leBytes 192 0)) (fun t => answer2 t == some (9, 4, 0))) = true := by decide +kernel
theorem witness_claim :
    (tOwn none 0x80 1 (leBytes 196 7)).ownState = true ∧ (tOwn none 0x80 1 (leBytes 196 7)).ownLate = 0 ∧
    (tOwn none 0x80 1 (leBytes 196 7)).challengeOf 0x11 ≠ none := by decide +kernel
theorem test_lock : ran (.lock 2) (tOwn (some [1#8]) 0x81 2 []) (fun t => t.sec.lockSet && answer2 t == some (0, 0, 0)) = true := by decide +kernel
theorem test_unlock_expiry : ran .unlockExpiry { tOwn (some [1#8]) 0x81 2 [] with sec := { SecState.init with lockSet := true, lockOpenUntil := some 5 } }
    (fun t => t.sec.lockOpenUntil == none && t.sec.lockSet) = true := by decide +kernel

/-- A policy of no entries for this owner, with a serial (R411). -/
def tPolicy (serial : Nat) : List Byte :=
  (leBytes 4 0x4C4F5053 ++ leBytes 2 1 ++ leBytes 2 0 ++ leBytes 4 serial ++ leBytes 24 0) ++ (leBytes 16 (keyIdOf [1#8]) ++ leBytes 108 0)

theorem witness_policy : (tOwn (some [1#8]) 0x81 1 (tPolicy 7)).policyOk (tPolicy 7) = true := by
  have h1 : leAt (tPolicy 7) 36 16 = keyIdOf [1#8] := (leAt_leBytes _ _ _ _ _ (by simp)).trans (Nat.mod_mod _ _)
  have h2 : (tOwn (some [1#8]) 0x81 1 (tPolicy 7)).sec.ownerKeyId = keyIdOf [1#8] := rfl
  have h3 : (decide ((tPolicy 7).length ≤ 1888) && leAt (tPolicy 7) 0 4 == 0x4C4F5053 && leAt (tPolicy 7) 4 2 == 1 &&
    decide (policyCount (tPolicy 7) ≤ 16) && (tPolicy 7).length == 64 + 108 * policyCount (tPolicy 7) + 96 && leAt (tPolicy 7) 20 16 == 0 &&
    leAt (tPolicy 7) 17 3 == 0 && leAt (tPolicy 7) 52 12 == 0 && policyCount (tPolicy 7) == 0) = true := by decide +kernel
  simp only [Bool.and_eq_true, beq_iff_eq] at h3
  simp only [State.policyOk, h1, h2, h3, beq_self_eq_true, Bool.and_true, Bool.true_or, List.range_zero, List.all_nil]
  decide
theorem test_debug_end :
    (ran (.debugEnd 2) { tOwn none 0x81 5 [] with sec := { SecState.init with debug := 1 } } (fun t => t.sec.debug == 0) &&
     ran .debugExpiry { tUnit .stop with sec := { SecState.init with debug := 1, debugUntil := 400000 } } (fun t => t.sec.debug == 0)) = true := by
  decide +kernel
theorem test_attest : ran (.attest 2) (tAsk (tUnit .stop) 0x82 0x11 (leBytes 32 3)) (fun t => answer2 t == some (0, 0, 0) &&
    (data2 t).take 2 == leBytes 2 1 && t.sec.drawn == 1) = true := by decide +kernel
theorem test_tamper : ran (.tamperTrip 1) tRun (fun t => t.sec.srxZero && t.sec.tamperLast == 2 && bit t.flt.sticky 25) = true := by decide +kernel
theorem test_tamper_zeroise : ran .tamperZeroise { tUnit .stop with sec := { SecState.init with tamperRec := some 0 } }
    (fun t => t.sec.nvmZero && t.sec.tamperRec == none) = true := by decide +kernel
theorem witness_tamper : ({ tUnit .stop with sec := { SecState.init with tamperRec := some 0 } } : State).resetReady 0 = true ∧
    tRun.pwr.sec = true := by decide +kernel

/-! ### Hot standby -/

theorem test_link :
    (ran .scarfLinkUp { tUnit .stop with params := [(0xE05, 0)] } (fun t => t.stby.linkUp && t.stby.lane0) &&
     ran (.scarfLaneLockLoss 1) (tPair .solo .stop) (fun t => t.stby.lane0 && !t.stby.lane1) &&
     ran .scarfLinkLost { tPair .primary .run with clk := { (tUnit .run).clk with ticks := 500000 } } (fun t => !t.stby.linkUp && t.dev.role == .solo) &&
     ran .scarfHeartbeatSend (tPair .primary .run) (fun t => t.stby.tx.map ScarfTx.kind == [1] && t.stby.txSeq == 1)) = true := by decide +kernel
theorem test_heartbeat_frame : ran (.scarfHeartbeat tHdr 7 1 2 9) (tPair .primary .run) (fun t => t.stby.partnerTime == 7 && t.stby.partnerEpoch == 9 &&
    t.stby.rxSeq == some 1) = true := by decide +kernel
theorem test_leave :
    (ran (.leave tHdr 0) (tPair .standby .run) (fun t => t.dev.role == .solo && t.dev.state == .run && t.stby.epoch == 5) &&
     ran (.leave tHdr 0) { tPair .standby .run with stby := { (tPair .standby .run).stby with sync := 1 } } (fun t => t.dev.state == .stop) &&
     ran (.leave tHdr 0) (tPair .primary .run) (fun t => t.dev.role == .solo && t.stby.sync == 0)) = true := by decide +kernel
theorem test_bad_frame : ran (.ctrlState { tHdr with crcOk := false } 4 0) (tPair .standby .run) (fun t => t.pn 0xE0A == 1 && t.stby.rxSeq == none) =
    true := by decide +kernel

/-- The pairing record of a partner in a state. -/
def tHello (part state unit : Nat) : Hello :=
  { part := part, pairVer := 0, ownerKeyId := 0, progHash := 0, netHash := 0, unit := unit, state := state, epoch := 8 }

theorem test_hello :
    (ran (.hello tHdr (tHello 0x1C40 4 0)) (tPair .solo .stop) (fun t => t.dev.role == .standby && t.stby.partnerEpoch == 8) &&
     ran (.hello tHdr (tHello 0x1C30 4 0)) (tPair .solo .stop) (fun t => t.dev.role == .solo && t.stby.refusal == 1)) = true := by decide +kernel
theorem witness_hello :
    let t := (tPair .solo .run).scarfTaken tHdr
    t.mayPair = true ∧ (match t.negotiate (tHello 0x1C40 3 0) with
      | some (.ok .primary) => t.primaryBad.isSome
      | _ => false) = true := by decide +kernel

/-- A unit that may be primary: the program's one context fits, and a segment is configured. -/
def tPrim : State := { tPair .solo .run with
  prog := { Prog.init with
    slot := 0,
    active := some { Program.empty with
      ctxs := [{ tEntry with period := 10000, pegOffset := 9000, netCount := 0, codeLen := 1 }], codeFirst := 16, code := [0xD4000000#32] } },
  net := { NetState.init with
    cfg := some { hash := 0, ports := PortsCfg.mk 3 0 0 0 0 0 0 0 0, segs := [SegCfg.mk 1 1 1 0 1000 0 500 0 0], nodes := [] } } }

theorem witness_primary : (tPrim.scarfTaken tHdr).primaryBad = none := by decide +kernel
theorem test_primary : ran (.hello tHdr (tHello 0x1C40 3 0)) tPrim (fun t => t.dev.role == .primary && t.stby.sync == 1) = true := by decide +kernel

/-- A standby with a page of a delta staged and a delta acknowledged. -/
def tStby : State := { tPair .standby .run with
  stby := { (tPair .standby .run).stby with
    staged := [DeltaPg.mk 0x5000 [1#8, 2#8] []], acked := [Delta.mk 7 1 900000 [DeltaPg.mk 0x5000 (leBytes 4096 77) (leBytes 256 1)] [3] []] } }

theorem test_delta_page :
    (ran (.deltaPage tHdr 0x5001 [3] []) tStby (fun t => t.stby.staged.length == 2) &&
     ran (.deltaMask tHdr 0x5000 [9]) tStby (fun t => t.stby.staged == [DeltaPg.mk 0x5000 [1#8, 2#8] [9#8]])) = true := by decide +kernel
theorem test_delta_end :
    (ran (.deltaEnd tHdr ⟨1, 1, 5, [], [], (crc32c [1#8, 2#8]).toNat⟩) tStby (fun t => t.stby.staged == [] && t.stby.acked.length == 2 &&
       t.stby.tx.map ScarfTx.kind == [0x13]) &&
     ran (.deltaEnd tHdr ⟨1, 2, 5, [], [], 0⟩) tStby (fun t => t.stby.tx.map ScarfTx.kind == [0x14] && t.stby.sync == 1)) = true := by decide +kernel
theorem test_delta_apply : ran .deltaApply tStby (fun t => t.committed 0x500000 == 77 && t.img.pegSeq == 7 && t.stby.acked == []) = true := by
  decide +kernel
theorem test_drop_frame : ran (.dropFrame tHdr 1 2 6) tStby (fun t => (t.ctx 1).drops == 6 && (t.ctx 1).consec == 1) = true := by decide +kernel

/-- A primary with a delta outstanding and its commit waiting. -/
def tOwes : State := { tPair .primary .run with
  stby := { (tPair .primary .run).stby with outstanding := [Outstanding.mk 9 55 300000] },
  img := { Image.init with commits := [{ tCommit with seq := 9, acked := false }] } }

theorem test_ack : ran (.ack tHdr 55) tOwes (fun t => t.stby.outstanding == [] && t.img.commits.map Commit.acked == [true]) = true := by decide +kernel
theorem test_nak : ran (.nak tHdr 2) tOwes (fun t => t.stby.sync == 1 && t.pn 0xE0C == 1) = true := by decide +kernel
theorem test_ack_deadline : ran .ackDeadline tOwes (fun t => t.pn 0xE0B == 1) = true := by decide +kernel
theorem test_copy :
    (ran (.resync tHdr) { tStby with sram := writePts [] [(0x500000, 9)] } (fun t => t.committed 0x500000 == 0 && t.stby.acked == []) &&
     ran (.copyPage tHdr 0x5000 6 [8]) tStby (fun t => t.committed 0x500000 == 8 && t.stby.copied == [(0x5000, 6)]) &&
     ran (.copyCells tHdr [CellRec.mk 2 3 1]) tStby (fun t => tget false t.img.cells.edges 192 && !tget false t.img.cells.edges 193)) = true := by decide +kernel
theorem test_copy_end : ran (.copyEnd tHdr 0 0) tStby (fun t => t.stby.copyDone && t.stby.progress == 1000 && t.img.commits.length == 1) = true := by
  decide +kernel
theorem witness_standby :
    tStby.scarfGood tHdr = true ∧ (tStby.scarfTaken tHdr).stby.stagedFrames < 256 ∧ 0x5000 ∈ (tStby.scarfTaken tHdr).imagePages ∧
    (tOwes.scarfTaken tHdr).dev.drain = none ∧ (tOwes.scarfTaken tHdr).stby.owesDone = false ∧ tStby.prog.armed = none := by decide +kernel
theorem test_follow :
    (ran (.ctrlState tHdr 3 500000) (tPair .standby .run) (fun t => t.dev.state == .stop) &&
     ran (.ctrlState tHdr 3 9000000) (tPair .standby .run) (fun t => t.stby.follow == some (9000000, 3) && t.dev.state == .run) &&
     ran (.ctrlForce tHdr [(5, 1)]) (tPair .standby .run) (fun t => t.img.forces == [(5, 1)]) &&
     ran (.switch tHdr 9000000) (tPair .standby .run) (fun t => t.stby.switchAt == some 9000000) &&
     ran (.switchDone tHdr) (tPair .primary .run) (fun t => !t.stby.holdEmit)) = true := by decide +kernel

/-- A planned switchover whose instant has come. -/
def tSwitch (role : Role) : State := { tPair role .run with stby := { (tPair role .run).stby with switchAt := some 1000000 } }

theorem test_switch_instant :
    (ran .switchInstant (tSwitch .primary) (fun t => t.dev.role == .standby && t.stby.switchAt == none) &&
     ran .switchInstant (tSwitch .standby) (fun t => t.dev.role == .solo && t.dev.state == .stop)) = true := by decide +kernel

/-- A standby that knows the owner and runs the program. -/
def tOffered : State := { tPair .standby .run with
  sec := { SecState.init with owner := some [1#8] }, prog := { Prog.init with active := some tProg, slot := 0 } }

/-- An offered edit passes on the standby: its base is the program in force. -/
theorem witness_edit_offer :
    ∃ k, (tOffered.scarfTaken tHdr).checkContainer true [2, 3] (tBox 3 0 (keyIdOf [1#8])) 368 ⟨true, true⟩ = .ok k ∧
      (k.newProg.version == 9) = true :=
  checkContainer_ok (tOffered.scarfTaken tHdr) true [2, 3] _ 368 (fun k => k.newProg.version == 9) (by decide +kernel) (by decide +kernel)
    (by decide +kernel) (tBox_key _ _ _) (by decide +kernel)
theorem test_edit_offer_bad : ran (.editOffer tHdr 0 0 (tBox 3 0 0) ⟨false, true⟩) (tPair .standby .run) (fun t => t.prog == (tPair .standby .run).prog &&
    t.stby.tx.length == 1) = true := by decide +kernel
theorem test_edit_verdict :
    (ran (.editVerdict tHdr 9 0) { tAsk (tPair .primary .run) 0x59 0x11 [] with prog := { Prog.init with waitMbx := some 2, staging := .checking } }
       (fun t => (answer2 t).map Prod.fst == some 9 && t.prog.lastStatus == 0x1E) &&
     ran (.editVerdict tHdr 9 0) { tPair .primary .run with prog := { Prog.init with armed := tArmed.prog.armed, staging := .armed } }
       (fun t => t.prog.armed == none)) = true := by decide +kernel

/-! ### Field bays -/

/-- Bay A with channel 2 in a mode, parameters of its own, the channel in a state. -/
def tBay (mode : Nat) (par : List (Nat × Int)) (f : Chan → Chan) : State := { tUnit .run with
  params := (bayPid 0 (chanOff 2 0), (mode : Int)) :: par.map (fun e => (e.1 + 0x1000, e.2)),
  bays := [(0, { Bay.init with
    par := (chanOff 2 0, (mode : Int)) :: par, cfgLost := false, resetSeen := false, cfgCopy := 0, timeSet := true, timeBase := 1000000,
    timeTick := 400000, silent := false, lastFresh := 400000, chans := [(2, f { Chan.init with inSafe := false })] })] }

/-- The same with a cycle under way. -/
def tCycle (e : EngBay) : State := { tBay 5 [] id with eng := { EngState.init with bays := [(0, e)] } }

/-- Channel 2 of bay A afterwards. -/
def ch2 (t : State) : Chan := (t.bay 0).chan 2

theorem test_bay_cycle :
    (ran (.bayCycleStart 0) (tBay 5 [] id) (fun t => (t.engBay 0).lastCycle == some (cycleOf 1000000) &&
       (t.engBay 0).cmds.length == 16 && (t.engBay 0).msg.map CycleMsg.c == some 1000000) &&
     ran (.bayCycleStart 0) (tCycle { EngBay.init with lastCycle := some 1000000 }) (fun t => (t.engBay 0).msg == none)) = true := by
  decide +kernel

/-- A cycle-start message and a command frame of the cycle before. -/
def tMsg : CycleMsg := CycleMsg.mk 39 975000 390000 true false
/-- See `tMsg`. -/
def tCmd : CmdFrame := CmdFrame.mk 39 975000 true (some 1) none false

theorem test_cycle_message :
    (ran (.cycleStartMessage 0 []) (tCycle { EngBay.init with msg := some tMsg })
       (fun t => (t.engBay 0).msg == none && (t.bay 0).fresh && (t.bay 0).timeBase == 975000 && (t.bay 0).timeTick == 390000) &&
     ran (.cycleStartMessage 0 [1#8]) (tCycle { EngBay.init with msg := some tMsg })
       (fun t => !(t.bay 0).fresh && t.pn (bayPid 0 0x12) == 1)) = true := by decide +kernel
theorem test_command_frame :
    (ran (.commandFrame 0 2 []) (tCycle { EngBay.init with cmds := [(2, tCmd)] })
       (fun t => (ch2 t).applied == 1 && (t.engBay 0).cmds == []) &&
     ran (.commandFrame 0 2 [0#8, 0#8, 4#8]) (tCycle { EngBay.init with cmds := [(2, tCmd)] })
       (fun t => (ch2 t).applied == 0 && t.pn (bayPid 0 0x12) == 1)) = true := by decide +kernel
theorem test_command_next : ran (.commandFrame 0 2 [])
    (tCycle { EngBay.init with cmds := [(2, { tCmd with cur := none, next := some (1, 50) })] })
    (fun t => (ch2 t).applied == 0 && (ch2 t).next == some (1025000, 1)) = true := by decide +kernel
theorem test_apply_next : ran (.applyNext 0 2) (tBay 5 [] (fun c => { c with next := some (900000, 1) }))
    (fun t => (ch2 t).applied == 1 && (ch2 t).next == none) = true := by decide +kernel
theorem test_latch : ran (.bayLatch 0 [⟨0, 0, 0, 0⟩, ⟨0, 0, 0, 0⟩, ⟨1300, 5, 0, 0⟩] 2300 251) (tBay 1 [] id)
    (fun t => (t.bay 0).latched == some (cycleOf 1000000) && (t.engBay 0).samples.length == 16 && (ch2 t).reading.current == 5 &&
      (t.bay 0).lp == 2300 && (t.bay 0).temp == 251) = true := by decide +kernel

/-- Sample frames of every channel. -/
def tSamples : State := tCycle { EngBay.init with
  lastCycle := some 975000, lost := false,
  samples := (List.range 16).map (fun n => (n, Sample.mk 39 false true false false 7 0 0 true)) }

/-- The frame of lane 3 damaged on its way. -/
def tErr : List (Nat × List Byte) := [(3, [1#8])]

theorem test_sample_frames : ran (.sampleFrame 0 tErr) tSamples (fun t => (t.engBay 0).taken == some 975000 && (t.engBay 0).samples == [] &&
    tfind (t.engBay 0).lanes 3 == some (Lane.mk 1 0 false) && tfind (t.engBay 0).flags 4 == some (false, true) &&
    t.pn (bayPid 0 0x12) == 1 && t.committed (tSamples.bayN 0 5 + 4) == 1 && t.committed (tSamples.bayN 0 5 + 3) == 0) = true := by
  decide +kernel
theorem witness_sample :
    let e := tSamples.engBay 0
    (∃ l, e.lastCycle = some l ∧ e.taken ≠ some l) ∧ e.bayflt = false ∧ bit e.word 1 = false ∧ e.lost = false ∧ (∀ l ∈ e.lanes, l.2.fault = false) ∧
    (∀ n ∈ List.range (bayChannels tSamples.dev.part), ((tget Lane.init e.lanes n).count ((e.frame tErr n).bind id).isSome).fault = false) :=
  ⟨⟨_, rfl, by decide⟩, by decide +kernel⟩
theorem witness_cycle :
    bayExists (tBay 5 [] id).dev.part 0 = true ∧ (tBay 5 [] id).engineOn = true ∧ ((tBay 5 [] id).bay 0).runs = true ∧
    modeIsOut (((tBay 5 [] id).bay 0).mode 2) = true ∧ tget false (tBay 5 [] id).eng.restart 0 = false ∧
    (((tBay 5 [] id).bay 0).chan 2).aout.trimState = 0 ∧ tMsg.receive [] = some tMsg ∧ tMsg.receive [1#8] = none ∧
    tCmd.receive [] = some tCmd ∧ tCmd.receive [0#8, 0#8, 4#8] = none ∧
    ((tBay 5 [] id).bay 0).latched ≠ some (cycleOf (((tBay 5 [] id).bay 0).local_ 400000)) := by decide +kernel

/-- A result on lane 2. -/
def tStream : State := tCycle { EngBay.init with streams := [(2, Stream.mk 2 1 5 false false false 900000)] }

theorem test_stream :
    (ran (.streamFrame 0 2 []) tStream (fun t => (t.engBay 0).streams == [] && t.pn (bayPid 0 (modOff 0 5)) == 1 &&
       t.sram.read (dmaBase 0 0) == 5#8 && t.pn (bayPid 0 (modOff 0 7)) == 900000) &&
     ran (.streamFrame 0 2 [1#8]) tStream (fun t => t.pn (bayPid 0 (modOff 0 5)) == 0 && t.pn (bayPid 0 0x12) == 1)) = true := by
  decide +kernel
theorem witness_stream :
    modExists tStream.dev.part 0 0 = true ∧ tStream.pwr.sram = true ∧ tStream.pn (bayPid 0 (modOff 0 5)) < 4096 := by decide +kernel

theorem test_bay_ident :
    (ran (.bayIdent 0 []) (tBay 5 [] id) (fun t => (t.engBay 0).mgmt.map Mgmt.ty == some 0x11) &&
     ran (.bayIdent 0 [1#8]) (tBay 5 [] id) (fun t => (t.engBay 0).mgmt.map Mgmt.resp == some none && t.pn (bayPid 0 0x12) == 1)) = true := by
  decide +kernel
theorem test_cfg :
    (ran (.cfgWrite 0 4 [1, 2] []) (tBay 5 [] id) (fun t => (t.bay 0).feram.read (copyBase 1 + 5) == 2#8 &&
       (t.engBay 0).mgmt.map Mgmt.resp == some (some (mgmtFrame 0x12 1 [0#8]))) &&
     ran (.cfgRead 0 4 2 []) (tBay 5 [] id) (fun t => (t.engBay 0).mgmt.map Mgmt.resp == some (some (mgmtFrame 0x14 1 [0#8, 0#8, 0#8]))) &&
     ran (.diagRead 0 3 []) (tBay 5 [] id) (fun t => (t.engBay 0).mgmt.map Mgmt.ty == some 0x15) &&
     ran (.protClear 0 2 1 []) (tBay 5 [] (fun c => { c with dout := { c.dout with oc := true } })) (fun t => !(ch2 t).dout.oc) &&
     ran (.trimWrite 0 2 1 0 []) (tBay 16 [] id) (fun t => (ch2 t).aout.trimState == 1)) = true := by decide +kernel

/-- The CRC that commits the copy that is not newest; a request that arrives damaged. -/
theorem witness_cfg_commit : ∃ crc, (crc32 (copyBody ((tBay 5 [] id).bay 0).feram 1)).toNat = crc ∧ (tBay 5 [] id).engineOn = true ∧
    ((tBay 5 [] id).engBay 0).mgmt = none ∧ ((tBay 5 [] id).bay 0).runs = true ∧
    frameOk 0x9F 64 (flipBytes (mgmtFrame 0x11 1 []) [1#8]) = false := ⟨_, rfl, rfl, rfl, rfl, by decide +kernel⟩

/-- A request with its response on the way, its tag and how often it was sent. -/
def tMgmt (tag tries : Nat) : State :=
  tCycle { EngBay.init with lost := false, mgmt := some (Mgmt.mk 0x11 tag [] tries (some (mgmtFrame 0x11 1 [0#8, 7#8]))) }

theorem test_mgmt :
    (ran (.mgmtResponse 0 []) (tMgmt 1 0) (fun t => (t.engBay 0).mgmt == none && (t.engBay 0).lastResp == [0#8, 7#8]) &&
     ran (.mgmtResponse 0 []) (tMgmt 2 0) (fun t => (t.engBay 0).mgmt.map Mgmt.resp == some none) &&
     ran (.mgmtResponse 0 [1#8]) (tMgmt 1 0) (fun t => (t.engBay 0).mgmt.map Mgmt.resp == some none && t.pn (bayPid 0 0x12) == 1) &&
     ran (.mgmtTimeout 0 []) (tMgmt 1 3) (fun t => (t.engBay 0).mgmtFailed) &&
     ran (.mgmtTimeout 0 []) (tMgmt 1 0) (fun t => (t.engBay 0).mgmt.map Mgmt.tries == some 1)) = true := by
  decide +kernel
theorem witness_mgmt :
    (readMgmt (mgmtFrame 0x11 1 [0#8, 7#8])).2.1 = 1 ∧ frameOk 0x9F 64 (flipBytes (mgmtFrame 0x11 1 [0#8, 7#8]) [1#8]) = false ∧
    (tMgmt 1 0).engineOn = true ∧ (((tMgmt 1 0).setBay 0 { (tMgmt 1 0).bay 0 with inReset := true }).bay 0).runs = false := by decide +kernel
theorem test_diag_poll : ran .diagPoll (tBay 5 [] id) (fun t => t.eng.diagAt == 400000) = true := by decide +kernel

/-- Bay A answering, its last heartbeat at a tick. -/
def tHeard (at_ : Nat) : State := tCycle { EngBay.init with lost := false, wordAt := at_ }

theorem test_alive_word :
    (ran (.aliveStatusWord 0 0#16) (tHeard 0) (fun t => (t.engBay 0).word == 0xFE01 && (t.engBay 0).hb && (t.bay 0).hb) &&
     ran (.aliveStatusWord 0 0x80#16) (tHeard 0) (fun t => (t.engBay 0).word == 0 && (t.bay 0).hb)) = true := by decide +kernel
theorem test_bay_lost :
    (ran (.bayLost 0) (tHeard 0) (fun t => (t.engBay 0).lost && (t.engBay 0).bayflt) &&
     ran (.bayLost 0) (tHeard 399000) (fun t => !(t.engBay 0).lost)) = true := by decide +kernel
theorem witness_alive :
    ((tHeard 0).bay 0).statusWord true = 0xFE01 ∧ ((tHeard 0).engBay 0).hb = false ∧ ((tHeard 0).engBay 0).laneFault = false ∧
    ((tHeard 0).engBay 0).mgmt = none ∧ (tHeard 0).coresRun = true ∧ (tHeard 0).dev.state ≠ .boot := by decide +kernel

/-- Bay A a long time after its last frames. -/
def tLate : State := { tBay 5 [] id with clk := { (tUnit .run).clk with ticks := 100000000 } }

theorem test_silent :
    (ran (.baySilent 0) tLate (fun t => (t.bay 0).silent && t.pn (bayPid 0 0xF) == 1) &&
     ran (.laneSilent 0 2) tLate (fun t => (ch2 t).laneSilent) &&
     ran (.baySilent 0) (tBay 5 [] id) (fun t => !(t.bay 0).silent)) = true := by decide +kernel

/-- The clock of bay A lost since a tick. -/
def tNoClock (at_ : Nat) : State := tLate.setBay 0 { tLate.bay 0 with clockLost := true, lostAt := at_ }

theorem test_bay_clock :
    (ran (.bayClockLoss 0) tLate (fun t => (t.bay 0).clockLost && !(t.bay 0).timeSet) &&
     ran (.bayClockReturn 0) (tNoClock 0) (fun t => !(t.bay 0).clockLost && (t.bay 0).silent) &&
     ran (.bayClockReturn 0) (tNoClock 99999000) (fun t => (t.bay 0).clockLost)) = true := by
  decide +kernel

/-- L+ has fallen below 16.0 V, last at or below 17.5 V at a tick. -/
def tLow (at_ : Nat) : State := tLate.setBay 0 { tLate.bay 0 with uv := true, qualified := false, lowAt := at_ }

theorem test_supply :
    (ran (.lpWarning 0 1900) tLate (fun t => (t.bay 0).warn && (t.bay 0).lp == 1900) &&
     ran (.lpWarning 0 1920) tLate (fun t => !(t.bay 0).warn) &&
     ran (.lpUndervolt 0 1500) tLate (fun t => (t.bay 0).uv && !(t.bay 0).qualified && t.pn (bayPid 0 0x10) == 1) &&
     ran (.lpQualified 0 1800) (tLow 0) (fun t => !(t.bay 0).uv && (t.bay 0).qualified) &&
     ran (.lpQualified 0 1800) (tLow 99000000) (fun t => !(t.bay 0).qualified) &&
     ran (.channelRestore 0 2) (tBay 5 [] (fun c => { c with restored := false })) (fun t => (ch2 t).restored)) = true := by decide +kernel
theorem test_bay_reset :
    (ran (.bayReset 0 1100) tLate (fun t => (t.bay 0).inReset && t.pn (bayPid 0 0x11) == 1) &&
     ran (.bayReset 0 1200) tLate (fun t => !(t.bay 0).inReset)) = true := by decide +kernel
theorem test_limp_assert : ran (.limpAssert 0 3000 5000) tLate (fun t => (t.bay 0).limp) = true := by
  simp only [ran, exec, execLimpAssert, limpLevel, comparator_high _ _ _ 3000 _ (by decide)]
  decide +kernel
theorem test_limp_release : ran (.limpRelease 0 100 5000) (tLate.setBay 0 { tLate.bay 0 with limp := true }) (fun t => !(t.bay 0).limp) = true := by
  simp only [ran, exec, execLimpRelease, limpLevel, comparator_low _ _ _ 100 _ (by decide)]
  decide +kernel
theorem test_select : ran (.selCodeChange 0 2)
    (tBay 5 [] (fun c => { c with reading := { volt := 0, current := 1000, temp := 0, out := 0 } }))
    (fun t => (t.bay 0).sel == 2 && (t.bay 0).isns == 500000000000) = true := by decide +kernel
theorem witness_bay :
    (tLate.bay 0).silentTicks ≤ tLate.elapsed (tLate.bay 0).lastFresh ∧ tget false tLate.eng.restart 0 = false ∧
    (tBay 5 [] id).elapsed ((tBay 5 [] id).bay 0).lastFresh < ((tBay 5 [] id).bay 0).silentTicks ∧
    200 * 2 * usTicks ≤ (tBay 5 [] id).elapsed ((tBay 5 [] id).bay 0).qualifiedAt ∧
    msTicks ≤ (tNoClock 0).elapsed ((tNoClock 0).bay 0).lostAt ∧ 10 * msTicks ≤ (tLow 0).elapsed ((tLow 0).bay 0).lowAt ∧
    msTicks ≤ tLate.elapsed (tLate.bay 0).highAt ∧ ((tLate.setBay 0 { tLate.bay 0 with inReset := true }).bay 0).inReset = true := by
  decide +kernel
theorem witness_limp : limpLevel 0 3000 false = true ∧ limpLevel 0 100 true = false :=
  ⟨comparator_high _ _ _ _ _ (by decide), comparator_low _ _ _ _ _ (by decide)⟩

/-! ### Digital channels -/

theorem test_oc_low : ran (.applyNext 0 2) (tBay 5 [(chanKey 5 2 0x21, 1)] (fun c => { c with
      applied := 1, next := some (900000, 0), dout := { c.dout with oc := true, retryDue := some 5 } }))
    (fun t => !(ch2 t).dout.oc && (ch2 t).dout.retryDue == none) = true := by decide +kernel
theorem witness_oc :
    ((tBay 5 [(chanKey 5 2 0x21, 1)] id).bay 0).cn 2 0x21 = 1 ∧ ((tBay 5 [(chanKey 5 2 0x21, 0)] id).bay 0).cn 2 0x21 ≠ 1 ∧
    900000 ≤ ((tBay 5 [] id).bay 0).local_ 400000 := by decide +kernel

/-- A digital input of filter 100 µs with wire-break detection below 2.00 mA for 1 ms. -/
def tDin (f : Chan → Chan) : State :=
  { tBay 2 [(chanKey 2 2 5, 100), (chanKey 2 2 7, 1), (chanKey 2 2 8, 200), (chanKey 2 2 9, 1)] f with
    clk := { (tUnit .run).clk with ticks := 100000000 } }

theorem test_debounce : ran (.debounceChange 0 2 3000 100) (tDin (fun c => { c with din := { c.din with wireBreak := true }, live := 1 }))
    (fun t => (ch2 t).din.deb && (ch2 t).raw && !(ch2 t).din.wireBreak && (ch2 t).live == 0) = true := by
  simp only [ran, exec, execDebounceChange, comparator_high _ _ _ 3000 _ (by decide)]
  decide +kernel
theorem test_debounce_early : ran (.debounceChange 0 2 3000 99) (tDin id) (fun t => !(ch2 t).din.deb) = true := by
  simp only [ran, exec, execDebounceChange, comparator_high _ _ _ 3000 _ (by decide)]
  decide +kernel
theorem test_wire_break :
    (ran (.wireBreakDeclare 0 2 0 1000) (tDin id) (fun t => (ch2 t).din.wireBreak && bit (ch2 t).sticky 0 && t.pn (t.chanPid 0 2 11) == 1) &&
     ran (.wireBreakDeclare 0 2 0 999) (tDin id) (fun t => !(ch2 t).din.wireBreak) &&
     ran (.wireBreakClear 0 2 300 1000) (tDin (fun c => { c with din := { c.din with wireBreak := true } })) (fun t => !(ch2 t).din.wireBreak) &&
     ran (.wireBreakClear 0 2 100 1000) (tDin (fun c => { c with din := { c.din with wireBreak := true } })) (fun t => (ch2 t).din.wireBreak)) =
    true := by decide +kernel
theorem witness_inputs :
    (tDin id).bayActs 0 2 = true ∧ modeIsDi (((tDin id).bay 0).mode 2) = true ∧ comparator 0 2 (((tDin id).bay 0).inType 2) 3000 false = true ∧
    (tDin id).heldSince 1000 (((tDin id).bay 0).chan 2).din.since = true ∧ ((tDin id).bay 0).cn 2 5 = 100 ∧ ((tDin id).bay 0).cn 2 9 = 1 :=
  ⟨by decide +kernel, by decide +kernel, comparator_high _ _ _ _ _ (by decide), by decide +kernel, by decide +kernel, by decide +kernel⟩

/-- A counter whose raw state has been sampled, at a count. -/
def tCount (mode count : Nat) : State :=
  tBay mode [(chanKey 4 2 0x11, 4)] (fun c => { c with din := { c.din with synced := true, count := count } })

theorem test_counter : ran (.counterEdge 0 2 3000 100) (tCount 3 0xFFFFFFFF) (fun t => (ch2 t).din.count == 0 && (ch2 t).raw) = true := by
  simp only [ran, exec, execCounterEdge, comparator_high _ _ _ 3000 _ (by decide)]
  decide +kernel
theorem test_counter_first : ran (.counterEdge 0 2 3000 100) (tBay 3 [] id) (fun t => (ch2 t).din.count == 0 && (ch2 t).din.synced) = true := by
  simp only [ran, exec, execCounterEdge, comparator_high _ _ _ 3000 _ (by decide)]
  decide +kernel
theorem test_quad_up : ran (.quadEdge 0 2 3000 100 100) (tCount 4 0) (fun t => (ch2 t).din.count == 1 && (ch2 t).raw) = true := by
  simp only [ran, exec, execQuadEdge, comparator_high _ _ _ 3000 _ (by decide), comparator_low _ _ _ 100 _ (by decide)]
  decide +kernel
theorem test_quad_down : ran (.quadEdge 0 2 100 3000 100) (tCount 4 0) (fun t => (ch2 t).din.count == 0xFFFFFFFF) = true := by
  simp only [ran, exec, execQuadEdge, comparator_high _ _ _ 3000 _ (by decide), comparator_low _ _ _ 100 _ (by decide)]
  decide +kernel
theorem test_quad_both : ran (.quadEdge 0 2 3000 3000 100) (tCount 4 0) (fun t => bit (ch2 t).events 2 && (ch2 t).din.count == 0) = true := by
  simp only [ran, exec, execQuadEdge, comparator_high _ _ _ 3000 _ (by decide)]
  decide +kernel
theorem witness_digital :
    (tCount 3 0).bayActs 0 2 = true ∧ ((tCount 3 0).bay 0).mode 2 = 3 ∧ ((tCount 3 0).bay 0).countsEdges 2 = true ∧
    ((tBay 3 [] id).bay 0).countsEdges 2 = false ∧ (((tCount 3 0).bay 0).chan 2).raw = false ∧ ((tCount 3 0).bay 0).cn 2 0x10 = 0 ∧
    ((tCount 4 0).bay 0).countsEdges 2 = true ∧ ((tBay 4 [] id).bay 0).countsEdges 2 = false ∧ (((tCount 4 0).bay 0).chan 3).raw = false ∧
    (tBay 5 [] id).doGroup 0 2 = some 2 := by
  decide +kernel

/-- An output on. -/
def tOn (f : DoutCh → DoutCh) : State := tBay 5 [] (fun c => { c with applied := 1, dout := f { c.dout with sw := true, retryLeft := 2 } })

/-- An output just switched off, its clamp pulse not over. -/
def tOff : State := tBay 5 [] (fun c => { c with dout := { c.dout with pulse := some 0 } })

theorem test_do_trips :
    (ran (.hardLimit 0 2) (tOn id) (fun t => bit (ch2 t).sticky 5) &&
     ran (.ocTrip 0 2 100000 8) (tOn id) (fun t => (ch2 t).dout.oc && !(ch2 t).dout.sw && (ch2 t).dout.retryDue == some (400000 + 100 * msTicks)) &&
     ran (.ocTrip 0 2 100000 7) (tOn id) (fun t => !(ch2 t).dout.oc) &&
     ran (.thermalTrip 0 2 1700) (tOn id) (fun t => (ch2 t).dout.thermal && !(ch2 t).dout.sw) &&
     ran (.clampOver 0 2 301) tOff (fun t => (ch2 t).dout.clampLock && bit (ch2 t).live 8)) = true := by decide +kernel
theorem test_do_retry :
    (ran (.retryDue 0 2) (tOn (fun d => { d with sw := false, oc := true, retryDue := some 5 })) (fun t => !(ch2 t).dout.oc && (ch2 t).dout.retryLeft == 1) &&
     ran (.inrushWindowEnd 0 2) (tOn (fun d => { d with inrush := some 5 })) (fun t => (ch2 t).dout.inrush == none && (ch2 t).dout.runFrom == 5) &&
     ran (.retryRestore 0 2) { tOn id with clk := { (tUnit .run).clk with ticks := 10 * secTicks } }
       (fun t => (ch2 t).dout.retryLeft == ((tOn id).bay 0).cn 2 0x1B)) = true := by decide +kernel
theorem test_do_clamp :
    (ran (.clampPulseEnd 0 2 40) tOff (fun t => (ch2 t).dout.clampAcc == 40 && (ch2 t).dout.clampLast == 40 && !(ch2 t).dout.clampLock &&
       (ch2 t).dout.pulse == none) &&
     ran (.clampPulseEnd 0 2 40) (tOn id) (fun t => (ch2 t).dout.clampAcc == 0) &&
     ran (.clampDecay 0) { tOn (fun d => { d with clampAcc := 7 }) with clk := { (tUnit .run).clk with ticks := 25 * msTicks } }
       (fun t => (ch2 t).dout.clampAcc == 6)) = true := by decide +kernel

/-- An output with open-load detection below 10 mA, a long time on or off, its status bits as given. -/
def tMarks (on : Bool) (live : Nat) : State :=
  { tBay 5 [(chanKey 5 2 0x22, 10)] (fun c => { c with applied := b2n on, live := live, dout := { c.dout with sw := on } }) with
    clk := { (tUnit .run).clk with ticks := 100000000 } }

theorem test_do_marks :
    (ran (.openloadSet 0 2 0 50000) (tMarks true 0) (fun t => bit (ch2 t).sticky 6) &&
     ran (.openloadSet 0 2 0 49999) (tMarks true 0) (fun t => !bit (ch2 t).sticky 6) &&
     ran (.openloadClear 0 2 20 50000) (tMarks true 64) (fun t => (ch2 t).live == 0)) = true := by decide +kernel
theorem test_ext_high : ran (.extHighSet 0 2 3000 10000) (tMarks false 0) (fun t => bit (ch2 t).sticky 7 && (ch2 t).high) = true := by
  simp only [ran, exec, execExtHighSet, inRise_lt _ _ _ 3000 (by decide)]
  decide +kernel
theorem witness_do :
    (tOn id).doGroup 0 2 = some 2 ∧ ((tOn id).bay 0).driveDo 2 = true ∧ ((tOn id).bay 0).tripLevel 2 < 100000 ∧
    (tOn id).heldSince 8 (((tOn id).bay 0).chan 2).dout.runFrom = true ∧ tOff.pulseOpen 0 2 2 = true ∧ (tOn id).pulseOpen 0 2 2 = false ∧
    40 < ((tOn id).bay 0).cn 2 0x1D ∧ (tMarks true 0).heldSince 50000 (((tMarks true 0).bay 0).chan 2).dout.quietFrom = true ∧
    (tMarks false 0).heldSince 10000 (((tMarks false 0).bay 0).chan 2).dout.offAt = true ∧ bit (((tMarks false 128).bay 0).chan 2).live 7 = true := by
  decide +kernel
theorem witness_ext_high : inRise 0 2 1 < 3000 ∧ 100 ≤ inRise 0 2 1 :=
  ⟨inRise_lt _ _ _ _ (by decide), Nat.le_trans (by decide) (le_inRise _ _ _)⟩

/-! ### Analog channels -/

/-- Bay A with a visit to channel 2 in a mode under way, with sinc outputs, and a conversion pending. -/
def tVisit (mode : Nat) (par : List (Nat × Int)) (kind : VisitKind) (skip : Nat) (outs : List Int) (pend : List Pending) : State :=
  let s := tBay mode par id
  let filt : AinFilter := { order := 3, ratio := 512, fir := 0, taps := 1, decim := 1 }
  let visit : Visit := { ch := 2, kind := kind, left := 1, skip := skip, first := true, since := 0, filt := filt, coef := [], outs := outs }
  s.setBay 0 { s.bay 0 with m0 := { Modulator.init with stopped := false, pend := pend, visit := some visit } }

theorem test_sinc :
    (ran (.sincOutput 0 0 0) (tVisit 8 [] .scan 3 [5] []) (fun t => ((t.bay 0).m0.visit.map Visit.skip) == some 2) &&
     ran (.sincOutput 0 0 900000) (tVisit 8 [(chanKey 8 2 0xF, 100)] .scan 0 [0] []) (fun t => bit (ch2 t).live 4 &&
       ((t.bay 0).m0.visit.map Visit.skip) == some 3)) = true := by decide +kernel
theorem test_conversion : ran (.conversionEnd 0 0) (tVisit 8 [] .scan 0 [12345] []) (fun t =>
    (t.bay 0).m0.pend == [Pending.mk 2 12345 false true 1000000 400000] && ((t.bay 0).m0.visit.map Visit.skip) == some 1) = true := by
  decide +kernel
theorem test_delivery_early : ran (.resultDelivery 0 0 false) (tVisit 8 [] .scan 0 [] [Pending.mk 2 12345 false true 1000000 399999])
    (fun t => (t.bay 0).m0.pend.length == 1) = true := by decide +kernel
theorem test_threshold : ran (.thresholdEvent 0) (tCycle { EngBay.init with crossed := [(2, true, 5)] }) (fun t => (t.engBay 0).crossed == [] &&
    t.pn ((tCycle EngBay.init).chanPid 0 2 0x15) == 1) = true := by decide +kernel

/-- A current input a long time after its last event. -/
def tCur (f : Chan → Chan) : State :=
  { tBay 10 [(chanKey 10 2 0x19, 3600)] f with clk := { (tUnit .run).clk with ticks := secTicks } }

theorem test_shunt :
    (ran (.shuntTrip 0 2 30001 1000) (tCur id) (fun t => (ch2 t).ain.shuntOpen && bit (ch2 t).live 3) &&
     ran (.shuntTrip 0 2 30001 999) (tCur id) (fun t => !(ch2 t).ain.shuntOpen) &&
     ran (.shuntReclose 0 2) (tCur (fun c => { c with ain := { c.ain with shuntOpen := true } })) (fun t => !(ch2 t).ain.shuntOpen) &&
     ran (.shuntOffClear 0 2 5) (tCur (fun c => { c with live := 8 })) (fun t => (ch2 t).live == 0) &&
     ran (.currentOpenWire 0 2 100 100000) (tCur id) (fun t => (ch2 t).ain.owCurrent && bit (ch2 t).live 2)) = true := by
  decide +kernel
theorem witness_analog :
    ((tVisit 8 [] .scan 0 [] []).visitOf 0 0).map Visit.ch = some 2 ∧ modExists (tVisit 8 [] .scan 0 [] []).dev.part 0 0 = true ∧
    ((tVisit 8 [(chanKey 8 2 0xF, 100)] .scan 0 [] []).bay 0).isStep 2 900000 0 = true ∧
    ((tVisit 8 [] .scan 0 [] []).bay 0).isStep 2 900000 0 = false ∧
    ((tVisit 12 [] .lead 0 [] []).visitOf 0 0).map Visit.kind = some .lead ∧ ((tVisit 8 [] .test 0 [] []).visitOf 0 0).map Visit.kind = some .test ∧
    ((tVisit 8 [] .scan 0 [] []).visitOf 0 0).map (((tVisit 8 [] .scan 0 [] []).bay 0).visitEnds 0 400000) = some false ∧
    (tBay 8 [] id).visitOf 0 0 = none ∧ (tCur id).bayActs 0 2 = true ∧ ((tCur id).bay 0).cv 2 0x19 = 3600 := by decide +kernel
theorem witness_delivery :
    let s := tVisit 8 [] .scan 0 [] [Pending.mk 2 12345 false true 1000000 390000]
    ((s.bay 0).modl 0).pend = [Pending.mk 2 12345 false true 1000000 390000] ∧ modeIsAin ((s.bay 0).mode 2) = true ∧
    4 * usTicks ≤ s.elapsed 390000 ∧ s.pn (s.chanPid 0 2 0x24) = 0 := by decide +kernel

/-- An analog output that drives 12 mA on a tap. -/
def tAo (mode tap : Nat) (f : Chan → Chan) : State := tBay mode [] (fun c => f { c with
  applied := 30000, aout := { c.aout with driven := 30000, tap := tap } })

theorem test_taps :
    (ran (.tapStepUp 0 2 2300) (tAo 16 0 id) (fun t => (ch2 t).aout.tap != 0 && (ch2 t).aout.tapAt == 400000) &&
     ran (.tapStepDown 0 2 100 100000) { tAo 16 3 id with clk := { (tUnit .run).clk with ticks := 100000000 } } (fun t => (ch2 t).aout.tap != 3) &&
     ran (.tapStepDown 0 2 100 100000) (tAo 16 3 id) (fun t => (ch2 t).aout.tap == 3) &&
     ran (.tapForced 0 2 1500 100) (tAo 16 3 id) (fun t => (ch2 t).aout.tap != 3 && bit (ch2 t).live 7) &&
     ran (.tapForcedClear 0 2 1399) (tAo 16 1 (fun c => { c with live := 128 })) (fun t => !bit (ch2 t).live 7)) = true := by decide +kernel
theorem test_limiter :
    (ran (.limiterStep 0 2 1500) { tAo 17 3 id with clk := { (tUnit .run).clk with ticks := 800000 } } (fun t => (ch2 t).aout.ceiling == some 2970000) &&
     ran (.limiterStep 0 2 1400) { tAo 17 3 (fun c => { c with aout := { c.aout with ceiling := some 5 } }) with clk := { (tUnit .run).clk with ticks := 800000 } }
       (fun t => (ch2 t).aout.ceiling != some 5)) = true := by decide +kernel
theorem test_compliance :
    (ran (.complianceOnset 0 2 2350 0) (tAo 16 3 id) (fun t => (ch2 t).aout.compSince == some 400000 && bit (ch2 t).live 0) &&
     ran (.complianceClear 0 2 100 0 1000) (tAo 16 3 (fun c => { c with live := 1, aout := { c.aout with compSince := some 5 } })) (fun t => !bit (ch2 t).live 0) &&
     ran (.alarmForcedLow 0 2) { tAo 16 3 (fun c => { c with aout := { c.aout with compSince := some 5 } }) with
         clk := { (tUnit .run).clk with ticks := 100000000 } } (fun t => (ch2 t).aout.forcedLow && bit (ch2 t).live 1) &&
     ran (.openloopSet 0 2 2350 100 10000) (tAo 16 3 id) (fun t => bit (ch2 t).live 2) &&
     ran (.openloopClear 0 2 100 0 10000) (tAo 16 3 (fun c => { c with live := 4 })) (fun t => !bit (ch2 t).live 2)) = true := by decide +kernel
theorem witness_ao :
    (tAo 16 0 id).tapActs 0 2 = true ∧ ((tAo 16 0 id).bay 0).headroom 2 2300 < 200 ∧ (((tAo 16 0 id).bay 0).tapAbove 2).isSome = true ∧
    ((tAo 16 0 id).bay 0).saturated 2 2300 = true ∧ ((tAo 16 0 id).bay 0).tapInUse 2 ≠ 3 ∧ 200 ≤ ((tAo 16 3 id).bay 0).headroom 2 100 ∧
    (((tAo 16 3 id).bay 0).tapBelow 2) = some 2 ∧ 100 + 250 ≤ ((tAo 16 3 id).bay 0).tapVolt 2 ∧
    (((tAo 16 3 id).bay 0).forcedTap 2 100).isSome = true ∧ ((tAo 16 3 id).bay 0).shortfall 0 2 2350 0 = true ∧
    ((tAo 16 3 id).bay 0).shortfall 0 2 100 0 = false ∧ ((tAo 16 3 id).bay 0).loopOpen 2 2350 100 = true ∧
    (((tAo 16 3 id).bay 0).aoForm 2).isSome = true ∧ (tAo 17 3 id).tapActs 0 2 = false := by decide +kernel

/-! ### Remote I/O -/

/-- A frame from its header on (Table RIO-1). -/
def tSrx (ty seg flags sender epoch seq : Nat) (tagOk : Bool) (payload : List Byte) : SrxFrame :=
  { tagOk := tagOk,
    bytes := leBytes 1 1 ++ leBytes 1 ty ++ leBytes 1 seg ++ leBytes 1 flags ++ leBytes 2 sender ++ leBytes 2 payload.length ++ leBytes 4 epoch ++
      leBytes 4 0 ++ leBytes 4 0 ++ leBytes 4 seq ++ leBytes 8 1000000 ++ payload }

/-- Node 32 of segment 1: Q 256 to 271, QW 256, I 256 to 271, IW 256. -/
def tNodeCfg : NodeCfg := NodeCfg.mk 32 1 3 0xAA 10 0 0 0 0x100100 16 1 0x300100 0x000100 16 1 0x200100 0xFFFFFFFF

/-- The master of one segment of 1 ms with that node in a state. -/
def tMaster (y : NodeState) : State := { tUnit .run with
  sec := { SecState.init with ns := some [1#8], nodeKeys := [(32, [9#8])] },
  net := { NetState.init with
    cfg := some { hash := 0, ports := PortsCfg.mk 3 0 0 0 0 8 10 0 0, segs := [SegCfg.mk 1 1 1 0 1000 0 500 0 0], nodes := [tNodeCfg] },
    nodes := [(32, y)] } }

theorem test_segment : ran (.segmentCycle 1) (tMaster { NodeState.init with state := 2, pend := [PendOut.mk 900000 0x100101 1 800000] })
    (fun t => (t.seg 1).last == some 1000000 && t.net.tx.length == 1 && !(t.node 32).inSeen && (t.node 32).pend == [] &&
      (t.node 32).image == [(0x100101, 1)]) = true := by decide +kernel
theorem witness_segment :
    let s := tMaster { NodeState.init with state := 2 }
    ∃ g, s.segCfg 1 = some g ∧ s.cycleAt g = some 1000000 ∧ s.mastersSrx = true ∧ s.segNodes 1 = [tNodeCfg] ∧ (s.seg 1).safeLeft = 0 ∧
      (s.node 32).inSeen = true :=
  ⟨_, rfl, by decide +kernel, by decide +kernel, by decide +kernel, by decide +kernel, by decide +kernel⟩

/-- A node that has been sent sequence 5. -/
def tSent : State := tMaster { NodeState.init with state := 2, outSeq := 5, inSeen := false, cycle := 1000000 }

/-- Its IN: I 1 set, IW 7. -/
def tIn (tagOk : Bool) : SrxFrame := tSrx 2 1 0 32 0 5 tagOk (leBytes 4 5 ++ leBytes 2 0 ++ leBytes 2 0 ++ leBytes 2 2 ++ leBytes 2 7)

theorem test_in : ran (.srxIn 1 (tIn true)) tSent (fun t => (t.node 32).inSeen && t.committed 0x000101 == 1 && t.committed 0x200100 == 7) = true := by
  decide +kernel
theorem test_in_bad : ran (.srxIn 1 (tIn false)) tSent (fun t => t.pn 0xC0A == 1 && (t.seg 1).authFail == 1 && !(t.node 32).inSeen) = true := by
  decide +kernel
theorem witness_in :
    srxWellFormed (tIn true).bytes 2 = true ∧ tSent.srxOn = true ∧ tSent.nodeCfg 32 = some tNodeCfg ∧ tNodeCfg.inLen = 4 ∧
    ((tIn true).bytes.drop 32).length = 8 + tNodeCfg.inLen := by decide +kernel
theorem test_in_missed : ran (.inMissed 1 32) { tSent with clk := { tSent.clk with stime := 2000000 } }
    (fun t => (t.node 32).misses == 1 && (t.node 32).inSeen && t.pn (segPid 1 0xA) == 1) = true := by decide +kernel
theorem test_recovery : ran (.sequenceRecoveryReset 32) { tMaster { NodeState.init with recovered := [4, 3] } with
    clk := { (tUnit .run).clk with ticks := 100 * msTicks } } (fun t => (t.node 32).recovered == []) = true := by decide +kernel

/-- A read of the diagnostics that waits for its answer. -/
def tAreq (retries : Nat) : State := { tSent with net := { tSent.net with exchanges := [Exchange.mk 3 32 1 0x1005 [] 1 1 retries 0] } }

theorem test_arsp : ran (.arsp (tSrx 0x11 1 0 32 0 1 true (leBytes 2 3 ++ leBytes 2 0 ++ leBytes 4 1 ++ leBytes 2 4 ++ leBytes 2 0 ++ leBytes 4 0x77)))
    (tAreq 0) (fun t => t.net.exchanges == [] && (t.node 32).diag == 0x77) = true := by decide +kernel
theorem test_acyclic :
    (ran (.acyclicTimeout 3) { tAreq 0 with clk := { (tUnit .run).clk with ticks := secTicks } } (fun t => t.net.exchanges.map Exchange.retries == [1] &&
       t.net.tx.length == 1) &&
     ran (.acyclicTimeout 3) { tAreq 200 with clk := { (tUnit .run).clk with ticks := secTicks } } (fun t => t.net.exchanges == [])) = true := by
  decide +kernel
theorem test_startup : ran (.nodeStartupRetry 32) (tMaster NodeState.init) (fun t => t.net.exchanges.length == 1) = true := by decide +kernel
theorem test_rekey : ran .rekey { tMaster NodeState.init with clk := { (tUnit .run).clk with ticks := 1000000 * secTicks } } (fun t => t.sec.keyGen == 1) =
    true := by decide +kernel
theorem test_link_change :
    (ran (.portLinkChange 0 1000 true) (tUnit .run) (fun t => t.net.linkA) &&
     ran (.portLinkChange 0 100 true) (tUnit .run) (fun t => !t.net.linkA)) = true := by decide +kernel
theorem witness_master :
    (tAreq 0).nodeKey 32 ≠ none ∧ (tAreq 0).pn 0xC0D * msTicks ≤ secTicks ∧ (tAreq 0).pn 0xC0E ≤ 200 ∧ 0 < (tAreq 0).pn 0xC0E ∧
    (tMaster NodeState.init).pn 0xC12 * 3600 ≤ 1000000 := by decide +kernel

/-- Bay A of a unit in the NODE role, its segment root written, channel 2 a digital output. -/
def tSlave (epoch : Option Nat) : State := { tUnit .stop with
  dev := { (tUnit .stop).dev with role := .node }, params := [(bayPid 0 (chanOff 2 0), 5)], sec := { SecState.init with nodeKeys := [(32, [9#8])] },
  net := { NetState.init with slaves := [(0, { Slave.init with segRoot := some 5, seg := 1, epoch := epoch })] } }

/-- An OUT of an epoch with Q 2 set. -/
def tOutFrame (epoch : Nat) : SrxFrame := tSrx 1 1 1 1 epoch 5 true (leBytes 1 0 ++ leBytes 1 0 ++ leBytes 2 34 ++ leBytes 34 4)

theorem test_out : ran (.srxOut 0 (tOutFrame 3)) (tSlave (some 3)) (fun t => (t.slave 0).epoch == some 3 && (t.slave 0).image == leBytes 34 4 &&
    !(t.slave 0).silent && t.net.tx.length == 1 && (tfind (t.engBay 0).out 2).map OutEntry.cur == some 1) = true := by decide +kernel
theorem test_out_stale : ran (.srxOut 0 (tOutFrame 2)) (tSlave (some 3)) (fun t => (t.slave 0).epoch == some 3 && (t.slave 0).image == [] &&
    t.net.tx.length == 1) = true := by decide +kernel
theorem test_claim_safe :
    (ran (.srxClaim 0 (tSrx 3 1 0 1 7 5 true (leBytes 8 0))) (tSlave (some 3)) (fun t => (t.slave 0).epoch == some 7) &&
     ran (.srxSafe 0 (tSrx 4 1 0 1 3 5 true [])) (tSlave (some 3)) (fun t => (t.slave 0).silent) &&
     ran (.nodeSilent 0) { tSlave (some 3) with clk := { (tUnit .stop).clk with ticks := secTicks } } (fun t => (t.slave 0).epoch == none)) = true := by
  decide +kernel

/-- AREQ: read of an object, write of the silent timeout. -/
def tAreqFrame (op index : Nat) (data : List Byte) : SrxFrame :=
  tSrx 0x10 1 0 1 3 5 true (leBytes 2 3 ++ leBytes 1 op ++ leBytes 1 0 ++ leBytes 2 index ++ leBytes 2 data.length ++ data)

theorem test_areq :
    (ran (.areq 0 (tAreqFrame 1 0x1003 []) none) { tSlave (some 3) with params := [(0xE20, 32)] } (fun t => t.net.tx.length == 1 &&
       (t.slave 0).responses.length == 1 && (t.slave 0).nkSeq == 1) &&
     ran (.areq 0 (tAreqFrame 2 0x1003 (leBytes 2 25)) none) { tSlave (some 3) with params := [(0xE20, 32)] } (fun t => (t.slave 0).timeout == 25)) = true := by
  decide +kernel
theorem witness_node :
    (tSlave (some 3)).slaveOn 0 = true ∧ ((tSlave (some 3)).slaveChecks 0 1 0 (tOutFrame 3)).isLeft = true ∧
    ({ tSlave (some 3) with params := [(0xE20, 32)] } : State).nodeKey 32 ≠ none ∧ srxWellFormed (tAreqFrame 1 0x1003 []).bytes 0x10 = true ∧
    modeIsOut ((tSlave (some 3)).mode 0 2) = true := by decide +kernel
end Sys2Proof.Tests
end

