-- ==== Sys2Proof/Tests/Clauses.lean ====
section
/-!
SUPPORT. Witnesses clause by clause: for the clauses of the statements that the witnesses beside the tests do not show, concrete
states and operands that meet the hypotheses, at the boundaries where a clause has a range.
-/

namespace Sys2Proof.Tests

set_option Elab.async false

open Sys2Proof Sys2Proof.Machine

/-! ### The machine -/

theorem witness_queue : ({ tUnit .run with pending := [.ret 1, .release 1] } : State).pending = .ret 1 :: [.release 1] := rfl

/-- An idle NVM controller with a commit queued. -/
def tStarts : State := { tUnit .run with img := { Image.init with commits := [{ tCommit with started := false }] } }

theorem witness_tick :
    State.reset.fclkUp = false ∧ (tUnit .run).fclkUp = true ∧ (tUnit .run).pending = [] ∧
    (tStarts.headCommit.map Commit.started) = some false ∧ ({ tStarts with clk := tStarts.clk.tick } : State).commitStarts = true ∧
    (tUnit .run).headCommit = none ∧ ({ tDurable with clk := tDurable.clk.tick } : State).commitStarts = false ∧
    (tUnit .run).stby.follow = none ∧ -1000000000 ≤ (tUnit .run).clk.rate := by decide +kernel
theorem witness_stores :
    Memory.wf ([(5, 1#8), (9, 2#8)] : Memory) = true ∧ ptIndex 0x600007 < areaLen 64 (ptArea 0x600007) ∧
    ptIndex 0x10000F < areaLen 64 (ptArea 0x10000F) ∧ Memory.wf State.reset.sram = true ∧ State.reset.sec.fuses ≤ 256 := by
  decide +kernel

/-! ### Core instructions and networks -/

/-- The quotient overflow of DIV, at each width that can have it; a zero divisor; BCD digits at the limits. -/
theorem witness_div :
    iwInt .s16 (iwExtend .s16 0x8000#32) = -32768 ∧ iwInt .s16 0xFFFFFFFF#32 = -1 ∧ iwInt .i32 (iwExtend .i32 0x80000000#32) = -2147483648 ∧
    iwInt .i32 0xFFFFFFFF#32 = -1 ∧ iwInt .u16 0#32 = 0 ∧
    (tCore id).intSrc tShot (CoreRegs.atEntry 16) .s16 false (.imm 0x9999#16) = some (.ok 0xFFFF9999#32) ∧
    (tCore id).intSrc tShot (CoreRegs.atEntry 16) .u16 false (.imm 0x9999#16) = some (.ok 0x9999#32) ∧
    (tCore id).intSrc tShot (CoreRegs.atEntry 16) .u16 false (.imm 0x999A#16) = some (.ok 0x999A#32) := by decide +kernel

/-- The test program whose network 0 has timer 5 and counter 8191 as related cells, at word 17 of the code. -/
def tCells : State := { tCore (fun g => { g with pc := 17#20, a := g.a.set 1 0x700003#24, w := (g.w.set 2 5#32).set 4 0x9FFF#32 }) with
  prog := { Prog.init with active := some { tProg with rels := [RelEntry.mk 1 1 0 0 5 1, RelEntry.mk 1 2 0 0 8191 1] } } }

theorem witness_crd :
    tCells.ownsCell 1 false 5 = true ∧ tCells.ownsCell 1 true 8191 = true ∧ tCells.ownsCell 1 false 6 = false ∧
    tCells.onCores 1 = some tShot ∧ (tCells.ctx 1).regs.w[2].toNat % 65536 = 5 ∧
    (tCells.ctx 1).regs.w[4].toNat % 65536 = 0x8000 + 8191 := by decide +kernel
theorem witness_diag :
    (∃ e, tCells.program.indAt (tCells.ctx 1).regs.pc.toNat 0 = some e ∧ e.covers (mkPt 7 4) 1 = true ∧ e.covers (mkPt 7 62) 2 = true) ∧
    ptArea (tCells.ctx 1).regs.a[1].toNat = 7 ∧ ptIndex (tCells.ctx 1).regs.a[1].toNat + (59#13).toNat = 62 ∧
    bayExists tCells.dev.part 0 = true ∧ (15#4).toNat < bayChannels tCells.dev.part :=
  ⟨⟨_, rfl, by decide +kernel⟩, by decide +kernel⟩

/-- A core instruction that breaks a rule, one for each clause: an indirect source and destination outside what is declared, an output
not owned, no room under the cap, a block move from Q. -/
theorem witness_violations :
    let s := { tCore (fun g => ((g.setA 1 0x300010).setA 2 0x100000).setW 3 1) with params := [(0x605, 0)] }
    let g := (s.ctx 1).regs
    s.onCores 1 = some tShot ∧ s.intSrc tShot g .i32 false (.ind 1 0) = some (.error .addr) ∧
    s.intSrc tShot g .i32 true (.ind 1 0) = some (.error .addr) ∧ s.realSrc tShot g .b64 (.ind 1 0) = some (.error .addr) ∧
    indirectAddr g.a[1] (-17) = none ∧ s.writeOperand 1 g (.ind 1 0) 4 true = some (.error .addr) ∧
    s.writeOperand 1 g (.ind 1 0) 2 false = some (.error .addr) ∧
    s.writeOperand 1 g (.dir 0x500020) 4 true = some (.ok 0x500020) ∧ s.writeRefused 1 tShot (storeList 0x500020 4 0) = some .retcap ∧
    s.writeOperand 1 g (.dir 0x500020) 2 false = some (.ok 0x500020) ∧ s.writeRefused 1 tShot (storeList 0x500020 2 1) = some .retcap ∧
    g.w[3].toNat % 65536 ≠ 0 ∧ ptArea g.a[2].toNat ∉ [2, 3, 5, 6] ∧ ptArea g.a[1].toNat ≠ 7 ∧ (tCore id).onCores 2 = none := by decide +kernel
theorem witness_jumps :
    (tCore id).inCode 1 16 79 = true ∧ (tCore id).inCode 1 16 80 = false ∧ (CoreRegs.atEntry 16).calls.length < 16 ∧
    ((tCore id).ctx 1).cfg = some tEntry ∧ tEntry.netFirst ≤ (3#16).toNat ∧ (3#16).toNat + (0#10).toNat + 1 ≤ tEntry.netFirst + tEntry.netCount ∧
    ((tCore id).ctx 1).watchLimit = 0 := by decide +kernel

/-- The frames that a network of context 1 needs on top of those of its shot. -/
def tNeed (s : State) : Nat :=
  match (s.ctx 1).shot with
  | some sh => (((s.program.netPages 0 (s.program.netWords 0) 0 false).eraseDups).filter
      (fun p => !sh.buf.any (fun b => b.page == p))).foldl (fun n p => n + pageFrames p) 0
  | none => 0

/-- What the truss statements ask of the network in the truss. -/
def tOps (s : State) (ok : State → Shot → List NetOp → Bool) : Bool :=
  match (s.ctx 1).shot with
  | some sh =>
    match sh.junction with
    | some j =>
      let pages := ((s.program.netPages j.next (s.program.netWords j.next) 0 false).eraseDups).filter
        (fun p => !sh.buf.any (fun b => b.page == p))
      let s1 := { (s.setCtx 1 { s.ctx 1 with shot := some (s.takePages sh pages) }).notePool with sched := { s.sched with trussLast := some 1 } }
      decide (s.framesUsed 1 + pages.foldl (fun n p => n + pageFrames p) 0 ≤ s.quota 1) &&
        (match s1.netGather 1 j.next j (s.program.netWords j.next) 0 false with
         | .ok ops => ok s1 (s.takePages sh pages) ops
         | .error _ => false)
    | none => false
  | none => false

theorem witness_truss :
    tTruss.trussChoice = some 1 ∧ tOps tTruss (fun _ _ ops => ops.length == 2) = true ∧ tTruss.tmr.laneRetired = [] ∧
    (tCore id).ownsCell 1 false 0 = false := by decide +kernel
/-- The network writes a retentive bit against a cap of 0 rows. -/
theorem witness_truss_cap :
    tOps { tTruss with params := [(0x605, 0)], prog := { Prog.init with active := some { tProg with rets := [RetRange.mk 4 0 16 3] } } }
      (fun s1 sh1 ops =>
        let e := ops.foldl (fun e o => s1.netStep sh1 e o) { ba := true, bs := [], writes := [], cells := Cells.init }
        decide (s1.pn 0x605 < (sh1.rows ++ e.writes.filterMap (fun w => s1.program.rowOf w.1)).eraseDups.length)) = true := by decide +kernel
/-- The quota allows no page. -/
theorem witness_truss_quota :
    let s := { tTruss with ctxs := [(1, { (tTruss.ctx 1) with cfg := some { tEntry with quota := 0 } })] }
    s.trussChoice = some 1 ∧ tNeed s ≠ 0 ∧ s.quota 1 < s.framesUsed 1 + tNeed s := by decide +kernel

/-! ### The life of a shot -/

/-- A RUN request in mailbox 2 waits for the first release. -/
def tRunAsked : State := { tAsk tRun 0x12 0x11 [] with dev := { tRun.dev with runMbx := some 2 } }

theorem witness_release_clauses :
    tRunAsked.canRelease 1 = true ∧ (tRunAsked.mailbox 2).req.isSome = true ∧ tRun.canRelease 2 = false ∧
    ((tRunAsked.ctx 1).cfg).isSome = true ∧ tPin.stby.holdEmit = false ∧ (tRun.ctx 1).shot = none := by decide +kernel

/-- The same peg with a drop cap accepted for it, another context's shot pinning, and none of its own. -/
def tPegNone : State := { tPeg none with ctxs := [(1, { tCtx none with pegDue := some 2900000, capNext := some 7, nextRelease := 3000000 })] }

theorem witness_peg_clauses :
    (tPegNone.ctx 1).pegDue = some 2900000 ∧ (tPegNone.ctx 1).shot = none ∧ tPegNone.pegFirst 1 2900000 = true ∧
    tPegNone.releaseOwed 2900000 = false ∧ (tPeg (some 2899999)).releaseOwed 2900000 = false ∧ tPegNone.now = 2900000 ∧
    (tPeg (some 2899999)).pegFirst 1 2900000 = true ∧ (tPegNone.ctx 1).capNext = some 7 ∧ (tPegNone.ctx 2).pegDue = none ∧
    ((tPegNone.ctx 1).cfg).isSome = true := by decide +kernel

/-- A dying shot with a count in a row, and whether the cap was raised. -/
def tDying (r : DropReason) (consec : Nat) (raised : Bool) : State :=
  { tRun with ctxs := [(1, { tCtx none with dying := [(tShot, r)], consec := consec, capRaised := raised })] }

theorem witness_drops :
    (tDying .state 2 false).ctx 1 = { tCtx none with dying := [(tShot, .state)], consec := 2 } ∧
    (dropCode .state = 5 ∨ dropCode .state = 6) ∧ dropCode .late ≤ 4 ∧ min 255 (1 + 1) < 3 ∧ 3 ≤ min 255 (2 + 1) ∧
    ((tDying .late 2 true).ctx 1).capRaised = true ∧ ((tDying .late 2 false).ctx 1).capRaised = false ∧ (tRun.ctx 1).dying = [] := by
  decide +kernel
theorem test_drop_cap : ran (.shotAbandoned 1) (tDying .late 2 false) (fun t => (t.ctx 1).capRaised && bit t.flt.sticky 17 &&
    (t.ctx 1).consec == 3) = true := by decide +kernel
theorem witness_server_clauses :
    let s := { tRun with sched := { Sched.init with used := 400, fwWatchLimit := 999 } }
    s.coresRun = true ∧ s.sched.window < s.windowOf s.now ∧ s.sched.fwWatchLimit < ticksNs s.sched.used ∧
    ({ tRun with sched := { Sched.init with window := 3000000 } } : State).windowOf tRun.now ≤ 3000000 ∧
    ({ tRun with sched := { Sched.init with cores := some 0, used := tRun.pn 0x704 * 400 } } : State).coresRun = true ∧
    Sched.init.used < tRun.pn 0x704 * 400 := by decide +kernel

/-- A record without rows (a state record) at the head of the commits; an owner record; a commit of every row. -/
def tNoRows (extra : CommitExtra) (started : Bool) : State := { tRun with
  nvm := { Nvm.init with commitLeft := b2n started },
  img := { Image.init with commits := [{ tCommit with kind := .record, rows := [], data := [], changed := [], extra := extra, started := started }] } }

theorem witness_commit_clauses :
    ((tNoRows CommitExtra.none false).headCommit.map Commit.started) = some false ∧ (tNoRows CommitExtra.none false).nvm.commitLeft = 0 ∧
    (tNoRows CommitExtra.none false).pwr.warnLive = false ∧
    ((tNoRows { CommitExtra.none with ownerChange := true } true).headCommit.map (fun k => k.extra.ownerChange)) = some true ∧
    ((tNoRows { CommitExtra.none with all := true } true).headCommit.map (fun k => k.extra.all)) = some true ∧
    (tNoRows { CommitExtra.none with all := true } true).nvm.commitLeft = 1 ∧ tRun.headCommit = none ∧ tRun.emitNext = none := by
  decide +kernel

/-- A durable shot commit with a point of bay A and one of node 32 (QW 256). -/
def tEmitNode : State := { tMaster NodeState.init with
  params := [(bayPid 0 (chanOff 2 0), 5)],
  img := { Image.init with commits := [{ tCommit with durable := true, changed := [(0x100002, 1), (0x300100, 7)] }] } }

theorem witness_emit_clauses :
    (tEmitNode.emitNext.map Prod.fst) = some 1 ∧ tEmitNode.stby.holdEmit = false ∧ tEmitNode.pwr.warnLive = false ∧
    ((tEmitNode.emitNext.map (fun k => tEmitNode.emissionOf k.2)) = some [(0x100002, 1), (0x300100, 7)]) ∧
    tEmitNode.bayOutput 0x300100 = none ∧ tEmitNode.nodeOutput 0x300100 = some tNodeCfg ∧ tEmitNode.bayOutput 0x100002 = some (0, 2) := by
  decide +kernel

/-! ### Programs -/

theorem witness_staging_clauses :
    let busy := { tBegin with prog := { tBegin.prog with lockSession := some 0x12 } }
    let data (off : Nat) (len : Nat) : State := { tAsk (tUnit .stop) 0x51 0x11 (leBytes 4 off ++ List.replicate len 0#8) with
      prog := { Prog.init with staging := .staging, lockSession := some 0x11, stagedKind := 1, stagedLen := 4 } }
    busy.loadGate 0x11 false true false = some 1 ∧ tBegin.loadGate 0x11 false false false = some 2 ∧
    (data 0 4).loadGate 0x11 true true false = none ∧ ((data 0 4).request 2 0x51).map (fun r => (leAt r.payload 0 4, r.payload.length - 4)) = some (0, 4) ∧
    ((data 0 5).request 2 0x51).map (fun r => r.payload.length - 4) = some 5 ∧ ((data 4 1).request 2 0x51).map (fun r => leAt r.payload 0 4) = some 4 ∧
    ((tAsk (tUnit .stop) 0x50 0x11 (leBytes 1 4 ++ leBytes 3 0 ++ leBytes 4 slotSize)).request 2 0x50).map (fun r =>
      (leAt r.payload 0 1, leAt r.payload 1 3, leAt r.payload 4 4)) = some (4, 0, slotSize) ∧ (tUnit .stop).prog.staging ≠ .staging ∧
    (tUnit .stop).prog.staging ≠ .loaded := by decide +kernel

/-- A container that passes on a primary without a network configuration breaks NOSEG (Table STBY-6). -/
theorem witness_pair_check :
    let s := { tCommitAsk .stop 0x52 1 0 .staging with dev := { (tUnit .stop).dev with role := .primary } }
    ∃ k, s.checkContainer false [1] (tBox 1 0 (keyIdOf [1#8])) 368 ⟨true, true⟩ = .ok k ∧ (s.pairCheck k == some 10) = true :=
  checkContainer_ok { tCommitAsk .stop 0x52 1 0 .staging with dev := { (tUnit .stop).dev with role := .primary } } false [1] _ 368
    (fun k => State.pairCheck { tCommitAsk .stop 0x52 1 0 .staging with dev := { (tUnit .stop).dev with role := .primary } } k == some 10)
    (by decide +kernel) (by decide +kernel) (by decide +kernel) (tBox_key _ _ _) (by decide +kernel)

/-- With the configuration of one segment it meets them all. -/
theorem witness_pair_check_met :
    let s := { tCommitAsk .stop 0x52 1 1 .staging with dev := { (tUnit .stop).dev with role := .primary }, net := (tMaster NodeState.init).net }
    ∃ k, s.checkContainer false [1] (tBox 1 1 (keyIdOf [1#8])) 368 ⟨true, true⟩ = .ok k ∧ (bit k.box.flags 0 && s.pairCheck k == none) = true :=
  checkContainer_ok { tCommitAsk .stop 0x52 1 1 .staging with dev := { (tUnit .stop).dev with role := .primary }, net := (tMaster NodeState.init).net }
    false [1] _ 368 (fun k => bit k.box.flags 0 && State.pairCheck { tCommitAsk .stop 0x52 1 1 .staging with
      dev := { (tUnit .stop).dev with role := .primary }, net := (tMaster NodeState.init).net } k == none)
    (by decide +kernel) (by decide +kernel) (by decide +kernel) (tBox_key _ _ _) (by decide +kernel)
theorem witness_loaded_check :
    (match (tCommitAsk .stop 0x52 1 0 .loaded).loadedCheck with
     | .ok _ => true
     | .error _ => false) = true := by decide +kernel

/-- A network configuration whose record is durable. -/
def tActivateNet (durable : Bool) : State := { tUnit .stop with
  prog := { Prog.init with
    active := some tProg, slot := 2, staging := .checking,
    activation := some { newProg := none, net := (tMaster NodeState.init).net.cfg, slot := 1, chain := 0, slotBytes := 64, mbx := some 2,
                         recordDurable := durable, clear := false, writes := [] } } }

theorem test_net_activation : ran .programActivation (tActivateNet true) (fun t => t.net.cfg == (tMaster NodeState.init).net.cfg &&
    t.prog.netCopy == 1 && t.prog.staging == .idle) = true := by decide +kernel
theorem witness_activation :
    ((tActivateNet true).prog.activation.map (fun a => a.recordDurable && a.net.isSome)) = some true ∧
    ((tActivateNet false).prog.activation.map Activation.recordDurable) = some false ∧ (tActivateNet true).dev.state = .stop ∧
    (tUnit .stop).prog.activation = none ∧ (tActivate.prog.activation.map (fun a => a.newProg.isSome && a.net.isNone)) = some true := by
  decide +kernel

/-- The edit instant with a lead of exactly 1 ms, and for a context without a grid. -/
theorem witness_edit_clauses :
    ((tCommitAsk .run 0x59 3 0 .staging).editInstant [1] 1000000).isSome = true ∧
    ({ tArmed with clk := { Clock.init with stime := 1999999 } } : State).prog.armed.map
      ({ tArmed with clk := { Clock.init with stime := 1999999 } } : State).editDue = some false ∧
    (tUnit .run).prog.armed = none ∧ (tCommitAsk .run 0x59 3 0 .loaded).loadGate 0x11 true true false = none := by decide +kernel

/-! ### Non-volatile memory -/

/-- A queued commit behind a checkpoint that is overdue. -/
def tOverdue : State := { tRows false 0 with nvm := { Nvm.init with ringDone := 1024, jobs := [.checkpoint 1] } }

theorem witness_rows_clauses :
    (tOverdue.headCommit.map Commit.started) = some false ∧ tOverdue.otherTurn = true ∧ tOverdue.rowsRun = true ∧
    tOverdue.reservedQueued = false ∧ (tOverdue.nvm.jobs.zipIdx.find? (fun e => match e.1 with
      | .checkpoint _ => true
      | _ => false)) = some (.checkpoint 1, 0) ∧
    tJobs.headCommit = none ∧ tJobs.otherTurn = true ∧ tJobs.reservedQueued = false ∧ jobNext tJobs.nvm.jobs = some (0, .settings 3) ∧
    jobNext [] = none ∧ jobNext [.checkpoint 17] = some (0, .checkpoint 17) ∧
    ({ tJobs with pwr := { tJobs.pwr with rowInhibit := true } } : State).rowsRun = false ∧
    512 ≤ tJobs.nvm.ringSince ∧ (tUnit .stop).nvm.ringSince < 512 := by decide +kernel

/-- A commit of every row at row 8191; the index row of one of 2 rows. -/
theorem test_index_row : ran (.nvmRowWriteDone true) (tRows true 2) (fun t => t.nvm.commitLeft == 1 &&
    t.feram.readN (ringAddr (tRows true 2).nvm.ringRow) 4 == (rowBytes (indexRow [3, 4] 0)).take 4) = true := by decide +kernel

/-- Records lost, with space again and with none. -/
theorem witness_log :
    let lost (n : Nat) : State := { tJobs with nvm := { tJobs.nvm with overflow := 3, logQueue := List.replicate n (LogRec.mk 0 0x20 7 [1#8] 0 0 false) } }
    (lost 248).nvm.logQueue.length = 248 ∧ (lost 1).nvm.overflow ≠ 0 ∧ (tUnit .stop).nvm.logQueue = [] ∧ (tUnit .stop).nvm.setDirty = false ∧
    (tUnit .stop).nvm.setRun = none ∧ tCopy.nvm.jobs = [] ++ .settings 1 :: [] ∧
    ({ tCopy with nvm := { tCopy.nvm with setCopy := 0 } } : State).setSlot = 1 ∧ (lost 1).rowsRun = true ∧
    1024 ≤ ({ tJobs with nvm := { tJobs.nvm with headerCount := 1024 } } : State).nvm.headerCount := by decide +kernel

/-! ### Boot, power, reset -/

/-- A unit whose FeRAM holds the container of slot 0, the checkpoint naming it. -/
def tStored : State := { tCold with
  feram := Memory.writeL [] (slotAddr 0) (tBox 1 0 7),
  nvm := { tCold.nvm with ckptA := { tCold.nvm.ckptA with seq := 9, slot := 0, chain := 0, netCopy := 255, valid := true } } }

theorem witness_boot_program :
    (tStored.nvm.newestCheckpoint.map (fun k => (k.slot, k.chain, k.netCopy))) = some (0, 0, 255) ∧
    (rebuild (tStored.feram.readN (slotAddr 0) (slotUsed 0 tStored.feram (slotAddr 0))) 0).isSome = true ∧ tBoot.program.sigOk = true ∧
    tBoot.program.hashOk = true ∧ 1024 ≤ ({ tBoot with selftest := 1024 } : BootInput).selftest ∧ (∀ b ∈ tBoot.bayAnswers, b = false) ∧
    ({ tBoot with selftest := 1023 } : BootInput).selftest < 1024 ∧ tRun.dev.state ≠ .boot := by decide +kernel
theorem test_boot_program_bad : ran (.bootStart { tBoot with program := ⟨false, true⟩ }) tStored (fun t =>
    t.dev.state == .init && bit t.flt.sticky 26) = true := by decide +kernel
theorem witness_power_on :
    ({ State.reset with dev := { Device.init with state := .off }, pwr := { Power.init with vinGood := false } } : State).pwr.vinGood = false ∧
    tRun.dev.state ≠ .off ∧ tRun.pwr.vinGood = true := by decide +kernel
theorem witness_power_fail_clauses :
    (tFail 1).pwr.warnLive = true ∧ (tFail 1).pwr.pfStep = 1 ∧ (tFail 1).pwr.nvm = true ∧ (tFail 1).pwr.rowInhibit = false ∧
    (tFail 1).sec.nvmZero = false ∧ (tFail 4).pwr.pfStep = 4 ∧ 4 ≤ (tFail 4).pwr.pfStep ∧ tRun.pwr.warnLive = false ∧
    ({ tFail 1 with pwr := { (tFail 1).pwr with rowInhibit := true } } : State).pwr.rowInhibit = true := by decide +kernel
theorem witness_holdup_clauses :
    tHold.pwr.core = true ∧ tHold.dev.state ≠ .boot ∧ tHold.pn 0x786 * secTicks ≤ tHold.clk.ticks - tHold.pwr.holdupFrom ∧
    ({ tHold with params := [(0x783, 1)] } : State).pv 0x783 = 1 ∧ tHold.pwr.warnLive = false ∧ (tUnit .stop).pwr.holdup = none := by
  decide +kernel

/-! ### Faults, the watchdog, time -/

theorem witness_faults :
    tRun.dev.state ≠ .off ∧ tRun.dev.part = .p7232 ∧ bit tRun.flt.sticky 20 = false ∧ faultLasting 2 = true ∧ faultLasting 7 = false ∧
    ({ tRun with params := [(0x980 + 4 * 19 + 3, 2 ^ 32 - 1)], flt := { Faults.init with sticky := 2 ^ 19 } } : State).pn (0x980 + 4 * 19 + 3) + 1 =
      2 ^ 32 ∧ bit ({ Faults.init with live := 4 } : Faults).live 2 = true := by decide +kernel
theorem witness_awaiting :
    ((tAwait false).flt.awaiting.find? (fun a => (tAwait false).resetReady a.seq && (tAwait false).answered a.mbx)).isSome = true ∧
    (∀ b ∈ (tAwait false).flt.awaiting, b.lockout = false) ∧ (tAwait false).dev.drain = none ∧ (tAwait false).prog.armed = none ∧
    Awaiting.mk 0 true 3 none 0 ∈ (tAwait true).flt.awaiting ∧ (tAwait true).dev.state ≠ .lockout ∧ tRun.flt.awaiting = [] := by
  decide +kernel
/-- With an edit armed and a drain to STOP under way. -/
theorem test_reset_discards : ran .faultChipReset
    { tAwait false with prog := { tArmed.prog with } , dev := { (tUnit .run).dev with drain := some .stop } }
    (fun t => t.dev.state == .boot && t.prog == Prog.init && t.pwr.cause == 3) = true := by decide +kernel
theorem witness_grace :
    ((tGrace 0).flt.grace.find? (fun g => g.src == 9 && decide (g.deadline ≤ (tGrace 0).clk.ticks))).isSome = true ∧
    (∀ g ∈ (tGrace 0).flt.grace, g.src ≠ 8 ∨ (tGrace 0).clk.ticks < g.deadline) ∧ tRun.flt.releaseAsked = false ∧
    ({ tRun with dev := { tRun.dev with part := .p7216 } } : State).dev.part ≠ .p7232 ∧ tRun.pwr.nresetLow = false := by decide +kernel
theorem witness_ack_clauses :
    (tAck .run 1).flt.newestPin ≤ 6 ∧ ¬ ((tAck .run 1).flt.newestPin ≤ 5) ∧ (tAck .safe 2).flt.newestSafe ≤ 6 ∧
    (∀ n ∈ (tAck .safe 2).flt.safeSrcs, bit (tAck .safe 2).liveBits n = false) ∧ bit (1 : Nat) 1 = false ∧ bit (2 : Nat) 1 = true ∧
    (let s := { tAck .safe 2 with flt := { (tAck .safe 2).flt with safeSrcs := [2], live := 4 } }
     2 ∈ s.flt.safeSrcs ∧ bit s.liveBits 2 = true) ∧ 400000 ≤ (tAck .run 1).clk.ticks - (tAck .run 1).flt.lowSince := by decide +kernel
theorem witness_wdg_clauses :
    let s := tWdg 4000000 (some 3999936) true
    s.wdg.count < s.wdg.cfgT * 400000 ∧ s.wdg.count - 3999936 ≤ 64 ∧ s.wdg.cfgOpen * 40000 ≤ s.wdg.count ∧
    (tWdg 3999999 (some 3999990) true).wdg.count < (tWdg 3999999 none true).wdg.cfgOpen * 40000 ∧
    (tWdg 5 none false).wdg.serviced = false ∧ (tWdg 40000000 none true).wdg.cfgT * 400000 ≤ 40000000 ∧ 64 < 65 - 0 ∧
    (tWdg 39999999 none true).wdg.count < (tWdg 39999999 none true).wdg.cfgT * 400000 ∧
    (0x5AC4#32 ≠ 0x0000C35A#32 ∧ 0x5AC4#32 ≠ 0x00005AC3#32) ∧
    ({ tWdg 5 none true with wdg := { Watchdog.init with restarting := some 0 } } : State).wdg.restarting ≠ none ∧
    ({ tWdg 40000000 none true with wdg := { Watchdog.init with ladder := 6 } } : State).ladderTop ≤ min 7 (6 + 1) := by decide +kernel
theorem witness_heartbeat_clauses :
    bit (tRun.flt.live) 31 = false ∧ ({ tRun with flt := { Faults.init with heartbeat := some 400000, live := 2 ^ 31 } } : State).coresRun = true ∧
    400000 ≤ tAlive.clk.ticks - tAlive.hp.hbeatAt ∧ tRun.flt.heartbeat = none ∧ (tRun.fclkUp && tRun.now % 1000000 < 3) = true ∧
    ({ tRun with wdg := { Watchdog.init with ladder := 7 } } : State).pn 0x912 ≤ min 7 (7 + 1) ∧ tRun.dev.state ≠ .off ∧
    tRun.clk.aclk = true ∧ ({ tRun with pwr := { tRun.pwr with clkLost := true, clkAt := 1 } } : State).clk.ticks - 1 < 400000 ∧
    ({ tRun with wdg := { Watchdog.init with restarting := some 0 } } : State).dev.state = .run ∧ tRun.pwr.core = true := by decide +kernel
/-- A restart that completes in RUN. -/
theorem test_restart_in_run : ran .coreRestartComplete { tRun with wdg := { Watchdog.init with restarting := some 0 } }
    (fun t => t.wdg.restarting == none && !t.sched.paused && (t.ctx 1).releasing && (t.ctx 1).fullEmission) = true := by decide +kernel

theorem witness_time_clauses :
    ({ tSync .run with clk := { (tSync .run).clk with syncInOk := false } } : State).clockSource ≠ (tSync .run).clk.source ∧
    (tUnit .run).clockSource = 0 ∧ ((1000000 : Int).natAbs : Int) ≤ (tSync .stop).pv 0x744 ∧ (tSync .stop).pv 0x744 < ((-1000001 : Int).natAbs : Int) ∧
    (tSync .stop).dev.state ≠ .run ∧ (tSync .run).pv 0x747 = 1 ∧ (tSync .run).clk.expected = some 1000000 ∧
    10 * ((tSync .run).now - 1000000) ≤ (tSync .run).pn 0x748 * 1000 ∧ (tUnit .run).pv 0x747 ≠ 1 ∧
    ({ tSync .run with clk := { (tSync .run).clk with expected := none } } : State).clk.expected = none ∧ (tSync .run).clk.missed < 2 := by
  decide +kernel
theorem witness_sync_clauses :
    (tOut false).clk.syncOutAt < (tOut false).now / 1000000 * 1000000 ∧ (tOut false).pn 0x74A * 1000 = 1000000 ∧ (tUnit .run).pn 0x74A = 0 ∧
    (tLink .run).net.link 1 = true ∧ (tUnit .run).net.link 1 = false ∧
    ({ tLink .run with net := { (tLink .run).net with gptp := { NetState.init.gptp with gm := 5, gmPrio := 0 } } } : State).gptpMode = 3 ∧
    tfind (tLink .run).net.gptp.sentAt 1 = none ∧ (tUnit .run).fclkUp = true ∧ (tUnit .run).clk.aclk = true ∧
    tWaitRun.dev.autoWait = true ∧ tWaitRun.dev.state = .stop ∧ tWaitRun.dev.role ≠ .standby ∧ (tUnit .stop).dev.autoWait = false := by decide +kernel

/-! ### Triple execution -/

theorem witness_tmr_clauses :
    oddCores (tOdd 5 4 5) tRun.tmr.voted = [1] ∧ (oddCores (tOdd 5 4 3) tRun.tmr.voted).length = 3 ∧ oddCores (tOdd 5 5 5) tRun.tmr.voted = [] ∧
    (recentDiffs [] tRun.now).length < 4 ∧ 4 ≤ (recentDiffs [1999000, 1998000, 1997000] tRun.now).length ∧
    coreApart (tOdd 5 4 5) (tIso false 0).tmr.voted 1 = true ∧ coreApart (tOdd 5 5 5) (tIso false 0).tmr.voted 1 = false ∧
    oddCores (tOdd 5 4 5) (tIso false 0).tmr.voted = [] ∧
    ({ tRun with tmr := { Tmr.init with mode := .split } } : State).tmr.mode = .split ∧
    (oddCores (tOdd 5 4 4) ({ tRun with tmr := { Tmr.init with mode := .dual, byRetirement := true, retired := [0] } } : State).tmr.voted) = [] := by decide +kernel
/-- The joins of 40 µs and of one FCLK cycle more; the timeouts at 40 µs and before. -/
theorem witness_resync :
    ((tIso true 384400).clk.ticks - 384400) * 5 / 2 + 1000 ≤ 40000 ∧ 40000 < ((tIso true 384399).clk.ticks - 384399) * 5 / 2 + 1000 ∧
    16000 ≤ (tIso true 384000).clk.ticks - 384000 ∧ (tIso true 384001).clk.ticks - 384001 < 16000 ∧ tRun.tmr.isolated = none := by decide +kernel
theorem witness_mode :
    (tMode .triple false none).dev.state = .stop ∧ (tMode .dual true none).tmr.isolated = none ∧ (tMode .split false none).coresRun = true ∧
    (tMode .triple true (some 0)).tmr.returning = some 0 ∧ tRun.tmr.requested = none ∧
    ({ tPeg none with tmr := { Tmr.init with requested := some .dual, reqAt := 399999 } } : State).modeGap = false ∧ (tPeg none).dev.state = .run ∧
    ({ tMode .triple false none with tmr := { (tMode .triple false none).tmr with isolated := some 2 } } : State).tmr.isolated ≠ none ∧
    ({ tMode .triple false none with tmr := { (tMode .triple false none).tmr with retired := [1] } } : State).tmr.retired ≠ [] := by decide +kernel
theorem witness_interrupt :
    let s (last : Nat) (nmi : Bool) : State := { tRun with tmr := { Tmr.init with irqPending := 3, irqLast := some last },
                                                           flt := { Faults.init with nmiDue := nmi } }
    20000 ≤ (s 380000 false).clk.ticks - 380000 ∧ (s 380001 false).clk.ticks - 380001 < 20000 ∧ (s 0 true).flt.nmiDue = true ∧
    (s 0 true).coresRun = true ∧ (tFail 4).coresRun = false := by decide +kernel

/-! ### The host port -/

theorem witness_port :
    State.reset.hostUp = false ∧ tRun.hp.netWaiting = [] ∧ tRun.hp.quad = false ∧ bit (4#32 : W32).toNat 2 = true ∧ bit (2#32 : W32).toNat 2 = false ∧
    tRun.hp.hstat = 0 ∧ (tMbx .rung none).hostOwns 3 = true ∧ ((tMbx .busy none).mailbox 3).state = .busy ∧
    (0x05#8 ∈ [0x05#8, 0x06#8, 0x0B#8, 0x0C#8, 0x38#8, 0xF5#8]) ∧ (0x9A#8 ∉ [0x05#8, 0x06#8, 0x0B#8, 0x0C#8, 0x38#8, 0xF5#8]) := by decide +kernel
/-- Two words of WRREG go to consecutive registers, and a word with two bits in error is not read as it stands. -/
theorem test_wrreg_words : ran (.wrreg 0x3E [7#32, 9#32] false) tRun (fun t => t.hp.scratch == 7) = true := by decide +kernel
theorem test_rdmbx_error :
    (ran (.rdmbx 3 0 1 [1]) { tMbx .done none with sram := [(0xFD3000, 9#8)] } (fun t => t.hp.rdata == [9]) &&
     ran (.rdmbx 3 0 1 [2]) { tMbx .done none with sram := [(0xFD3000, 9#8)] } (fun t => bit t.flt.sticky 5 && t.sram == [(0xFD3000, 9#8)])) = true := by
  decide +kernel
theorem witness_mailboxes :
    (∃ f ∈ [0, 2].take (ceilDiv ((7#12).toNat % 8 + 2) 8), 2 ≤ f) ∧ (∀ f ∈ [0, 1], f < 2) ∧ (tMbx .claimed (some 16)).freeMailbox = some 0 ∧
    ((tMbx .claimed (some 3)).mailbox 3).state ≠ .free ∧ (tMbx .claimed (some 4)).hp.claim = some 4 ∧ ((tMbx .claimed (some 4)).mailbox 4).state = .free ∧
    ({ tMbx .claimed (some 16) with params := [(0x114, 1)] } : State).pn 0x114 ≤ (tMbx .claimed (some 16)).hostHeld ∧
    ({ tTls with hp := { HostPort.init with mbx := (List.range 16).map (fun m => (m, { Mailbox.init with state := .claimed, owner := 1 })) } } :
      State).freeMailbox = none ∧ tfind tRun.sec.tls 4 ≠ some 0 := by decide +kernel
theorem witness_network_waits :
    (({ tTls with hp := { HostPort.init with netWaiting := [NetRequest.mk 2 4 [1#8]] } } : State).placeNet).hp.netWaiting = [] := by decide +kernel
theorem witness_take_clauses :
    let s := tRung 0x02 4 0 0 []
    s.hp.rings = [2] ∧ (∀ b ∈ s.sram.readN (mbxAddr 2 + 16 + 0) 16, b = 0#8) ∧ (s.readHdr 2).op ∈ [0x01, 0x02, 0x10] ∧ (s.readHdr 2).flags = 4 ∧
    s.lateChecks (Request.mk 2 0 0 [] 1) = 0 ∧ (tRung 0x90 0 0x11 1 []).lateChecks (Request.mk 0x90 0x11 1 [] 1) = 0 ∧
    opKnown 0x90 = true ∧ opKnown 0x03 = false ∧ ((tRung 0x90 0 0x11 1 []).session 1).next < 2 ^ 32 ∧
    ((tRung 0x92 0 0x11 1 []).setSession 1 { Session.init with isOpen := true, id := 0x11 }).lateChecks (Request.mk 0x92 0x11 1 [] 1) = 8 := by decide +kernel

/-! ### Requests and sessions -/

/-- Session 0x11 with a request of its own in mailbox 2, its next sequence and one answer on record. -/
def tNext (seq next : Nat) (flags : Nat) : State :=
  let s := tRung 0x90 flags 0x11 seq []
  s.setSession 1 { s.session 1 with next := next, history := [HistEntry.mk 6 0x90 0 0 0 0] }

theorem witness_sequences :
    (tNext 6 7 0).hp.rings = [2] ∧ ((tNext 6 7 0).readHdr 2).seq = 6 ∧ ((tNext 6 7 0).session 1).next = 7 ∧
    ((tNext 6 7 0).session 1).history.find? (fun e => e.seq == 6) = some (HistEntry.mk 6 0x90 0 0 0 0) ∧
    (∀ e ∈ ((tNext 7 24 0).session 1).history, e.seq ≠ 7) ∧ ((tNext 9 7 0).session 1).next < ((tNext 9 7 0).readHdr 2).seq ∧
    ((tNext 7 7 1).readHdr 2).flags ≠ 0 ∧ ((tNext 7 7 1).session 1).authFails + 1 < 8 ∧
    (tNext 7 7 0).findSession 0x12 1 0 = none ∧ (tDone false).serves = true ∧ ((tDone false).mailbox 2).resp.isSome = true ∧
    ((tDone false).session 1).closing = false ∧ (tUnit .run).hp.rings = [] ∧ ((tUnit .run).mailbox 2).resp = none ∧
    (tUnit .run).request 2 0x02 = none := by decide +kernel
theorem test_take_repeats : ran (.mailboxTake true []) (tNext 6 7 0) (fun t => (t.mailbox 2).resp.map Response.rep == some true) = true := by
  decide +kernel

theorem witness_session_clauses :
    let late := { (tSess (tUnit .run)).setMailbox 2 { Mailbox.init with
        state := .busy, owner := 1, req := some (Request.mk 0x90 0x11 9 [] 1), waitFrom := some 0 } with
      clk := { (tUnit .run).clk with ticks := 40000000 } }
    (late.session (0x11 % 16)).next < 9 ∧ (late.mailbox 2).state = .busy ∧ tfind tTls.sec.tls 4 ≠ none ∧ tfind tTls.sec.tls 5 = none ∧
    (tUnit .run).tlsUp 0 = false ∧ ¬ ((tTls.sec.tls.length) < ({ tTls with params := [(0xB12, 1)] } : State).pn 0xB12) ∧
    ({ tSess (tUnit .run) with clk := { (tUnit .run).clk with ticks := 60 * secTicks + 400000 } } : State).clk.ticks -
      ((tSess (tUnit .run)).session 1).lastReq = 60 * secTicks := by decide +kernel
theorem witness_open_clauses :
    let leg2 (kind idx : Nat) : State :=
      { tAsk (tUnit .run) 0x10 0x12 (leBytes 1 1 ++ leBytes 1 0 ++ leBytes 2 30 ++ leBytes 1 2 ++ leBytes 1 kind ++ leBytes 2 idx ++ leBytes 134 0) with
        sec := { (tUnit .run).sec with prov := [Provisional.mk 2 0x12 1 0 400000 9] } }
    (tOpen 2).elapsed 400000 ≤ 5 * secTicks ∧ (tOpen 2).sec.grant 0 0 1 = .rights 295 ∧ (tOpen 2).sec.grant 7 0 1 = .none ∧
    ¬ (0 < policyCount (leg2 2 0).sec.policy) ∧ (tOpen 2).sec.prov.find? (fun v => v.id == 0x13) = none ∧
    ({ tOpen 2 with clk := { (tOpen 2).clk with ticks := 400001 + 5 * secTicks } } : State).elapsed 400000 = 5 * secTicks + 1 ∧
    ({ tOpen 1 with sec := { (tOpen 1).sec with prov := (List.range 16).map (fun k => Provisional.mk k (16 + k) 1 0 0 0) } } : State).freeSlot = none := by
  decide +kernel
theorem witness_params :
    ((tAsk (tUnit .run) 0x20 0x11 (leBytes 2 0 ++ leBytes 2 0)).request 2 0x20).map (fun r => leAt r.payload 0 2) = some 0 ∧
    (tUnit .run).readStatus 0x7FF ≠ 0 ∧ (tUnit .run).readStatus 0x745 = 0 ∧ ((tUnit .run).pidRow 0x745).map PRow.ty ≠ some 9 ∧
    tfind (tUnit .run).bootParams 0x745 = none ∧ (0 ≤ (tUnit .run).pv 0x745) ∧ bit ((tSess (tUnit .run)).session 1).rights 0 = true ∧
    readEntries 1 [1#8] = none ∧ 2 ∉ (tSet 50).nvm.setWaiting ∧ 2 ∉ (tSet 50).nvm.setRunMbx ∧ 0x745 ∉ (tSet 50).setBefore 1 ∧
    2 ∈ ({ tSet 50 with nvm := { Nvm.init with setWaiting := [2] } } : State).nvm.setWaiting ∧
    0x745 ∈ ({ tSet 50 with hp := { (tSet 50).hp with setTick := (tSet 50).clk.ticks, setBy := [(0x745, 0)] } } : State).setBefore 1 ∧
    ((tSet 49).entryStatus ((tSet 49).preview [SetEntry.mk 0x745 (leBytes 4 49)]) ((tSet 49).session 1).rights
      [SetEntry.mk 0x745 (leBytes 4 49)] (SetEntry.mk 0x745 (leBytes 4 49))).1 ≠ 0 := by decide +kernel
theorem witness_state_clauses :
    let drain (d : DevState) : State := { tRun with dev := { tRun.dev with drain := some d } }
    (tState (drain .halt) 2 0).stateRequest 2 = some (2, false) ∧ (tState (drain .stop) 4 1).dev.drain = some .stop ∧
    (tState (tUnit .stop) 9 0).stateRequest 2 = some (9, false) ∧ (tUnit .run).stateRequest 2 = none ∧ (tUnit .stop).subNow = .none ∧
    (tState (tUnit .stop) 3 0).runNotReady = true ∧ (tState (tUnit .safe) 3 0).dev.state ≠ .run ∧ (tUnit .stop).clk.source = 0 ∧
    ({ tUnit .stop with dev := { (tUnit .stop).dev with sub := .test } } : State).subNow = .test := by decide +kernel
theorem witness_image_clauses :
    ptIndex 0x500020 + 32 ≤ areaLen tImg.program.dbSize (ptArea 0x500020) ∧ areaIsBit (ptArea 0x400008) = true ∧ areaIsBit (ptArea 0x500020) = false ∧
    ¬ (ptArea 0x800000 ≤ 7) ∧ forceable 0x500002 = false ∧ (tUnit .run).pv 0x618 = 0 ∧
    256 < (tset ((List.range 256).map (fun i => (i, 1))) 0x300002 9).length ∧ (tset ((List.range 255).map (fun i => (i, 1))) 0x300002 9).length ≤ 256 := by
  decide +kernel
theorem witness_log_read : (∀ q ∈ tLog.nvm.logRing, q.seq < 3) ∧ (1 ≤ 63 ∧ 63 < 64) ∧ tLog.request 2 0x60 = none := by decide +kernel
theorem witness_pair_clauses :
    (tAsk (tPair .solo .stop) 0x91 0x11 []).pn 0xE00 = 1 ∧ (tPair .solo .stop).stby.linkUp = true ∧ pairState .stop = true ∧
    (tPair .solo .run).switchStatus = 0xB ∧ (tPair .primary .run).switchStatus = 0 ∧
    ({ tPair .primary .run with stby := { (tPair .primary .run).stby with sync := 1 } } : State).switchStatus = 0xC ∧
    ((tPair .primary .run).releaseInstant (1000000 + 10000000 * 1000)).isSome = true ∧ (tUnit .run).stby.linkUp = false := by decide +kernel

/-! ### Update and security -/

theorem witness_update_clauses :
    (tUnit .stop).updServed = true ∧ (tUnit .halt).updServed = false ∧ ({ tUnit .run with params := [(0xA35, 0)] } : State).moving.1 = false ∧
    ({ tImg with params := [(0xA35, 0), (0xA36, 0x400009)] } : State).moving.1 = true ∧ 512 + 0 ≤ (tUpd .stop .download id).upd.len ∧
    (tUpd .stop .download (fun u => { u with verifying := true })).pwr.sec = true ∧
    (tUpd .stop .download id).imageStatus (tImage 1) ⟨false, true⟩ ≠ 0 ∧
    ({ tUnit .stop with sec := { SecState.init with lockSet := true } } : State).sec.locked = true ∧
    60 * secTicks ≤ ({ tUpd .stop .verified id with clk := { (tUnit .stop).clk with ticks := 60 * secTicks } } : State).elapsed 0 := by decide +kernel
theorem witness_activate_clauses :
    tUpdAct.updServed = true ∧ tUpdAct.sec.locked = false ∧ tUpdAct.editBusy = false ∧ tUpdAct.activateStatus2 = 0 ∧
    ({ tUpdAct with upd := { tUpdAct.upd with stage := .download } } : State).activateStatus2 ≠ 0 ∧ tUpdAct.upd.mbx ≠ some 2 ∧
    ({ tUpdAct with params := [] } : State).holdupFresh = false ∧ tUpdAct.upd.measFor ≠ some 2 ∧ tUpdAct.pn 0x783 ≠ 1 ∧ tUpdAct.pwr.holdup = none ∧
    ({ tUpdAct with prog := tArmed.prog } : State).editBusy = true := by decide +kernel
theorem witness_trial_clauses :
    (tTrial none).trialHealthy = true ∧ ({ tTrial (some 0) with wdg := Watchdog.init } : State).trialHealthy = false ∧
    (tTrial none).coresRun = true ∧ (tTrial none).clk.ticks < (tTrial none).upd.confirmBy ∧ (tTrial none).elapsed (secTicks + 1) < secTicks ∧
    (let s := { tUpd .stop .reverting (fun u => { u with handed := true, fromRecovery := true }) with nvm := { Nvm.init with jobs := [.update 1] } }
     s.updLastRow = some 0 ∧ s.rowsRun = true ∧ s.otherTurn = true ∧ s.handoverGap = true) ∧ (tUnit .stop).updLastRow = none ∧
    (tUpd .stop .activated id).upd.fromRecovery = false ∧ (tUpd .stop .activated id).hp.stopped = false ∧
    (tUpd .stop .activated id).nvm.copyFor 1 = none := by decide +kernel
theorem witness_offer_clauses :
    ((tPair .primary .run).scarfTaken tHdr).dev.role ≠ .standby ∧ ((tPair .standby .run).scarfTaken tHdr).stby.updBuf ++ tImage 1 ≠ [] ∧
    ((tPair .standby .run).scarfTaken tHdr).upd.stage = .none ∧ ((tPair .standby .run).scarfTaken tHdr).imageStatus (tImage 1) ⟨true, true⟩ = 0 ∧
    ((tPair .standby .run).scarfTaken tHdr).imageStatus (tImage 1) ⟨true, false⟩ ≠ 0 ∧ (tPair .primary .run).scarfGood tHdr = true ∧
    (({ tPair .primary .run with upd := { Update.init with stage := .activating, peer := 3 } } : State).scarfTaken tHdr).upd.peer = 3 := by decide +kernel
theorem witness_own_clauses :
    (tOwn none 0x80 0 []).ownRequest 2 0x80 0 ≠ none ∧ (tOwn none 0x80 0 []).ownRequest 2 0x80 1 = none ∧
    ({ tUnit .run with sec := SecState.init } : State).ownState = false ∧ (tOwn none 0x80 1 []).challengeOf 0x12 = none ∧
    ({ tOwn none 0x80 1 [] with prog := { Prog.init with staging := .staging, lockSession := some 0x11 } } : State).ownLate ≠ 0 ∧
    (tOwn (some [1#8]) 0x80 2 []).sec.owner ≠ none ∧ (tOwn (some [1#8]) 0x81 2 []).ownRequest 2 0x81 2 ≠ none ∧
    ({ tUnit .stop with sec := { SecState.init with tamperRec := some 0 } } : State).resetReady 0 = true ∧
    ({ tUnit .stop with sec := { SecState.init with tamperRec := some 7 }, nvm := { Nvm.init with logQueue := [LogRec.mk 0 0x20 7 [1#8] 0 0 false] },
                        flt := { Faults.init with queue := [7] } } : State).sec.tamperRec = some 7 ∧
    (leBytes 32 3).length = 32 ∧ tRun.fclkUp = true ∧ tRun.pwr.warnLive = false ∧ State.reset.pwr.sec = false := by decide +kernel

/-! ### Hot standby -/

theorem witness_link_clauses :
    let joins := { tUnit .stop with params := [(0xE00, 1), (0xE05, 1)] }
    joins.pwr.scarf = true ∧ joins.stby.linkUp = false ∧ joins.mayPair = true ∧ ({ tUnit .stop with params := [(0xE05, 0)] } : State).pv 0xE05 ≠ 1 ∧
    ({ tPair .primary .run with clk := { (tUnit .run).clk with ticks := 6000 } } : State).elapsed 0 = 15 * usTicks ∧
    (tPair .primary .run).elapsed 394001 < 15 * usTicks ∧ (tPair .primary .run).stby.joining = false ∧ (tPair .primary .run).stby.lane0 = true ∧
    ({ tPair .solo .stop with stby := { (tPair .solo .stop).stby with joining := true } } : State).mayPair = true ∧
    (tUnit .stop).stby.lane0 = false ∧ (tPair .standby .run).scarfGood tHdr = true ∧ ((tPair .standby .run).scarfTaken tHdr).stby.follow = none ∧
    (tPair .standby .run).scarfGood { tHdr with crcOk := false } = false ∧ (tPair .standby .run).pn 0xE0A + 1 < 2 ^ 32 := by decide +kernel

/-- The rows of Table STBY-4: refused, standby, primary, and neither. -/
theorem witness_negotiate :
    (match (tPrim.scarfTaken tHdr).negotiate (tHello 0x1C30 4 0) with
     | some (.error 1) => true
     | _ => false) = true ∧
    (match ((tPair .solo .stop).scarfTaken tHdr).negotiate (tHello 0x1C40 4 0) with
     | some (.ok .standby) => true
     | _ => false) = true ∧
    (match (tPrim.scarfTaken tHdr).negotiate (tHello 0x1C40 3 0) with
     | some (.ok .primary) => true
     | _ => false) = true ∧
    ((tPair .primary .run).scarfTaken tHdr).mayPair = false := by decide +kernel
theorem witness_delta_clauses :
    (tStby.scarfTaken tHdr).takesDeltas = true ∧ ((tPair .primary .run).scarfTaken tHdr).takesDeltas = false ∧
    (tStby.scarfTaken tHdr).stby.staged.length = 1 ∧ (crc32c ((tStby.scarfTaken tHdr).stby.staged.flatMap (fun g => g.data ++ g.mask))).toNat ≠ 0 ∧
    (tStby.scarfTaken tHdr).prog.armed = none ∧ tStby.scarfGood { tHdr with seq := 7, crcOk := false } = false ∧ tStby.takesDeltas = true ∧
    ((tStby.stby.acked.map Delta.ctx) = [1]) ∧ (tPair .standby .run).stby.acked = [] ∧
    (∃ o ∈ (tOwes.scarfTaken tHdr).stby.outstanding, o.peg = tHdr.peg ∧ o.crc = 55) ∧ (tOwes.scarfTaken tHdr).waitsAcks = true ∧
    (∃ o ∈ tOwes.stby.outstanding, o.deadline ≤ tOwes.clk.ticks) ∧ tOwes.stby.linkUp = true ∧
    ((tPair .standby .run).scarfTaken tHdr).waitsAcks = false ∧ 0x9999 ∉ (tStby.scarfTaken tHdr).imagePages ∧
    (tStby.scarfTaken tHdr).stby.copied.length = 0 := by decide +kernel

/-- 256 pages staged; the delta of an edit, armed and not. -/
def tStagedFull : State := { tStby with stby := { tStby.stby with staged := (List.range 256).map (fun i => DeltaPg.mk (0x5000 + i) [] [1#8]) } }
/-- See `tStagedFull`. -/
def tEditDelta (armed : Bool) : State := { tStby with
  prog := if armed then tArmed.prog else tStby.prog,
  stby := { tStby.stby with acked := [Delta.mk 7 255 900000 [] [3] []] } }

theorem witness_delta_edges :
    256 ≤ (tStagedFull.scarfTaken tHdr).stby.stagedFrames ∧
    ((tEditDelta true).stby.acked.map Delta.ctx) = [255] ∧ (tEditDelta true).prog.armed.isSome = true ∧ (tEditDelta false).prog.armed = none := by
  decide +kernel
theorem test_edit_delta : ran .deltaApply (tEditDelta true) (fun t => t.prog.armed == none && t.program.version == 9 && t.prog.chain == 1 &&
    t.img.pegSeq == 7) = true := by decide +kernel

/-- An offered edit passes the standby's gate; one whose signature does not verify fails its checks. -/
theorem witness_offer_gate :
    (tOffered.scarfTaken tHdr).offerGate true = 0 ∧ ({ tOffered with prog := { tOffered.prog with staging := .staging } } : State).dev.role = .standby ∧
    (match ((tPair .standby .run).scarfTaken tHdr).checkContainer true [2, 3] (tBox 3 0 0) 368 ⟨false, true⟩ with
     | .ok _ => false
     | .error _ => true) = true ∧ leAt (tBox 3 0 0) 6 1 = 3 := by decide +kernel

/-- At X: a standby that may be primary, one that is no longer LEVEL, and a primary with a peg before X. -/
theorem test_switch_in : ran .switchInstant { tPrim with
    dev := { tPrim.dev with role := .standby }, stby := { tPrim.stby with sync := 2, switchAt := some 1000000 } }
    (fun t => t.dev.role == .primary && t.stby.holdEmit && t.stby.epoch == 5) = true := by decide +kernel
theorem witness_switch :
    State.primaryBad { tPrim with dev := { tPrim.dev with role := .standby }, stby := { tPrim.stby with sync := 2, switchAt := some 1000000 } } = none ∧
    (tSwitch .standby).primaryBad.isSome = true ∧ (tSwitch .primary).pegBefore 1000000 = false ∧ (tSwitch .primary).stby.sync = 2 ∧
    (tPeg none).pegBefore 2900001 = true ∧ (tPair .primary .run).stby.switchAt = none ∧
    ({ tSwitch .standby with stby := { (tSwitch .standby).stby with sync := 1 } } : State).stby.sync ≠ 2 := by decide +kernel
theorem witness_verdicts :
    let waits := { tAsk (tPair .primary .run) 0x59 0x11 [] with prog := { Prog.init with waitMbx := some 2, staging := .checking } }
    (waits.scarfTaken tHdr).prog.waitMbx = some 2 ∧ ((waits.scarfTaken tHdr).mailbox 2).req ≠ none ∧
    ((tPair .primary .run).scarfTaken tHdr).prog.waitMbx = none ∧ ((tPair .primary .run).scarfTaken tHdr).stby.offers = [] ∧
    (({ tPair .primary .run with stby := { (tPair .primary .run).stby with offers := [1] } } : State).scarfTaken tHdr).stby.offers = [1] := by
  decide +kernel

/-! ### Remote I/O -/

theorem witness_master_clauses :
    let s := tMaster { NodeState.init with state := 2 }
    (∃ g, s.segCfg 1 = some g ∧ s.inWindow g 1000000 = true ∧ g.port = 1 ∧ g.seg = 1 ∧ g.cycle = 1000) ∧
    (∀ d ∈ s.segNodes 1, (s.node d.num).inSeen = true ∧ (s.node d.num).state ≠ 4 ∧ d.seg = 1) ∧ ((s.segNodes 1).map NodeCfg.num).Nodup ∧
    (s.freshSeg (s.seg 1)).seq + (s.segNodes 1).length + 1 < 2 ^ 31 ∧ (s.seg 1).last = none ∧ s.dev.state ≠ .lockout ∧
    s.pn (segPid 1 9) + 1 < 2 ^ 64 :=
  ⟨⟨_, rfl, by decide +kernel⟩, by decide +kernel⟩
theorem witness_in_clauses :
    (tSent.recover tNodeCfg false 3).1.isSome = true ∧ (tSent.node 32).outSeq = leAt ((tIn true).bytes.drop 32) 0 4 ∧ (tSent.node 32).inSeen = false ∧
    tSent.now < (tSent.node 32).cycle + 1000 * 1000 ∧ (readSrxHdr (tIn true).bytes).epoch ≤ tSent.stby.epoch ∧ bit (readSrxHdr (tIn true).bytes).flags 2 = false ∧
    bit (leAt ((tIn true).bytes.drop 32) 4 2) 2 = false ∧ (tSent.node 32).state = 2 ∧ tSent.net.authTimes.length < 63 ∧
    (tSent.node 32).misses + 1 < tNodeCfg.missLimit := by decide +kernel
/-- The recovery on a ring: a second copy, one outside a history of 10 and the next of the stream. -/
theorem witness_recovery :
    recoverSeq 10 [5, 4] 4 = .duplicate ∧ recoverSeq 10 [5, 4] 65531 = .rogue ∧ recoverSeq 10 [5, 4] 65532 = .take [5, 4, 65532] 0 ∧
    recoverSeq 2 [5, 4] 6 = .take [6, 5] 0 ∧ recoverSeq 2 [5] 6 = .take [6, 5] 1 ∧ recoverSeq 2 [5, 4] 7 = .rogue := by decide +kernel
theorem test_recovery_duplicate : ran (.srxIn 1 { tIn true with rtag := 5 })
    { tSent with net := { tSent.net with
        cfg := tSent.net.cfg.map (fun c => { c with segs := c.segs.map (fun g => { g with port := 3 }) }),
        nodes := [(32, { tSent.node 32 with recovered := [5, 4] })] } }
    (fun t => t.pn 0xC08 == 1 && !(t.node 32).inSeen) = true := by decide +kernel
theorem witness_exchange_clauses :
    ((tAreq 0).net.exchanges.find? (fun k => k.id == 3)).isSome = true ∧ (tAreq 0).srxOn = true ∧ ((tAreq 0).nodeKey 32).isSome = true ∧
    (tMaster NodeState.init).node 32 = NodeState.init ∧ (tMaster NodeState.init).mastersSrx = true ∧ (tMaster NodeState.init).sec.ns ≠ none ∧
    (tUnit .run).net.linkA = false ∧ (tUnit .run).net.cfg = none ∧ (tUnit .run).pwr.net = true := by decide +kernel
theorem witness_node_clauses :
    (match (tSlave (some 3)).slaveChecks 0 1 0 { tOutFrame 3 with tagOk := false } with
     | .inr _ => true
     | .inl _ => false) = true ∧
    ((tSlave (some 3)).slave 0).staleEpoch 2 = true ∧ ((tSlave (some 3)).slave 0).staleEpoch 3 = false ∧
    ((tSlave (some 3)).slaveChecks 0 3 1 (tSrx 3 1 0 1 7 5 true (leBytes 8 0))).isLeft = true ∧
    ((tSlave (some 3)).slaveChecks 0 4 0 (tSrx 4 1 0 1 3 5 true [])).isLeft = true ∧ ((tSlave (some 3)).slave 0).epoch ≠ none ∧
    (((tSlave (some 3)).slave 0).fresher (1, 2, 0) 0 5).isSome = true ∧ (readSrxHdr (tAreqFrame 1 0x1003 []).bytes).gen = 0 := by decide +kernel

end Sys2Proof.Tests
end

section
/-!
PROOF. The scope chapter: the machine right after power-on reset (R8, R384, R472).
-/

namespace Sys2Proof.Machine

/-! ### Empty stores -/

/-- A parameter that nothing has written is at the default of its table (R346). -/
theorem State.pv_of_params_nil {s : State} (h : s.params = []) (pid : Nat) : s.pv pid = paramDefault pid := by
  simp only [State.pv, h, tfind]

/-- A unit that holds no context entry has no context configured. -/
theorem State.configured_of_ctxs_nil {s : State} (h : s.ctxs = []) : s.configured = [] := by
  have hctx : ∀ c, s.ctx c = Ctx.init := fun c => by simp only [State.ctx, h, tget]
  have hcfg : Ctx.init.cfg.isSome = false := rfl
  simp [State.configured, hctx, hcfg]

@[simp] theorem Memory.read_nil (a : Nat) : Memory.read [] a = 0#8 := rfl

@[simp] theorem Memory.wf_nil : Memory.wf [] = true := rfl

/-- Every point of a memory that nothing has written reads 0, in a bit area and in a word area. -/
@[simp] theorem readPt_nil (pt : Nat) : readPt [] pt = 0 := by
  unfold readPt
  split
  · simp [b2n]
  · simp

theorem State.committed_of_sram_nil {s : State} (h : s.sram = []) (pt : Nat) : s.committed pt = 0 := by
  simp only [State.committed, h, readPt_nil]

theorem State.memoryOk_of_nil {s : State} (hsram : s.sram = []) (hferam : s.feram = []) (hbays : s.bays = []) :
    s.MemoryOk := by
  simp [State.MemoryOk, hsram, hferam, hbays]

/-! ### The step on an empty queue -/

/-- With no command waiting a step is one FCLK cycle (log 10). -/
theorem step_of_pending_nil {s : State} (h : s.pending = []) : step s = .next s.fclk := by
  simp only [step, h]

/-! ### Power-on reset -/

/-- DSTATE after reset is the code of BOOT alone: no substate, role SOLO, no pair, no program, no owner, and nobody serves. -/
theorem State.reset_dstateLow : State.reset.dstateLow = 1 := by decide +kernel

/-- Settles O3: the stores are empty, so what is read from them is a default, and the other clauses are fields of the parts'
reset values. -/
theorem powerOnResetState : Obligations.PowerOnResetState := by
  unfold Obligations.PowerOnResetState
  have hconf : State.reset.configured = [] := State.configured_of_ctxs_nil rfl
  have hmem : State.reset.MemoryOk := State.memoryOk_of_nil rfl rfl rfl
  have hfuses : State.reset.sec.fuses ≤ 256 := Nat.zero_le _
  exact ⟨rfl, rfl, hconf, rfl, rfl, rfl, rfl, rfl, rfl, rfl, rfl, State.reset_dstateLow, rfl, rfl,
    State.pv_of_params_nil rfl, State.committed_of_sram_nil rfl, hmem, hfuses, step_of_pending_nil rfl⟩

end Sys2Proof.Machine
end

section
/-!
PROOF. Canonical memories (R20, R23): what keeps the stores of a state in canonical form. A state update that names no store keeps it
(`State.MemoryOk.update`); one that names a store needs the form of the new store (`withSram`, `withFeram`, `withBays`).
-/

namespace Sys2Proof.Machine

variable {s : State} {b : Bay}

/-- The FeRAM of a bay is in canonical form. -/
def Bay.FeramOk (b : Bay) : Prop := Memory.wf b.feram = true

/-- Whatever next state an answer holds has its memories in canonical form. -/
def ResOk (r : Res) : Prop := ∀ t, r = .next t → t.MemoryOk

theorem ResOk.next (h : s.MemoryOk) : ResOk (.next s) := fun t e => by cases e; exact h

theorem ResOk.ite {p : Prop} [Decidable p] {a c : Res} (ha : ResOk a) (hc : ResOk c) : ResOk (if p then a else c) := by
  split
  · exact ha
  · exact hc

/-! ### The stores of a state -/

theorem State.MemoryOk.sram (h : s.MemoryOk) : Memory.wf s.sram = true := h.1

theorem State.MemoryOk.feram (h : s.MemoryOk) : Memory.wf s.feram = true := h.2.1

theorem State.MemoryOk.bays (h : s.MemoryOk) : ∀ e ∈ s.bays, e.2.FeramOk := h.2.2

/-- An update of the other parts keeps the form of the stores. -/
theorem State.MemoryOk.update (h : s.MemoryOk) {pending freeCtr dev clk pwr params bootParams blocks ctxs img sched
    prog flt wdg tmr hp nvm upd sec stby net eng} :
    State.MemoryOk { pending := pending, freeCtr := freeCtr, dev := dev, clk := clk, pwr := pwr, sram := s.sram, feram := s.feram,
                     params := params, bootParams := bootParams, blocks := blocks, ctxs := ctxs, img := img, sched := sched,
                     prog := prog, flt := flt, wdg := wdg, tmr := tmr, hp := hp, nvm := nvm, upd := upd, sec := sec, stby := stby,
                     net := net, eng := eng, bays := s.bays } := h

theorem State.MemoryOk.withSram (h : s.MemoryOk) {sram : Memory} (hm : Memory.wf sram = true) {pending freeCtr dev clk pwr
    params bootParams blocks ctxs img sched prog flt wdg tmr hp nvm upd sec stby net eng} :
    State.MemoryOk { pending := pending, freeCtr := freeCtr, dev := dev, clk := clk, pwr := pwr, sram := sram, feram := s.feram,
                     params := params, bootParams := bootParams, blocks := blocks, ctxs := ctxs, img := img, sched := sched,
                     prog := prog, flt := flt, wdg := wdg, tmr := tmr, hp := hp, nvm := nvm, upd := upd, sec := sec, stby := stby,
                     net := net, eng := eng, bays := s.bays } := ⟨hm, h.2⟩

theorem State.MemoryOk.withFeram (h : s.MemoryOk) {feram : Memory} (hm : Memory.wf feram = true) {pending freeCtr dev clk pwr
    params bootParams blocks ctxs img sched prog flt wdg tmr hp nvm upd sec stby net eng} :
    State.MemoryOk { pending := pending, freeCtr := freeCtr, dev := dev, clk := clk, pwr := pwr, sram := s.sram, feram := feram,
                     params := params, bootParams := bootParams, blocks := blocks, ctxs := ctxs, img := img, sched := sched,
                     prog := prog, flt := flt, wdg := wdg, tmr := tmr, hp := hp, nvm := nvm, upd := upd, sec := sec, stby := stby,
                     net := net, eng := eng, bays := s.bays } := ⟨h.sram, hm, h.bays⟩

theorem State.MemoryOk.withBays (h : s.MemoryOk) {bays : List (Nat × Bay)} (hb : ∀ e ∈ bays, e.2.FeramOk) :
    State.MemoryOk { s with bays := bays } := ⟨h.sram, h.feram, hb⟩

theorem State.MemoryOk.ite {p : Prop} [Decidable p] {t : State} (hs : s.MemoryOk) (ht : t.MemoryOk) :
    (if p then s else t).MemoryOk := by
  split
  · exact hs
  · exact ht

theorem State.MemoryOk.foldl {α : Type} {f : State → α → State} (hf : ∀ s a, s.MemoryOk → (f s a).MemoryOk) (h : s.MemoryOk)
    {l : List α} : (l.foldl f s).MemoryOk := by
  induction l generalizing s with
  | nil => exact h
  | cons a r ih => exact ih (hf s a h)

theorem State.MemoryOk.ofSnd {α : Type} {p : α × State} {a : α} (h : p.2.MemoryOk) (e : p = (a, s)) : s.MemoryOk := by
  subst e
  exact h

theorem State.MemoryOk.ofFst {α : Type} {p : State × α} {a : α} (h : p.1.MemoryOk) (e : p = (s, a)) : s.MemoryOk := by
  subst e
  exact h

theorem Bay.FeramOk.update (hb : b.FeramOk) {par inReset cfgLost resetSeen cfgCopy cfgSeq cfgCrc timeSet timeBase timeTick latched
    fresh lastFresh silent safeNow clockLost limp lp lpMin warn uv qualified qualifiedAt highAt lowAt temp link lostAt isns fltLow sel
    almsel sticky decayAt chans m0 m1 trims} :
    Bay.FeramOk { feram := b.feram, par := par, inReset := inReset, cfgLost := cfgLost, resetSeen := resetSeen, cfgCopy := cfgCopy,
                  cfgSeq := cfgSeq, cfgCrc := cfgCrc, timeSet := timeSet, timeBase := timeBase, timeTick := timeTick, latched := latched,
                  fresh := fresh, lastFresh := lastFresh, silent := silent, safeNow := safeNow, clockLost := clockLost, limp := limp,
                  lp := lp, lpMin := lpMin, warn := warn, uv := uv, qualified := qualified, qualifiedAt := qualifiedAt, highAt := highAt,
                  lowAt := lowAt, temp := temp, hb := link, lostAt := lostAt, isns := isns, fltLow := fltLow, sel := sel, almsel := almsel,
                  sticky := sticky, decayAt := decayAt, chans := chans, m0 := m0, m1 := m1, trims := trims } := hb

theorem Bay.FeramOk.ite {p : Prop} [Decidable p] {c : Bay} (hb : b.FeramOk) (hc : c.FeramOk) : (if p then b else c).FeramOk := by
  split
  · exact hb
  · exact hc

theorem Bay.FeramOk.foldl {α : Type} {f : Bay → α → Bay} (hf : ∀ b a, b.FeramOk → (f b a).FeramOk) (hb : b.FeramOk)
    {l : List α} : (l.foldl f b).FeramOk := by
  induction l generalizing b with
  | nil => exact hb
  | cons a r ih => exact ih (hf b a hb)

/-! ### More operations on memories -/

/-- A canonical memory whose bytes are changed in place is canonical again once the blank ones are dropped. -/
theorem Memory.wfFrom_rewrite (f : Nat → Byte → Byte) (m : Memory) (lo : Nat) (h : Memory.wfFrom lo m = true) :
    Memory.wfFrom lo ((m.map (fun c => (c.1, f c.1 c.2))).filter (fun c => c.2 != Memory.blank)) = true := by
  induction m generalizing lo with
  | nil => rfl
  | cons c r ih =>
    obtain ⟨a, y⟩ := c
    simp only [Memory.wfFrom, Bool.and_eq_true, decide_eq_true_eq] at h
    obtain ⟨⟨hlo, -⟩, hr⟩ := h
    have hrest := ih (a + 1) hr
    by_cases hf : f a y = Memory.blank
    · simpa [hf] using Memory.wfFrom_mono _ lo (a + 1) hrest (by omega)
    · simpa [hf, Memory.wfFrom, hlo] using hrest

theorem wf_clearRetentive {m : Memory} (h : Memory.wf m = true) : Memory.wf (clearRetentive m) = true := Memory.wf_restrict _ _ h

theorem wf_zeroRow {m : Memory} (row : Nat) (h : Memory.wf m = true) : Memory.wf (zeroRow m row) = true := Memory.wf_restrict _ _ h

theorem wf_putCopy {m : Memory} (k : Nat) (par : List (Nat × Int)) (firs : List (List Byte)) (h : Memory.wf m = true) :
    Memory.wf (putCopy m k par firs) = true :=
  wf_foldl_writeL _ _ _ _ (wf_foldl_writeL _ _ _ _ (Memory.wf_restrict _ _ h))

theorem wf_copyBlocks (f g : Nat → Nat) (l : List Nat) {m : Memory} (h : Memory.wf m = true) :
    Memory.wf (l.foldl (fun (m : Memory) i => copyBlock m (f i) (g i)) m) = true := by
  induction l generalizing m with
  | nil => exact h
  | cons i r ih =>
    rw [List.foldl_cons]
    exact ih (wf_copyBlock m (f i) (g i) h)

end Sys2Proof.Machine
end

section
/-!
PROOF. Canonical memories: every operation of the model keeps the form, in the order of the model's files. For an operation `f` on
states the lemma is `State.MemoryOk.f`, for one on bays `Bay.FeramOk.f`, and for a command `ResOk.f`.
-/

namespace Sys2Proof.Machine

variable {s : State} {b : Bay}

/-! ### Ops -/

theorem ResOk.whenOk {g : Bool} (h : s.MemoryOk) {t : State} (ht : t.MemoryOk) : ResOk (whenOk g s t) := .ite (.next ht) (.next h)

theorem State.MemoryOk.draw (h : s.MemoryOk) : s.draw.2.MemoryOk := .update h

theorem State.MemoryOk.setPv (h : s.MemoryOk) {pid : Nat} {v : Int} : (s.setPv pid v).MemoryOk := .update h

theorem State.MemoryOk.bump (h : s.MemoryOk) {pid w : Nat} : (s.bump pid w).MemoryOk := .ite (.setPv h) (.setPv (.draw h))

theorem State.MemoryOk.worst (h : s.MemoryOk) {pid v : Nat} : (s.worst pid v).MemoryOk := .ite (.setPv h) h

theorem State.MemoryOk.logRec (h : s.MemoryOk) {type : Nat} {bytes : List Byte} {faultSeq : Nat} {reserved : Bool} :
    (s.logRec type bytes faultSeq reserved).MemoryOk :=
  .ite (.worst (.update h)) (.update (.bump h))

theorem State.MemoryOk.log (h : s.MemoryOk) {type : Nat} {bytes : List Byte} : (s.log type bytes).MemoryOk := .logRec h

theorem State.MemoryOk.bumpPage (h : s.MemoryOk) {page : Nat} : (s.bumpPage page).MemoryOk := .update h

theorem State.MemoryOk.writeRow (h : s.MemoryOk) {addr : Nat} {bs : List Byte} : (s.writeRow addr bs).MemoryOk :=
  .withFeram h (Memory.wf_writeL _ _ _ h.feram)

theorem State.MemoryOk.setCtx (h : s.MemoryOk) {c : Nat} {x : Ctx} : (s.setCtx c x).MemoryOk := .update h

theorem State.MemoryOk.notePool (h : s.MemoryOk) : s.notePool.MemoryOk := .ite (.setPv h) h

theorem State.MemoryOk.mirror (h : s.MemoryOk) : s.mirror.MemoryOk := .update h

/-! ### HostOps -/

theorem State.MemoryOk.setMailbox (h : s.MemoryOk) {m : Nat} {x : Mailbox} : (s.setMailbox m x).MemoryOk := .update h

theorem State.MemoryOk.hstatSet (h : s.MemoryOk) {b : Nat} : (s.hstatSet b).MemoryOk := .update (.bump h)

theorem State.MemoryOk.setSession (h : s.MemoryOk) {k : Nat} {x : Session} : (s.setSession k x).MemoryOk := .update h

theorem State.MemoryOk.answer (h : s.MemoryOk) {m completion status detail : Nat} {data : List Byte} :
    (s.answer m completion status detail data).MemoryOk := by
  unfold State.answer
  extract_lets
  split
  · exact h
  · extract_lets _ t
    have ht : t.MemoryOk := .setMailbox h
    exact .ite ht (.ite (.setSession ht) ht)

theorem State.MemoryOk.ok (h : s.MemoryOk) {m : Nat} {data : List Byte} : (s.ok m data).MemoryOk := .answer h

theorem State.MemoryOk.refuse (h : s.MemoryOk) {m status detail : Nat} : (s.refuse m status detail).MemoryOk := .answer h

theorem State.MemoryOk.abort (h : s.MemoryOk) {m : Nat} : (s.abort m).MemoryOk := .answer h

theorem State.MemoryOk.answerClear (h : s.MemoryOk) {m completion : Nat} : (s.answerClear m completion).MemoryOk := .setMailbox h

theorem State.MemoryOk.abortWaiting (h : s.MemoryOk) {id : Nat} : (s.abortWaiting id).MemoryOk := by
  unfold State.abortWaiting
  refine .foldl (fun _ _ hk => ?_) h
  extract_lets
  split
  · exact .ite (.answerClear hk) hk
  · exact hk

theorem State.MemoryOk.overtake (h : s.MemoryOk) {dest : DevState} : (s.overtake dest).MemoryOk := by
  unfold State.overtake
  extract_lets t u v
  have ht : t.MemoryOk := by
    simp only [t]
    split
    · exact .ite h (.abort h)
    · exact h
  have hu : u.MemoryOk := by
    simp only [u]
    split
    · exact .ite ht (.abort ht)
    · exact ht
  have hv : v.MemoryOk := by
    simp only [v]
    split
    · exact .ite hu (.log hu)
    · exact hu
  exact .update hv

/-! ### FaultOps -/

theorem State.MemoryOk.dropShot (h : s.MemoryOk) {c : Nat} {r : DropReason} : (s.dropShot c r).MemoryOk := by
  unfold State.dropShot
  extract_lets
  split
  · exact h
  · exact .update (.setCtx h)

theorem State.MemoryOk.dropAll (h : s.MemoryOk) {r : DropReason} : (s.dropAll r).MemoryOk := .foldl (fun _ _ hk => .dropShot hk) h

theorem State.MemoryOk.stopReleases (h : s.MemoryOk) : s.stopReleases.MemoryOk := .update h

theorem State.MemoryOk.writeShim (h : s.MemoryOk) : s.writeShim.MemoryOk := .update (.writeRow h)

theorem State.MemoryOk.updDiscard (h : s.MemoryOk) {reason status : Nat} : (s.updDiscard reason status).MemoryOk := .update (.log h)

theorem State.MemoryOk.updReverted (h : s.MemoryOk) : s.updReverted.MemoryOk := by
  unfold State.updReverted
  extract_lets t
  have ht : t.MemoryOk := by
    simp only [t]
    split
    · exact .ite (.refuse h) (.ite (.refuse h) (.abort h))
    · exact h
  exact .writeShim (.update (.bump (.log ht)))

theorem State.MemoryOk.updRevert (h : s.MemoryOk) {reason : Nat} : (s.updRevert reason).MemoryOk := .writeShim (.update h)

theorem State.MemoryOk.updPartnerGone (h : s.MemoryOk) : s.updPartnerGone.MemoryOk := .ite (.updReverted (.update h)) h

theorem State.MemoryOk.updLockLost (h : s.MemoryOk) : s.updLockLost.MemoryOk := by
  unfold State.updLockLost
  split
  · exact .updDiscard h
  · exact .updDiscard h
  · exact .update h

theorem State.MemoryOk.abandonUpdate (h : s.MemoryOk) : s.abandonUpdate.MemoryOk := by
  unfold State.abandonUpdate
  split
  · exact .updDiscard h
  · exact .updDiscard h
  · exact .updRevert h
  · exact .updRevert h
  · exact h

theorem State.MemoryOk.releaseLock (h : s.MemoryOk) : s.releaseLock.MemoryOk := by
  unfold State.releaseLock
  refine .ite (.update h) ?_
  extract_lets t
  have ht : t.MemoryOk := by
    simp only [t]
    split
    · exact .abort h
    · exact h
  exact .update ht

theorem State.MemoryOk.refuseLoad (h : s.MemoryOk) {m status detail : Nat} : (s.refuseLoad m status detail).MemoryOk :=
  .update (.refuse h)

theorem State.MemoryOk.verdictLost (h : s.MemoryOk) : s.verdictLost.MemoryOk := by
  unfold State.verdictLost
  split
  · exact .refuseLoad h
  · exact h

theorem State.MemoryOk.abandonEdit (h : s.MemoryOk) {cause : Nat} : (s.abandonEdit cause).MemoryOk := by
  unfold State.abandonEdit
  split
  · exact h
  · exact .update (.log h)

theorem State.MemoryOk.editOnTransition (h : s.MemoryOk) {dest : DevState} : (s.editOnTransition dest).MemoryOk := by
  unfold State.editOnTransition
  split
  · exact .update h
  · exact h
  · exact .abandonEdit h

theorem State.MemoryOk.pinLow (h : s.MemoryOk) : s.pinLow.MemoryOk := .update h

theorem State.MemoryOk.aliveStop (h : s.MemoryOk) : s.aliveStop.MemoryOk := .update h

theorem State.MemoryOk.endSession (h : s.MemoryOk) {slot : Nat} : (s.endSession slot).MemoryOk := by
  unfold State.endSession
  extract_lets _ _ _ _ _ v w
  have hv : v.MemoryOk := .update (.setSession (.abortWaiting h))
  have hw : w.MemoryOk := .ite (.releaseLock hv) hv
  exact .ite (.ite (.updLockLost hw) hw) h

theorem State.MemoryOk.endSessions (h : s.MemoryOk) {clear : Bool} : (s.endSessions clear).MemoryOk := by
  unfold State.endSessions
  extract_lets t
  have ht : t.MemoryOk := .foldl (fun _ _ hk => .endSession hk) h
  exact .ite (.update ht) ht

theorem State.MemoryOk.scarfSend (h : s.MemoryOk) {fs : List ScarfOut} : (s.scarfSend fs).MemoryOk := .ite (.update h) h

theorem State.MemoryOk.leavePair (h : s.MemoryOk) {tell : Bool} : (s.leavePair tell).MemoryOk :=
  .ite (.update (.updPartnerGone (.verdictLost (.abandonEdit (.log (.ite (.scarfSend h) h)))))) h

theorem State.MemoryOk.leaveRun (h : s.MemoryOk) : s.leaveRun.MemoryOk := .update (.stopReleases (.dropAll h))

theorem State.MemoryOk.trimsAbandon (h : s.MemoryOk) : s.trimsAbandon.MemoryOk := by
  refine h.withBays fun e he => ?_
  obtain ⟨e1, he1, rfl⟩ := List.mem_map.mp he
  exact .update (h.bays e1 he1)

theorem State.MemoryOk.enter (h : s.MemoryOk) {dest : DevState} {requester : Nat} {imm : Bool} :
    (s.enter dest requester imm).MemoryOk := by
  unfold State.enter
  extract_lets _ _ s2 s3
  have hs2 : s2.MemoryOk := .editOnTransition (.ite (.leaveRun h) (.ite (.trimsAbandon h) h))
  have hs3 : s3.MemoryOk := .ite (.abandonUpdate hs2) hs2
  exact .mirror (.update (.log (.overtake (.ite (.ite (.scarfSend hs3) hs3) (.leavePair hs3)))))

theorem State.MemoryOk.enterLockout (h : s.MemoryOk) : s.enterLockout.MemoryOk :=
  .update (.aliveStop (.pinLow (.endSessions (.dropAll (.enter h)))))

theorem State.MemoryOk.setLive (h : s.MemoryOk) {src : Nat} {b : Bool} : (s.setLive src b).MemoryOk := .update h

theorem State.MemoryOk.pulse (h : s.MemoryOk) {src : Nat} : (s.pulse src).MemoryOk := .update h

theorem State.MemoryOk.blockReset (h : s.MemoryOk) {src index : Nat} : (s.blockReset src index).MemoryOk := by
  unfold State.blockReset
  split
  · exact .update h
  · exact .update h
  · exact .update h

theorem State.MemoryOk.severityAction (h : s.MemoryOk) {sev src seq : Nat} : (s.severityAction sev src seq).MemoryOk := by
  unfold State.severityAction
  refine .ite (.update h) ?_
  refine .ite h ?_
  split
  · exact .enter h
  · exact .ite (.update (.enter h)) (.enter h)
  · split
    · exact h
    · exact .updDiscard h
    · exact .updDiscard h
    · exact .updRevert h
  · exact .ite (.update (.enter h)) (.update h)

theorem State.MemoryOk.formRecord (h : s.MemoryOk) {src index data sev flags esc : Nat} :
    (s.formRecord src index data sev flags esc).MemoryOk := by
  unfold State.formRecord
  extract_lets _ _ _ _ _ _ _ _ t1 t2 t3 _ _ t4
  have ht1 : t1.MemoryOk := .logRec (.update (.ite (.log h) h))
  have ht2 : t2.MemoryOk := .ite (.pinLow ht1) ht1
  have ht3 : t3.MemoryOk := .ite (.blockReset ht2) ht2
  have ht4 : t4.MemoryOk := .ite (.update (.enter ht3)) ht3
  exact .mirror (.ite (.severityAction ht4) ht4)

theorem State.MemoryOk.raiseWith (h : s.MemoryOk) {src index data sev flags esc : Nat} :
    (s.raiseWith src index data sev flags esc).MemoryOk := by
  unfold State.raiseWith
  refine .ite h ?_
  extract_lets _ s2
  have hs2 : s2.MemoryOk := .ite (.setLive (.bump h)) (.pulse (.bump h))
  exact .ite (.ite hs2 (.update hs2)) (.formRecord hs2)

theorem State.MemoryOk.raiseEvent (h : s.MemoryOk) {src index data : Nat} : (s.raiseEvent src index data).MemoryOk := by
  unfold State.raiseEvent
  extract_lets t
  have ht : t.MemoryOk := .pulse (.raiseWith h)
  exact .ite ht (.setLive ht)

theorem State.MemoryOk.raise (h : s.MemoryOk) {src index data : Nat} : (s.raise src index data).MemoryOk := .raiseWith h

theorem State.MemoryOk.condOver (h : s.MemoryOk) {src : Nat} : (s.condOver src).MemoryOk := .update (.setLive h)

theorem State.MemoryOk.chipReset (h : s.MemoryOk) {cause : Nat} : (s.chipReset cause).MemoryOk := .withSram h rfl

theorem State.MemoryOk.powerOff (h : s.MemoryOk) {vin : Nat} : (s.powerOff vin).MemoryOk := .update (.chipReset h)

/-! ### SchedOps -/

theorem State.MemoryOk.setPhase (h : s.MemoryOk) {c : Nat} {p : ShotPhase} : (s.setPhase c p).MemoryOk := by
  unfold State.setPhase
  extract_lets
  split
  · exact h
  · exact .setCtx h

theorem State.MemoryOk.dispatch (h : s.MemoryOk) : s.dispatch.MemoryOk := by
  unfold State.dispatch
  extract_lets next s1 s2
  have hs1 : s1.MemoryOk := by
    simp only [s1]
    split
    · exact .ite h (.bump (.setPhase h))
    · exact h
  have hs2 : s2.MemoryOk := by
    simp only [s2]
    clear_value next
    split
    · exact .ite hs1 (.setPhase hs1)
    · exact hs1
  exact .ite h (.update hs2)

theorem State.MemoryOk.dropAndDispatch (h : s.MemoryOk) {c : Nat} {r : DropReason} : (s.dropAndDispatch c r).MemoryOk :=
  .dispatch (.dropShot h)

theorem State.MemoryOk.countDrop (h : s.MemoryOk) {c : Nat} {sh : Shot} {r : DropReason} : (s.countDrop c sh r).MemoryOk := by
  unfold State.countDrop
  extract_lets x cap consec fire
  split
  next v s0 e =>
    have hs0 : s0.MemoryOk := by
      split at e <;> obtain ⟨-, rfl⟩ := Prod.mk.inj e
      · exact h
      · exact .draw h
    exact .ite (.raise (.log (.setCtx hs0))) (.log (.setCtx hs0))

theorem State.MemoryOk.completeShot (h : s.MemoryOk) {c : Nat} : (s.completeShot c).MemoryOk := by
  unfold State.completeShot
  extract_lets
  split
  · exact h
  · extract_lets _ _ _ _ s2
    have hs2 : s2.MemoryOk := .update (.setCtx h)
    exact .dispatch (.ite (.raise hs2) hs2)

theorem State.MemoryOk.dropCapOver (h : s.MemoryOk) : s.dropCapOver.MemoryOk := .ite h (.condOver h)

/-! ### BayOps -/

theorem Bay.FeramOk.bay (h : s.MemoryOk) {x : Nat} : (s.bay x).FeramOk := by
  rcases tget_mem Bay.init s.bays x with e | e
  · rw [State.bay, e]; exact rfl
  · exact h.bays _ e

theorem State.MemoryOk.setBay (h : s.MemoryOk) {x : Nat} (hb : b.FeramOk) : (s.setBay x b).MemoryOk := by
  refine h.withBays fun e he => ?_
  rcases mem_tset he with rfl | he
  · exact hb
  · exact h.bays e he

theorem Bay.FeramOk.setChan (hb : b.FeramOk) {n : Nat} {c : Chan} : (b.setChan n c).FeramOk := .update hb

theorem State.MemoryOk.bumpChan (h : s.MemoryOk) {x n off : Nat} : (s.bumpChan x n off).MemoryOk := .bump h

theorem State.MemoryOk.bumpBay (h : s.MemoryOk) {x off : Nat} : (s.bumpBay x off).MemoryOk := .bump h

theorem State.MemoryOk.setEngBay (h : s.MemoryOk) {x : Nat} {b : EngBay} : (s.setEngBay x b).MemoryOk := .update h

/-! ### FieldOps -/

theorem Bay.FeramOk.switchTo (hb : b.FeramOk) {n tick : Nat} {on : Bool} : (b.switchTo n tick on).FeramOk :=
  .foldl (fun _ _ hk => .setChan hk) (.setChan hb)

theorem Bay.FeramOk.settleDo (hb : b.FeramOk) {n tick : Nat} : (b.settleDo n tick).FeramOk := .setChan (.ite hb (.switchTo hb))

theorem Bay.FeramOk.settleAo (hb : b.FeramOk) {n tick : Nat} : (b.settleAo n tick).FeramOk := .setChan hb

theorem Bay.FeramOk.noteSafe (hb : b.FeramOk) {n : Nat} : (b.noteSafe n).FeramOk := .setChan hb

theorem Bay.FeramOk.settleChan (hb : b.FeramOk) {tick n : Nat} : (b.settleChan tick n).FeramOk := by
  unfold Bay.settleChan
  extract_lets b1
  have hb1 : b1.FeramOk := .ite (.noteSafe hb) hb
  exact .ite (.settleDo hb1) (.ite (.settleAo hb1) hb1)

theorem Bay.FeramOk.settle (hb : b.FeramOk) {tick : Nat} : (b.settle tick).FeramOk := .update (.foldl (fun _ _ hk => .settleChan hk) hb)

theorem State.MemoryOk.putBay (h : s.MemoryOk) {x : Nat} (hb : b.FeramOk) : (s.putBay x b).MemoryOk := .setBay h (.settle hb)

theorem Bay.FeramOk.noteValid (hb : b.FeramOk) {tick : Nat} : (b.noteValid tick).FeramOk :=
  .foldl (fun _ _ hk => .ite (.setChan hk) hk) hb

theorem Bay.FeramOk.revalidate (hb : b.FeramOk) {n tick : Nat} : (b.revalidate n tick).FeramOk := .setChan hb

theorem Bay.FeramOk.revalidateAll (hb : b.FeramOk) {tick : Nat} : (b.revalidateAll tick).FeramOk :=
  .foldl (fun _ _ hk => .ite (.revalidate hk) hk) hb

theorem State.MemoryOk.formBayflt (h : s.MemoryOk) {x : Nat} : (s.formBayflt x).MemoryOk := by
  unfold State.formBayflt
  extract_lets _ _ t
  have ht : t.MemoryOk := .setEngBay h
  exact .ite (.raise ht) (.ite (.condOver ht) ht)

theorem State.MemoryOk.baylinkOver (h : s.MemoryOk) : s.baylinkOver.MemoryOk := .ite h (.ite (.condOver h) h)

theorem State.MemoryOk.liveWrite (h : s.MemoryOk) {ws : List (Nat × Nat)} : (s.liveWrite ws).MemoryOk := by
  unfold State.liveWrite
  extract_lets _ t
  have ht : t.MemoryOk := .foldl (fun _ _ hk => .bump (.bumpPage hk)) h
  exact .notePool (.withSram ht (wf_writePts _ _ ht.sram))

/-! ### AinOps -/

theorem Bay.FeramOk.setModl (hb : b.FeramOk) {m : Nat} {x : Modulator} : (b.setModl m x).FeramOk := .ite (.update hb) (.update hb)

theorem Bay.FeramOk.startVisit (hb : b.FeramOk) {m ch tick : Nat} {kind : VisitKind} {old : Bool} :
    (b.startVisit m ch tick kind old).FeramOk := by
  unfold Bay.startVisit
  extract_lets _ _ _ _ _ b1
  have hb1 : b1.FeramOk := .setChan (.setModl hb)
  exact .ite (.setChan hb1) hb1

theorem Bay.FeramOk.startMaint (hb : b.FeramOk) {m tick : Nat} {d : Nat × Nat} : (b.startMaint m tick d).1.FeramOk :=
  .startVisit (.setModl hb)

theorem Bay.FeramOk.beginScan (hb : b.FeramOk) {m ch tick : Nat} : (b.beginScan m ch tick).FeramOk :=
  .ite (.startVisit (.setModl hb)) (.startVisit (.setModl hb))

theorem Bay.FeramOk.nextVisit (hb : b.FeramOk) {m tick : Nat} : (b.nextVisit m tick).1.FeramOk := by
  unfold Bay.nextVisit
  extract_lets
  split
  · exact .startVisit (.setModl hb)
  · split
    · exact .beginScan hb
    · split
      · split
        · exact .beginScan (.setModl hb)
        · exact .startMaint (.setModl hb)
      · split
        · exact .beginScan (.setModl hb)
        · exact .setModl hb

theorem State.MemoryOk.modNext (h : s.MemoryOk) {x m : Nat} : (s.modNext x m).MemoryOk := by
  unfold State.modNext
  extract_lets _ _ _ t u
  have ht : t.MemoryOk := .setBay h (.nextVisit (.bay h))
  have hu : u.MemoryOk := .ite (.bump ht) ht
  exact .ite h (.ite (.worst (.setPv hu)) hu)

theorem Bay.FeramOk.modStop (hb : b.FeramOk) {m : Nat} : (b.modStop m).FeramOk :=
  .foldl (fun _ _ hk => .ite (.setChan hk) hk) (.setModl hb)

theorem State.MemoryOk.modStart (h : s.MemoryOk) {x m : Nat} : (s.modStart x m).MemoryOk :=
  .ite (.modNext (.setBay h (.setModl (.bay h)))) h

theorem State.MemoryOk.modsStart (h : s.MemoryOk) {x : Nat} : (s.modsStart x).MemoryOk := .modStart (.modStart h)

theorem State.MemoryOk.modAdopt (h : s.MemoryOk) {x m : Nat} : (s.modAdopt x m).MemoryOk := by
  unfold State.modAdopt
  extract_lets _ _ _ _ _ t
  have ht : t.MemoryOk := .setBay h (.setModl (.bay h))
  exact .ite h (.ite (.modNext ht) ht)

theorem State.MemoryOk.urgentIn (h : s.MemoryOk) {x ch : Nat} {c : Ns} : (s.urgentIn x ch c).MemoryOk := by
  unfold State.urgentIn
  extract_lets _ _ _ t
  have ht : t.MemoryOk := .setBay h (.setModl (.bay h))
  exact .ite (.bump h) (.ite (.bump h) (.ite (.modNext ht) ht))

/-! ### BayCfg -/

theorem Bay.FeramOk.modeChanged (hb : b.FeramOk) {tick n : Nat} : (b.modeChanged tick n).FeramOk := .setChan hb

theorem Bay.FeramOk.cutVisit (hb : b.FeramOk) {n : Nat} : (b.cutVisit n).FeramOk := by
  unfold Bay.cutVisit
  extract_lets
  split
  · exact .ite (.setModl hb) hb
  · exact hb

theorem Bay.FeramOk.adoptChan {old : Bay} (hb : b.FeramOk) {tick n : Nat} : (old.adoptChan b tick n).FeramOk :=
  .ite (.modeChanged hb) (.ite (.setChan hb) (.ite (.cutVisit hb) (.ite (.revalidate (.setChan hb)) hb)))

theorem State.MemoryOk.setTap (h : s.MemoryOk) {x n t : Nat} : (s.setTap x n t).MemoryOk := .bumpChan (.setBay h (.setChan (.bay h)))

theorem State.MemoryOk.fixTaps (h : s.MemoryOk) {x : Nat} : (s.fixTaps x).MemoryOk := .foldl (fun _ _ hk => .ite (.setTap hk) hk) h

theorem Bay.FeramOk.withLp (hb : b.FeramOk) {lp tick : Nat} : (b.withLp lp tick).FeramOk := .update hb

theorem Bay.FeramOk.unrestored (hb : b.FeramOk) : b.unrestored.FeramOk := .foldl (fun _ _ hk => .setChan hk) hb

theorem State.MemoryOk.supply (h : s.MemoryOk) {x lp : Nat} : (s.supply x lp).MemoryOk := by
  unfold State.supply
  extract_lets _ _ _ _ t
  have ht : t.MemoryOk := .fixTaps (.putBay h (.modStop (.modStop (.update (.unrestored (.withLp (.noteValid (.bay h))))))))
  exact .ite (.ite ht (.bumpBay ht)) (.fixTaps (.putBay h (.withLp (.bay h))))

theorem State.MemoryOk.adopt (h : s.MemoryOk) {x : Nat} {par : List (Nat × Int)} : (s.adopt x par).MemoryOk := by
  unfold State.adopt
  extract_lets _ _ _ _ t
  have ht : t.MemoryOk := .fixTaps (.putBay h (.foldl (fun _ _ hk => .adoptChan hk) (.update (.noteValid (.bay h)))))
  exact .ite (.modsStart ht) (.modAdopt (.modAdopt ht))

theorem State.MemoryOk.commitCopy (h : s.MemoryOk) {x crc : Nat} {t : State} (ht : s.commitCopy x crc = some t) : t.MemoryOk := by
  unfold State.commitCopy at ht
  extract_lets b k seq f u at ht
  have hu : u.MemoryOk := .setBay h (Memory.wf_writeL _ _ _ (Memory.wf_writeL _ _ _ (Bay.FeramOk.bay h)))
  split at ht
  · exact Option.some.inj ht ▸ .adopt hu
  · exact nomatch ht

theorem State.MemoryOk.writeMaster (h : s.MemoryOk) {x : Nat} : (s.writeMaster x).MemoryOk := by
  unfold State.writeMaster
  extract_lets b k t
  have ht : t.MemoryOk := .setBay h (wf_putCopy _ _ _ (Bay.FeramOk.bay h))
  cases hc : t.commitCopy x (s.masterCrc x) with
  | none => exact ht
  | some u => exact .commitCopy ht hc

theorem State.MemoryOk.loadBay (h : s.MemoryOk) {x : Nat} : (s.loadBay x).MemoryOk :=
  .ite (.putBay h (.update (.bay h))) (.adopt (.setBay h (.update (.bay h))))

theorem State.MemoryOk.bayRecord (h : s.MemoryOk) {x : Nat} : (s.bayRecord x).2.MemoryOk := .setBay h (.update (.bay h))

theorem State.MemoryOk.readDiag (h : s.MemoryOk) {x : Nat} : (s.readDiag x).MemoryOk :=
  .ite (.liveWrite h) (.ite h (.liveWrite (.setEngBay (.bayRecord h))))

theorem State.MemoryOk.linkStart (h : s.MemoryOk) {x : Nat} : (s.linkStart x).MemoryOk := .ite (.readDiag (.ite (.writeMaster h) h)) h

theorem Bay.FeramOk.protClear (hb : b.FeramOk) {n kind tick : Nat} : (b.protClear n kind tick).2.FeramOk := by
  unfold Bay.protClear
  extract_lets
  split
  · exact hb
  · split
    · exact .settle (.foldl (fun _ _ hk => .setChan hk) hb)
    · split
      · exact .settle (.setChan hb)
      · split
        · split
          · exact .settle (.setChan hb)
          · exact hb
        · split
          · split
            · exact .settle (.setChan (.foldl (fun _ _ hk => .setChan hk) hb))
            · exact hb
          · split
            · exact .settle (.setChan hb)
            · split
              · split
                · exact .settle (.setChan hb)
                · exact hb
              · exact hb

theorem Bay.FeramOk.trimStep (hb : b.FeramOk) {n st : Nat} {m4 m20 : Option Int} {tick : Nat} :
    (b.trimStep n st m4 m20 tick).FeramOk :=
  .settle (.setChan hb)

theorem Bay.FeramOk.loadTrims (hb : b.FeramOk) : b.loadTrims.FeramOk := .update hb

theorem Bay.FeramOk.storeTrim (hb : b.FeramOk) {n g : Nat} {o : Int} {flag : Bool} {at_ : Ns} :
    (b.storeTrim n g o flag at_).FeramOk := by
  unfold Bay.storeTrim
  extract_lets t set t1 t2 k
  unfold Bay.FeramOk
  dsimp only
  exact Memory.wf_writeL _ _ _ hb

theorem Bay.FeramOk.trimWrite (hb : b.FeramOk) {n op : Nat} {data : Int} {tick : Nat} {at_ : Ns} :
    (b.trimWrite n op data tick at_).2.FeramOk := by
  unfold Bay.trimWrite
  extract_lets
  split
  · exact hb
  · split
    · split
      · exact .trimStep hb
      · exact hb
    · split
      · exact hb
      · split
        · exact .trimStep hb
        · exact hb
    · split
      · exact .trimStep hb
      · exact hb
    · split
      · exact hb
      · split
        · exact .trimStep hb
        · exact hb
    · split
      · split
        · extract_lets
          split
          · exact .trimStep (.storeTrim hb)
          · exact hb
        · exact hb
      · exact hb
    · split
      · exact hb
      · exact .trimStep hb
    · exact .trimStep (.storeTrim hb)
    · exact hb

/-! ### Digital -/

theorem Bay.FeramOk.wireClear (hb : b.FeramOk) {n tick : Nat} : (b.wireClear n tick).FeramOk := .revalidate (.setChan hb)

theorem ResOk.debounceChange {x n volt held : Nat} (h : s.MemoryOk) : ResOk (execDebounceChange x n volt held s) := by
  unfold execDebounceChange
  extract_lets _ _ _ _ _ b1
  have hb1 : b1.FeramOk := .setChan (.noteValid (.bay h))
  exact .ite (.next (.putBay h (.ite (.wireClear hb1) (.noteValid hb1)))) (.next h)

theorem State.MemoryOk.overspeed (h : s.MemoryOk) {x n phase : Nat} : (s.overspeed x n phase).MemoryOk :=
  .ite (.bumpChan (.putBay h (.setChan (.bay h)))) h

theorem State.MemoryOk.edgeCounts (h : s.MemoryOk) {phase : Nat} : (s.edgeCounts phase).2.MemoryOk := by
  unfold State.edgeCounts
  split
  · exact h
  · exact .draw h

theorem Bay.FeramOk.setTracks (hb : b.FeramOk) {n : Nat} {va vb : Bool} : (b.setTracks n va vb).FeramOk := .setChan (.setChan hb)

theorem ResOk.counterEdge {x n volt phase : Nat} (h : s.MemoryOk) : ResOk (execCounterEdge x n volt phase s) :=
  .ite (.ite (.next (.putBay h (.setChan (.bay h)))) (.next (.overspeed (.putBay (.edgeCounts h) (.setChan (.bay h)))))) (.next h)

theorem ResOk.quadEdge {x n va vb phase : Nat} (h : s.MemoryOk) : ResOk (execQuadEdge x n va vb phase s) := by
  unfold execQuadEdge
  extract_lets y a b da db y1
  have hy1 : y1.FeramOk := .setTracks (.bay h)
  refine .ite (.ite (.next (.putBay h hy1)) (.ite (.next (.overspeed (.bumpChan (.putBay h (.setChan hy1))))) ?_)) (.next h)
  split
  next counts s1 e =>
    have hs1 : s1.MemoryOk := .ofSnd (.edgeCounts h) e
    extract_lets y2 y3
    have hy2 : y2.FeramOk := .ite (.setChan hy1) hy1
    exact .next (.overspeed (.putBay hs1 (.ite (.setChan hy2) hy2)))

theorem ResOk.hardLimit {x n : Nat} (h : s.MemoryOk) : ResOk (execHardLimit x n s) := by
  unfold execHardLimit
  split
  · exact .whenOk h (.putBay h (.setChan (.bay h)))
  · exact .next h

theorem ResOk.ocTrip {x n current held : Nat} (h : s.MemoryOk) : ResOk (execOcTrip x n current held s) := by
  unfold execOcTrip
  split
  · exact .ite (.next (.bumpChan (.putBay h (.setChan (.bay h))))) (.next h)
  · exact .next h

theorem ResOk.inrushWindowEnd {x n : Nat} (h : s.MemoryOk) : ResOk (execInrushWindowEnd x n s) := by
  unfold execInrushWindowEnd
  extract_lets
  split
  · exact .whenOk h (.putBay h (.setChan (.bay h)))
  · exact .next h

theorem ResOk.retryDue {x n : Nat} (h : s.MemoryOk) : ResOk (execRetryDue x n s) := by
  unfold execRetryDue
  extract_lets
  split
  · exact .ite (.next (.putBay h (.setChan (.bay h)))) (.next h)
  · exact .next h

theorem ResOk.thermalTrip {x n : Nat} {temp : Int} (h : s.MemoryOk) : ResOk (execThermalTrip x n temp s) := by
  unfold execThermalTrip
  extract_lets _ _ _ _ _ _ _ _ t
  have ht : t.MemoryOk := .putBay h (.setChan (.setChan (.bay h)))
  exact .ite (.next (.ite (.bumpChan ht) ht)) (.next h)

theorem State.MemoryOk.clampLock (h : s.MemoryOk) {x l : Nat} : (s.clampLock x l).MemoryOk :=
  .ite h (.bumpChan (.putBay h (.setChan (.bay h))))

theorem ResOk.clampOver {x n energy : Nat} (h : s.MemoryOk) : ResOk (execClampOver x n energy s) := by
  unfold execClampOver
  split
  · exact .ite (.next (.clampLock (.putBay h (.setChan (.bay h))))) (.next h)
  · exact .next h

theorem ResOk.clampPulseEnd {x n energy : Nat} (h : s.MemoryOk) : ResOk (execClampPulseEnd x n energy s) := by
  unfold execClampPulseEnd
  extract_lets _ _ _ _ _ _ x5
  have hx5 : x5.MemoryOk := .putBay h (.setChan (.bay h))
  split
  · exact .ite (.next (.ite (.clampLock hx5) hx5)) (.next h)
  · exact .next h

theorem ResOk.openloadSet {x n current held : Nat} (h : s.MemoryOk) : ResOk (execOpenloadSet x n current held s) := by
  unfold execOpenloadSet
  split
  · exact .whenOk h (.putBay h (.setChan (.bay h)))
  · exact .next h

theorem ResOk.openloadClear {x n current held : Nat} (h : s.MemoryOk) : ResOk (execOpenloadClear x n current held s) := by
  unfold execOpenloadClear
  split
  · exact .whenOk h (.putBay h (.setChan (.bay h)))
  · exact .next h

theorem ResOk.extHighSet {x n volt held : Nat} (h : s.MemoryOk) : ResOk (execExtHighSet x n volt held s) := by
  unfold execExtHighSet
  split
  · exact .whenOk h (.putBay h (.setChan (.bay h)))
  · exact .next h

theorem ResOk.extHighClear {x n volt held : Nat} (h : s.MemoryOk) : ResOk (execExtHighClear x n volt held s) := by
  unfold execExtHighClear
  split
  · exact .whenOk h (.putBay h (.setChan (.bay h)))
  · exact .next h

/-! ### Operands -/

theorem State.MemoryOk.coreStore (h : s.MemoryOk) {c : Nat} {sh : Shot} {g : CoreRegs} {ws : List (Nat × Nat)} :
    (s.coreStore c sh g ws).MemoryOk := by
  unfold State.coreStore
  split
  · exact .dropAndDispatch h
  · exact .ite (.setCtx h) (.notePool (.setCtx h))

theorem ResOk.coreDo (h : s.MemoryOk) {c : Nat} {f : CoreRegs → Shot → CoreAns} : ResOk (s.coreDo c f) := by
  unfold State.coreDo
  split
  · exact .next h
  · split
    · exact .next h
    · exact .next (.dropAndDispatch h)
    · exact .next (.setCtx h)
    · exact .next (.coreStore h)

theorem ResOk.intOp (h : s.MemoryOk) {c : Nat} {w : IWidth} {narrow : Bool} {d : BitVec 4} {src : Src}
    {f : W32 → W32 → W32 × Option Bool} :
    ResOk (s.intOp c w narrow d src f) :=
  .coreDo h

theorem ResOk.realOp (h : s.MemoryOk) {c : Nat} {w : FWidth} {d : BitVec 3} {src : Src} {f : FloatFmt → Nat → Nat → Nat} :
    ResOk (s.realOp c w d src f) :=
  .coreDo h

/-! ### CoreInt -/

theorem ResOk.mod {c : Nat} {w : IWidth} {d : BitVec 4} {src : Src} (h : s.MemoryOk) : ResOk (execMod c w d src s) := by
  unfold execMod
  exact .intOp h

theorem ResOk.cmpOp (h : s.MemoryOk) {k : Cond} {c : Nat} {w : IWidth} {d : BitVec 4} {src : Src} : ResOk (s.cmpOp k c w d src) :=
  .coreDo h

theorem ResOk.bcdOp (h : s.MemoryOk) {c : Nat} {w : IWidth} {d : BitVec 4} {src : Src} {f : W32 → W32 × Bool} :
    ResOk (s.bcdOp c w d src f) :=
  .ite (.ite (.next h) (.intOp (.draw h))) (.intOp h)

theorem ResOk.firstWriteCopyDone {c : Nat} (h : s.MemoryOk) : ResOk (execFirstWriteCopyDone c s) := by
  unfold execFirstWriteCopyDone
  split
  · exact .next h
  · split
    · exact .next h
    · split
      · exact .next (.setCtx h)
      · exact .ite (.next (.setCtx h)) (.next (.setCtx h))

/-! ### TmrOps -/

theorem State.MemoryOk.mismatch (h : s.MemoryOk) {source syndrome field place voted odd src index : Nat} :
    (s.mismatch source syndrome field place voted odd src index).MemoryOk :=
  .raise (.log (.update h))

theorem State.MemoryOk.joined (h : s.MemoryOk) {pause : Nat} : (s.joined pause).MemoryOk := .worst (.setPv h)

theorem State.MemoryOk.rejoin (h : s.MemoryOk) : s.rejoin.MemoryOk := .joined (.draw h)

theorem State.MemoryOk.changeMode (h : s.MemoryOk) {m : ExecMode} : (s.changeMode m).MemoryOk :=
  .ite h (.ite (.update h) (.setPv (.update (.ite (.rejoin h) h))))

theorem State.MemoryOk.laneOdd (h : s.MemoryOk) {lane net field voted value : Nat} :
    (s.laneOdd lane net field voted value).MemoryOk := by
  unfold State.laneOdd
  extract_lets _ _ _ t1
  have ht1 : t1.MemoryOk := .update (.mismatch (.bump h))
  exact .ite (.raise (.update ht1)) ht1

theorem State.MemoryOk.laneNoMajority (h : s.MemoryOk) {net field : Nat} {lanes : List Nat} {v0 v1 v2 : Nat} :
    (s.laneNoMajority net field lanes v0 v1 v2).MemoryOk :=
  .mismatch (.draw (.draw h))

/-! ### Truss -/

theorem State.MemoryOk.runNetwork (h : s.MemoryOk) {c : Nat} {sh : Shot} {j : JunctionReq} {ops : List NetOp} :
    (s.runNetwork c sh j ops).MemoryOk :=
  .ite (.dropAndDispatch h) (.setCtx h)

theorem ResOk.networkStart {lanes : LaneVerdict} (h : s.MemoryOk) : ResOk (execNetworkStart lanes s) := by
  unfold execNetworkStart
  split
  · exact .next h
  · split
    · exact .next h
    · split
      · exact .next h
      · extract_lets _ _ _ _ _ _ _ s2
        have hs2 : s2.MemoryOk := .update (.notePool (.setCtx h))
        refine .ite (.next (.dropAndDispatch h)) ?_
        split
        · exact .next (.dropAndDispatch hs2)
        · split
          · exact .next (.runNetwork hs2)
          · exact .ite (.next (.runNetwork hs2)) (.ite (.next (.laneOdd (.runNetwork hs2))) (.next (.laneNoMajority hs2)))
          · exact .next (.laneNoMajority hs2)

theorem ResOk.trussCompletion {c : Nat} (h : s.MemoryOk) : ResOk (execTrussCompletion c s) := by
  unfold execTrussCompletion
  split
  · exact .next h
  · split
    · exact .next h
    · exact .ite (.next (.dispatch (.setCtx h))) (.next h)

/-! ### ParamOps -/

theorem State.MemoryOk.resetPids (h : s.MemoryOk) {l : List Nat} : (s.resetPids l).MemoryOk := .update h

/-! ### SrxOps -/

theorem State.MemoryOk.setSeg (h : s.MemoryOk) {sg : Nat} {x : SegState} : (s.setSeg sg x).MemoryOk := .update h

theorem State.MemoryOk.setNode (h : s.MemoryOk) {n : Nat} {y : NodeState} : (s.setNode n y).MemoryOk := .update h

theorem State.MemoryOk.claimToken (h : s.MemoryOk) : s.claimToken.MemoryOk := by
  unfold State.claimToken
  extract_lets _ _ _ _ _ _ _ u
  have hu : u.MemoryOk := .update (.update h)
  exact .ite (.update (.foldl (fun _ _ hk => .setSeg hk) hu)) hu

/-! ### RunOps -/

theorem State.MemoryOk.initImage (h : s.MemoryOk) : s.initImage.MemoryOk :=
  .withSram h (wf_writePts _ _ (Memory.wfFrom_rewrite _ _ _ h.sram))

theorem State.MemoryOk.clearRunCounts (h : s.MemoryOk) : s.clearRunCounts.MemoryOk := .dropCapOver (.update (.resetPids h))

theorem State.MemoryOk.placeReleases (h : s.MemoryOk) {from_ : Ns} : (s.placeReleases from_).MemoryOk :=
  .foldl (fun _ _ hk => .setCtx hk) h

theorem State.MemoryOk.countSkipped (h : s.MemoryOk) {from_ : Ns} : (s.countSkipped from_).MemoryOk := .foldl (fun _ _ hk => .bump hk) h

theorem State.MemoryOk.stepDue (h : s.MemoryOk) : s.stepDue.MemoryOk := .ite (.bump (.update h)) h

theorem State.MemoryOk.armFromHalt (h : s.MemoryOk) {at_ : Ns} : (s.armFromHalt at_).MemoryOk := by
  unfold State.armFromHalt
  split
  · exact h
  · exact .update h

theorem State.MemoryOk.enterRun (h : s.MemoryOk) {who : Nat} : (s.enterRun who).MemoryOk := by
  unfold State.enterRun
  extract_lets _ _ _ v
  have hv : v.MemoryOk := .armFromHalt (.placeReleases (.clearRunCounts (.enter (.ite (.stepDue h) (.initImage (.stepDue h))))))
  exact .ite (.claimToken hv) hv

theorem State.MemoryOk.followTo (h : s.MemoryOk) {st : Nat} : (s.followTo st).MemoryOk := by
  unfold State.followTo
  extract_lets _ _ _ u
  have hu : u.MemoryOk := .ite (.initImage (.update h)) (.update h)
  exact .ite (.update h) (.ite (.clearRunCounts (.enter hu)) (.enter hu))

theorem State.MemoryOk.followDue (h : s.MemoryOk) : s.followDue.MemoryOk := by
  unfold State.followDue
  split
  · exact .ite (.followTo h) h
  · exact h

/-! ### Watchdog -/

theorem State.MemoryOk.restartMailbox (h : s.MemoryOk) {m : Nat} : (s.restartMailbox m).MemoryOk := by
  unfold State.restartMailbox
  refine .ite h ?_
  split
  · exact .setMailbox h
  · exact .ite (.answerClear h) (.answerClear (.ite (.ok h) (.abort h)))

theorem State.MemoryOk.restartActivation (h : s.MemoryOk) : s.restartActivation.MemoryOk := by
  unfold State.restartActivation
  split
  · exact h
  · exact .ite (.update h) (.update h)

theorem State.MemoryOk.coreRestart (h : s.MemoryOk) : s.coreRestart.MemoryOk := by
  unfold State.coreRestart
  extract_lets _ _ v v1
  have hv : v.MemoryOk := .bump (.endSessions (.abandonEdit (.foldl (fun _ _ hk => .restartMailbox hk) (.restartActivation
    (.stopReleases (.dropAll h))))))
  have hv1 : v1.MemoryOk := by
    simp only [v1]
    split
    · exact .updDiscard hv
    · exact .updDiscard hv
    · exact hv
  exact .mirror (.update (.leavePair hv1))

theorem ResOk.coreRestartComplete (h : s.MemoryOk) : ResOk (execCoreRestartComplete s) := by
  unfold execCoreRestartComplete
  split
  · exact .next h
  · exact .ite (.next (.mirror (.dispatch (.ite (.countSkipped (.placeReleases (.setPv (.update h)))) (.setPv (.update h)))))) (.next h)

theorem State.MemoryOk.ladderStep (h : s.MemoryOk) {pc : Nat} {early keyErr clk : Bool} :
    (s.ladderStep pc early keyErr clk).MemoryOk :=
  .update (.ite (.bump (.bump h)) (.bump h))

theorem State.MemoryOk.expire (h : s.MemoryOk) {e : Expiry} {pc : Nat} : (s.expire e pc).MemoryOk := by
  unfold State.expire
  extract_lets t
  have ht : t.MemoryOk := .ladderStep h
  exact .ite ht (.ite (.raiseWith ht) (.ite (.raiseWith ht) (.ite (.coreRestart (.raiseWith ht)) (.raiseWith ht))))

theorem ResOk.wdgService {pc : Nat} (h : s.MemoryOk) : ResOk (execWdgService pc s) := by
  unfold execWdgService
  refine .ite ?_ (.next h)
  refine .ite (.next (.expire h)) ?_
  split
  · exact .next (.expire h)
  · exact .ite (.next (.expire h)) (.ite (.next (.expire h)) (.next (.update h)))

theorem ResOk.wdgKey1Timeout {pc : Nat} (h : s.MemoryOk) : ResOk (execWdgKey1Timeout pc s) := by
  unfold execWdgKey1Timeout
  split
  · exact .ite (.next (.expire h)) (.next h)
  · exact .next h

theorem ResOk.clkLoss {pll : Bool} (h : s.MemoryOk) : ResOk (execClkLoss pll s) := by
  unfold execClkLoss
  refine .ite ?_ (.next h)
  extract_lets s1 s2 _ t0 _ t _ u _ _ v
  have hs2 : s2.MemoryOk := .bump (.bump (.ite (.bump h) h))
  have ht0 : t0.MemoryOk := .ite (.update hs2) (by
    split
    next e => exact .ladderStep (.ofSnd (.draw hs2) e))
  have ht : t.MemoryOk := .update ht0
  have hu : u.MemoryOk := .enterLockout ht
  have hv : v.MemoryOk := .chipReset ht
  split
  · exact .next (.update ht)
  split
  · exact .next (.update hu)
  · exact .next (.update hv)

/-! ### AnalogIn -/

theorem ResOk.sincOutput {x m : Nat} {y : Int} (h : s.MemoryOk) : ResOk (execSincOutput x m y s) := by
  unfold execSincOutput
  split
  · exact .next h
  · extract_lets _ _ _ _ _ _ b1
    have hb1 : b1.FeramOk := .setModl (.bay h)
    exact .next (.setBay h (.ite (.setChan hb1) hb1))

theorem ResOk.conversionEnd {x m : Nat} (h : s.MemoryOk) : ResOk (execConversionEnd x m s) := by
  unfold execConversionEnd
  split
  · exact .next h
  · extract_lets _ _ _ b1
    have hb1 : b1.FeramOk := .setChan (.bay h)
    exact .ite (.ite (.next (.modNext (.setBay h (.setModl hb1)))) (.next (.setBay h (.setModl hb1)))) (.next h)

theorem State.MemoryOk.openWire (h : s.MemoryOk) {x n : Nat} {declared : Bool} : (s.openWire x n declared).MemoryOk := by
  unfold State.openWire
  extract_lets _ _ t
  have ht : t.MemoryOk := .putBay h (.setChan (.bay h))
  exact .ite (.bumpChan ht) ht

theorem Bay.FeramOk.thresholds (hb : b.FeramOk) {n : Nat} {v : Int} : (b.thresholds n v).FeramOk := .setChan hb

theorem ResOk.resultDelivery {x m : Nat} {compliance : Bool} (h : s.MemoryOk) : ResOk (execResultDelivery x m compliance s) := by
  unfold execResultDelivery
  extract_lets
  split
  · exact .next h
  · refine .ite ?_ (.next h)
    extract_lets _ _ _ _ _ _ _ _ _ _ _ _ _ _ t _ _ _ _ _ t1 t2
    have ht : t.MemoryOk := .openWire (.setBay h (.setModl (.setChan (.bay h))))
    have ht1 : t1.MemoryOk := .bump (.bumpChan (.putBay ht (.ite (.thresholds (.setChan (.bay ht))) (.bay ht))))
    have ht2 : t2.MemoryOk := .ite (.bumpChan ht1) ht1
    exact .next (.ite (.bump ht2) ht2)

theorem ResOk.thresholdEvent {x : Nat} (h : s.MemoryOk) : ResOk (execThresholdEvent x s) := by
  unfold execThresholdEvent
  refine .ite ?_ (.next h)
  refine .next ?_
  refine .foldl (fun _ _ hk => ?_) (.setEngBay h)
  extract_lets u1
  have hu1 : u1.MemoryOk := .bumpChan hk
  exact .ite (.log hu1) hu1

theorem ResOk.leadVisitEnd {x m : Nat} {code : Int} (h : s.MemoryOk) : ResOk (execLeadVisitEnd x m code s) := by
  unfold execLeadVisitEnd
  split
  · exact .next h
  · exact .ite (.next (.modNext (.openWire (.setBay h (.setModl (.setChan (.bay h))))))) (.next h)

theorem ResOk.testVisitEnd {x m : Nat} {code : Int} (h : s.MemoryOk) : ResOk (execTestVisitEnd x m code s) := by
  unfold execTestVisitEnd
  split
  · exact .next h
  · exact .ite (.next (.modNext (.openWire (.setBay h (.setModl (.setChan (.bay h))))))) (.next h)

/-! ### AnalogOut -/

theorem State.MemoryOk.moveTap (h : s.MemoryOk) {x n t : Nat} {forced : Bool} {volt : Nat} :
    (s.moveTap x n t forced volt).MemoryOk :=
  .setTap (.putBay h (.setChan (.bay h)))

theorem ResOk.tapStepUp {x n volt : Nat} (h : s.MemoryOk) : ResOk (execTapStepUp x n volt s) := by
  unfold execTapStepUp
  refine .ite ?_ (.next h)
  refine .ite (.ite (.next (.moveTap h)) (.next h)) ?_
  split
  · exact .next (.moveTap h)
  · exact .next h

theorem ResOk.tapStepDown {x n volt held : Nat} (h : s.MemoryOk) : ResOk (execTapStepDown x n volt held s) := by
  unfold execTapStepDown
  extract_lets
  split
  · exact .ite (.next (.moveTap h)) (.next h)
  · exact .next h

theorem ResOk.tapForced {x n : Nat} {temp : Int} {volt : Nat} (h : s.MemoryOk) : ResOk (execTapForced x n temp volt s) := by
  unfold execTapForced
  extract_lets
  split
  · exact .ite (.next (.moveTap (.setBay h (.setChan (.bay h))))) (.next h)
  · exact .next h

theorem ResOk.limiterStep {x n : Nat} {temp : Int} (h : s.MemoryOk) : ResOk (execLimiterStep x n temp s) := by
  unfold execLimiterStep
  refine .ite ?_ (.next h)
  refine .ite ?_ ?_
  · split
    · exact .next (.bumpChan (.putBay h (.setChan (.bay h))))
    · exact .next (.putBay h (.setChan (.bay h)))
  · refine .ite ?_ (.next h)
    split
    · exact .next (.putBay h (.setChan (.bay h)))
    · exact .next h

theorem ResOk.alarmForcedLow {x n : Nat} (h : s.MemoryOk) : ResOk (execAlarmForcedLow x n s) := by
  unfold execAlarmForcedLow
  extract_lets _ _ _ _ t
  have ht : t.MemoryOk := .bumpChan (.putBay h (.setChan (.bay h)))
  exact .ite (.next (.ite (.log ht) ht)) (.next h)

/-! ### Fabric -/

theorem State.MemoryOk.blocked (h : s.MemoryOk) : s.blocked.MemoryOk := .raise h

theorem State.MemoryOk.corrected (h : s.MemoryOk) : s.corrected.MemoryOk := .ite (.raise (.update h)) (.update h)

theorem State.MemoryOk.eccRead (h : s.MemoryOk) {flips : Nat} : (s.eccRead flips).MemoryOk := .ite h (.ite (.corrected h) (.raise h))

theorem State.MemoryOk.fabricWrite (h : s.MemoryOk) {m : Master} {a : Nat} {b : Byte} : (s.fabricWrite m a b).MemoryOk :=
  .ite (.withSram h (Memory.wf_write _ _ _ h.sram)) (.blocked h)

theorem State.MemoryOk.fabricWrites (h : s.MemoryOk) {m : Master} {a : Nat} {bs : List Byte} : (s.fabricWrites m a bs).MemoryOk :=
  .ite (.withSram h (Memory.wf_writeL _ _ _ h.sram)) (.blocked h)

/-! ### NetOps -/

theorem State.MemoryOk.netFail (h : s.MemoryOk) {pid : Nat} : (s.netFail pid).MemoryOk := by
  unfold State.netFail
  extract_lets _ _ _ u
  have hu : u.MemoryOk := .update (.bump h)
  exact .ite (.raise (.update hu)) hu

theorem State.MemoryOk.authFail (h : s.MemoryOk) {sg : Nat} : (s.authFail sg).MemoryOk := .netFail (.ite (.setSeg h) h)

/-- Both states that the recovery of a ring answers. -/
theorem State.MemoryOk.recover (h : s.MemoryOk) {d : NodeCfg} {ring : Bool} {rtag : Nat} :
    (∀ t, (s.recover d ring rtag).1 = some t → t.MemoryOk) ∧ (s.recover d ring rtag).2.MemoryOk := by
  unfold State.recover
  split
  · exact ⟨fun t ht => Option.some.inj ht ▸ h, h⟩
  · extract_lets y hist
    split
    · exact ⟨fun _ ht => (nomatch ht), h⟩
    · exact ⟨fun _ ht => (nomatch ht), .bump h⟩
    · extract_lets t u
      have hu : u.MemoryOk := .foldl (fun _ _ hk => .bump hk) (.setNode h)
      exact ⟨fun v hv => Option.some.inj hv ▸ hu, hu⟩

theorem State.MemoryOk.writeNodeFlt (h : s.MemoryOk) {d : NodeCfg} : (s.writeNodeFlt d).MemoryOk := .ite h (.liveWrite h)

theorem State.MemoryOk.netOver (h : s.MemoryOk) : s.netOver.MemoryOk := by
  unfold State.netOver
  split
  · exact h
  · exact .ite (.condOver h) h

theorem State.MemoryOk.nodeTo (h : s.MemoryOk) {d : NodeCfg} {st : Nat} : (s.nodeTo d st).MemoryOk := by
  unfold State.nodeTo
  extract_lets _ t
  have ht : t.MemoryOk := .writeNodeFlt (.setNode h)
  exact .ite (.raise ht) (.ite (.netOver ht) ht)

theorem State.MemoryOk.missIn (h : s.MemoryOk) {d : NodeCfg} : (s.missIn d).MemoryOk := by
  unfold State.missIn
  extract_lets _ t
  have ht : t.MemoryOk := .bump (.setNode h)
  exact .ite h (.ite (.setNode (.nodeTo ht)) ht)

theorem State.MemoryOk.tokenLost (h : s.MemoryOk) {d : NodeCfg} {epoch : Nat} : (s.tokenLost d epoch).MemoryOk :=
  .ite (.leavePair (.ite (.enter (.log (.nodeTo h))) (.log (.nodeTo h)))) (.nodeTo h)

theorem State.MemoryOk.sendAreq (h : s.MemoryOk) {n op index : Nat} {data : List Byte} {t : State}
    (ht : s.sendAreq n op index data = some t) : t.MemoryOk := by
  unfold State.sendAreq at ht
  split at ht
  · cases ht
  · split at ht
    · extract_lets used mine at ht
      split at ht
      · split at ht <;> cases ht
        exact .update (.setNode h)
      · cases ht
    · cases ht

theorem State.MemoryOk.startupLater (h : s.MemoryOk) {n : Nat} : (s.startupLater n).MemoryOk := .setNode h

theorem State.MemoryOk.startupSend (h : s.MemoryOk) {n : Nat} : (s.startupSend n).MemoryOk := by
  unfold State.startupSend
  split
  · exact h
  · split
    · exact h
    · dsimp only
      split
      · next ht => exact .setNode (.sendAreq h ht)
      · exact .startupLater h

theorem State.MemoryOk.exchangeDone (h : s.MemoryOk) {e : Exchange} {status : Nat} {data : List Byte} :
    (s.exchangeDone e status data).MemoryOk := by
  unfold State.exchangeDone
  extract_lets _ _ _ x1
  have hx1 : x1.MemoryOk := .startupLater (.update h)
  split
  · exact (.update h)
  · refine .ite (.ite (.setNode (.update h)) (.update h)) ?_
    refine .ite (.update h) ?_
    refine .ite (.ite (.nodeTo hx1) (.ite (.nodeTo hx1) hx1)) ?_
    refine .ite (.nodeTo (.startupLater (.update h))) ?_
    extract_lets u
    have hu : u.MemoryOk := .ite (.nodeTo (.update h)) (.update h)
    exact .ite (.setNode hu) (.startupSend (.setNode hu))

theorem State.MemoryOk.readNodeDiags (h : s.MemoryOk) : s.readNodeDiags.MemoryOk := by
  unfold State.readNodeDiags
  split
  · exact h
  · refine .foldl (fun t d hk => ?_) h
    dsimp only
    refine .ite ?_ hk
    split
    · next hu => exact .update (.sendAreq (.setNode hk) hu)
    · exact hk

/-! ### NodeOps -/

theorem State.MemoryOk.setSlave (h : s.MemoryOk) {x : Nat} {k : Slave} : (s.setSlave x k).MemoryOk := .update h

theorem State.MemoryOk.slaveOutputs (h : s.MemoryOk) {x : Nat} {img : List Byte} {steps : List (Ns × List Byte)} :
    (s.slaveOutputs x img steps).MemoryOk :=
  .setEngBay h

theorem State.MemoryOk.sendIn (h : s.MemoryOk) {x : Nat} {a2 : SrxHdr} {stale : Bool} : (s.sendIn x a2 stale).MemoryOk :=
  .update (.setSlave h)

theorem State.MemoryOk.sendArsp (h : s.MemoryOk) {x : Nat} {a2 : SrxHdr} {nk : Nat} {payload : List Byte} :
    (s.sendArsp x a2 nk payload).MemoryOk :=
  .update (.setSlave h)

/-! ### Bay -/

theorem ResOk.cycleStartMessage {x : Nat} {err : List Byte} (h : s.MemoryOk) : ResOk (execCycleStartMessage x err s) := by
  unfold execCycleStartMessage
  extract_lets _ _ x
  have hx : x.MemoryOk := .setEngBay h
  split
  · exact .next h
  · refine .ite (.next hx) ?_
    split
    · exact .next (.bumpBay hx)
    · exact .next (.putBay hx (.update (.bay h)))

theorem Bay.FeramOk.applyValue (hb : b.FeramOk) {n v : Nat} : (b.applyValue n v).FeramOk := .setChan hb

theorem Bay.FeramOk.applyDue (hb : b.FeramOk) {n tick : Nat} : (b.applyDue n tick).FeramOk := by
  unfold Bay.applyDue
  split
  · exact .ite (.applyValue (.setChan hb)) hb
  · exact hb

theorem Bay.FeramOk.takeCommand (hb : b.FeramOk) {n tick : Nat} {f : CmdFrame} : (b.takeCommand n tick f).FeramOk := by
  unfold Bay.takeCommand
  extract_lets _ _ _ _ b1 _ b2
  have hb1 : b1.FeramOk := .ite (.setChan (.applyDue hb)) (.setChan hb)
  have hb2 : b2.FeramOk := by
    simp only [b2]
    split
    · exact hb1
    · exact .ite (.setChan hb1) hb1
  split
  · exact .ite (.applyValue hb2) (.ite (.setChan (.applyValue hb2)) hb2)
  · exact hb2

theorem ResOk.commandFrame {x n : Nat} {err : List Byte} (h : s.MemoryOk) : ResOk (execCommandFrame x n err s) := by
  unfold execCommandFrame
  extract_lets _ x _ _ _ x4
  have hx : x.MemoryOk := .setEngBay h
  have hx4 : x4.FeramOk := .settle (.setChan (.bay h))
  split
  · exact .next h
  · refine .ite (.next hx) ?_
    split
    · exact .next (.bumpBay hx)
    · extract_lets u
      have hu : u.MemoryOk := .putBay hx (.ite (.takeCommand hx4) hx4)
      exact .next (.ite (.urgentIn hu) hu)

theorem Bay.FeramOk.readFront (hb : b.FeramOk) {x n : Nat} {r : Reading} : (b.readFront x n r).FeramOk := .setChan hb

theorem Bay.FeramOk.syncCounters (hb : b.FeramOk) : b.syncCounters.FeramOk := .foldl (fun _ _ hk => .ite (.setChan hk) hk) hb

theorem Bay.FeramOk.afterLatch (hb : b.FeramOk) {n : Nat} : (b.afterLatch n).FeramOk := .setChan hb

theorem State.MemoryOk.modIdle (h : s.MemoryOk) {x m : Nat} : (s.modIdle x m).MemoryOk := .ite (.modNext h) h

theorem State.MemoryOk.latchNode (h : s.MemoryOk) {x : Nat} {c : Ns} : (s.latchNode x c).MemoryOk := .ite (.setSlave h) h

theorem ResOk.bayLatch {x : Nat} {r : List Reading} {lp : Nat} {temp : Int} (h : s.MemoryOk) : ResOk (execBayLatch x r lp temp s) := by
  unfold execBayLatch
  refine .ite ?_ (.next h)
  extract_lets s1 tick chans b0 b1 b2 frames
  have hs1 : s1.MemoryOk := .supply h
  have hb2 : b2.FeramOk :=
    .settle (.syncCounters (.foldl (fun _ _ hk => .ite (.readFront hk) hk) (.update (.noteValid (.bay hs1)))))
  split
  next f0 r0 _ =>
    split
    next f1 r1 _ =>
      extract_lets b3 t u
      have hb3 : b3.FeramOk := .update (.foldl (fun _ _ hk => .afterLatch hk) hb2)
      have ht : t.MemoryOk := .setBay hs1 (.settle hb3)
      exact .next (.latchNode (.modIdle (.modIdle (.ite (.setEngBay ht) ht))))

theorem State.MemoryOk.takeSample (h : s.MemoryOk) {x : Nat} {errs : List (Nat × List Byte)} {n : Nat} :
    (s.takeSample x errs n).MemoryOk := by
  unfold State.takeSample
  extract_lets e f good old l t t1 t2 ai
  have ht : t.MemoryOk := .setEngBay h
  have ht1 : t1.MemoryOk := .ite (.bumpBay ht) ht
  have ht2 : t2.MemoryOk := .ite (.raise ht1) ht1
  clear_value f t2
  split
  · exact .setEngBay (.ite (.bump (.bumpBay ht2)) ht2)
  · exact ht2

theorem ResOk.sampleFrame {x : Nat} {errs : List (Nat × List Byte)} (h : s.MemoryOk) : ResOk (execSampleFrame x errs s) := by
  unfold execSampleFrame
  extract_lets _ _ _ _ _ _ _ _ t2
  have ht2 : t2.MemoryOk := .setEngBay (.baylinkOver (.formBayflt (.foldl (fun _ _ hk => .takeSample hk) h)))
  exact .ite (.next (.ite (.liveWrite ht2) ht2)) (.next h)

theorem ResOk.streamFrame {x n : Nat} {err : List Byte} (h : s.MemoryOk) : ResOk (execStreamFrame x n err s) := by
  unfold execStreamFrame
  extract_lets _ _ x
  have hx : x.MemoryOk := .setEngBay h
  split
  · exact .next h
  · refine .ite (.next hx) ?_
    split
    · exact .next (.bumpBay hx)
    · exact .next (.setPv (.setPv (.ite (.fabricWrites hx) hx)))

theorem State.MemoryOk.badStatus (h : s.MemoryOk) : s.badStatus.1.MemoryOk := .draw h

theorem State.MemoryOk.serveMgmt (h : s.MemoryOk) {x ty : Nat} {data : List Byte} : (s.serveMgmt x ty data).1.MemoryOk := by
  have hb : (s.bay x).FeramOk := .bay h
  unfold State.serveMgmt
  extract_lets b tick fail okb
  have hfail : fail.1.MemoryOk := .badStatus h
  split
  · exact h
  · split
    · exact h
    · split
      · exact .setBay h (Memory.wf_writeL _ _ _ hb)
      · exact hfail
    · split
      · next ht => exact .commitCopy h ht
      · exact hfail
    · split
      · exact h
      · exact hfail
    · split
      · exact .bayRecord h
      · split
        · exact h
        · exact hfail
    · exact .putBay h (.protClear hb)
    · exact .putBay h (.trimWrite hb)
    · exact h

theorem State.MemoryOk.request64 (h : s.MemoryOk) {x ty tag : Nat} {data err : List Byte} :
    (s.request64 x ty tag data err).1.MemoryOk := by
  unfold State.request64
  extract_lets
  split
  · exact h
  · split
    · exact .bumpBay h
    · exact .serveMgmt h

theorem State.MemoryOk.sendMgmt (h : s.MemoryOk) {x ty : Nat} {data err : List Byte} : (s.sendMgmt x ty data err).MemoryOk :=
  .ite (.setEngBay (.request64 h)) h

theorem ResOk.protClear {x n kind : Nat} {err : List Byte} (h : s.MemoryOk) : ResOk (execProtClear x n kind err s) := .next (.sendMgmt h)

theorem ResOk.trimWrite {x n op : Nat} {data : Int} {err : List Byte} (h : s.MemoryOk) : ResOk (execTrimWrite x n op data err s) :=
  .next (.sendMgmt h)

theorem ResOk.mgmtResponse {x : Nat} {err : List Byte} (h : s.MemoryOk) : ResOk (execMgmtResponse x err s) := by
  unfold execMgmtResponse
  extract_lets
  split
  · split
    · refine .ite (.next h) ?_
      extract_lets _ waiting
      have hwaiting : waiting.MemoryOk := .setEngBay h
      exact .ite (.next (.bumpBay hwaiting)) (.ite (.next hwaiting) (.next (.setEngBay h)))
    · exact .next h
  · exact .next h

theorem ResOk.mgmtTimeout {x : Nat} {err : List Byte} (h : s.MemoryOk) : ResOk (execMgmtTimeout x err s) := by
  unfold execMgmtTimeout
  extract_lets
  split
  · exact .ite (.next h) (.ite (.next (.setEngBay (.request64 h))) (.next (.setEngBay h)))
  · exact .next h

theorem ResOk.diagPoll (h : s.MemoryOk) : ResOk (execDiagPoll s) := by
  unfold execDiagPoll
  refine .ite ?_ (.next h)
  extract_lets _ _ u v
  have hu : u.MemoryOk := .foldl (fun _ _ hk => .ite (.readDiag hk) hk) (.update h)
  have hv : v.MemoryOk := .ite (.liveWrite hu) hu
  exact .next (.ite (.readNodeDiags hv) hv)

theorem ResOk.aliveStatusWord {x : Nat} {err : W16} (h : s.MemoryOk) : ResOk (execAliveStatusWord x err s) := by
  unfold execAliveStatusWord
  extract_lets _ _ s1 _ _ _ _ _ t _ _ t2
  have hs1 : s1.MemoryOk := .setBay h (.update (.bay h))
  have ht : t.MemoryOk := .setEngBay hs1
  have ht2 : t2.MemoryOk := .baylinkOver (.formBayflt (.ite (.update ht) ht))
  exact .ite (.next h) (.ite (.next (.ite (.linkStart ht2) ht2)) (.next hs1))

theorem Bay.FeramOk.restartInputs (hb : b.FeramOk) {tick : Nat} : (b.restartInputs tick).FeramOk := .foldl (fun _ _ hk => .setChan hk) hb

theorem ResOk.bayClockReturn {x : Nat} (h : s.MemoryOk) : ResOk (execBayClockReturn x s) := by
  unfold execBayClockReturn
  extract_lets _ _ t
  have ht : t.MemoryOk := .putBay h (.revalidateAll (.restartInputs (.update (.bay h))))
  exact .ite (.next (.ite (.modsStart ht) ht)) (.next h)

theorem ResOk.lpQualified {x lp : Nat} (h : s.MemoryOk) : ResOk (execLpQualified x lp s) := by
  unfold execLpQualified
  extract_lets _ _ _ t
  have ht : t.MemoryOk := .putBay (.supply h) (.revalidateAll (.update (.bay (.supply h))))
  exact .ite (.next (.ite (.modsStart ht) ht)) (.next h)

theorem Bay.FeramOk.resetChan (hb : b.FeramOk) {tick n : Nat} : (b.resetChan tick n).FeramOk := .setChan hb

theorem ResOk.bayReset {x lp : Nat} (h : s.MemoryOk) : ResOk (execBayReset x lp s) :=
  .ite (.ite (.next (.putBay h (.update (.bay h)))) (.next (.bumpBay (.putBay h (.update (.foldl (fun _ _ hk => .resetChan hk)
    (.bay h))))))) (.next h)

theorem ResOk.bayConfigLoaded {x lp : Nat} {almsel : Bool} (h : s.MemoryOk) : ResOk (execBayConfigLoaded x lp almsel s) :=
  .ite (.next (.linkStart (.loadBay (.setBay h (.update (.restartInputs (.loadTrims (.withLp (.bay h))))))))) (.next h)

/-! ### OwnerOps -/

theorem State.MemoryOk.clearOwned (h : s.MemoryOk) : s.clearOwned.MemoryOk := .withSram h (wf_writePts _ _ h.sram)

theorem State.MemoryOk.applyOwner (h : s.MemoryOk) : s.applyOwner.MemoryOk := by
  unfold State.applyOwner
  split
  · exact h
  · exact .mirror (.ok (.log (.update (.ite (.clearOwned h) h))))

/-! ### StbyOps -/

theorem State.MemoryOk.forward (h : s.MemoryOk) {f : ScarfOut} : (s.forward f).MemoryOk := .ite (.scarfSend h) h

theorem State.MemoryOk.sendDelta (h : s.MemoryOk) {c peg : Nat} {pegAt : Ns} {pages : List Nat} {writes : List (Nat × Nat)}
    {rows : List Nat} {cells : List CellRec} :
    (s.sendDelta c peg pegAt pages writes rows cells).MemoryOk :=
  .ite (.update (.scarfSend h)) h

theorem State.MemoryOk.startResync (h : s.MemoryOk) : s.startResync.MemoryOk := .scarfSend (.update (.bump h))

/-! ### Shots -/

theorem ResOk.release {c : Nat} (h : s.MemoryOk) : ResOk (execRelease c s) := by
  unfold execRelease
  refine .ite ?_ (.next h)
  extract_lets
  split
  · exact .next (.ok (.update (.setCtx h)))
  · exact .next (.setCtx h)

theorem State.MemoryOk.pinEarlier (h : s.MemoryOk) {p : Ns} : (s.pinEarlier p).MemoryOk := .update h

theorem ResOk.dataPinComplete {c : Nat} (h : s.MemoryOk) : ResOk (execDataPinComplete c s) := by
  unfold execDataPinComplete
  extract_lets
  split
  · exact .next h
  · exact .ite (.next (.dispatch (.ite (.bump (.setCtx h)) (.setCtx h)))) (.next h)

theorem State.MemoryOk.commitShot (h : s.MemoryOk) {c : Nat} {sh : Shot} : (s.commitShot c sh).MemoryOk := by
  unfold State.commitShot
  extract_lets _ _ _ _ _ _ _ _ _ _ _ _ _ _ _ _ _ s6
  have hs6 : s6.MemoryOk := .setCtx (.update (.foldl (fun _ _ hk => .bump hk) (.foldl (fun _ _ hk => .bump hk)
    (.foldl (fun _ _ hk => .bumpPage hk) (.withSram h (wf_writePts _ _ h.sram))))))
  exact .sendDelta (.ite (.dropCapOver hs6) hs6)

theorem State.MemoryOk.finishSwitch (h : s.MemoryOk) : s.finishSwitch.MemoryOk := .ite (.update (.scarfSend h)) h

theorem State.MemoryOk.finishDrain {s0 : State} (h : s0.MemoryOk) : s0.finishDrain.MemoryOk := by
  unfold State.finishDrain
  extract_lets s
  have hs : s.MemoryOk := .finishSwitch h
  split
  · exact hs
  · refine .ite hs ?_
    extract_lets
    split
    · exact .ok (.update (.enter hs))
    · exact (.enter hs)

theorem ResOk.peg {c : Nat} (h : s.MemoryOk) : ResOk (execPeg c s) := by
  unfold execPeg
  split
  · exact .next h
  · refine .ite ?_ (.next h)
    extract_lets _ _ t
    have ht : t.MemoryOk := .setCtx (.pinEarlier h)
    split
    · exact .next (.finishDrain ht)
    · exact .ite (.next (.commitShot ht)) (.next (.finishDrain (.dropAndDispatch ht)))

theorem ResOk.shotAbandoned {c : Nat} (h : s.MemoryOk) : ResOk (execShotAbandoned c s) := by
  unfold execShotAbandoned
  extract_lets
  split
  · exact .next h
  · exact .next (.forward (.ite (.countDrop (.setCtx h)) (.setCtx h)))

theorem ResOk.commitDurable (h : s.MemoryOk) : ResOk (execCommitDurable s) := by
  unfold execCommitDurable
  split
  · exact .next h
  · extract_lets _ _ _ _ _ _ _ _ _ _ t _ u
    have ht : t.MemoryOk := .withFeram h (Memory.wf_writeL _ _ _ h.feram)
    have hu : u.MemoryOk := .ite (.worst (.bump (.worst ht))) (.worst ht)
    exact .ite (.next (.finishDrain (.ite (.applyOwner hu) hu))) (.next h)

theorem State.MemoryOk.handOut (h : s.MemoryOk) {c : Nat} {peg : Ns} {w : Nat × Nat} : (s.handOut c peg w).MemoryOk := by
  unfold State.handOut
  split
  · exact .update (.setEngBay h)
  · split
    · exact .update h
    · exact h

theorem ResOk.emit (h : s.MemoryOk) : ResOk (execEmit s) := by
  unfold execEmit
  split
  · exact .next h
  · exact .ite (.next (.finishDrain (.worst (.foldl (fun _ _ hk => .handOut hk) (.update h))))) (.next h)

/-! ### LoadOps -/

theorem State.MemoryOk.writeContainer (h : s.MemoryOk) {kind : Nat} {bs : List Byte} : (s.writeContainer kind bs).MemoryOk :=
  .withFeram h (Memory.wf_writeL _ _ _ h.feram)

theorem State.MemoryOk.fillBank (h : s.MemoryOk) {i : Nat} {p : Program} : (s.fillBank i p).MemoryOk :=
  .withSram h (Memory.wf_writeL _ _ _ (Memory.wf_restrict _ _ h.sram))

theorem State.MemoryOk.applySched (h : s.MemoryOk) {r : SchedResult} {p : Program} : (s.applySched r p).MemoryOk :=
  .ite (.setPv h) (.foldl (fun _ _ hk => .ite (.setCtx hk) hk) (.setPv (.setPv (.setPv (.setPv h)))))

theorem State.MemoryOk.startProgram (h : s.MemoryOk) {m : Option Nat} {k : Checked} {bs : List Byte} {chain : Nat} {clear : Bool} :
    (s.startProgram m k bs chain clear).MemoryOk :=
  .update (.fillBank (.writeContainer h))

theorem State.MemoryOk.startNet (h : s.MemoryOk) {m : Option Nat} {net : NetConfig} {bs : List Byte} :
    (s.startNet m net bs).MemoryOk :=
  .update (.writeContainer h)

theorem State.MemoryOk.startActivation (h : s.MemoryOk) {m : Option Nat} {k : Checked} {bs : List Byte} :
    (s.startActivation m k bs).MemoryOk := by
  unfold State.startActivation
  split
  · exact .startNet h
  · exact .startProgram h

theorem State.MemoryOk.swapIn (h : s.MemoryOk) {p : Program} : (s.swapIn p).MemoryOk :=
  .foldl (fun _ _ hk => .ite (.setCtx hk) hk) (.update h)

theorem State.MemoryOk.takeNet (h : s.MemoryOk) {c : NetConfig} : (s.takeNet c).MemoryOk := by
  refine .withSram h ?_
  split
  · exact wf_writePts _ _ h.sram
  · exact h.sram

theorem State.MemoryOk.logProgram (h : s.MemoryOk) {kind : Nat} : (s.logProgram kind).MemoryOk := .log h

theorem State.MemoryOk.activate (h : s.MemoryOk) {a : Activation} : (s.activate a).MemoryOk := by
  unfold State.activate
  extract_lets t t1 _ t2 t3 _ t4
  have ht : t.MemoryOk := by
    simp only [t]
    split
    · have hu := State.MemoryOk.swapIn h (p := ‹Program›)
      exact .logProgram (.applySched (.withSram hu (wf_writePts _ _ hu.sram)))
    · exact h
  have ht1 : t1.MemoryOk := by
    simp only [t1]
    split
    · exact .log (.update (.takeNet ht))
    · exact ht
  have ht2 : t2.MemoryOk := .update ht1
  have ht3 : t3.MemoryOk := by
    simp only [t3]
    split
    · exact .ok ht2
    · exact ht2
  have ht4 : t4.MemoryOk := .ite (.scarfSend (.update ht3)) ht3
  exact .mirror (.ite (.startResync ht4) ht4)

theorem State.MemoryOk.editSwap (h : s.MemoryOk) {e : ArmedEdit} : (s.editSwap e).MemoryOk :=
  .logProgram (.applySched (.foldl (fun _ _ hk => .setCtx hk) (.update h)))

/-! ### NvmOps -/

theorem State.MemoryOk.rowWritten (h : s.MemoryOk) {ahead : Bool} : (s.rowWritten ahead).MemoryOk := .update (.bump h)

theorem State.MemoryOk.writeCommitRow (h : s.MemoryOk) {k : Commit} {i : Nat} : (s.writeCommitRow k i).MemoryOk := by
  unfold State.writeCommitRow
  refine .ite (.ite (.writeRow h) h) ?_
  split
  · exact .writeRow h
  · exact .ite (.writeRow h) h

theorem State.MemoryOk.logWrite (h : s.MemoryOk) {r : LogRec} {rest : List LogRec} : (s.logWrite r rest).MemoryOk := by
  unfold State.logWrite
  extract_lets _ _ _ _ _ _ u
  have hu : u.MemoryOk := .setPv (.writeRow (.update h))
  exact .ite (.log (.update (.setPv (.setPv hu)))) (.setPv (.setPv hu))

theorem State.MemoryOk.loadCopy (h : s.MemoryOk) {slot : Nat} {k : SettingsCopy} : (s.loadCopy slot k).MemoryOk :=
  .setPv (.setPv (.setPv (.update h)))

theorem State.MemoryOk.updRow (h : s.MemoryOk) {left : Nat} : (s.updRow left).MemoryOk := by
  unfold State.updRow
  split
  · extract_lets _ _ _ t
    have ht : t.MemoryOk := .ite (.writeRow h) (.writeRow h)
    exact .ite (.writeShim (.update ht)) (.ite (.writeShim (.update ht)) ht)
  · exact .writeRow h
  · exact h

/-! ### Nvm -/

theorem State.MemoryOk.jobRow (h : s.MemoryOk) {i : Nat} {j : RowJob} : (s.jobRow i j).MemoryOk := by
  unfold State.jobRow
  extract_lets
  split
  · extract_lets _ u
    have hu : u.MemoryOk := .writeRow (.update h)
    exact .ite (.setPv (.update hu)) hu
  · exact .writeRow (.update h)
  · exact .updRow (.update h)
  · exact (.update h)

theorem State.MemoryOk.commitRow (h : s.MemoryOk) {k : Commit} : (s.commitRow k).MemoryOk := .update (.writeCommitRow h)

theorem ResOk.nvmRowWriteDone {eccOk : Bool} (h : s.MemoryOk) : ResOk (execNvmRowWriteDone eccOk s) := by
  unfold execNvmRowWriteDone
  refine .ite ?_ (.next h)
  extract_lets checked
  have hchecked : ∀ (t : State) (ahead : Bool), t.MemoryOk → (checked t ahead).MemoryOk := fun t ahead ht =>
    .ite (.rowWritten ht) (.raise (.rowWritten ht))
  clear_value checked
  split
  · refine .ite (.ite (.next (hchecked _ _ (.commitRow h))) (.next h)) (.ite ?_ ?_)
    · split
      · exact .next (hchecked _ _ (.jobRow h))
      · exact .next h
    · exact .ite (.next (hchecked _ _ (.commitRow h))) (.next h)
  · refine .ite ?_ (.next h)
    split
    · exact .next (hchecked _ _ (.jobRow h))
    · exact .next h

theorem ResOk.logRecordWrite (h : s.MemoryOk) : ResOk (execLogRecordWrite s) := by
  unfold execLogRecordWrite
  split
  · exact .next h
  · exact .ite (.next (.rowWritten (.logWrite h))) (.next h)

theorem ResOk.logHeaderWrite (h : s.MemoryOk) : ResOk (execLogHeaderWrite s) := by
  unfold execLogHeaderWrite
  refine .ite ?_ (.next h)
  extract_lets t
  have ht : t.MemoryOk := .rowWritten h
  exact .next (.withFeram ht (Memory.wf_writeL _ _ _ ht.feram))

theorem ResOk.settingsCopyDurable (h : s.MemoryOk) : ResOk (execSettingsCopyDurable s) := by
  unfold execSettingsCopyDurable
  split
  · refine .ite ?_ (.next h)
    refine .next ?_
    refine .foldl (fun _ _ hk => ?_) (.bump (.setPv (.setPv (.setPv (.update (.rowWritten (.writeRow h)))))))
    split
    · exact .ok hk
    · exact hk
  · exact .next h

/-! ### Clocks -/

theorem State.MemoryOk.updateSource (h : s.MemoryOk) : s.updateSource.MemoryOk := .ite h (.ite (.update h) (.update h))

theorem State.MemoryOk.measure (h : s.MemoryOk) {offset rate : Int} : (s.measure offset rate).MemoryOk :=
  .ite (.ite (.bump (.update h)) (.update h)) (.update h)

theorem State.MemoryOk.autoRun (h : s.MemoryOk) : s.autoRun.MemoryOk := .ite (.enterRun h) h

theorem ResOk.syncInEdge (h : s.MemoryOk) : ResOk (execSyncInEdge s) := by
  unfold execSyncInEdge
  refine .ite ?_ (.next h)
  extract_lets _ _ _ x _ _ x2
  have hx : x.MemoryOk := by
    simp only [x]
    split
    · exact .ite (.update h) (.update h)
    · exact h
  have hx2 : x2.MemoryOk := .updateSource (.update hx)
  exact .ite (.ite (.next (.autoRun (.update (.measure hx2)))) (.next hx2)) (.next (.bump h))

theorem ResOk.syncInEdgeMissed (h : s.MemoryOk) : ResOk (execSyncInEdgeMissed s) := by
  unfold execSyncInEdgeMissed
  split
  · exact .ite (.next (.updateSource (.ite (.update (.update h)) (.update h)))) (.next h)
  · exact .next h

theorem ResOk.gptpSync {f : SyncMsg} (h : s.MemoryOk) : ResOk (execGptpSync f s) := by
  unfold execGptpSync
  extract_lets _ _ _ _ u
  have hu : u.MemoryOk := .updateSource (.update h)
  exact .ite (.next (.autoRun (.update (.ite (.measure hu) hu)))) (.next h)

/-! ### Faults -/

theorem State.MemoryOk.raiseStanding (h : s.MemoryOk) {src : Nat} : (s.raiseStanding src).MemoryOk := .raise h

theorem State.MemoryOk.clearSticky (h : s.MemoryOk) {mask : Nat} : (s.clearSticky mask).MemoryOk :=
  .mirror (.foldl (fun _ _ hk => .ite (.raiseStanding hk) hk) (.update h))

theorem State.MemoryOk.resetDiscards (h : s.MemoryOk) : s.resetDiscards.MemoryOk := by
  unfold State.resetDiscards
  extract_lets _ t
  have ht : t.MemoryOk := by
    simp only [t]
    split
    · exact .logWrite h
    · exact h
  refine .ite ?_ h
  split
  · exact .logWrite ht
  · exact ht

theorem ResOk.faultChipReset (h : s.MemoryOk) : ResOk (execFaultChipReset s) := by
  unfold execFaultChipReset
  refine .ite (.next h) ?_
  split
  · exact .next (.chipReset (.resetDiscards h))
  · exact .next h

theorem ResOk.graceExpiry {src : Nat} (h : s.MemoryOk) : ResOk (execGraceExpiry src s) := by
  unfold execGraceExpiry
  split
  · exact .next h
  · exact .ite (.next (.update h)) (.next (.update h))

theorem State.MemoryOk.reactAgain (h : s.MemoryOk) {r : FaultRec} : (s.reactAgain r).MemoryOk :=
  .logRec (.ite (.pinLow (.update h)) (.update h))

theorem ResOk.collectorSelfFault (h : s.MemoryOk) : ResOk (execCollectorSelfFault s) := by
  unfold execCollectorSelfFault
  refine .ite (.next h) ?_
  extract_lets
  split
  · exact .next (.reactAgain (.update (.bump h)))
  · exact .next (.formRecord (.bump (.bump h)))

theorem ResOk.fltAck {m : BitVec 4} (h : s.MemoryOk) : ResOk (execFltAck m s) := by
  unfold execFltAck
  extract_lets
  split
  · exact .next h
  · extract_lets _ _ _ _ _ _ _ _ u
    have hu : u.MemoryOk := .ite (.update (.update h)) (.update h)
    exact .ite (.next (.refuse h)) (.ite (.next (.refuse h)) (.ite (.next (.refuse h)) (.next (.ok (.ite (.enter hu) hu)))))

/-! ### HostPort -/

theorem ResOk.onHost (h : s.MemoryOk) {f : State → State} (hf : ∀ t, t.MemoryOk → (f t).MemoryOk) : ResOk (s.onHost f) :=
  .ite (.next (hf s h)) (.next h)

theorem State.MemoryOk.putNet (h : s.MemoryOk) {m : Nat} {r : NetRequest} : (s.putNet m r).MemoryOk := by
  unfold State.putNet
  extract_lets _ t
  have ht : t.MemoryOk := .setMailbox h
  exact .withSram ht (Memory.wf_writeL _ _ _ ht.sram)

theorem State.MemoryOk.placeNet (h : s.MemoryOk) : s.placeNet.MemoryOk := by
  unfold State.placeNet
  refine .foldl (fun _ _ hk => ?_) h
  split
  · exact .update (.putNet hk)
  · exact hk

theorem State.MemoryOk.freeMbx (h : s.MemoryOk) {m : Nat} : (s.freeMbx m).MemoryOk := .setMailbox h

theorem State.MemoryOk.ring (h : s.MemoryOk) {m : Nat} : (s.ring m).MemoryOk := .ite (.update (.setMailbox h)) (.hstatSet h)

theorem State.MemoryOk.release (h : s.MemoryOk) {m : Nat} {keep : Bool} : (s.release m keep).MemoryOk := by
  unfold State.release
  refine .ite (.hstatSet h) ?_
  split
  · exact .freeMbx h
  · exact .ite (.setMailbox h) (.freeMbx h)
  · exact .hstatSet h

theorem State.MemoryOk.releaseAll (h : s.MemoryOk) {mask : Nat} {keep : Bool} : (s.releaseAll mask keep).MemoryOk :=
  .placeNet (.foldl (fun _ _ hk => .release hk) h)

theorem State.MemoryOk.resolveClaim (h : s.MemoryOk) : s.resolveClaim.MemoryOk := by
  unfold State.resolveClaim
  split
  · exact h
  · extract_lets want room
    clear_value want room
    split
    · exact .update (.setMailbox h)
    · exact .update h

theorem State.MemoryOk.hprst (h : s.MemoryOk) : s.hprst.MemoryOk := by
  unfold State.hprst
  extract_lets _ t
  have ht : t.MemoryOk := by
    simp only [t]
    refine .foldl (fun _ _ hk => ?_) h
    refine .ite hk ?_
    split
    · exact .freeMbx hk
    · exact .freeMbx hk
    · exact .setMailbox hk
  exact .placeNet (.update ht)

theorem State.MemoryOk.gpioLevels (h : s.MemoryOk) : s.gpioLevels.2.MemoryOk := .draw h

theorem State.MemoryOk.hostRead (h : s.MemoryOk) {i : Nat} : (s.hostRead i).2.MemoryOk := by
  unfold State.hostRead
  split
  · exact h
  · exact h
  · exact h
  · exact h
  · exact h
  · exact h
  · exact h
  · exact h
  · exact h
  · exact h
  · exact h
  · exact h
  · exact .update h
  · exact h
  · exact .gpioLevels h
  · exact h
  · exact h
  · exact h
  · exact h
  · exact h

theorem State.MemoryOk.hostWrite (h : s.MemoryOk) {i v : Nat} : (s.hostWrite i v).MemoryOk := by
  unfold State.hostWrite
  split
  · exact .ite (.hprst (.update h)) (.update h)
  · exact .update h
  · exact .update h
  · exact .update h
  · exact .foldl (fun _ _ hk => .ring hk) h
  · exact .update h
  · exact .releaseAll h
  · exact .update h
  · exact .update h
  · exact h

theorem State.MemoryOk.hostData (h : s.MemoryOk) {d : List Nat} : (s.hostData d).MemoryOk := .update h

theorem ResOk.rdreg (h : s.MemoryOk) {index : BitVec 6} {count : Nat} : ResOk (execRdreg index count s) := by
  have reads : ∀ (l : List Nat) (acc : List Nat × State), acc.2.MemoryOk →
      (l.foldl (fun (acc : List Nat × State) i =>
        let (d, t) := acc.2.hostRead ((index.toNat + i) % 64)
        (acc.1 ++ [d], t)) acc).2.MemoryOk := by
    intro l
    induction l with
    | nil => exact fun _ k => k
    | cons i r ih => exact fun acc k => ih _ (.hostRead k)
  exact .onHost h fun t ht => .hostData (reads _ ([], t) ht)

theorem ResOk.wrreg {index : BitVec 6} {words : List W32} {part : Bool} (h : s.MemoryOk) : ResOk (execWrreg index words part s) := by
  unfold execWrreg
  refine .onHost h ?_
  intro _ hf
  extract_lets t
  have ht : t.MemoryOk := .foldl (fun _ _ hk1 => .hostWrite hk1) hf
  exact .ite (.hstatSet ht) ht

theorem ResOk.rdmbx {m : BitVec 4} {off : BitVec 12} {count : Nat} {flips : List Nat} (h : s.MemoryOk) :
    ResOk (execRdmbx m off count flips s) := by
  unfold execRdmbx
  refine .onHost h ?_
  intro _ hf
  refine .ite ?_ (.hostData (.hstatSet hf))
  extract_lets _ _ _ t
  have ht : t.MemoryOk := .hostData (.foldl (fun _ _ hk1 => .eccRead hk1) hf)
  exact .ite (.update ht) ht

theorem ResOk.wrmbx {m : BitVec 4} {off : BitVec 12} {bytes : List Byte} (h : s.MemoryOk) : ResOk (execWrmbx m off bytes s) :=
  .onHost h (fun _ hf => .ite (.hstatSet hf) (.ite (.hstatSet hf) (.foldl (fun _ _ hk1 => .fabricWrite hk1) hf)))

/-! ### Mailbox -/

theorem State.MemoryOk.accept_ (h : s.MemoryOk) {m : Nat} {r : Request} : (s.accept_ m r).MemoryOk := by
  unfold State.accept_
  extract_lets _ _ _ t t1
  have ht : t.MemoryOk := .setMailbox h
  have ht1 : t1.MemoryOk := .ite ht (.setSession ht)
  exact .ite ht1 (.answer ht1)

theorem State.MemoryOk.badSeq (h : s.MemoryOk) {m : Nat} : (s.badSeq m).MemoryOk := .setMailbox (.bump h)

theorem State.MemoryOk.repeatAnswer (h : s.MemoryOk) {m k : Nat} {e : HistEntry} : (s.repeatAnswer m k e).MemoryOk :=
  .setMailbox (.setSession h)

theorem State.MemoryOk.sequenceCheck (h : s.MemoryOk) {m : Nat} {r : Request} : (s.sequenceCheck m r).MemoryOk := by
  unfold State.sequenceCheck
  extract_lets _ _ _ t
  have ht : t.MemoryOk := .setMailbox h
  refine .ite (.badSeq ht) ?_
  refine .ite (.ite (.setMailbox ht) (.accept_ ht)) ?_
  refine .ite (.setSession (.setMailbox ht)) ?_
  split
  · exact .repeatAnswer ht
  · exact .badSeq ht

theorem State.MemoryOk.wakeSession (h : s.MemoryOk) {id : Nat} : (s.wakeSession id).MemoryOk := by
  unfold State.wakeSession
  refine .ite h ?_
  extract_lets
  split
  · split
    · exact .accept_ h
    · exact h
  · exact h

theorem State.MemoryOk.authFailed (h : s.MemoryOk) {id : Nat} : (s.authFailed id).MemoryOk := by
  unfold State.authFailed
  extract_lets _ _ _ u
  have hu : u.MemoryOk := .setSession (.bump h)
  exact .ite (.ite (.raise (.endSession hu)) hu) (.bump h)

theorem State.MemoryOk.takeRequest (h : s.MemoryOk) {m : Nat} {tagOk : Bool} {plain : List Byte} :
    (s.takeRequest m tagOk plain).MemoryOk := by
  unfold State.takeRequest
  extract_lets _ _ _ _ _ _ t
  have ht : t.MemoryOk := .setMailbox h
  exact .ite (.answerClear ht) (.ite (.answerClear ht) (.ite (.answerClear ht) (.ite (.authFailed (.answerClear ht)) (.ite
    (.accept_ ht) (.sequenceCheck (.setSession ht))))))

theorem ResOk.mailboxTake {tagOk : Bool} {plain : List Byte} (h : s.MemoryOk) : ResOk (execMailboxTake tagOk plain s) := by
  unfold execMailboxTake
  split
  · exact .next h
  · exact .ite (.next (.mirror (.dispatch (.takeRequest (.update (.dispatch h)))))) (.next h)

theorem State.MemoryOk.afterResponse (h : s.MemoryOk) {r : Request} {p : Response} : (s.afterResponse r p).MemoryOk := by
  unfold State.afterResponse
  refine .ite ?_ (.ite (.endSession h) h)
  split
  · exact .ite (.update (.setSession (.update h))) (.update h)
  · exact h

theorem ResOk.mailboxDone {m : BitVec 4} (h : s.MemoryOk) : ResOk (execMailboxDone m s) := by
  unfold execMailboxDone
  extract_lets
  split
  · refine .ite ?_ (.next h)
    extract_lets _ t _ _ t1
    have ht : t.MemoryOk := .withSram h (Memory.wf_writeL _ _ _ h.sram)
    have ht1 : t1.MemoryOk := .ite (.update (.setMailbox ht)) (.freeMbx ht)
    exact .next (.mirror (.dispatch (.placeNet (.wakeSession (.afterResponse (.ite (.worst (.bump ht1)) (.bump ht1)))))))
  · exact .next h

theorem ResOk.sequenceWaitTimeout {m : BitVec 4} (h : s.MemoryOk) : ResOk (execSequenceWaitTimeout m s) := by
  unfold execSequenceWaitTimeout
  extract_lets
  split
  · exact .ite (.next (.dispatch (.badSeq h))) (.next h)
  · exact .next h

theorem State.MemoryOk.closeConn (h : s.MemoryOk) {conn : Nat} : (s.closeConn conn).MemoryOk :=
  .update (.foldl (fun _ _ hk => .ite (.endSession hk) hk) h)

/-! ### Sessions -/

theorem State.MemoryOk.openFail (h : s.MemoryOk) {m status : Nat} : (s.openFail m status).MemoryOk := .refuse (.bump h)

theorem ResOk.openLeg1 {m : BitVec 4} (h : s.MemoryOk) : ResOk (execOpenLeg1 m s) := by
  unfold execOpenLeg1
  extract_lets
  split
  · exact .next h
  · refine .ite (.next h) ?_
    extract_lets
    refine .ite (.next (.openFail h)) ?_
    refine .ite (.next (.openFail h)) ?_
    refine .ite (.next (.openFail h)) ?_
    split
    · exact .next (.answer (.bump h))
    · exact .next (.update (.setMailbox (.ok h)))

theorem ResOk.openLeg2 {m : BitVec 4} {sigOk : Bool} (h : s.MemoryOk) : ResOk (execOpenLeg2 m sigOk s) := by
  unfold execOpenLeg2
  extract_lets
  split
  · exact .next h
  · refine .ite (.next h) ?_
    split
    · exact .next (.openFail h)
    · extract_lets
      refine .ite (.next (.openFail h)) ?_
      refine .ite (.next (.openFail h)) ?_
      split
      · exact .next (.openFail h)
      · exact .next (.openFail h)
      · exact .ite (.next (.openFail h)) (.next (.setSession (.ok h)))

theorem ResOk.openTimeout {slot : BitVec 4} (h : s.MemoryOk) : ResOk (execOpenTimeout slot s) := by
  unfold execOpenTimeout
  split
  · exact .ite (.next (.update (.bump h))) (.next h)
  · exact .next h

theorem ResOk.close {m : BitVec 4} (h : s.MemoryOk) : ResOk (execClose m s) := by
  unfold execClose
  extract_lets
  split
  · exact .next h
  · exact .next (.setSession (.ok h))

theorem ResOk.ident {m : BitVec 4} (h : s.MemoryOk) : ResOk (execIdent m s) := by
  unfold execIdent
  extract_lets
  split
  · exact .next h
  · exact .next (.ok h)

/-! ### TmrEvents -/

theorem State.MemoryOk.retireCore (h : s.MemoryOk) {c : Nat} : (s.retireCore c).MemoryOk := .raise (.update h)

theorem State.MemoryOk.noMajority (h : s.MemoryOk) {ev : CmpEvent} : (s.noMajority ev).MemoryOk := .mismatch (.draw (.draw h))

theorem State.MemoryOk.oddCore (h : s.MemoryOk) {c : Nat} {ev : CmpEvent} : (s.oddCore c ev).MemoryOk := by
  unfold State.oddCore
  extract_lets _ _ _ _ _ _ t2
  have ht2 : t2.MemoryOk := .update (.ite (.bump (.mismatch h)) (.mismatch h))
  exact .ite (.retireCore ht2) (.update ht2)

theorem State.MemoryOk.comparatorFault (h : s.MemoryOk) {ev : CmpEvent} : (s.comparatorFault ev).MemoryOk :=
  .raiseWith (.update (.log (.bump (.draw (.draw (.draw h))))))

theorem ResOk.tmrMismatch {ev : CmpEvent} (h : s.MemoryOk) : ResOk (execTmrMismatch ev s) := by
  unfold execTmrMismatch
  refine .ite ?_ (.next h)
  refine .ite (.next (.comparatorFault h)) ?_
  split
  · split
    · exact .ite (.next (.retireCore h)) (.next h)
    · exact .next h
  · exact .next (.oddCore h)
  · exact .next (.noMajority h)

theorem ResOk.coreScrubDone {ok : Bool} (h : s.MemoryOk) : ResOk (execCoreScrubDone ok s) := by
  unfold execCoreScrubDone
  split
  · exact .next h
  · exact .ite (.ite (.next (.update h)) (.next (.retireCore h))) (.next h)

theorem ResOk.coreJoin {pause : Nat} (h : s.MemoryOk) : ResOk (execCoreJoin pause s) := by
  unfold execCoreJoin
  split
  · exact .next h
  · extract_lets _ t u
    have ht : t.MemoryOk := .worst (.joined (.bump (.bump h)))
    have hu : u.MemoryOk := by
      simp only [u]
      split
      · exact .log ht
      · exact ht
    exact .ite (.next (.update hu)) (.next h)

theorem ResOk.resyncTimeout (h : s.MemoryOk) : ResOk (execResyncTimeout s) := by
  unfold execResyncTimeout
  split
  · exact .next h
  · exact .ite (.next (.mismatch h)) (.next h)

theorem ResOk.modeChange (h : s.MemoryOk) : ResOk (execModeChange s) := by
  unfold execModeChange
  split
  · exact .next h
  · exact .ite (.next (.changeMode h)) (.next h)

theorem ResOk.freeCoreReturn (h : s.MemoryOk) : ResOk (execFreeCoreReturn s) := by
  unfold execFreeCoreReturn
  split
  · exact .next (.setPv (.update (.rejoin h)))
  · exact .next h

/-! ### Security -/

theorem State.MemoryOk.useChallenge (h : s.MemoryOk) {session : Nat} : (s.useChallenge session).MemoryOk := .update h

theorem State.MemoryOk.consume (h : s.MemoryOk) {session : Nat} {named : Option (List Byte)} : (s.consume session named).MemoryOk := by
  unfold State.consume
  split
  · exact .ite (.useChallenge h) h
  · exact .useChallenge h
  · exact h

theorem ResOk.challenge {m : BitVec 4} (h : s.MemoryOk) : ResOk (execChallenge m s) := by
  unfold execChallenge
  extract_lets
  split
  · exact .next h
  · exact .next (.ok (.update (.useChallenge h)))

theorem State.MemoryOk.startChange (h : s.MemoryOk) {m : Nat} {owner : Option (List Byte)} {clear : Bool} :
    (s.startChange m owner clear).MemoryOk :=
  .dispatch (.update h)

theorem ResOk.claim {m : BitVec 4} {proofOk : Bool} (h : s.MemoryOk) : ResOk (execClaim m proofOk s) := by
  unfold execClaim
  extract_lets
  split
  · exact .next h
  · exact .ite (.next (.refuse (.consume h))) (.ite (.next (.refuse (.consume h))) (.ite (.next (.refuse (.consume h))) (.ite (.next
    (.refuse (.consume h))) (.ite (.next (.refuse (.consume h))) (.ite (.next (.refuse (.consume h))) (.next (.startChange
      (.consume h))))))))

theorem ResOk.transfer {m : BitVec 4} {tokenSigOk proofOk : Bool} (h : s.MemoryOk) : ResOk (execTransfer m tokenSigOk proofOk s) := by
  unfold execTransfer
  extract_lets
  split
  · exact .next h
  · exact .ite (.next (.refuse (.consume h))) (.ite (.next (.refuse (.consume h))) (.ite (.next (.refuse (.consume h))) (.ite (.next
    (.refuse (.consume h))) (.ite (.next (.refuse (.consume h))) (.next (.startChange (.consume h)))))))

theorem ResOk.ownRelease {m : BitVec 4} {tokenSigOk : Bool} (h : s.MemoryOk) : ResOk (execOwnRelease m tokenSigOk s) := by
  unfold execOwnRelease
  extract_lets
  split
  · exact .next h
  · exact .ite (.next (.refuse (.consume h))) (.ite (.next (.refuse (.consume h))) (.ite (.next (.refuse (.consume h))) (.ite (.next
    (.refuse (.consume h))) (.next (.startChange (.consume h))))))

theorem ResOk.install {m : BitVec 4} {sigOk : Bool} (h : s.MemoryOk) : ResOk (execInstall m sigOk s) := by
  unfold execInstall
  extract_lets
  split
  · exact .next h
  · exact .ite (.next (.refuse h)) (.ite (.next (.refuse h)) (.ite (.next (.refuse h)) (.next (.mirror (.foldl (fun _ _ hk => .ite
    (.ite (.setSession hk) (.endSession hk)) hk) (.ok (.log (.update h))))))))

theorem ResOk.lock {m : BitVec 4} (h : s.MemoryOk) : ResOk (execLock m s) := by
  unfold execLock
  extract_lets
  split
  · exact .next h
  · exact .ite (.next (.refuse h)) (.next (.mirror (.ok (.log (.update h)))))

theorem ResOk.unlock {m : BitVec 4} {tokenSigOk : Bool} (h : s.MemoryOk) : ResOk (execUnlock m tokenSigOk s) := by
  unfold execUnlock
  extract_lets
  split
  · exact .next h
  · exact .ite (.next (.refuse (.consume h))) (.ite (.next (.refuse (.consume h))) (.next (.mirror (.ok (.log (.update (.consume h)))))))

theorem ResOk.unlockExpiry (h : s.MemoryOk) : ResOk (execUnlockExpiry s) := by
  unfold execUnlockExpiry
  split
  · exact .ite (.next (.mirror (.log (.update h)))) (.next h)
  · exact .next h

theorem ResOk.debug {m : BitVec 4} {tokenSigOk : Bool} (h : s.MemoryOk) : ResOk (execDebug m tokenSigOk s) := by
  unfold execDebug
  extract_lets
  split
  · exact .next h
  · exact .ite (.next (.refuse (.consume h))) (.ite (.next (.refuse (.consume h))) (.ite (.next (.refuse (.consume h))) (.next (.ok
    (.raise (.update (.consume h)))))))

theorem ResOk.debugEnd {m : BitVec 4} (h : s.MemoryOk) : ResOk (execDebugEnd m s) := by
  unfold execDebugEnd
  extract_lets
  split
  · exact .next h
  · exact .ite (.next (.refuse h)) (.next (.ok (.update h)))

theorem ResOk.attest {m : BitVec 4} (h : s.MemoryOk) : ResOk (execAttest m s) := by
  unfold execAttest
  extract_lets
  split
  · exact .next h
  · exact .next (.ok (.update h))

theorem ResOk.tamperZeroise (h : s.MemoryOk) : ResOk (execTamperZeroise s) := by
  unfold execTamperZeroise
  split
  · exact .whenOk h (.update h)
  · exact .next h

/-! ### Loader -/

theorem State.MemoryOk.beginStaging (h : s.MemoryOk) {m id kind len : Nat} : (s.beginStaging m id kind len).MemoryOk := .ok (.update h)

theorem ResOk.prgBegin {m : BitVec 4} (h : s.MemoryOk) : ResOk (execPrgBegin m s) := by
  unfold execPrgBegin
  split
  · exact .next h
  · extract_lets
    split
    · exact .next (.refuse h)
    · exact .ite (.next (.refuse h)) (.ite (.next (.beginStaging h)) (.next (.refuse h)))

theorem ResOk.editBegin {m : BitVec 4} (h : s.MemoryOk) : ResOk (execEditBegin m s) := by
  unfold execEditBegin
  split
  · exact .next h
  · extract_lets
    split
    · exact .next (.refuse h)
    · exact .ite (.next (.refuse h)) (.next (.beginStaging h))

theorem ResOk.prgData {m : BitVec 4} (h : s.MemoryOk) : ResOk (execPrgData m s) := by
  unfold execPrgData
  split
  · exact .next h
  · extract_lets
    split
    · exact .next (.refuse h)
    · exact .ite (.next (.refuse h)) (.ite (.next (.refuse h)) (.next (.ok (.withSram h (Memory.wf_writeL _ _ _ h.sram)))))

theorem State.MemoryOk.noteSched (h : s.MemoryOk) {r : Option SchedResult} : (s.noteSched r).MemoryOk := by
  unfold State.noteSched
  split
  · exact .setPv h
  · exact h

theorem State.MemoryOk.offer (h : s.MemoryOk) {m : Nat} {lead : Ns} {bs : List Byte} : (s.offer m lead bs).MemoryOk :=
  .dispatch (.update (.scarfSend h))

theorem State.MemoryOk.commitPassed (h : s.MemoryOk) {m : Nat} {k : Checked} : (s.commitPassed m k).MemoryOk :=
  .ite (.ite (.offer h) (.dispatch (.startActivation h))) (.ok (.update (.writeContainer h)))

theorem ResOk.prgCommit {m : BitVec 4} {v : Verdict} (h : s.MemoryOk) : ResOk (execPrgCommit m v s) := by
  unfold execPrgCommit
  split
  · exact .next h
  · refine .ite (.next h) ?_
    split
    · exact .ite (.next (.refuseLoad h)) (.next (.refuse h))
    · split
      · refine .ite (.next (.refuseLoad h)) ?_
        split
        · exact .next (.refuseLoad (.noteSched h))
        · split
          · exact .next (.refuseLoad h)
          · exact .next (.commitPassed h)
      · split
        · exact .next (.refuseLoad (.noteSched h))
        · exact .ite (.next (.offer h)) (.next (.startActivation h))
      · exact .next (.refuse h)

theorem ResOk.programActivation (h : s.MemoryOk) : ResOk (execProgramActivation s) := by
  unfold execProgramActivation
  split
  · exact .ite (.next (.activate h)) (.next h)
  · exact .next h

theorem State.MemoryOk.arm (h : s.MemoryOk) {m : Nat} {k : Checked} {lead at_ : Ns} : (s.arm m k lead at_).MemoryOk :=
  .ok (.update (.fillBank (.writeContainer h)))

theorem ResOk.editApply {m : BitVec 4} {v : Verdict} (h : s.MemoryOk) : ResOk (execEditApply m v s) := by
  unfold execEditApply
  split
  · exact .next h
  · refine .ite (.next h) ?_
    split
    · exact .ite (.next (.refuseLoad h)) (.next (.refuse h))
    · refine .ite (.ite (.next (.refuseLoad h)) (.next (.refuse h))) ?_
      refine .ite (.next (.refuseLoad (.draw h))) ?_
      split
      · exact .next (.refuseLoad (.noteSched h))
      · split
        · exact .next (.refuseLoad h)
        · split
          · exact .next (.refuseLoad h)
          · exact .ite (.next (.offer h)) (.next (.arm h))

theorem State.MemoryOk.verdictPassed (h : s.MemoryOk) {m : Nat} : (s.verdictPassed m).MemoryOk := by
  unfold State.verdictPassed
  refine .ite (.refuseLoad (.update h)) ?_
  split
  · exact .refuseLoad (.update h)
  · refine .ite ?_ (.startActivation (.update h))
    split
    · exact .arm (.update h)
    · exact .refuseLoad (.update h)

theorem State.MemoryOk.takeEdit (h : s.MemoryOk) {e : ArmedEdit} : (s.takeEdit e).MemoryOk :=
  .mirror (.sendDelta (.update (.editSwap (.foldl (fun _ _ hk => .bumpPage hk) (.withSram h (wf_writePts _ _ h.sram))))))

theorem ResOk.editStep (h : s.MemoryOk) : ResOk (execEditStep s) := by
  unfold execEditStep
  split
  · exact .next h
  · exact .ite (.next (.takeEdit h)) (.next h)

/-! ### Standby -/

theorem State.MemoryOk.scarfTaken (h : s.MemoryOk) {a1 : ScarfHdr} : (s.scarfTaken a1).MemoryOk := .followDue (.update h)

theorem State.MemoryOk.scarfDropped (h : s.MemoryOk) {a1 : ScarfHdr} : (s.scarfDropped a1).MemoryOk := .update (.bump h)

theorem ResOk.onFrame (h : s.MemoryOk) {hdr : ScarfHdr} {f : State → State} (hf : ∀ t, t.MemoryOk → (f t).MemoryOk) :
    ResOk (s.onFrame hdr f) :=
  .ite (.next (hf _ (.scarfTaken h))) (.ite (.next (.scarfDropped h)) (.next h))

theorem ResOk.scarfLinkUp (h : s.MemoryOk) : ResOk (execScarfLinkUp s) := by
  unfold execScarfLinkUp
  refine .ite ?_ (.next h)
  extract_lets _ _ u
  have hu : u.MemoryOk := .condOver (.update h)
  exact .next (.ite (.scarfSend hu) hu)

theorem State.MemoryOk.applyDelta (h : s.MemoryOk) {d : Delta} : (s.applyDelta d).MemoryOk := by
  unfold State.applyDelta
  extract_lets fresh ws edit _ s1 s2 s3 _ _ _ _ _ s4
  have hs1 : s1.MemoryOk := .withSram h (wf_writePts _ _ h.sram)
  have hs2 : s2.MemoryOk := .foldl (fun _ _ hk => .bumpPage hk) hs1
  have hs3 : s3.MemoryOk := by
    simp only [s3]
    clear_value edit
    split
    · exact .editSwap hs2
    · exact hs2
  have hs4 : s4.MemoryOk := .update hs3
  exact .ite hs4 (.setCtx hs4)

theorem State.MemoryOk.applyAll (h : s.MemoryOk) : s.applyAll.MemoryOk := .update (.foldl (fun _ _ hk => .applyDelta hk) h)

theorem State.MemoryOk.logRole (h : s.MemoryOk) {old new : Role} : (s.logRole old new).MemoryOk := .log h

theorem State.MemoryOk.takeOver (h : s.MemoryOk) : s.takeOver.MemoryOk := by
  unfold State.takeOver
  extract_lets _ t0 t u
  have ht0 : t0.MemoryOk := .applyAll (.update h)
  have ht : t.MemoryOk := by
    simp only [t]
    split
    · exact .followTo ht0
    · exact ht0
  have hu : u.MemoryOk := .claimToken (.leavePair ht)
  exact .update (.setPv (.bump (.ite (.countSkipped (.placeReleases hu)) hu)))

theorem State.MemoryOk.standbyStops (h : s.MemoryOk) : s.standbyStops.MemoryOk := by
  unfold State.standbyStops
  extract_lets t
  have ht : t.MemoryOk := .leavePair h
  exact .ite ht (.enter ht)

theorem State.MemoryOk.partnerGone (h : s.MemoryOk) : s.partnerGone.MemoryOk := by
  unfold State.partnerGone
  split
  · exact .ite (.takeOver h) (.standbyStops h)
  · exact .leavePair h
  · exact h

theorem State.MemoryOk.pairRefused (h : s.MemoryOk) {code : Nat} : (s.pairRefused code).MemoryOk := .update (.log h)

theorem State.MemoryOk.offerNext (h : s.MemoryOk) : s.offerNext.MemoryOk := by
  unfold State.offerNext
  split
  · exact .scarfSend h
  · exact .startResync (.scarfSend h)

theorem State.MemoryOk.applyPrimary (h : s.MemoryOk) : s.applyPrimary.MemoryOk := .applySched h

theorem State.MemoryOk.becomePrimary (h : s.MemoryOk) {p : Hello} : (s.becomePrimary p).MemoryOk :=
  .mirror (.offerNext (.applyPrimary (.logRole (.update (.abandonEdit h)))))

theorem State.MemoryOk.becomeStandby (h : s.MemoryOk) {p : Hello} : (s.becomeStandby p).MemoryOk :=
  .mirror (.logRole (.update (.abandonEdit h)))

theorem ResOk.hello {a0 : ScarfHdr} {p : Hello} (h : s.MemoryOk) : ResOk (execHello a0 p s) := by
  unfold execHello
  refine .onFrame h ?_
  intro _ hf
  refine .ite ?_ hf
  extract_lets u
  have hu : u.MemoryOk := .ite hf (.scarfSend hf)
  split
  · exact hu
  · exact .pairRefused hu
  · split
    · exact .scarfSend (.pairRefused hu)
    · exact .becomePrimary hu
  · exact .becomeStandby hu

theorem State.MemoryOk.withdraw (h : s.MemoryOk) : s.withdraw.MemoryOk := .ite (.scarfSend (.abandonEdit h)) h

theorem State.MemoryOk.sendNak (h : s.MemoryOk) {peg reason : Nat} : (s.sendNak peg reason).MemoryOk :=
  .mirror (.withdraw (.update (.scarfSend h)))

theorem ResOk.onDelta (h : s.MemoryOk) {hdr : ScarfHdr} {f : State → State} (hf : ∀ t, t.MemoryOk → (f t).MemoryOk) :
    ResOk (s.onDelta hdr f) :=
  .ite (.next (.sendNak (.scarfDropped h))) (.onFrame h fun t ht => .ite (hf t ht) ht)

theorem ResOk.deltaApply (h : s.MemoryOk) : ResOk (execDeltaApply s) := by
  unfold execDeltaApply
  split
  · exact .next h
  · exact .next (.update (.applyDelta h))

theorem State.MemoryOk.ackGivenUp (h : s.MemoryOk) : s.ackGivenUp.MemoryOk := .mirror (.finishDrain (.ite (.startResync h) (.update h)))

theorem State.MemoryOk.armOffered (h : s.MemoryOk) {k : Checked} {bs : List Byte} : (s.armOffered k bs).MemoryOk :=
  .update (.fillBank (.writeContainer h))

theorem State.MemoryOk.verdict (h : s.MemoryOk) {status detail : Nat} : (s.verdict status detail).MemoryOk := .scarfSend h

theorem State.MemoryOk.takeSlot (h : s.MemoryOk) {bs : List Byte} {v : Verdict} : (s.takeSlot bs v).MemoryOk := by
  unfold State.takeSlot
  extract_lets
  split
  · split
    · exact .verdict h
    · exact .startProgram (.update h)
  · exact .verdict h

theorem State.MemoryOk.takeNetCopy (h : s.MemoryOk) {bs : List Byte} {v : Verdict} : (s.takeNetCopy bs v).MemoryOk := by
  unfold State.takeNetCopy
  split
  · exact .verdict h
  · refine .ite (.verdict h) ?_
    split
    · exact .verdict h
    · exact .startNet (.update h)

theorem State.MemoryOk.judgeOffer (h : s.MemoryOk) {bs : List Byte} {v : Verdict} : (s.judgeOffer bs v).MemoryOk := by
  unfold State.judgeOffer
  refine .ite (.verdict h) ?_
  split
  · exact .verdict h
  · exact .verdict (.ite (.armOffered h) (.startActivation h))

theorem ResOk.editOffer {a0 : ScarfHdr} {purpose left : Nat} {data : List Byte} {v : Verdict} (h : s.MemoryOk) :
    ResOk (execEditOffer a0 purpose left data v s) :=
  .onFrame h (fun _ hf => .ite (.ite (.update hf) (.ite (.judgeOffer (.update hf)) (.ite (.takeSlot (.update hf)) (.takeNetCopy
    (.update hf))))) hf)

theorem ResOk.editVerdict {a0 : ScarfHdr} {status detail : Nat} (h : s.MemoryOk) : ResOk (execEditVerdict a0 status detail s) := by
  unfold execEditVerdict
  refine .onFrame h ?_
  intro _ hf
  refine .ite ?_ hf
  split
  · exact .ite (.verdictPassed hf) (.refuseLoad hf)
  · split
    · exact .mirror (.ite (.offerNext (.update hf)) (.leavePair hf))
    · exact .ite hf (.abandonEdit hf)

theorem State.MemoryOk.switchOut (h : s.MemoryOk) : s.switchOut.MemoryOk :=
  .mirror (.finishSwitch (.logRole (.update (.stopReleases (.abandonEdit h)))))

theorem State.MemoryOk.switchIn (h : s.MemoryOk) {x : Ns} : (s.switchIn x).MemoryOk := by
  unfold State.switchIn
  split
  · exact .mirror (.standbyStops (.scarfSend (.pairRefused h)))
  · exact .mirror (.placeReleases (.claimToken (.applyPrimary (.logRole (.update (.abandonEdit h))))))

theorem ResOk.switchInstant (h : s.MemoryOk) : ResOk (execSwitchInstant s) := by
  unfold execSwitchInstant
  split
  · exact .next h
  · refine .ite ?_ (.next h)
    refine .ite (.next (.update h)) ?_
    split
    · exact .ite (.next h) (.next (.switchOut h))
    · exact .next (.switchIn h)
    · exact .next (.update h)

/-! ### PowerEvents -/

theorem State.MemoryOk.shed (h : s.MemoryOk) : s.shed.MemoryOk := .update h

theorem State.MemoryOk.powerWarning (h : s.MemoryOk) : s.powerWarning.MemoryOk := by
  unfold State.powerWarning
  extract_lets _ _ _ _ _ u
  have hu : u.MemoryOk := .update (.shed (.stopReleases (.dropAll h)))
  exact .mirror (.raise (.ite (.setPv (.setPv hu)) hu))

theorem State.MemoryOk.setOrFree (h : s.MemoryOk) {pid w v : Nat} : (s.setOrFree pid w v).MemoryOk := .ite (.setPv h) (.setPv (.draw h))

theorem State.MemoryOk.holdupResult (h : s.MemoryOk) {num den vin : Nat} : (s.holdupResult num den vin).MemoryOk :=
  .setPv (.setPv (.setOrFree (.setOrFree h)))

theorem State.MemoryOk.holdupOpen (h : s.MemoryOk) : s.holdupOpen.MemoryOk := .setPv (.setPv (.setPv (.setPv (.draw (.draw h)))))

theorem State.MemoryOk.startHoldup (h : s.MemoryOk) {vin : Nat} : (s.startHoldup vin).MemoryOk :=
  .ite (.ite (.holdupResult (.update h)) (.ite (.setPv (.setPv (.update h))) (.update (.update h)))) h

theorem ResOk.holdupMeasureEnd {vin iin dur : Nat} (h : s.MemoryOk) : ResOk (execHoldupMeasureEnd vin iin dur s) := by
  unfold execHoldupMeasureEnd
  split
  · exact .next h
  · exact .ite (.next (.holdupResult (.update h))) (.next (.holdupOpen (.update h)))

/-! ### Update -/

theorem State.MemoryOk.moving (h : s.MemoryOk) : s.moving.2.MemoryOk := .draw h

theorem ResOk.updBegin {m : BitVec 4} (h : s.MemoryOk) : ResOk (execUpdBegin m s) := by
  unfold execUpdBegin
  extract_lets m
  split
  · exact .next h
  · extract_lets len
    refine .ite (.next (.refuse h)) (.ite (.next (.refuse h)) (.ite (.next (.refuse h)) ?_))
    split
    next mv t0 e =>
      extract_lets t
      have ht : t.MemoryOk := .ite (.ofSnd (.moving h) e) h
      exact .ite (.next (.refuse ht)) (.ite (.next (.refuse ht)) (.next (.mirror (.ok (.log (.update ht))))))

theorem ResOk.updData {m : BitVec 4} (h : s.MemoryOk) : ResOk (execUpdData m s) := by
  unfold execUpdData
  extract_lets
  split
  · exact .next h
  · extract_lets _ _ _ _ t
    have ht : t.MemoryOk := .withSram h (Memory.wf_writeL _ _ _ h.sram)
    exact .ite (.next (.refuse h)) (.ite (.next (.refuse h)) (.ite (.next (.refuse h)) (.next (.ok (.ite (.scarfSend ht) ht)))))

theorem State.MemoryOk.takeManifest (h : s.MemoryOk) : s.takeManifest.MemoryOk := .update (.draw h)

theorem ResOk.updVerified {v : Verdict} (h : s.MemoryOk) : ResOk (execUpdVerified v s) := by
  unfold execUpdVerified
  refine .ite ?_ (.next h)
  extract_lets _ t
  have ht : t.MemoryOk := .takeManifest h
  exact .ite (.next (.log (.update ht))) (.next (.mirror (.update (.updDiscard ht))))

theorem State.MemoryOk.startActivating (h : s.MemoryOk) : s.startActivating.MemoryOk := .writeShim (.update (.writeRow (.writeRow h)))

theorem State.MemoryOk.activateNow (h : s.MemoryOk) {m : Nat} : (s.activateNow m).MemoryOk :=
  .ite (.scarfSend (.update (.update h))) (.startActivating (.update h))

theorem ResOk.updActivate {m : BitVec 4} {vin : Nat} (h : s.MemoryOk) : ResOk (execUpdActivate m vin s) := by
  unfold execUpdActivate
  extract_lets m finish
  have hfinish : ∀ u : State, u.MemoryOk → (finish u).MemoryOk := fun u hu => .ite (.activateNow hu) (.update (.refuse hu))
  clear_value finish
  split
  · exact .next h
  · refine .ite (.next h) ?_
    split
    next mv t0 e =>
      extract_lets t st _ u v
      have ht : t.MemoryOk := .ite (.ofSnd (.moving h) e) h
      have hu : u.MemoryOk := .update ht
      have hv : v.MemoryOk := .holdupResult hu
      exact .ite (.next (.refuse ht)) (.ite (.next (hfinish t ht)) (.ite (.ite (.next ht) (.next (.refuse (.update ht))))
        (.ite (.ite (.next (hfinish v hv)) (.next (.refuse (.update hv))))
          (.ite (.next (.refuse (.update (.setPv (.setPv hu))))) (.ite (.next hu) (.next (.update hu)))))))

theorem ResOk.updStatus {m : BitVec 4} (h : s.MemoryOk) : ResOk (execUpdStatus m s) := by
  unfold execUpdStatus
  extract_lets
  split
  · exact .next h
  · exact .ite (.next (.refuse h)) (.next (.ok h))

theorem ResOk.updActivationDone (h : s.MemoryOk) : ResOk (execUpdActivationDone s) := by
  unfold execUpdActivationDone
  split
  · refine .ite ?_ (.next h)
    extract_lets _ _ _ u _ w
    have hu : u.MemoryOk := .writeShim (.update (.rowWritten h))
    have hw : w.MemoryOk := by
      simp only [w]
      split
      · exact .ok (.log hu)
      · exact (.log hu)
    exact .ite (.next (.update hw)) (.next (.log hu))
  · exact .next h

theorem State.MemoryOk.swapFwBank (h : s.MemoryOk) : s.swapFwBank.MemoryOk := .setPv h

theorem State.MemoryOk.firmwareSettings (h : s.MemoryOk) {fmt : Nat} {converts : Bool} :
    (s.firmwareSettings fmt converts).MemoryOk := by
  unfold State.firmwareSettings
  extract_lets
  split
  · exact (.setPv h)
  · exact .ite (.ite (.log (.update (.loadCopy (.setPv h)))) (.update (.setPv h))) (.ite (.setPv h) (.loadCopy (.setPv h)))

theorem ResOk.handoverComplete (h : s.MemoryOk) : ResOk (execHandoverComplete s) := by
  unfold execHandoverComplete
  refine .ite ?_ (.next h)
  split
  next v t e =>
    have ht : t.MemoryOk := .ofSnd (.draw h) e
    extract_lets _ _ u _ _ _ u1 w x
    have hu1 : u1.MemoryOk := .update (.setPv (.firmwareSettings ht))
    have hw : w.MemoryOk := by
      simp only [w]
      split
      · exact .ok hu1
      · exact hu1
    have hx : x.MemoryOk := .log hw
    exact .next (.mirror (.dispatch (.ite (.updRevert hx) hx)))

theorem ResOk.trialConfirm (h : s.MemoryOk) : ResOk (execTrialConfirm s) := by
  unfold execTrialConfirm
  refine .ite ?_ (.next h)
  refine .ite (.next (.update h)) ?_
  split
  · exact .next (.update h)
  · refine .ite ?_ (.next h)
    extract_lets _ _ _ u
    have hu : u.MemoryOk := .bump (.log (.update (.writeShim (.update h))))
    exact .next (.ite (.scarfSend hu) hu)

theorem ResOk.revertDone (h : s.MemoryOk) : ResOk (execRevertDone s) := by
  unfold execRevertDone
  split
  · refine .ite ?_ (.next h)
    extract_lets _ _ t1 _ _ _ _ _ v w
    have ht1 : t1.MemoryOk := .update (.rowWritten h)
    have hv : v.MemoryOk := .raise (.updReverted (.ite (.update (.firmwareSettings (.swapFwBank
      (.withSram ht1 (Memory.wf_copyRegion _ _ _ _ _ ht1.sram))))) ht1))
    have hw : w.MemoryOk := .ite (.scarfSend hv) hv
    exact .ite (.next (.mirror (.update hw))) (.next (.mirror hw))
  · exact .next h

theorem ResOk.updOffer {a0 : ScarfHdr} {left : Nat} {seg : List Byte} {v : Verdict} (h : s.MemoryOk) :
    ResOk (execUpdOffer a0 left seg v s) :=
  .onFrame h (fun _ hf => .ite (.update hf) (.ite (.ite (.ite (.scarfSend (.startActivating (.update hf))) (.scarfSend
    (.update hf))) (.ite (.ite (.scarfSend (.log (.takeManifest (.update (.update hf))))) (.scarfSend (.update hf))) (.scarfSend
      (.update hf)))) hf))

theorem ResOk.updVerdict {a0 : ScarfHdr} {what : Nat} {ok : Bool} (h : s.MemoryOk) : ResOk (execUpdVerdict a0 what ok s) :=
  .onFrame h (fun _ hf => .ite (.ite (.update hf) (.ite (.ite (.mirror (.raise (.updPartnerGone hf))) (.ite
    (.startActivating hf) hf)) hf)) hf)

/-! ### StateCmds -/

theorem State.MemoryOk.answerDrain (h : s.MemoryOk) : s.answerDrain.MemoryOk := by
  unfold State.answerDrain
  split
  · exact .ok (.update h)
  · exact h

theorem State.MemoryOk.enterNow (h : s.MemoryOk) {dest : DevState} {imm : Bool} {m : Nat} : (s.enterNow dest imm m).MemoryOk :=
  .dispatch (.ok (.answerDrain (.enter h)))

theorem State.MemoryOk.startDrain (h : s.MemoryOk) {dest : DevState} {m : Nat} : (s.startDrain dest m).MemoryOk :=
  .dispatch (.finishDrain (.stopReleases (.update h)))

theorem State.MemoryOk.overtaken (h : s.MemoryOk) {m : Nat} {asked taken : DevState} : (s.overtaken m asked taken).MemoryOk :=
  .abort (.log h)

theorem State.MemoryOk.stateDown (h : s.MemoryOk) {dest : DevState} {imm : Bool} {m : Nat} : (s.stateDown dest imm m).MemoryOk := by
  unfold State.stateDown
  split
  · exact .ite (.overtaken h) (.ite (.enterNow h) (.refuse h))
  · refine .ite (.ite (.enterNow h) (.refuse h)) ?_
    refine .ite (.enterNow h) ?_
    extract_lets t
    have ht : t.MemoryOk := by
      simp only [t]
      split
      · exact .overtaken h
      · exact .log h
    exact .startDrain ht
  · exact .ite (.enterNow h) (.startDrain h)
  · exact .ite (.enterNow h) (.refuse h)
  · exact .refuse h

theorem ResOk.stateStop {m : BitVec 4} (h : s.MemoryOk) : ResOk (execStateStop m s) := by
  unfold execStateStop
  split
  · exact .next (.mirror (.stateDown h))
  · exact .ite (.next (.refuse h)) (.next h)
  · exact .next h

theorem ResOk.stateHalt {m : BitVec 4} (h : s.MemoryOk) : ResOk (execStateHalt m s) := by
  unfold execStateHalt
  split
  · exact .next (.mirror (.stateDown h))
  · exact .next h

theorem ResOk.stateRun {m : BitVec 4} (h : s.MemoryOk) : ResOk (execStateRun m s) := by
  unfold execStateRun
  split
  · split
    · exact .next (.overtaken h)
    · exact .ite (.next (.refuse h)) (.next (.mirror (.dispatch (.update (.enterRun (.ite (.rejoin (.update h)) h))))))
    · exact .ite (.next (.refuse h)) (.next (.mirror (.dispatch (.update (.enterRun (.ite (.rejoin (.update h)) h))))))
    · exact .next (.refuse h)
  · exact .next h

theorem ResOk.testEnter {m : BitVec 4} (h : s.MemoryOk) : ResOk (execTestEnter m s) := by
  unfold execTestEnter
  split
  · exact .ite (.next (.mirror (.ok (.update h)))) (.next (.refuse h))
  · exact .next h

theorem ResOk.testLeave {m : BitVec 4} (h : s.MemoryOk) : ResOk (execTestLeave m s) := by
  unfold execTestLeave
  split
  · exact .ite (.next (.mirror (.ok (.update h)))) (.next (.refuse h))
  · exact .next h

theorem ResOk.stateRestart {m : BitVec 4} (h : s.MemoryOk) : ResOk (execStateRestart m s) := by
  unfold execStateRestart
  split
  · exact .next (.update (.ok h))
  · exact .next h

theorem ResOk.imgrd {m : BitVec 4} (h : s.MemoryOk) : ResOk (execImgrd m s) := by
  unfold execImgrd
  split
  · exact .next h
  · exact .ite (.next (.refuse h)) (.next (.ok h))

theorem State.MemoryOk.clearForces (h : s.MemoryOk) : s.clearForces.MemoryOk := .forward (.update h)

theorem ResOk.force {m : BitVec 4} (h : s.MemoryOk) : ResOk (execForce m s) := by
  unfold execForce
  split
  · exact .next h
  · exact .ite (.next (.refuse h)) (.ite (.next (.refuse h)) (.ite (.next (.refuse h)) (.next (.ok (.log (.forward (.update h)))))))

theorem ResOk.logrd {m : BitVec 4} (h : s.MemoryOk) : ResOk (execLogrd m s) := by
  unfold execLogrd
  split
  · exact .next h
  · exact .ite (.next (.refuse h)) (.next (.ok (.foldl (fun _ _ hk => .bump hk) h)))

theorem ResOk.stbyStatus {m : BitVec 4} (h : s.MemoryOk) : ResOk (execStbyStatus m s) := by
  unfold execStbyStatus
  split
  · exact .next h
  · exact .next (.ok h)

theorem ResOk.stbyJoin {m : BitVec 4} (h : s.MemoryOk) : ResOk (execStbyJoin m s) := by
  unfold execStbyJoin
  split
  · exact .next h
  · exact .ite (.next (.refuse h)) (.ite (.next (.refuse h)) (.next (.ok (.ite (.scarfSend (.update h)) (.update h)))))

theorem ResOk.stbySwitch {m : BitVec 4} (h : s.MemoryOk) : ResOk (execStbySwitch m s) := by
  unfold execStbySwitch
  split
  · exact .next h
  · extract_lets
    refine .ite (.next (.refuse h)) ?_
    refine .ite (.next (.refuse (.draw h))) ?_
    split
    · exact .ite (.next (.ok (.update (.scarfSend h)))) (.next (.refuse h))
    · exact .next (.refuse h)

theorem ResOk.stbyLeave {m : BitVec 4} (h : s.MemoryOk) : ResOk (execStbyLeave m s) := by
  unfold execStbyLeave
  split
  · exact .next h
  · split
    · exact .next (.mirror (.ok (.leavePair h)))
    · exact .next (.mirror (.ok (.standbyStops (.scarfSend h))))
    · exact .next (.refuse h)

/-! ### ParamGet -/

theorem State.MemoryOk.drawIn (h : s.MemoryOk) {r : PRow} : (s.drawIn r).2.MemoryOk := .draw h

theorem State.MemoryOk.paramValue (h : s.MemoryOk) {sess pid : Nat} {r : PRow} : (s.paramValue sess pid r).2.MemoryOk := by
  unfold State.paramValue
  split
  · split
    · exact .drawIn h
    · split
      · exact h
      · exact h
  · exact h
  · exact h
  · exact h
  · exact h
  · split
    · exact h
    · exact h
    · exact h
  · split
    · exact h
    · exact h
  · split
    · exact h
    · exact h
  · exact h

theorem State.MemoryOk.getEntry (h : s.MemoryOk) {sess pid : Nat} : (s.getEntry sess pid).2.2.MemoryOk := by
  unfold State.getEntry
  extract_lets
  split
  · exact h
  · split
    · exact h
    · exact .paramValue h

theorem State.MemoryOk.getEntries (h : s.MemoryOk) {sess : Nat} {pids : List Nat} : (s.getEntries sess pids).2.2.MemoryOk := by
  induction pids generalizing s with
  | nil => exact h
  | cons p rest ih => exact ih (.getEntry h)

theorem ResOk.get {m : BitVec 4} (h : s.MemoryOk) : ResOk (execGet m s) := by
  unfold execGet
  split
  · exact .next h
  · exact .ite (.next (.refuse h)) (.ite (.next (.refuse h)) (.next (.answer (.getEntries h))))

theorem ResOk.getblk {m : BitVec 4} (h : s.MemoryOk) : ResOk (execGetblk m s) := by
  unfold execGetblk
  split
  · exact .next h
  · exact .ite (.next (.refuse h)) (.ite (.next (.refuse h)) (.next (.ok h)))

theorem ResOk.cup {m : BitVec 4} (h : s.MemoryOk) : ResOk (execCup m s) := by
  unfold execCup
  split
  · exact .next h
  · exact .next (.ok h)

/-! ### ParamSet -/

theorem State.MemoryOk.putMode (h : s.MemoryOk) {x n mode : Nat} : (s.putMode x n mode).MemoryOk := by
  unfold State.putMode
  extract_lets _ u
  have hu : u.MemoryOk := .ite (.setPv h) (.setPv (.setPv h))
  exact .ite hu (.setPv (.setPv hu))

theorem State.MemoryOk.setMode (h : s.MemoryOk) {x n mode : Nat} : (s.setMode x n mode).MemoryOk :=
  .foldl (fun _ _ hk => .putMode hk) (.putMode (.foldl (fun _ _ hk => .putMode hk) h))

theorem State.MemoryOk.bayCommit (h : s.MemoryOk) {x : Nat} {f : State → State} (hf : ∀ t, t.MemoryOk → (f t).MemoryOk) :
    (s.bayCommit x f).1.MemoryOk := by
  unfold State.bayCommit
  split
  · exact .writeMaster (hf s h)
  · exact h

theorem State.MemoryOk.bayAsk (h : s.MemoryOk) {x : Nat} {f : Bay → Nat × Bay} (hf : ∀ b, b.FeramOk → (f b).2.FeramOk) :
    (s.bayAsk x f).1.MemoryOk := by
  unfold State.bayAsk
  split
  · exact .putBay h (hf _ (.bay h))
  · exact h

theorem State.MemoryOk.setChanEntry (h : s.MemoryOk) {x n off : Nat} {v : Int} : (s.setChanEntry x n off v).1.MemoryOk := by
  unfold State.setChanEntry
  extract_lets g tick
  split
  · exact .bayCommit h fun _ hf => .setMode hf
  split
  · exact .bayAsk h fun _ hf => .protClear hf
  split
  · exact .bayAsk h fun _ hf => .trimWrite hf
  split
  · exact .bayAsk h fun _ hf => .trimWrite hf
  split
  · exact .bayAsk h fun _ hf => .trimWrite hf
  split
  · exact .bayCommit h fun _ hf => .ite (.setPv (.setPv hf)) (.setPv hf)
  split
  · split
    next t st e =>
      have ht : t.MemoryOk := .ofFst (.bayCommit h fun _ hf => .setPv hf) e
      split
      · exact .setBay ht (.setChan (.bay ht))
      · exact ht
  · exact .bayCommit h fun _ hf => .setPv hf

theorem State.MemoryOk.setLead (h : s.MemoryOk) {pid : Nat} {v : Int} : (s.setLead pid v).1.MemoryOk := by
  unfold State.setLead
  extract_lets
  split
  · exact .setPv (.setPv h)
  · exact h

theorem State.MemoryOk.clearBaySticky (h : s.MemoryOk) {x mask : Nat} : (s.clearBaySticky x mask).MemoryOk :=
  .setEngBay (.setEngBay (.setBay h (.update (.bay h))))

theorem State.MemoryOk.setBayEntry (h : s.MemoryOk) {x off : Nat} {v : Int} : (s.setBayEntry x off v).1.MemoryOk := by
  unfold State.setBayEntry
  split
  · exact .bayCommit h (fun _ hf => .setPv hf)
  · split
    · exact .setLead h
    · split
      · exact .clearBaySticky h
      · exact .setPv h

theorem State.MemoryOk.setBlockEntry (h : s.MemoryOk) {e : SetEntry} : (s.setBlockEntry e).1.MemoryOk := by
  unfold State.setBlockEntry
  extract_lets put
  have hput : ∀ t : State, t.MemoryOk → (put t).MemoryOk := fun t ht => .update ht
  clear_value put
  split
  · exact .bayCommit h hput
  · split
    · exact .ite h (.update h)
    · split
      · exact .update h
      · exact hput s h

theorem State.MemoryOk.selftestRun (h : s.MemoryOk) : s.selftestRun.MemoryOk := by
  unfold State.selftestRun
  split
  next r t e =>
    split
    next d u e1 =>
      have hu : u.MemoryOk := .ofSnd (.draw (.ofSnd (.draw h) e)) e1
      exact .ite (.setPv (.setPv hu)) (.raise (.setPv (.setPv hu)))

theorem State.MemoryOk.requestMode (h : s.MemoryOk) {v : Int} : (s.requestMode v).MemoryOk :=
  .ite (.update (.setPv h)) (.ite (.changeMode (.update h)) (.update h))

theorem State.MemoryOk.setCtxEntry (h : s.MemoryOk) {pid c off : Nat} {v : Int} : (s.setCtxEntry pid c off v).MemoryOk :=
  .ite (.ite (.update (.setPv h)) (.setCtx (.setPv h))) (.ite (.ite (.setCtx (.setPv h)) (.setCtx (.setPv h))) (.setPv h))

theorem State.MemoryOk.setPlainEntry (h : s.MemoryOk) {pid : Nat} {v : Int} : (s.setPlainEntry pid v).1.MemoryOk := by
  unfold State.setPlainEntry
  extract_lets ok
  have hok : ∀ t : State, t.MemoryOk → (ok t).1.MemoryOk := fun _ ht => ht
  clear_value ok
  split
  · exact hok _ (.foldl (fun _ _ hk => .ite (.setSession hk) hk) (.setPv h))
  · exact .setLead h
  · exact .setLead h
  · exact hok _ (.clearForces h)
  · exact hok _ (.updateSource (.ite (.update (.setPv h)) (.setPv h)))
  · exact hok _ (.ite (.update h) (.update h))
  · exact hok _ (.startHoldup (.setPv h))
  · exact hok _ (.startHoldup (.setPv h))
  · exact hok _ (.startHoldup (.setPv h))
  · exact hok _ (.requestMode h)
  · exact hok _ (.selftestRun h)
  · exact hok _ (.clearSticky h)
  · exact hok _ (.setPv h)

theorem State.MemoryOk.applyEntry (h : s.MemoryOk) {es : List SetEntry} {e : SetEntry} : (s.applyEntry es e).1.MemoryOk := by
  unfold State.applyEntry
  split
  · exact h
  · extract_lets v
    split
    · exact h
    split
    · exact .update h
    split
    · exact .setBlockEntry h
    split
    · exact .setCtxEntry h
    · exact .setBayEntry h
    · extract_lets c
      clear_value c
      split
      · exact h
      · exact .setChanEntry h
    · exact .bayCommit h fun _ hf => .setPv hf
    · exact .setPlainEntry h
    · exact .setPv h

theorem State.MemoryOk.putChecked (h : s.MemoryOk) {e : SetEntry} : (s.putChecked e).MemoryOk := by
  unfold State.putChecked
  split
  · exact .setCtx (.setPv h)
  · exact (.setPv h)

theorem State.MemoryOk.applyChecked (h : s.MemoryOk) {es : List SetEntry} : (s.applyChecked es).1.MemoryOk := by
  unfold State.applyChecked
  extract_lets
  split
  · exact .setPv h
  · split
    · exact .setPv h
    · exact .applySched (.foldl (fun _ _ hk => .putChecked hk) h)

theorem State.MemoryOk.applyEntries (h : s.MemoryOk) {skip : List Nat} {es todo : List SetEntry} {i : Nat} {done : Bool} :
    (s.applyEntries skip es todo i done).1.MemoryOk := by
  induction todo generalizing s i done with
  | nil => exact h
  | cons e rest ih =>
    unfold State.applyEntries
    split
    · exact ih h
    · split
      · split
        · exact ih h
        · dsimp only
          split
          · exact ih (.applyChecked h)
          · exact .applyChecked h
      · dsimp only
        split
        · exact ih (.applyEntry h)
        · exact .applyEntry h

theorem State.MemoryOk.noteSet (h : s.MemoryOk) {es : List SetEntry} {requester : Nat} : (s.noteSet es requester).MemoryOk := .update h

theorem State.MemoryOk.awaitCopy (h : s.MemoryOk) {m : Nat} : (s.awaitCopy m).MemoryOk := .update h

theorem ResOk.set (h : s.MemoryOk) {m : BitVec 4} : ResOk (execSet m s) := by
  unfold execSet
  split
  · exact .next h
  · next r _ =>
    extract_lets n rights
    refine .ite (.next h) (.ite (.next (.answer h)) ?_)
    split
    · exact .next (.answer h)
    · next es _ =>
      extract_lets p
      split
      · exact .next (.answer h)
      · have happ : (s.applyEntries (s.setBefore r.requester) es es 0 false).1.MemoryOk := .applyEntries h
        split
        · next t0 i st d e =>
          rw [e] at happ
          extract_lets t kept u
          have ht : t.MemoryOk := .noteSet happ
          exact .next (.answer (.ite (.update ht) ht))
        · next t0 e =>
          rw [e] at happ
          extract_lets t u
          have ht : t.MemoryOk := .noteSet happ
          exact .ite (.next (.dispatch (.awaitCopy ht))) (.next (.ok (.ite (.update ht) ht)))

/-! ### Boot -/

theorem State.MemoryOk.logBoot (h : s.MemoryOk) {reached : DevState} : (s.logBoot reached).MemoryOk := .log h

theorem State.MemoryOk.bootFail (h : s.MemoryOk) {src data : Nat} : (s.bootFail src data).MemoryOk := .logBoot (.raise h)

theorem State.MemoryOk.clkLossRecord (h : s.MemoryOk) : s.clkLossRecord.MemoryOk := .ite (.update (.formRecord (.update h))) h

theorem State.MemoryOk.bootPower (h : s.MemoryOk) : s.bootPower.MemoryOk := .update h

theorem State.MemoryOk.logHead (h : s.MemoryOk) : s.logHead.MemoryOk := .setPv (.setPv (.setPv h))

theorem State.MemoryOk.bootWatchdog (h : s.MemoryOk) {fmt : Nat} : (s.bootWatchdog fmt).MemoryOk := .update h

theorem State.MemoryOk.restoreBlocks (h : s.MemoryOk) : s.restoreBlocks.MemoryOk :=
  .withFeram h (wf_copyBlocks _ _ _ h.feram)

theorem State.MemoryOk.bootRevert (h : s.MemoryOk) {reason : Nat} : (s.bootRevert reason).MemoryOk :=
  .raise (.updReverted (.update (.restoreBlocks h)))

theorem State.MemoryOk.bootJournal (h : s.MemoryOk) : s.bootJournal.MemoryOk := by
  unfold State.bootJournal
  extract_lets
  split
  · exact (.update h)
  · exact .updDiscard (.update h)
  · exact .updDiscard (.update h)
  · exact .bootRevert (.update h)
  · exact .bootRevert (.update h)
  · exact .writeShim (.update (.update h))
  · exact .ite (.writeShim (.update (.update h))) (.bootRevert (.update h))

theorem State.MemoryOk.bootJournalRing (h : s.MemoryOk) {checkpointOk : Bool} {badRows : List Nat} :
    (s.bootJournalRing checkpointOk badRows).MemoryOk := by
  unfold State.bootJournalRing
  extract_lets _ _ _ _ x3
  have hx3 : x3.MemoryOk := by
    simp only [x3]
    split
    · exact .setPv (.setPv (.update h))
    · exact .raise (.log (.setPv (.withFeram h (wf_clearRetentive h.feram))))
  exact .foldl (fun _ _ hk => .raise (.log (.withFeram hk (wf_zeroRow _ hk.feram)))) hx3

theorem State.MemoryOk.takeSettings (h : s.MemoryOk) : s.takeSettings.MemoryOk := by
  unfold State.takeSettings
  refine .foldl (fun _ _ hk => ?_) (.update (.ite (.update h) (.update (.setPv (.update h)))))
  split
  · exact .setCtx hk
  · exact hk

theorem State.MemoryOk.bootSettings (h : s.MemoryOk) {fmt : Nat} {migrates : Bool} : (s.bootSettings fmt migrates).1.MemoryOk := by
  unfold State.bootSettings
  extract_lets t plain count
  have ht : t.MemoryOk := .setPv h
  have hplain : plain.MemoryOk := .update ht
  have hcount : ∀ u : State, u.MemoryOk → (count u).MemoryOk := fun u hu => .update (.bump hu)
  clear_value t plain count
  split
  · dsimp only
    exact .raise (.log (.takeSettings (hcount _ (.setPv (.update hplain)))))
  · split
    · split
      · dsimp only
        exact .log (.takeSettings (hcount _ (.loadCopy ht)))
      · dsimp only
        exact .ite (.updRevert (.takeSettings (.update (.bump hplain)))) (.takeSettings (.update (.bump hplain)))
    · dsimp only
      exact .takeSettings (hcount _ (.loadCopy ht))

theorem State.MemoryOk.bootDomains (h : s.MemoryOk) : s.bootDomains.MemoryOk := .update h

theorem State.MemoryOk.initStore (h : s.MemoryOk) {p : Program} : (s.initStore p).MemoryOk := .foldl (fun _ _ hk => .writeRow hk) h

theorem State.MemoryOk.bootProgram (h : s.MemoryOk) {v : Verdict} {cleared : Bool} {t : State}
    (ht : s.bootProgram v cleared = some t) : t.MemoryOk := by
  unfold State.bootProgram at ht
  split at ht
  · split at ht
    · exact nomatch ht
    · extract_lets s1 _ u force r at ht
      have hs1 : s1.MemoryOk := .ite (.initStore h) h
      have hu : u.MemoryOk := by
        refine .foldl (fun _ _ hk => ?_) (.fillBank (.withSram hs1 (wf_writePts _ _ hs1.sram)))
        split
        · exact .setCtx hk
        · exact hk
      split at ht
      · exact Option.some.inj ht ▸ .applySched hu
      · exact Option.some.inj ht ▸ .setPv hu
  · exact Option.some.inj ht ▸ .ite (.update h) h

theorem State.MemoryOk.bootNet (h : s.MemoryOk) {v : Verdict} {t : State} (ht : s.bootNet v = some t) : t.MemoryOk := by
  unfold State.bootNet at ht
  split at ht
  · extract_lets at_ bs at ht
    split at ht
    · split at ht <;> cases ht
      exact .takeNet h
    · cases ht
  · cases ht
    exact .ite (.update h) h

theorem State.MemoryOk.bootRole (h : s.MemoryOk) : s.bootRole.MemoryOk := .update h

theorem State.MemoryOk.bootBays (h : s.MemoryOk) {answers : List Bool} : (s.bootBays answers).MemoryOk :=
  .foldl (fun _ _ hk => .ite (.linkStart (.setEngBay hk)) hk) h

theorem State.MemoryOk.bootRelease (h : s.MemoryOk) : s.bootRelease.MemoryOk := .ite h (.update h)

theorem State.MemoryOk.bootReach (h : s.MemoryOk) {dest : DevState} : (s.bootReach dest).MemoryOk := .logBoot (.enter h)

theorem State.MemoryOk.bootLeave (h : s.MemoryOk) {aclk lost : Bool} : (s.bootLeave aclk lost).MemoryOk := by
  unfold State.bootLeave
  extract_lets _ _ u
  have hu : u.MemoryOk := .bootReach (.bootRelease (.ite (.update h) (.raise h)))
  exact .ite (.ite (.update hu) (.enterRun hu)) hu

theorem State.MemoryOk.initEnds (h : s.MemoryOk) : s.initEnds.MemoryOk := .mirror (.logBoot (.bootRole (.bootDomains h)))

theorem State.MemoryOk.initLoad (h : s.MemoryOk) {i : BootInput} {cleared lost : Bool} : (s.initLoad i cleared lost).MemoryOk := by
  unfold State.initLoad
  extract_lets t
  have ht : t.MemoryOk := .bootRole (.bootDomains h)
  split
  · exact .bootFail ht
  · next hu =>
    split
    · exact .bootFail (.bootNet ht hu)
    · next hv =>
      extract_lets w
      have hw : w.MemoryOk := .bootBays (.bootDomains (.bootProgram (.bootNet ht hu) hv))
      exact .ite (.initEnds hw) (.bootLeave hw)

theorem State.MemoryOk.bootInit (h : s.MemoryOk) {i : BootInput} : (s.bootInit i).MemoryOk := by
  unfold State.bootInit
  extract_lets a b
  have ha : a.MemoryOk := .logHead (.bootJournalRing h)
  have hb : b.MemoryOk := .startHoldup ha
  exact .ite (.initEnds ha) (.ite (.initEnds (.bootSettings hb)) (.initLoad (.bootSettings hb)))

theorem State.MemoryOk.bootImage (h : s.MemoryOk) {i : BootInput} : (s.bootImage i).MemoryOk :=
  .withSram h (Memory.wf_copyRegion _ _ _ _ _ h.sram)

theorem State.MemoryOk.bootLoader (h : s.MemoryOk) {i : BootInput} : (s.bootLoader i).MemoryOk := by
  unfold State.bootLoader
  extract_lets t u
  have ht : t.MemoryOk := .bootJournal h
  have hu : u.MemoryOk := .bootReach ht
  exact .ite (.ite hu (.raise hu)) (.ite (.bootFail ht) (.bootInit (.enter (.update (.bootImage ht)))))

theorem ResOk.bootStart {i : BootInput} (h : s.MemoryOk) : ResOk (execBootStart i s) := by
  unfold execBootStart
  refine .ite ?_ (.next h)
  extract_lets a
  have ha : a.MemoryOk := .clkLossRecord (.bootPower h)
  split
  next d b e =>
    extract_lets c _ e1
    have hc : c.MemoryOk := .setPv (.setPv (.ofSnd (.draw ha) e))
    have he1 : e1.MemoryOk := .bootWatchdog (.update hc)
    exact .ite (.next (.mirror (.bootFail hc))) (.ite (.next (.mirror (.bootFail hc)))
      (.ite (.next (.mirror (.bootFail he1))) (.next (.mirror (.dispatch (.bootLoader he1))))))

/-! ### CoreCtl -/

theorem ResOk.jump (h : s.MemoryOk) {c : Nat} {target : CodeIx} {take : Bool → Bool} : ResOk (s.jump c target take) := .coreDo h

theorem ResOk.ret {c : Nat} (h : s.MemoryOk) : ResOk (execRet c s) := by
  unfold execRet
  split
  · exact .next h
  · split
    · exact .next (.setCtx h)
    · exact .next (.completeShot h)

theorem ResOk.junction {c : Nat} {countLess1 : BitVec 10} {first : W16} (h : s.MemoryOk) :
    ResOk (execJunction c countLess1 first s) := by
  unfold execJunction
  split
  · exact .next h
  · exact .ite (.next (.dispatch (.update (.setCtx h)))) (.next h)

theorem ResOk.urgent {c : Nat} {bay : Bool} {ch : BitVec 4} (h : s.MemoryOk) : ResOk (execUrgent c bay ch s) := by
  unfold execUrgent
  split
  · exact .next h
  · exact .ite (.next (.update (.setCtx h))) (.next h)

/-! ### CoreReal -/

theorem ResOk.fcmpOp (h : s.MemoryOk) {k : Cond} {c : Nat} {w : FWidth} {d : BitVec 3} {src : Src} : ResOk (s.fcmpOp k c w d src) :=
  .coreDo h

/-! ### Net -/

theorem State.MemoryOk.sendOut (h : s.MemoryOk) {g : SegCfg} {d : NodeCfg} {c : Ns} {fresh : Bool} {key : Nat} :
    (s.sendOut g d c fresh key).MemoryOk :=
  .update (.setSeg (.setNode h))

theorem State.MemoryOk.sendSafe (h : s.MemoryOk) {g : SegCfg} {c : Ns} {key : Nat} : (s.sendSafe g c key).MemoryOk := by
  unfold State.sendSafe
  extract_lets _ _ _ _ u
  have hu : u.MemoryOk := .update (.setSeg h)
  exact .ite h (.ite (.update hu) hu)

theorem ResOk.segmentCycle {sg : Nat} (h : s.MemoryOk) : ResOk (execSegmentCycle sg s) := by
  unfold execSegmentCycle
  split
  · exact .next h
  · split
    · exact .next h
    · exact .ite (.next (.bump (.sendSafe (.foldl (fun _ _ hk => .sendOut hk) (.update (.setSeg
      (.foldl (fun _ _ hk => .missIn hk) h))))))) (.next h)

theorem State.MemoryOk.countLate (h : s.MemoryOk) {sg : Nat} : (s.countLate sg).MemoryOk := .bump (.bump (.bump h))

theorem State.MemoryOk.takeIn (h : s.MemoryOk) {d : NodeCfg} {a2 : SrxHdr} {pl : List Byte} : (s.takeIn d a2 pl).MemoryOk := by
  unfold State.takeIn
  extract_lets _ _ _ u v
  have hu : u.MemoryOk := .ite (.nodeTo (.setNode h)) (.setNode h)
  have hv : v.MemoryOk := .ite (.countLate hu) hu
  exact .ite (.tokenLost (.setNode h)) (.ite (.setNode h) (.ite (.liveWrite hv) hv))

theorem ResOk.srxIn (h : s.MemoryOk) {sg : Nat} {f : SrxFrame} : ResOk (execSrxIn sg f s) := by
  unfold execSrxIn
  extract_lets hdr pl
  split
  · exact .next (.authFail h)
  · next g _ =>
    refine .ite (.next h) (.ite (.next (.authFail h)) ?_)
    split
    · exact .next (.authFail h)
    · next d _ =>
      extract_lets y
      obtain ⟨hsome, hsnd⟩ := h.recover (d := d) (ring := g.port == 3) (rtag := f.rtag)
      split
      · next e => exact .next (by rw [e] at hsnd; exact hsnd)
      · next t1 _ e =>
        have ht1 : t1.MemoryOk := hsome t1 (by rw [e])
        exact .ite (.next (.netFail ht1)) (.ite (.next ht1) (.ite (.next (.authFail ht1)) (.next (.takeIn ht1))))

theorem ResOk.inMissed {sg node : Nat} (h : s.MemoryOk) : ResOk (execInMissed sg node s) := by
  unfold execInMissed
  split
  · exact .whenOk h (.missIn h)
  · exact .next h

theorem ResOk.sequenceRecoveryReset {node : Nat} (h : s.MemoryOk) : ResOk (execSequenceRecoveryReset node s) := by
  unfold execSequenceRecoveryReset
  split
  · exact .next h
  · exact .whenOk h (.setNode h)

theorem ResOk.arsp (h : s.MemoryOk) {f : SrxFrame} : ResOk (execArsp f s) := by
  unfold execArsp
  extract_lets hdr pl
  refine .ite (.next h) (.ite (.next (.authFail h)) ?_)
  split
  · exact .next (.authFail h)
  · next d _ =>
    split
    · exact .next (.authFail h)
    · next g _ =>
      refine .ite (.next (.authFail h)) ?_
      obtain ⟨hsome, hsnd⟩ := h.recover (d := d) (ring := g.port == 3) (rtag := f.rtag)
      split
      · next e => exact .next (by rw [e] at hsnd; exact hsnd)
      · next s1 _ e =>
        have hs1 : s1.MemoryOk := hsome s1 (by rw [e])
        dsimp only
        split
        · exact .next (.exchangeDone (.ite (.tokenLost (.setNode hs1)) (.setNode hs1)))
        · exact .next (.netFail hs1)

theorem ResOk.acyclicTimeout {id : Nat} (h : s.MemoryOk) : ResOk (execAcyclicTimeout id s) := by
  unfold execAcyclicTimeout
  split
  · exact .next h
  · refine .ite ?_ (.next h)
    split
    · exact .next (.exchangeDone h)
    · split
      · exact .ite (.next (.update (.setNode h))) (.next (.exchangeDone h))
      · exact .next (.exchangeDone h)

/-! ### NetNode -/

theorem ResOk.srxOut {x : Nat} {f : SrxFrame} (h : s.MemoryOk) : ResOk (execSrxOut x f s) := by
  unfold execSrxOut
  refine .ite (.next h) ?_
  refine .ite (.next (.netFail h)) ?_
  split
  · exact .next (.netFail h)
  · exact .ite (.next (.sendIn (.setSlave h))) (.next (.sendIn (.slaveOutputs (.setSlave h))))

theorem ResOk.srxClaim {x : Nat} {f : SrxFrame} (h : s.MemoryOk) : ResOk (execSrxClaim x f s) := by
  unfold execSrxClaim
  refine .ite (.next h) ?_
  refine .ite (.next (.netFail h)) ?_
  split
  · exact .next (.netFail h)
  · exact .next (.setSlave h)

theorem ResOk.srxSafe {x : Nat} {f : SrxFrame} (h : s.MemoryOk) : ResOk (execSrxSafe x f s) := by
  unfold execSrxSafe
  refine .ite (.next h) ?_
  refine .ite (.next (.netFail h)) ?_
  split
  · exact .next (.netFail h)
  · exact .next (.setSlave h)

theorem ResOk.areq {x : Nat} {f : SrxFrame} {unwrapped : Option Nat} (h : s.MemoryOk) : ResOk (execAreq x f unwrapped s) := by
  unfold execAreq
  refine .ite (.next h) ?_
  extract_lets hdr pl k data id
  split
  · exact .next (.netFail h)
  · refine .ite (.next (.netFail h)) ?_
    split
    · exact .next (.netFail h)
    · extract_lets stored
      split
      · exact .next (.sendArsp (.setSlave h))
      · split
        next free t e =>
          extract_lets plain st d u resp k3
          have hu : u.MemoryOk := by
            simp only [u, plain]
            split
            · exact h
            split
            · exact h
            split
            · split
              · exact h
              · exact h
            split
            · exact h
            · exact .ofSnd (.draw h) e
          exact .next (.sendArsp (.setSlave hu))

/-! ### Tick -/

theorem State.MemoryOk.startCommit (h : s.MemoryOk) : s.startCommit.MemoryOk := by
  unfold State.startCommit
  split
  · exact .ite (.update h) h
  · exact h

theorem State.MemoryOk.closeWindows (h : s.MemoryOk) : s.closeWindows.MemoryOk := by
  unfold State.closeWindows
  extract_lets _ _ t
  have ht : t.MemoryOk := .ite h (.update (.worst h))
  exact .ite ht (.update (.ite (.setPv ht) ht))

theorem State.MemoryOk.measureCycle (h : s.MemoryOk) : s.measureCycle.MemoryOk :=
  .update (.ite (.bump (.draw (.closeWindows h))) (.draw (.closeWindows h)))

theorem State.MemoryOk.fclk (h : s.MemoryOk) : s.fclk.MemoryOk := .ite (.followDue (.startCommit (.measureCycle (.update h)))) (.update h)

end Sys2Proof.Machine
end

section
/-!
PROOF. Canonical memories: the step, and O5.
-/

namespace Sys2Proof.Machine

variable {s : State}

/-- Whatever command runs in a state whose memories are canonical, the next state's memories are canonical. -/
theorem ResOk.exec (h : s.MemoryOk) (i : Instr) : ResOk (exec i s) := by
  unfold Machine.exec
  cases i with
  | mov => exact .intOp h
  | movStore => exact .coreDo h
  | add => exact .intOp h
  | sub => exact .intOp h
  | mul => exact .intOp h
  | div => exact .intOp h
  | mod => exact .mod h
  | andWord => exact .intOp h
  | orWord => exact .intOp h
  | xorWord => exact .intOp h
  | shl => exact .intOp h
  | shr => exact .intOp h
  | rol => exact .intOp h
  | ror => exact .intOp h
  | lea => exact .coreDo h
  | cmpEq => exact .cmpOp h
  | cmpNe => exact .cmpOp h
  | cmpLt => exact .cmpOp h
  | cmpLe => exact .cmpOp h
  | cmpGt => exact .cmpOp h
  | cmpGe => exact .cmpOp h
  | itof => exact .coreDo h
  | ftoi => exact .coreDo h
  | fcvt => exact .coreDo h
  | btoi => exact .bcdOp h
  | itob => exact .bcdOp h
  | crd => exact .coreDo h
  | fmov => exact .realOp h
  | fmovStore => exact .coreDo h
  | fadd => exact .realOp h
  | fsub => exact .realOp h
  | fmul => exact .realOp h
  | fdiv => exact .realOp h
  | fsqrt => exact .realOp h
  | fabs => exact .realOp h
  | fneg => exact .realOp h
  | fcmpEq => exact .fcmpOp h
  | fcmpNe => exact .fcmpOp h
  | fcmpLt => exact .fcmpOp h
  | fcmpLe => exact .fcmpOp h
  | fcmpGt => exact .fcmpOp h
  | fcmpGe => exact .fcmpOp h
  | bmov => exact .coreDo h
  | firstWriteCopyDone => exact .firstWriteCopyDone h
  | jmp => exact .jump h
  | jc => exact .jump h
  | jnc => exact .jump h
  | call => exact .coreDo h
  | ret => exact .ret h
  | junction => exact .junction h
  | diag => exact .coreDo h
  | urgent => exact .urgent h
  | networkStart => exact .networkStart h
  | trussCompletion => exact .trussCompletion h
  | release => exact .release h
  | dataPinComplete => exact .dataPinComplete h
  | peg => exact .peg h
  | shotAbandoned => exact .shotAbandoned h
  | commitDurable => exact .commitDurable h
  | emit => exact .emit h
  | serverWindow => exact .ite (.next (.dispatch (.ite (.raise (.update h)) (.update h)))) (.next h)
  | serverBudgetExhausted => exact .ite (.next (.dispatch (.bump (.update h)))) (.next h)
  | editStep => exact .editStep h
  | programActivation => exact .programActivation h
  | checkpointStart => exact .ite (.next (.update h)) (.next h)
  | nvmRowWriteDone => exact .nvmRowWriteDone h
  | logRecordWrite => exact .logRecordWrite h
  | logHeaderWrite => exact .logHeaderWrite h
  | settingsCopyWrite => exact .ite (.next (.update h)) (.next h)
  | settingsCopyDurable => exact .settingsCopyDurable h
  | bootStart => exact .bootStart h
  | powerOnReset => exact .ite (.next (.update h)) (.next h)
  | brownOut => exact .ite (.next (.powerOff h)) (.next h)
  | powerFailWarning => exact .ite (.ite (.next (.update h)) (.next (.powerWarning (.update h)))) (.next h)
  | powerFailCommitDone => exact .ite (.next (.withSram (.ite (.logWrite h) h) rfl)) (.next h)
  | pfiRecovered => exact .ite (.next (.chipReset (.update h))) (.next h)
  | vinRowInhibit => exact .ite (.next (.update h)) (.next h)
  | nresetAssert => exact .ite (.next h) (.ite (.next (.update h)) (.next (.update (.chipReset h))))
  | nresetRelease => exact .ite (.next (.update h)) (.next h)
  | holdupMeasureStart => exact .whenOk h (.startHoldup h)
  | holdupMeasureEnd => exact .holdupMeasureEnd h
  | clkLoss => exact .clkLoss h
  | clkResetRelease => exact .whenOk h (.update h)
  | aclkLoss => exact .ite (.next (.raise (.update h))) (.next h)
  | syncInEdge => exact .syncInEdge h
  | syncOutRise => exact .whenOk h (.update h)
  | syncOutFall => exact .whenOk h (.update h)
  | disciplineMeasure => exact .ite (.next (.autoRun (.measure (.updateSource h)))) (.next h)
  | gptpSync => exact .gptpSync h
  | gptpPdelay => exact .ite (.next (.update h)) (.next h)
  | aliveToggle => exact .ite (.next (.update h)) (.next h)
  | hbeatAdvance => exact .whenOk h (.update h)
  | firmwareHeartbeat => exact .ite (.next (.ite (.condOver (.update h)) (.update h))) (.next h)
  | heartbeatLoss => exact .ite (.next (.raise h)) (.next h)
  | wdgKey1 => exact .whenOk h (.update h)
  | wdgService => exact .wdgService h
  | wdgKeyError => exact .ite (.next (.expire h)) (.next h)
  | wdgKey1Timeout => exact .wdgKey1Timeout h
  | wdgExpiry => exact .ite (.next (.expire h)) (.next h)
  | coreRestartComplete => exact .coreRestartComplete h
  | wdgCfgWrite => exact .whenOk h (.update h)
  | wdgStatClear => exact .whenOk h (.update h)
  | wdgCleanRun => exact .whenOk h (.update h)
  | faultRaise => exact .ite (.next h) (.next (.raise h))
  | faultChipReset => exact .faultChipReset h
  | lockoutEntry => exact .ite (.next (.update (.enterLockout (.ite (.log h) h)))) (.next h)
  | graceExpiry => exact .graceExpiry h
  | nfaultHoldEnd => exact .whenOk h (.update h)
  | collectorSelfFault => exact .collectorSelfFault h
  | tmrMismatch => exact .tmrMismatch h
  | coreScrubDone => exact .coreScrubDone h
  | coreJoin => exact .coreJoin h
  | resyncTimeout => exact .resyncTimeout h
  | tmrCmpPendingClear => exact .whenOk h (.update h)
  | modeChange => exact .modeChange h
  | freeCoreReturn => exact .freeCoreReturn h
  | interruptEntry => exact .ite (.next (.update h)) (.ite (.next (.update (.bump h))) (.next h))
  | rdreg => exact .rdreg h
  | wrreg => exact .wrreg h
  | rdmbx => exact .rdmbx h
  | wrmbx => exact .wrmbx h
  | quadon => exact .onHost h (fun _ hf => .ite (.hstatSet hf) (.update hf))
  | quadoff => exact .onHost h (fun _ hf => .ite (.update hf) (.hstatSet hf))
  | dbSet => exact .onHost h (fun _ hf => .hostWrite hf)
  | mbxClaim => exact .onHost h (fun _ hf => .hostWrite hf)
  | mbxClaimResolve => exact .onHost h fun _ ht => .resolveClaim ht
  | mbxRelease => exact .onHost h (fun _ hf => .hostWrite hf)
  | mbxReleaseKeep => exact .onHost h (fun _ hf => .hostWrite hf)
  | hprst => exact .onHost h fun _ ht => .hprst ht
  | hstatClear => exact .onHost h (fun _ hf => .hostWrite hf)
  | irqStatClear => exact .onHost h (fun _ hf => .hostWrite hf)
  | stimeLRead => exact .onHost h fun t ht => State.MemoryOk.hostData (s := (t.hostRead 0x10).2) (.hostRead ht)
  | networkRequestMailbox => exact .ite (.next (.placeNet (.update h))) (.next h)
  | mailboxTake => exact .mailboxTake h
  | mailboxDone => exact .mailboxDone h
  | sequenceWaitTimeout => exact .sequenceWaitTimeout h
  | sessionIdleTimeout => exact .ite (.next (.mirror (.endSession h))) (.next h)
  | tlsHandshake => exact .ite (.ite (.ite (.next (.update h)) (.next h)) (.next (.bump h))) (.next h)
  | tlsKeyUpdate => exact .ite (.next (.update h)) (.next h)
  | tlsConnectionClose => exact .ite (.next (.mirror (.closeConn h))) (.next h)
  | cup => exact .cup h
  | ident => exact .ident h
  | openLeg1 => exact .openLeg1 h
  | openLeg2 => exact .openLeg2 h
  | openTimeout => exact .openTimeout h
  | close => exact .close h
  | get => exact .get h
  | set => exact .set h
  | getblk => exact .getblk h
  | stateStop => exact .stateStop h
  | stateRun => exact .stateRun h
  | stateHalt => exact .stateHalt h
  | testEnter => exact .testEnter h
  | testLeave => exact .testLeave h
  | stateRestart => exact .stateRestart h
  | imgrd => exact .imgrd h
  | force => exact .force h
  | prgBegin => exact .prgBegin h
  | prgData => exact .prgData h
  | prgCommit => exact .prgCommit h
  | editBegin => exact .editBegin h
  | editApply => exact .editApply h
  | stagingTimeout => exact .whenOk h (.releaseLock h)
  | loadedTimeout => exact .whenOk h (.releaseLock h)
  | logrd => exact .logrd h
  | updBegin => exact .updBegin h
  | updData => exact .updData h
  | updVerified => exact .updVerified h
  | updDataTimeout => exact .ite (.next (.mirror (.updDiscard h))) (.next h)
  | updActivate => exact .updActivate h
  | updStatus => exact .updStatus h
  | updActivationDone => exact .updActivationDone h
  | handover => exact .ite (.next (.mirror (.dispatch (.update (.swapFwBank h))))) (.next h)
  | handoverComplete => exact .handoverComplete h
  | handoverNogap => exact .ite (.next (.mirror (.updRevert h))) (.next h)
  | trialConfirm => exact .trialConfirm h
  | confirmTimeout => exact .ite (.next (.mirror (.updRevert h))) (.next h)
  | revertDone => exact .revertDone h
  | challenge => exact .challenge h
  | challengeExpiry => exact .next (.update h)
  | claim => exact .claim h
  | transfer => exact .transfer h
  | ownRelease => exact .ownRelease h
  | install => exact .install h
  | lock => exact .lock h
  | unlock => exact .unlock h
  | unlockExpiry => exact .unlockExpiry h
  | debug => exact .debug h
  | debugEnd => exact .debugEnd h
  | debugExpiry => exact .whenOk h (.update h)
  | attest => exact .attest h
  | stbyStatus => exact .stbyStatus h
  | stbyJoin => exact .stbyJoin h
  | stbySwitch => exact .stbySwitch h
  | stbyLeave => exact .stbyLeave h
  | fltAck => exact .fltAck h
  | tamperTrip => exact .ite (.next (.update (.raise (.bump (.setPv (.update h)))))) (.next h)
  | tamperZeroise => exact .tamperZeroise h
  | scarfLinkUp => exact .scarfLinkUp h
  | scarfLaneLockLoss => exact .next (.update h)
  | scarfLinkLost => exact .ite (.next (.mirror (.partnerGone (.raise (.update h))))) (.next h)
  | scarfHeartbeatSend => exact .ite (.ite (.next (.scarfSend h)) (.next (.scarfSend h))) (.next h)
  | scarfHeartbeat => exact .onFrame h (fun _ hf => .ite (.mirror (.standbyStops (.scarfSend (.update hf)))) (.mirror (.update hf)))
  | hello => exact .hello h
  | deltaPage => exact .onDelta h (fun _ hf => .ite (.sendNak hf) (.notePool (.update hf)))
  | deltaMask => exact .onDelta h (fun _ hf => .update hf)
  | deltaEnd => exact .onDelta h (fun _ hf => .ite (.sendNak hf) (.ite (.sendNak hf) (.mirror (.update (.scarfSend hf)))))
  | deltaApply => exact .deltaApply h
  | ack => exact .onFrame h (fun _ hf => .ite (.mirror (.finishDrain (.worst (.setPv (.update hf))))) hf)
  | nak => exact .onFrame h (fun _ hf => .ite (.ackGivenUp (.raiseEvent (.bump hf))) hf)
  | ackDeadline => exact .ite (.next (.ackGivenUp (.raiseEvent (.bump h)))) (.next h)
  | dropFrame => exact .onFrame h (fun _ hf => .ite (.setCtx hf) hf)
  | copyPage => exact .onFrame h (fun _ hf => .ite (.update (.withSram hf (Memory.wf_writeL _ _ _ hf.sram))) hf)
  | copyCells => exact .onFrame h (fun _ hf => .ite (.update hf) hf)
  | copyEnd => exact .onFrame h (fun _ hf => .ite (.update hf) (.ite hf hf))
  | ctrlState => exact .onFrame h (fun _ hf => .ite (.followDue (.update hf)) hf)
  | ctrlForce => exact .onFrame h (fun _ hf => .ite (.update hf) hf)
  | resync => exact .onFrame h (fun _ hf => .ite (.mirror (.withdraw (.withSram hf (Memory.wf_restrict _ _ hf.sram)))) hf)
  | editOffer => exact .editOffer h
  | editVerdict => exact .editVerdict h
  | updOffer => exact .updOffer h
  | updVerdict => exact .updVerdict h
  | switch => exact .onFrame h (fun _ hf => .ite (.update hf) hf)
  | switchInstant => exact .switchInstant h
  | switchDone => exact .onFrame h (fun _ hf => .update hf)
  | leave => exact .onFrame h (fun _ hf => .mirror (.ite (.partnerGone hf) (.pairRefused (.partnerGone hf))))
  | bayCycleStart => exact .ite (.next (.setEngBay h)) (.next h)
  | cycleStartMessage => exact .cycleStartMessage h
  | commandFrame => exact .commandFrame h
  | applyNext => exact .whenOk h (.putBay h (.applyDue (.bay h)))
  | bayLatch => exact .bayLatch h
  | sampleFrame => exact .sampleFrame h
  | streamFrame => exact .streamFrame h
  | bayIdent => exact .next (.sendMgmt h)
  | cfgWrite => exact .next (.sendMgmt h)
  | cfgCommit => exact .next (.sendMgmt h)
  | cfgRead => exact .next (.sendMgmt h)
  | diagRead => exact .next (.sendMgmt h)
  | protClear => exact .protClear h
  | trimWrite => exact .trimWrite h
  | mgmtResponse => exact .mgmtResponse h
  | mgmtTimeout => exact .mgmtTimeout h
  | diagPoll => exact .diagPoll h
  | aliveStatusWord => exact .aliveStatusWord h
  | bayLost => exact .ite (.next (.formBayflt (.raise (.setEngBay h)))) (.next h)
  | baySilent => exact .ite (.next (.bumpBay (.putBay h (.update (.bay h))))) (.next h)
  | laneSilent => exact .ite (.next (.putBay h (.setChan (.bay h)))) (.next h)
  | bayClockLoss => exact .ite (.next (.putBay h (.modStop (.modStop (.update (.noteValid (.bay h))))))) (.next h)
  | bayClockReturn => exact .bayClockReturn h
  | lpWarning => exact .ite (.next (.putBay (.supply h) (.update (.bay (.supply h))))) (.next h)
  | lpUndervolt => exact .ite (.next (.supply h)) (.next h)
  | lpQualified => exact .lpQualified h
  | channelRestore => exact .ite (.next (.putBay h (.setChan (.bay h)))) (.next h)
  | bayReset => exact .bayReset h
  | bayConfigLoaded => exact .bayConfigLoaded h
  | limpAssert => exact .whenOk h (.putBay h (.update (.bay h)))
  | limpRelease => exact .whenOk h (.putBay h (.update (.bay h)))
  | debounceChange => exact .debounceChange h
  | wireBreakDeclare => exact .ite (.next (.bumpChan (.putBay h (.setChan (.noteValid (.bay h)))))) (.next h)
  | wireBreakClear => exact .ite (.next (.putBay h (.wireClear (.setChan (.bay h))))) (.next h)
  | counterEdge => exact .counterEdge h
  | quadEdge => exact .quadEdge h
  | hardLimit => exact .hardLimit h
  | ocTrip => exact .ocTrip h
  | inrushWindowEnd => exact .inrushWindowEnd h
  | retryDue => exact .retryDue h
  | retryRestore => exact .ite (.next (.putBay h (.setChan (.bay h)))) (.next h)
  | thermalTrip => exact .thermalTrip h
  | clampOver => exact .clampOver h
  | clampPulseEnd => exact .clampPulseEnd h
  | clampDecay => exact .ite (.next (.putBay h (.update (.foldl (fun _ _ hk => .setChan hk) (.bay h))))) (.next h)
  | openloadSet => exact .openloadSet h
  | openloadClear => exact .openloadClear h
  | extHighSet => exact .extHighSet h
  | extHighClear => exact .extHighClear h
  | sincOutput => exact .sincOutput h
  | conversionEnd => exact .conversionEnd h
  | resultDelivery => exact .resultDelivery h
  | thresholdEvent => exact .thresholdEvent h
  | leadVisitEnd => exact .leadVisitEnd h
  | testVisitEnd => exact .testVisitEnd h
  | shuntTrip => exact .ite (.next (.bumpChan (.putBay h (.setChan (.bay h))))) (.next h)
  | shuntReclose => exact .whenOk h (.putBay h (.setChan (.bay h)))
  | shuntOffClear => exact .whenOk h (.putBay h (.setChan (.bay h)))
  | currentOpenWire => exact .ite (.next (.openWire (.setBay h (.setChan (.bay h))))) (.next h)
  | tapStepUp => exact .tapStepUp h
  | tapStepDown => exact .tapStepDown h
  | tapForced => exact .tapForced h
  | tapForcedClear => exact .whenOk h (.putBay h (.setChan (.bay h)))
  | limiterStep => exact .limiterStep h
  | complianceOnset => exact .ite (.next (.bumpChan (.putBay h (.setChan (.bay h))))) (.next h)
  | complianceClear => exact .whenOk h (.putBay h (.setChan (.bay h)))
  | alarmForcedLow => exact .alarmForcedLow h
  | openloopSet => exact .ite (.next (.bumpChan (.putBay h (.setChan (.bay h))))) (.next h)
  | openloopClear => exact .whenOk h (.putBay h (.setChan (.bay h)))
  | segmentCycle => exact .segmentCycle h
  | srxIn => exact .srxIn h
  | inMissed => exact .inMissed h
  | srxOut => exact .srxOut h
  | srxClaim => exact .srxClaim h
  | srxSafe => exact .srxSafe h
  | nodeSilent => exact .whenOk h (.setSlave h)
  | areq => exact .areq h
  | arsp => exact .arsp h
  | acyclicTimeout => exact .acyclicTimeout h
  | nodeStartupRetry => exact .whenOk h (.startupSend h)
  | rekey => exact .ite (.next (.update h)) (.next h)
  | portLinkChange => exact .ite (.next (.ite (.raise (.update h)) (.ite (.netOver (.update h)) (.update h)))) (.next h)
  | runWaitExpiry => exact .ite (.next (.enterRun h)) (.next h)
  | aclkStart => exact .next (.ite (.condOver (.update h)) (.update h))
  | dieTempClear => exact .next (.ite (.condOver h) h)
  | syncInEdgeMissed => exact .syncInEdgeMissed h
  | hostPortUnknownCode => exact .ite (.next h) (.onHost h (fun _ hf => .hstatSet hf))
  | sequenceRecoveryReset => exact .sequenceRecoveryReset h
  | selCodeChange => exact .whenOk h (.putBay h (.update (.bay h)))
  | gptpSyncTransmit => exact .ite (.ite (.next (.update h)) (.ite (.next (.autoRun (.update h))) (.next h))) (.next h)

theorem ResOk.step (h : s.MemoryOk) : ResOk (step s) := by
  unfold Sys2Proof.Machine.step
  split
  · exact .next (.fclk h)
  · exact .exec (.update h) _

/-- Settles O5: no operation of the model writes a memory but through `Memory.write`, `Memory.restrict` and what is built of them,
each of which keeps the canonical form. -/
theorem everyStepKeepsMemoriesCanonical : Obligations.EveryStepKeepsMemoriesCanonical := fun _ _ h e => ResOk.step h _ e

end Sys2Proof.Machine
end

section
/-!
PROOF. STATE (R27, R28, R78, R79, R344): what a transition, a drain and an entry into RUN leave as they were, and O40.
-/

namespace Sys2Proof.Machine

variable {s₀ s : State}

/-! ### Requests, the execution mode and the contexts through a transition -/

/-- `t` holds the requests of every mailbox, the execution mode and the contexts of `s`. -/
structure State.Calm (s t : State) : Prop where
  req : ∀ k, (t.mailbox k).req = (s.mailbox k).req
  mode : t.tmr.mode = s.tmr.mode
  ctxs : t.ctxs = s.ctxs

theorem State.Calm.refl (s : State) : s.Calm s := ⟨fun _ => rfl, rfl, rfl⟩

theorem State.Calm.trans {t u : State} (h : s.Calm t) (k : t.Calm u) : s.Calm u :=
  ⟨fun m => (k.req m).trans (h.req m), k.mode.trans h.mode, k.ctxs.trans h.ctxs⟩

/-- A change of other parts. -/
theorem State.Calm.update (h : s₀.Calm s) {pending freeCtr dev clk pwr sram feram params bootParams blocks img sched prog flt wdg nvm
    upd sec stby net eng bays} :
    s₀.Calm { pending := pending, freeCtr := freeCtr, dev := dev, clk := clk, pwr := pwr, sram := sram, feram := feram,
              params := params, bootParams := bootParams, blocks := blocks, ctxs := s.ctxs, img := img, sched := sched,
              prog := prog, flt := flt, wdg := wdg, tmr := s.tmr, hp := s.hp, nvm := nvm, upd := upd, sec := sec, stby := stby,
              net := net, eng := eng, bays := bays } := ⟨h.req, h.mode, h.ctxs⟩

theorem State.Calm.withTmr (h : s₀.Calm s) {tmr : Tmr} (m : tmr.mode = s.tmr.mode) {pending freeCtr dev clk pwr sram feram params
    bootParams blocks img sched prog flt wdg nvm upd sec stby net eng bays} :
    s₀.Calm { pending := pending, freeCtr := freeCtr, dev := dev, clk := clk, pwr := pwr, sram := sram, feram := feram,
              params := params, bootParams := bootParams, blocks := blocks, ctxs := s.ctxs, img := img, sched := sched,
              prog := prog, flt := flt, wdg := wdg, tmr := tmr, hp := s.hp, nvm := nvm, upd := upd, sec := sec, stby := stby,
              net := net, eng := eng, bays := bays } := ⟨h.req, m.trans h.mode, h.ctxs⟩

theorem State.Calm.mirror (h : s₀.Calm s) : s₀.Calm s.mirror := ⟨h.req, h.mode, h.ctxs⟩

theorem State.Calm.ite {p : Prop} [Decidable p] {t : State} (hs : s₀.Calm s) (ht : s₀.Calm t) : s₀.Calm (if p then s else t) := by
  split
  · exact hs
  · exact ht

/-- A response leaves every request in its mailbox. -/
theorem State.answer_req (s : State) (m completion status detail : Nat) (data : List Byte) (k : Nat) :
    ((s.answer m completion status detail data).mailbox k).req = (s.mailbox k).req := by
  by_cases hk : k = m
  · subst hk
    unfold State.answer
    extract_lets x
    split
    · rfl
    · extract_lets resp t i y e
      split
      · simp [t, x, State.mailbox, State.setMailbox]
      · split <;> simp [t, x, State.mailbox, State.setMailbox, State.setSession]
  · rw [State.answer_other _ _ _ _ hk]

theorem State.Calm.answer (h : s₀.Calm s) {m completion status detail : Nat} {data : List Byte} :
    s₀.Calm (s.answer m completion status detail data) := by
  obtain ⟨x, y, e⟩ := s.answer_shape m completion status detail data
  exact h.trans ⟨s.answer_req m completion status detail data, by rw [e], by rw [e]⟩

theorem State.Calm.log (h : s₀.Calm s) {type : Nat} {bytes : List Byte} : s₀.Calm (s.log type bytes) := by
  obtain ⟨p, f, q, o, e⟩ := s.log_shape type bytes
  rw [e]
  exact .update h

theorem State.Calm.bump (h : s₀.Calm s) {pid w : Nat} : s₀.Calm (s.bump pid w) := by
  obtain ⟨p, f, e⟩ := s.bump_shape pid w
  rw [e]
  exact .update h

theorem State.Calm.scarfSend (h : s₀.Calm s) {fs : List ScarfOut} : s₀.Calm (s.scarfSend fs) := by
  obtain ⟨a, b, c, e⟩ := s.scarfSend_shape fs
  rw [e]
  exact .update h

theorem State.Calm.updDiscard (h : s₀.Calm s) {reason status : Nat} : s₀.Calm (s.updDiscard reason status) :=
  .update (.log h)

theorem State.Calm.writeRow (h : s₀.Calm s) {addr : Nat} {bs : List Byte} : s₀.Calm (s.writeRow addr bs) := .update h

theorem State.Calm.writeShim (h : s₀.Calm s) : s₀.Calm s.writeShim := .update (.writeRow h)

theorem State.Calm.updReverted (h : s₀.Calm s) : s₀.Calm s.updReverted := by
  unfold State.updReverted
  extract_lets t u
  have ht : s₀.Calm t := by
    simp only [t]
    split
    · exact .ite (.answer h) (.ite (.answer h) (.answer h))
    · exact h
  have hu : s₀.Calm u := .bump (.log ht)
  exact .writeShim (.update hu)

theorem State.Calm.updPartnerGone (h : s₀.Calm s) : s₀.Calm s.updPartnerGone :=
  .ite (.updReverted (.update h)) h

theorem State.Calm.updRevert (h : s₀.Calm s) {reason : Nat} : s₀.Calm (s.updRevert reason) := .writeShim (.update h)

theorem State.Calm.abandonUpdate (h : s₀.Calm s) : s₀.Calm s.abandonUpdate := by
  unfold State.abandonUpdate
  split
  · exact .updDiscard h
  · exact .updDiscard h
  · exact .updRevert h
  · exact .updRevert h
  · exact h

theorem State.Calm.verdictLost (h : s₀.Calm s) : s₀.Calm s.verdictLost := by
  unfold State.verdictLost
  split
  · exact .update (.answer h)
  · exact h

theorem State.Calm.abandonEdit (h : s₀.Calm s) {cause : Nat} : s₀.Calm (s.abandonEdit cause) := by
  obtain ⟨p, f, n, g, e⟩ := s.abandonEdit_shape cause
  rw [e]
  exact .update h

theorem State.Calm.editOnTransition (h : s₀.Calm s) {dest : DevState} : s₀.Calm (s.editOnTransition dest) := by
  obtain ⟨p, f, n, g, e⟩ := s.editOnTransition_shape dest
  rw [e]
  exact .update h

theorem State.Calm.leavePair (h : s₀.Calm s) {tell : Bool} : s₀.Calm (s.leavePair tell) :=
  .ite (.update (.updPartnerGone (.verdictLost (.abandonEdit (.log (.ite (.scarfSend h) h)))))) h

theorem State.Calm.overtake (h : s₀.Calm s) {dest : DevState} : s₀.Calm (s.overtake dest) := by
  unfold State.overtake
  extract_lets t u v
  have ht : s₀.Calm t := by
    simp only [t]
    split
    · exact .ite h (.answer h)
    · exact h
  have hu : s₀.Calm u := by
    simp only [u]
    split
    · exact .ite ht (.answer ht)
    · exact ht
  have hv : s₀.Calm v := by
    simp only [v]
    split
    · exact .ite hu (.log hu)
    · exact hu
  exact .update hv

/-- The state after what a transition out of RUN does at once. -/
def State.departed (s : State) : State := if s.dev.state == .run then s.leaveRun else s

/-- Leaving RUN apart, a transition keeps the requests, the execution mode and the contexts. -/
theorem State.enter_calm (s : State) (dest : DevState) (requester : Nat) (imm : Bool) :
    s.departed.Calm (s.enter dest requester imm) := by
  unfold State.enter
  extract_lets from_ s1 s2 s3 s4 s4' s5 clean cmp
  have h1 : s.departed.Calm s1 := by
    simp only [s1, from_, State.departed]
    split
    · exact .refl _
    · exact .ite (.update (.refl s)) (.refl s)
  have h2 : s.departed.Calm s2 := .editOnTransition h1
  have h3 : s.departed.Calm s3 := .ite (.abandonUpdate h2) h2
  have h4 : s.departed.Calm s4 := .ite (.ite (.scarfSend h3) h3) (.leavePair h3)
  have h5 : s.departed.Calm s5 := .log (.overtake h4)
  clear_value s5
  refine .mirror (h5.withTmr ?_)
  rfl

theorem State.leaveRun_shape (s : State) : ∃ x k e g, s.leaveRun =
    { s with ctxs := x, sched := { s.sched with cores := k }, eng := e, img := g } := by
  obtain ⟨x, h⟩ := s.dropAll_shape .state
  unfold State.leaveRun State.stopReleases
  simp only [h]
  exact ⟨_, _, _, _, rfl⟩

theorem State.enter_req (s : State) (dest : DevState) (requester : Nat) (imm : Bool) (k : Nat) :
    ((s.enter dest requester imm).mailbox k).req = (s.mailbox k).req := by
  obtain ⟨x, c, e, g, h⟩ := s.leaveRun_shape
  rw [(s.enter_calm dest requester imm).req k, State.departed]
  split
  · rw [h]; rfl
  · rfl

theorem State.enter_mode (s : State) (dest : DevState) (requester : Nat) (imm : Bool) :
    (s.enter dest requester imm).tmr.mode = s.tmr.mode := by
  obtain ⟨x, c, e, g, h⟩ := s.leaveRun_shape
  rw [(s.enter_calm dest requester imm).mode, State.departed]
  split
  · rw [h]
  · rfl

/-- A transition takes the instant at which it happens. -/
theorem State.enter_sinceTime (s : State) (dest : DevState) (requester : Nat) (imm : Bool) :
    (s.enter dest requester imm).dev.sinceTime = s.now := by
  have h : (s.enter dest requester imm).dev.sinceTime = (s.enter dest requester imm).now := rfl
  rw [h, State.now, (s.enter_steady dest requester imm).clk, State.now]

/-! ### Releases that have stopped -/

/-- No context releases. -/
def State.Still (s : State) : Prop := ∀ c, (s.ctx c).releasing = false

theorem State.Still.of_ctxs {t : State} (h : s.Still) (e : t.ctxs = s.ctxs) : t.Still := fun c => by
  rw [State.ctx, e]
  exact h c

theorem State.Still.ite {p : Prop} [Decidable p] {t : State} (hs : s.Still) (ht : t.Still) : (if p then s else t).Still := by
  split
  · exact hs
  · exact ht

theorem State.stopReleases_still (s : State) : s.stopReleases.Still := by
  intro c
  unfold State.stopReleases State.ctx
  dsimp only
  generalize s.ctxs = l
  induction l with
  | nil => rfl
  | cons e r ih =>
    rw [List.map_cons, tget]
    split
    · rfl
    · exact ih

theorem State.leaveRun_still (s : State) : s.leaveRun.Still := by
  unfold State.leaveRun
  extract_lets t clearOut clearBay gone
  have ht : t.Still := State.stopReleases_still _
  clear_value t
  exact ht.of_ctxs rfl

/-- RUN is left with the releases stopped (R79). -/
theorem State.enter_still {dest : DevState} {requester : Nat} {imm : Bool} (h : s.dev.state = .run) :
    (s.enter dest requester imm).Still := by
  refine s.leaveRun_still.of_ctxs ?_
  rw [(s.enter_calm dest requester imm).ctxs, State.departed, h]
  rfl

theorem State.Still.setPhase (h : s.Still) {c : Nat} {p : ShotPhase} : (s.setPhase c p).Still := by
  unfold State.setPhase
  extract_lets x
  split
  · exact h
  · intro k
    rw [State.ctx, State.setCtx_ctxs, tget_tset]
    split
    · exact h c
    · exact h k

theorem State.Still.dispatch (h : s.Still) : s.dispatch.Still := by
  unfold State.dispatch
  extract_lets next s1 s2
  clear_value next
  have h1 : s1.Still := by
    simp only [s1]
    split
    · refine .ite h ?_
      obtain ⟨p, f, e⟩ := (s.setPhase _ .preempted).bump_shape 0x707 64
      exact .of_ctxs (.setPhase h) (by rw [e])
    · exact h
  have h2 : s2.Still := by
    simp only [s2]
    split
    · exact .ite h1 (.setPhase h1)
    · exact h1
  exact .ite h (h2.of_ctxs rfl)

/-! ### The answer to a STATE request -/

theorem State.answer_steady (s : State) (m completion status detail : Nat) (data : List Byte) :
    s.Steady (s.answer m completion status detail data) := by
  obtain ⟨x, y, h⟩ := s.answer_shape m completion status detail data
  rw [h]
  exact .same rfl rfl rfl rfl rfl rfl rfl rfl

theorem State.dispatch_steady (s : State) : s.Steady s.dispatch := by
  obtain ⟨x, p, f, k, h⟩ := s.dispatch_shape
  rw [h]
  exact .same rfl rfl rfl rfl rfl rfl rfl rfl

theorem State.finishSwitch_steady (s : State) : s.Steady s.finishSwitch :=
  .ite ((s.scarfSend_steady _).trans (.same rfl rfl rfl rfl rfl rfl rfl rfl)) (.refl s)

/-- A refused request changes nothing but its mailbox and its session. -/
theorem State.refuse_refused {m : Nat} {q : Request} (h : (s.mailbox m).req = some q) (status detail : Nat) :
    s.refuse m status detail = { s with hp := (s.refuse m status detail).hp } ∧
      (s.refuse m status detail).Answered m 9 status detail [] := by
  obtain ⟨x, y, e⟩ := s.refuse_shape m status detail
  exact ⟨by rw [e], State.answer_answered 9 status detail [] h⟩

/-- A request that a mailbox executes stands in it. -/
theorem State.request_req {m op : Nat} {r : Request} (h : s.request m op = some r) : (s.mailbox m).req = some r := by
  unfold State.request at h
  extract_lets x at h
  split at h
  · split at h
    · next q hq =>
      split at h <;> cases h
      exact hq
    · cases h
  · cases h

theorem State.stateRequest_req {m : Nat} {p : Nat × Bool} (h : s.stateRequest m = some p) : ∃ r, (s.mailbox m).req = some r := by
  unfold State.stateRequest at h
  split at h
  · cases h
  · split at h
    · next r hr => exact ⟨r, State.request_req hr⟩
    · cases h

/-- What STATE answers once the destination is entered at the present instant. -/
def State.enteredData (s : State) (d : DevState) (now : Ns) : List Byte :=
  leBytes 1 (devCode d) ++ leBytes 1 (subCode s.subNow) ++ leBytes 2 0 ++ leBytes 8 now

theorem State.answerDrain_shape (s : State) :
    ∃ x y a, s.answerDrain = { s with hp := { s.hp with mbx := x, sessions := y }, dev := { s.dev with drainMbx := a } } := by
  unfold State.answerDrain
  split
  · extract_lets _ u
    obtain ⟨x, y, h⟩ := u.ok_shape _ u.stateData
    exact ⟨x, y, none, h⟩
  · exact ⟨s.hp.mbx, s.hp.sessions, s.dev.drainMbx, rfl⟩

theorem State.answerDrain_steady (s : State) : s.Steady s.answerDrain := by
  obtain ⟨x, y, a, h⟩ := s.answerDrain_shape
  rw [h]
  exact .same rfl rfl rfl rfl rfl rfl rfl rfl

theorem State.answerDrain_req (s : State) (k : Nat) : (s.answerDrain.mailbox k).req = (s.mailbox k).req := by
  unfold State.answerDrain
  split
  · exact State.answer_req _ _ _ _ _ _ k
  · rfl

/-- A transition at once (R79): the state is entered and the request answered with it. -/
theorem State.enterNow_entered {m : Nat} {q : Request} (h : (s.mailbox m).req = some q) (d : DevState) (imm : Bool) :
    s.Steady (s.enterNow d imm m).mirror ∧ (s.enterNow d imm m).mirror.dev.state = d ∧
      (s.enterNow d imm m).mirror.dev.sinceTime = s.now ∧
      (s.enterNow d imm m).mirror.Answered m 0 0 0 ((s.enterNow d imm m).mirror.enteredData d s.now) := by
  unfold State.enterNow
  extract_lets t u
  have hreq : (u.mailbox m).req = some q := by rw [State.answerDrain_req, State.enter_req, h]
  obtain ⟨x, y, a, hu⟩ := t.answerDrain_shape
  have hst : s.Steady u := (s.enter_steady d _ imm).trans t.answerDrain_steady
  have hdev : u.dev.state = d ∧ u.dev.sinceTime = s.now := by
    simp only [u, hu]
    exact ⟨rfl, s.enter_sinceTime d _ imm⟩
  clear_value u
  obtain ⟨x', y', hok⟩ := u.ok_shape m u.stateData
  obtain ⟨z, p, f, k, hdisp⟩ := (u.ok m u.stateData).dispatch_shape
  have hdata : u.stateData = (u.ok m u.stateData).dispatch.mirror.enteredData d s.now := by
    rw [hdisp, hok, State.stateData, hdev.1, hdev.2]
    rfl
  refine ⟨.mirror ((hst.trans (u.answer_steady m 0 0 0 _)).trans (State.dispatch_steady _)), ?_, ?_, ?_⟩
  · rw [hdisp, hok]; exact hdev.1
  · rw [hdisp, hok]; exact hdev.2
  · rw [← hdata, hdisp]
    exact State.answer_answered 0 0 0 u.stateData hreq

/-! ### A drain (R79) -/

/-- Either the drain to `d` that mailbox `m` asked for is on its way, or `d` is entered. -/
def State.Drains (t : State) (d : DevState) (m : Nat) : Prop :=
  (t.dev.state = .run ∧ t.dev.drain = some d ∧ t.dev.drainMbx = some m) ∨ t.dev.state = d

theorem State.finishSwitch_shape (s : State) : ∃ b, s.finishSwitch = { s with stby := b } := by
  unfold State.finishSwitch
  split
  · extract_lets t
    obtain ⟨a, b, c, h⟩ := s.scarfSend_shape [ctrlFrame 9 []]
    exact ⟨_, by rw [show t = _ from h]⟩
  · exact ⟨s.stby, rfl⟩

/-- A drain that is not over waits; one that is over enters its state and answers its request. -/
theorem State.finishDrain_cases (s : State) : s.finishDrain = s.finishSwitch ∨
    ∃ d who, s.dev.drain = some d ∧ s.finishDrain = (s.finishSwitch.enter d who false).answerDrain := by
  obtain ⟨b, hb⟩ := s.finishSwitch_shape
  unfold State.finishDrain
  extract_lets u
  have hdev : u.dev = s.dev := by simp only [u, hb]
  split
  · exact .inl rfl
  · next d hd =>
    split
    · exact .inl rfl
    · exact .inr ⟨d, _, by rw [← hdev]; exact hd, rfl⟩

theorem State.finishDrain_drains {d : DevState} {m : Nat} (hrun : s.dev.state = .run) (hdrain : s.dev.drain = some d)
    (hmbx : s.dev.drainMbx = some m) (hstill : s.Still) :
    s.Steady s.finishDrain ∧ s.finishDrain.Still ∧ s.finishDrain.Drains d m := by
  obtain ⟨b, hb⟩ := s.finishSwitch_shape
  have hdev : s.finishSwitch.dev = s.dev := by rw [hb]
  rcases s.finishDrain_cases with h | ⟨d', who, hd', h⟩
  · rw [h]
    refine ⟨s.finishSwitch_steady, hstill.of_ctxs (by rw [hb]), .inl ?_⟩
    rw [hdev]
    exact ⟨hrun, hdrain, hmbx⟩
  · obtain rfl : d = d' := Option.some.inj (hdrain.symm.trans hd')
    obtain ⟨x, y, a, ha⟩ := (s.finishSwitch.enter d who false).answerDrain_shape
    have hstill' : (s.finishSwitch.enter d who false).Still := State.enter_still (by rw [hdev, hrun])
    rw [h]
    refine ⟨(s.finishSwitch_steady.trans (State.enter_steady _ _ _ _)).trans (State.answerDrain_steady _),
      hstill'.of_ctxs (by rw [ha]), .inr ?_⟩
    rw [ha]
    exact (s.finishSwitch.enter_state d who false).1

theorem State.startDrain_drains {d : DevState} {m : Nat} (hrun : s.dev.state = .run) :
    s.Steady (s.startDrain d m).mirror ∧ (s.startDrain d m).mirror.Still ∧ (s.startDrain d m).mirror.Drains d m := by
  unfold State.startDrain
  extract_lets _ t
  obtain ⟨hst, hstill, hdr⟩ := State.finishDrain_drains (s := t.stopReleases) (d := d) (m := m) hrun rfl rfl t.stopReleases_still
  have ht : s.Steady t.stopReleases := .same rfl rfl rfl rfl rfl rfl rfl rfl
  obtain ⟨x, p, f, k, h⟩ := t.stopReleases.finishDrain.dispatch_shape
  refine ⟨.mirror ((ht.trans hst).trans (State.dispatch_steady _)), .of_ctxs (.dispatch hstill) rfl, ?_⟩
  rw [h]
  exact hdr

theorem State.overtaken_shape (s : State) (m : Nat) (asked taken : DevState) :
    ∃ x y p f q o, s.overtaken m asked taken =
      { s with hp := { s.hp with mbx := x, sessions := y }, params := p, freeCtr := f,
               nvm := { s.nvm with logQueue := q, overflow := o } } := by
  obtain ⟨p, f, q, o, h⟩ := s.log_shape 3 (leBytes 1 (devCode asked) ++ leBytes 1 (devCode taken))
  obtain ⟨x, y, h'⟩ := State.abort_shape (s.log 3 (leBytes 1 (devCode asked) ++ leBytes 1 (devCode taken))) m
  exact ⟨x, y, p, f, q, o, by rw [State.overtaken, h', h]⟩

/-! ### An entry into RUN (R78, R466) -/

theorem State.stepDue_shape (s : State) : ∃ k p f, s.stepDue = { s with clk := k, params := p, freeCtr := f } := by
  unfold State.stepDue
  split
  · obtain ⟨p, f, h⟩ := State.bump_shape { s with clk := { s.clk.step s.clk.owed with owed := 0 } } 0x746 32
    exact ⟨_, p, f, h⟩
  · exact ⟨s.clk, s.params, s.freeCtr, rfl⟩

/-- STIME steps at no entry but one from STOP with a source (R466). -/
theorem State.stepDue_same (h : s.dev.state = .halt ∨ s.clk.source = 0) : s.stepDue = s := by
  unfold State.stepDue
  rcases h with h | h <;> simp [h]

/-- `t` has the queue, the device state, the clock, the memories and the redundancy state of `s`. -/
structure State.Anchored (s t : State) : Prop where
  pending : t.pending = s.pending
  dev : t.dev = s.dev
  clk : t.clk = s.clk
  sram : t.sram = s.sram
  feram : t.feram = s.feram
  tmr : t.tmr = s.tmr

theorem State.Anchored.refl (s : State) : s.Anchored s := ⟨rfl, rfl, rfl, rfl, rfl, rfl⟩

theorem State.Anchored.trans {t u : State} (h : s.Anchored t) (k : t.Anchored u) : s.Anchored u :=
  ⟨k.pending.trans h.pending, k.dev.trans h.dev, k.clk.trans h.clk, k.sram.trans h.sram, k.feram.trans h.feram, k.tmr.trans h.tmr⟩

theorem State.Anchored.update (h : s₀.Anchored s) {freeCtr pwr params bootParams blocks ctxs img sched prog flt wdg hp nvm upd sec stby
    net eng bays} :
    s₀.Anchored { pending := s.pending, freeCtr := freeCtr, dev := s.dev, clk := s.clk, pwr := pwr, sram := s.sram, feram := s.feram,
                  params := params, bootParams := bootParams, blocks := blocks, ctxs := ctxs, img := img, sched := sched,
                  prog := prog, flt := flt, wdg := wdg, tmr := s.tmr, hp := hp, nvm := nvm, upd := upd, sec := sec, stby := stby,
                  net := net, eng := eng, bays := bays } := h.trans ⟨rfl, rfl, rfl, rfl, rfl, rfl⟩

theorem State.Anchored.ite {p : Prop} [Decidable p] {t : State} (hs : s₀.Anchored s) (ht : s₀.Anchored t) :
    s₀.Anchored (if p then s else t) := by
  split
  · exact hs
  · exact ht

theorem State.Anchored.foldl {α : Type} {f : State → α → State} (hf : ∀ s a, s₀.Anchored s → s₀.Anchored (f s a))
    (h : s₀.Anchored s) {l : List α} : s₀.Anchored (l.foldl f s) := by
  induction l generalizing s with
  | nil => exact h
  | cons a r ih => exact ih (hf s a h)

theorem State.Anchored.dropCapOver (h : s₀.Anchored s) : s₀.Anchored s.dropCapOver := .ite h (.update h)

theorem State.Anchored.clearRunCounts (h : s₀.Anchored s) : s₀.Anchored s.clearRunCounts := .dropCapOver (.update h)

theorem State.Anchored.placeReleases (h : s₀.Anchored s) {from_ : Ns} : s₀.Anchored (s.placeReleases from_) :=
  .foldl (fun _ _ hk => .update hk) h

theorem State.Anchored.armFromHalt (h : s₀.Anchored s) {at_ : Ns} : s₀.Anchored (s.armFromHalt at_) := by
  unfold State.armFromHalt
  split
  · exact h
  · exact .update h

theorem State.Anchored.claimToken (h : s₀.Anchored s) : s₀.Anchored s.claimToken :=
  .ite (.update (.foldl (fun _ _ hk => .update hk) (.update (.update h)))) (.update (.update h))

/-- The image initialised on an entry from STOP. -/
def State.runImage (s : State) : State := if s.dev.state == .halt then s else s.initImage

/-- After the transition, an entry into RUN touches counters, releases, the armed edit and the token only. -/
theorem State.enterRun_anchored (s : State) (who : Nat) : (s.stepDue.runImage.enter .run who false).Anchored (s.enterRun who) := by
  unfold State.enterRun
  extract_lets s' t u v
  have hv : (t.enter .run who false).Anchored v := .armFromHalt (.placeReleases (.clearRunCounts (.refl _)))
  exact .ite (.claimToken hv) hv

/-- What an entry into RUN leaves as it was, and the state it reaches. -/
structure State.RunEntered (s t : State) : Prop where
  sram : s.dev.state = .halt → t.sram = s.sram
  feram : ∀ a, shimAddr a = false → t.feram.read a = s.feram.read a
  pending : t.pending = s.pending
  state : t.dev.state = .run
  since : t.dev.sinceTime = t.now
  mode : t.tmr.mode = s.tmr.mode
  now : s.dev.state = .halt ∨ s.clk.source = 0 → t.now = s.now

theorem State.runImage_shape (s : State) : ∃ m i, s.runImage = { s with sram := m, img := i } := by
  unfold State.runImage
  split
  · exact ⟨s.sram, s.img, rfl⟩
  · exact ⟨_, _, rfl⟩

theorem State.enterRun_entered (s : State) (who : Nat) : s.RunEntered (s.enterRun who) := by
  have hanch := s.enterRun_anchored who
  obtain ⟨c, p, f, hstep⟩ := s.stepDue_shape
  obtain ⟨m, i, himg⟩ := s.stepDue.runImage_shape
  have hfrom : s.stepDue.runImage = { s with clk := c, params := p, freeCtr := f, sram := m, img := i } := by rw [himg, hstep]
  have hst := s.stepDue.runImage.enter_steady .run who false
  have hnow : (s.enterRun who).now = s.stepDue.runImage.now := by rw [State.now, hanch.clk, hst.clk, State.now]
  constructor
  case sram =>
    intro hh
    have hr : s.stepDue.runImage = s := by rw [State.stepDue_same (.inl hh), State.runImage, hh]; rfl
    rw [hanch.sram, hst.sram, hr]
  case feram =>
    intro a ha
    rw [hanch.feram, hst.feram a ha, hfrom]
  case pending => rw [hanch.pending, hst.pending, hfrom]
  case state => rw [hanch.dev, (State.enter_state _ .run who false).1]
  case since => rw [hanch.dev, State.enter_sinceTime, hnow]
  case mode => rw [hanch.tmr, State.enter_mode, hfrom]
  case now =>
    intro hh
    have hc : s.stepDue.runImage.now = s.stepDue.now := by rw [himg]; rfl
    rw [hnow, hc, State.stepDue_same hh]

theorem Tmr.setMode_triple_ne_split (t : Tmr) : (t.setMode .triple).mode ≠ .split := by
  unfold Tmr.setMode
  dsimp only
  split
  · exact (nomatch ·)
  · exact (nomatch ·)

/-! ### Requests for STOP and HALT (R28, R79) -/

/-- Nothing but the state rows of the shim journal changes in the memories, and the queue stays. -/
def State.MemoriesKept (s t : State) : Prop :=
  t.sram = s.sram ∧ (∀ a, shimAddr a = false → t.feram.read a = s.feram.read a) ∧ t.pending = s.pending

theorem State.Steady.memoriesKept {t : State} (h : s.Steady t) : s.MemoriesKept t := ⟨h.sram, h.feram, h.pending⟩

theorem stateStop_gives {m : BitVec 4} {imm : Bool} (h : s.stateRequest m.toNat = some (2, imm)) :
    Gives (.stateStop m) s (s.stateDown .stop imm m.toNat).mirror := by
  show execStateStop m s = _
  simp only [execStateStop, h]

theorem stateHalt_gives {m : BitVec 4} {imm : Bool} (h : s.stateRequest m.toNat = some (4, imm)) :
    Gives (.stateHalt m) s (s.stateDown .halt imm m.toNat).mirror := by
  show execStateHalt m s = _
  simp only [execStateHalt, h]

theorem State.stateDown_stop_now (h : s.dev.state = .run) (m : Nat) : s.stateDown .stop true m = s.enterNow .stop true m := by
  unfold State.stateDown
  rw [h]
  rcases s.dev.drain with _ | d
  · rfl
  · cases d <;> rfl

theorem State.stateDown_stop_of_halt (h : s.dev.state = .halt) (imm : Bool) (m : Nat) :
    s.stateDown .stop imm m = s.enterNow .stop imm m := by
  unfold State.stateDown
  rw [h]
  rfl

/-- A request for HALT on its way is overtaken by an orderly one for STOP; the drain goes on (R28). -/
theorem State.stateDown_stop_drains (h : s.dev.state = .run) (hd : s.dev.drain ≠ some .stop) (m : Nat) :
    ∃ t, s.stateDown .stop false m = t.startDrain .stop m ∧ t.dev.state = .run ∧ s.Steady t := by
  unfold State.stateDown
  rw [h]
  rcases hdr : s.dev.drain with _ | d
  · exact ⟨s, rfl, h, .refl s⟩
  · cases d
    case stop => exact absurd hdr hd
    case halt =>
      refine ⟨_, rfl, ?_⟩
      split
      · next k _ =>
        obtain ⟨x, y, p, f, q, o, e⟩ := s.overtaken_shape k .halt .stop
        rw [e]
        exact ⟨h, .same rfl rfl rfl rfl rfl rfl rfl rfl⟩
      · refine ⟨?_, s.log_steady _ _⟩
        obtain ⟨p, f, q, o, e⟩ := s.log_shape 3 (leBytes 1 5 ++ leBytes 1 3)
        rw [e]
        exact h
    all_goals exact ⟨s, rfl, h, .refl s⟩

theorem State.stateDown_stop_again (h : s.dev.state = .run) (hd : s.dev.drain = some .stop) (m : Nat) :
    s.stateDown .stop false m = s.refuse m 1 0 := by
  unfold State.stateDown
  rw [h, hd]
  rfl

theorem State.stateDown_elsewhere (dest : DevState) (h : s.dev.state ≠ .run) (hh : s.dev.state ≠ .halt ∨ dest = .halt) (imm : Bool)
    (m : Nat) :
    s.stateDown dest imm m = s.refuse m 1 0 := by
  unfold State.stateDown
  cases hs : s.dev.state
  case run => exact absurd hs h
  case halt =>
    obtain rfl : dest = .halt := hh.resolve_left (absurd hs)
    rfl
  all_goals rfl

theorem State.stateDown_halt_now (h : s.dev.state = .run) (hd : s.dev.drain ≠ some .stop) (m : Nat) :
    s.stateDown .halt true m = s.enterNow .halt true m := by
  unfold State.stateDown
  rw [h]
  rcases hdr : s.dev.drain with _ | d
  · rfl
  · cases d
    case stop => exact absurd hdr hd
    all_goals rfl

theorem State.stateDown_halt_drains (h : s.dev.state = .run) (hd : s.dev.drain = none) (m : Nat) :
    s.stateDown .halt false m = s.startDrain .halt m := by
  unfold State.stateDown
  rw [h, hd]
  rfl

theorem State.stateDown_halt_again (h : s.dev.state = .run) (hd : s.dev.drain = some .halt) (m : Nat) :
    s.stateDown .halt false m = s.refuse m 1 0 := by
  unfold State.stateDown
  rw [h, hd]
  rfl

theorem State.stateDown_halt_overtaken (h : s.dev.state = .run) (hd : s.dev.drain = some .stop) (imm : Bool) (m : Nat) :
    s.stateDown .halt imm m = s.overtaken m .halt .stop := by
  unfold State.stateDown
  rw [h, hd]
  rfl

/-! ### What a request comes to -/

/-- Command `c` enters state `d` at the present instant and answers mailbox `m` with it. -/
def EntersAt (s : State) (m : Nat) (c : Instr) (d : DevState) : Prop :=
  Does c s (fun t => s.MemoriesKept t ∧ t.dev.state = d ∧ t.dev.sinceTime = s.now ∧ t.Answered m 0 0 0 (t.enteredData d s.now))

/-- Command `c` is refused in mailbox `m`. -/
def RefusedWith (s : State) (m : Nat) (c : Instr) (status : Nat) : Prop :=
  Does c s (fun t => t = { s with hp := t.hp } ∧ t.Answered m 9 status 0 [])

/-- Command `c` stops the releases and drains to `d`. -/
def StartsDrain (s : State) (m : Nat) (c : Instr) (d : DevState) : Prop :=
  Does c s (fun t => s.MemoriesKept t ∧ t.Still ∧ t.Drains d m)

theorem entersAt_of_enterNow {m : Nat} {c : Instr} {d : DevState} {imm : Bool} (hreq : ∃ r, (s.mailbox m).req = some r)
    (h : Gives c s (s.enterNow d imm m).mirror) : EntersAt s m c d := by
  obtain ⟨r, hr⟩ := hreq
  obtain ⟨hst, hrest⟩ := State.enterNow_entered hr d imm
  exact ⟨_, h, hst.memoriesKept, hrest⟩

theorem refusedWith_of_refuse {m status : Nat} {c : Instr} (hreq : ∃ r, (s.mailbox m).req = some r)
    (h : Gives c s (s.refuse m status 0)) : RefusedWith s m c status := by
  obtain ⟨r, hr⟩ := hreq
  exact ⟨_, h, State.refuse_refused hr status 0⟩

theorem refusedWith_of_refuse_mirror {m status : Nat} {c : Instr} (hreq : ∃ r, (s.mailbox m).req = some r)
    (h : Gives c s (s.refuse m status 0).mirror) : RefusedWith s m c status := by
  obtain ⟨r, hr⟩ := hreq
  obtain ⟨hp, ha⟩ := State.refuse_refused hr status 0
  exact ⟨_, h, by rw [hp]; rfl, ha⟩

theorem startsDrain_of_startDrain {m : Nat} {c : Instr} {d : DevState} {t : State} (hst : s.Steady t) (hrun : t.dev.state = .run)
    (h : Gives c s (t.startDrain d m).mirror) : StartsDrain s m c d := by
  obtain ⟨ht, hrest⟩ := State.startDrain_drains (d := d) (m := m) hrun
  exact ⟨_, h, (hst.trans ht).memoriesKept, hrest⟩

/-! ### STATE with target RUN (R78, R364) -/

/-- The voted complex restored where cores are split (R364). -/
def State.voted (s : State) : State :=
  if s.tmr.mode == ExecMode.split then State.rejoin { s with tmr := s.tmr.setMode .triple } else s

theorem State.voted_shape (s : State) :
    ∃ k p f, s.voted = { s with tmr := k, params := p, freeCtr := f } ∧ (s.tmr.mode = .split → k.mode ≠ .split) := by
  unfold State.voted
  split
  · obtain ⟨p, f, h⟩ := State.rejoin_shape { s with tmr := s.tmr.setMode .triple }
    exact ⟨_, p, f, h, fun _ => s.tmr.setMode_triple_ne_split⟩
  · next h => exact ⟨s.tmr, s.params, s.freeCtr, rfl, fun hs => absurd hs (by simpa using h)⟩

theorem stateRun_gives {m : BitVec 4} {imm : Bool} (h : s.stateRequest m.toNat = some (3, imm))
    (hs : s.dev.state = .stop ∨ s.dev.state = .halt) (hr : s.runNotReady = false) (hd : s.sec.debug = 0) :
    ∃ u, u = s.voted.enterRun (s.mailbox m.toNat).owner ∧
      Gives (.stateRun m) s { u with dev := { u.dev with runMbx := some m.toNat } }.dispatch.mirror := by
  refine ⟨_, rfl, ?_⟩
  show execStateRun m s = _
  rcases hs with hs | hs <;> simp [execStateRun, h, hs, hr, hd, State.voted]

theorem stateRun_enters {m : BitVec 4} {imm : Bool} (h : s.stateRequest m.toNat = some (3, imm))
    (hs : s.dev.state = .stop ∨ s.dev.state = .halt) (hr : s.runNotReady = false) (hd : s.sec.debug = 0) :
    Does (.stateRun m) s (fun t => (s.dev.state = .halt → s.MemoriesKept t) ∧
      (∀ a, shimAddr a = false → t.feram.read a = s.feram.read a) ∧ t.pending = s.pending ∧
      t.dev.state = .run ∧ t.dev.runMbx = some m.toNat ∧ t.dev.sinceTime = t.now ∧ (s.tmr.mode = .split → t.tmr.mode ≠ .split) ∧
      ((s.dev.state = .halt ∨ s.clk.source = 0) → t.now = s.now)) := by
  obtain ⟨k, p, f, hv, hk⟩ := s.voted_shape
  obtain ⟨u, hu, hg⟩ := stateRun_gives h hs hr hd
  have hrun : s.voted.RunEntered u := hu ▸ s.voted.enterRun_entered _
  rw [hv] at hrun
  obtain ⟨x, p', f', c, hd⟩ := State.dispatch_shape { u with dev := { u.dev with runMbx := some m.toNat } }
  rw [hd] at hg
  exact ⟨_, hg, fun hh => ⟨hrun.sram hh, hrun.feram, hrun.pending⟩, hrun.feram, hrun.pending, hrun.state, rfl, hrun.since,
    fun hm => hrun.mode ▸ hk hm, hrun.now⟩

theorem stateRun_notReady {m : BitVec 4} {imm : Bool} (h : s.stateRequest m.toNat = some (3, imm))
    (hs : s.dev.state = .stop ∨ s.dev.state = .halt) (hr : s.runNotReady = true ∨ s.sec.debug ≠ 0) :
    Gives (.stateRun m) s (s.refuse m.toNat 2 0) := by
  show execStateRun m s = _
  have hb : (s.runNotReady || s.sec.debug != 0) = true := by simpa using hr
  rcases hs with hs | hs <;> simp only [execStateRun, h, hs, hb, if_true]

theorem stateRun_elsewhere {m : BitVec 4} {imm : Bool} (h : s.stateRequest m.toNat = some (3, imm))
    (hrun : s.dev.state = .run → s.dev.drain = none) (hs : s.dev.state ≠ .stop) (hh : s.dev.state ≠ .halt) :
    Gives (.stateRun m) s (s.refuse m.toNat 1 0) := by
  show execStateRun m s = _
  simp only [execStateRun, h]
  cases hst : s.dev.state
  case run => rw [hrun hst]
  case stop => exact absurd hst hs
  case halt => exact absurd hst hh
  all_goals rfl

/-! ### STATE with targets TEST and RESTART (R27, R344) -/

theorem testEnter_gives {m : BitVec 4} {imm : Bool} (h : s.stateRequest m.toNat = some (5, imm)) :
    (s.dev.state = .stop → s.subNow = .none → ∃ t, t = { s with dev := { s.dev with sub := .test } } ∧
      Gives (.testEnter m) s (t.ok m.toNat t.subData).mirror) ∧
    (s.dev.state ≠ .stop ∨ s.subNow ≠ .none → Gives (.testEnter m) s (s.refuse m.toNat 1 0)) := by
  constructor
  · intro hs hn
    refine ⟨_, rfl, ?_⟩
    show execTestEnter m s = _
    simp [execTestEnter, h, hs, hn]
  · intro hn
    have hb : ¬ (s.dev.state == .stop && s.subNow == SubState.none) = true := by
      simpa [Classical.or_iff_not_imp_left] using hn
    show execTestEnter m s = _
    simp only [execTestEnter, h, if_neg hb]

theorem testLeave_gives {m : BitVec 4} {imm : Bool} (h : s.stateRequest m.toNat = some (6, imm)) :
    (s.dev.state = .stop → s.subNow = .test → ∃ t, t = { s with dev := { s.dev with sub := .none } } ∧
      Gives (.testLeave m) s (t.ok m.toNat t.subData).mirror) ∧
    (s.dev.state ≠ .stop ∨ s.subNow ≠ .test → Gives (.testLeave m) s (s.refuse m.toNat 1 0)) := by
  constructor
  · intro hs hn
    refine ⟨_, rfl, ?_⟩
    show execTestLeave m s = _
    simp [execTestLeave, h, hs, hn]
  · intro hn
    have hb : ¬ (s.dev.state == .stop && s.subNow == SubState.test) = true := by
      simpa [Classical.or_iff_not_imp_left] using hn
    show execTestLeave m s = _
    simp only [execTestLeave, h, if_neg hb]

/-- A sub-state of STOP is entered or left at once, and the answer says that the unit is in STOP. -/
theorem does_sub {m : Nat} {c : Instr} {x : SubState} {t : State} (hreq : ∃ r, (s.mailbox m).req = some r) (hs : s.dev.state = .stop)
    (ht : t = { s with dev := { s.dev with sub := x } }) (h : Gives c s (t.ok m t.subData).mirror) :
    Does c s (fun t => t = { s with dev := { s.dev with sub := x }, hp := t.hp } ∧
      ∃ data, t.Answered m 0 0 0 (leBytes 1 3 ++ data)) := by
  obtain ⟨r, hr⟩ := hreq
  obtain ⟨a, b, e⟩ := t.ok_shape m t.subData
  have hdata : t.subData = leBytes 1 3 ++ (leBytes 1 (subCode t.subNow) ++ leBytes 2 0 ++ leBytes 8 t.now) := by
    rw [State.subData, ht, hs]
    simp only [List.append_assoc]
    rfl
  obtain ⟨a', hresp, hc, hst, hd, hbytes⟩ := State.answer_answered (s := t) 0 0 0 t.subData (q := r) (by rw [ht]; exact hr)
  exact ⟨_, h, by rw [e, ht]; rfl, _, a', hresp, hc, hst, hd, hbytes.trans hdata⟩

theorem stateRestart_does {m : BitVec 4} {imm : Bool} (h : s.stateRequest m.toNat = some (7, imm)) :
    Does (.stateRestart m) s (fun t =>
      t = { s with hp := t.hp, flt := { s.flt with
        awaiting := s.flt.awaiting ++ [Awaiting.mk s.flt.seqNewest false 4 (some m.toNat) s.clk.ticks] } } ∧
      ∃ data, t.Answered m.toNat 0 0 0 (leBytes 1 1 ++ data)) := by
  obtain ⟨r, hr⟩ := State.stateRequest_req h
  have hans := State.answer_answered 0 0 0 (leBytes 1 (devCode .boot) ++ leBytes 3 0 ++ leBytes 8 s.now) hr
  obtain ⟨a, b, e⟩ := s.ok_shape m.toNat (leBytes 1 (devCode .boot) ++ leBytes 3 0 ++ leBytes 8 s.now)
  have hg : Gives (.stateRestart m) s { s.ok m.toNat (leBytes 1 (devCode .boot) ++ leBytes 3 0 ++ leBytes 8 s.now) with
      flt := { s.flt with awaiting := s.flt.awaiting ++ [Awaiting.mk s.flt.seqNewest false 4 (some m.toNat) s.clk.ticks] } } := by
    show execStateRestart m s = _
    simp only [execStateRestart, h, e]
  refine ⟨_, hg, by rw [e], leBytes 3 0 ++ leBytes 8 s.now, ?_⟩
  rw [List.append_assoc] at hans
  exact hans

/-- Settles O40: every request that moves the unit goes through one transition (`State.enter`) or one drain (`State.startDrain`), whose
frames are above; the others are refused. -/
theorem stateRequestsMoveTheUnit : Obligations.StateRequestsMoveTheUnit := by
  refine ⟨fun s m => ⟨?stopNow, ?stopHalt, ?stopDrain, ?stopAgain, ?stopElse, ?noTarget, ?haltNow, ?haltDrain, ?haltAgain,
    ?haltOver, ?haltElse, ?run⟩, fun s m imm => ⟨?enter, ?noEnter, ?leave, ?noLeave, stateRestart_does, ?none⟩⟩
  case stopNow =>
    intro h hs
    exact entersAt_of_enterNow (State.stateRequest_req h) (State.stateDown_stop_now hs _ ▸ stateStop_gives h)
  case stopHalt =>
    intro imm h hs
    exact entersAt_of_enterNow (State.stateRequest_req h) (State.stateDown_stop_of_halt hs _ _ ▸ stateStop_gives h)
  case stopDrain =>
    intro h hs hd
    obtain ⟨t, ht, hrun, hst⟩ := State.stateDown_stop_drains hs hd m.toNat
    exact startsDrain_of_startDrain hst hrun (ht ▸ stateStop_gives h)
  case stopAgain =>
    intro h hs hd
    exact refusedWith_of_refuse_mirror (State.stateRequest_req h) (State.stateDown_stop_again hs hd _ ▸ stateStop_gives h)
  case stopElse =>
    intro imm h hs hh
    exact refusedWith_of_refuse_mirror (State.stateRequest_req h)
      (State.stateDown_elsewhere .stop hs (.inl hh) _ _ ▸ stateStop_gives h)
  case noTarget =>
    intro n imm h hn
    refine refusedWith_of_refuse (State.stateRequest_req h) ?_
    show execStateStop m s = _
    unfold execStateStop
    rw [h]
    split
    · next e => cases e; omega
    · next e => cases e; exact if_pos hn
    · next e => cases e
  case haltNow =>
    intro h hs hd
    exact entersAt_of_enterNow (State.stateRequest_req h) (State.stateDown_halt_now hs hd _ ▸ stateHalt_gives h)
  case haltDrain =>
    intro h hs hd
    exact startsDrain_of_startDrain (.refl s) hs (State.stateDown_halt_drains hs hd _ ▸ stateHalt_gives h)
  case haltAgain =>
    intro h hs hd
    exact refusedWith_of_refuse_mirror (State.stateRequest_req h) (State.stateDown_halt_again hs hd _ ▸ stateHalt_gives h)
  case haltOver =>
    intro imm h hs hd
    exact State.stateDown_halt_overtaken hs hd _ _ ▸ stateHalt_gives h
  case haltElse =>
    intro imm h hs
    exact refusedWith_of_refuse_mirror (State.stateRequest_req h)
      (State.stateDown_elsewhere .halt hs (.inr rfl) _ _ ▸ stateHalt_gives h)
  case run =>
    intro imm h
    have hreq := State.stateRequest_req h
    refine ⟨fun hs hr hd => stateRun_enters h hs hr hd, fun hs hr => refusedWith_of_refuse hreq (stateRun_notReady h hs hr), ?_, ?_, ?_⟩
    · intro d hs hd
      show execStateRun m s = _
      simp only [execStateRun, h, hs, hd]
    · intro hs hd
      exact refusedWith_of_refuse hreq (stateRun_elsewhere h (fun _ => hd) (by simp [hs]) (by simp [hs]))
    · intro hr hs hh
      exact refusedWith_of_refuse hreq (stateRun_elsewhere h (absurd · hr) hs hh)
  case enter =>
    intro h hs hn
    obtain ⟨t, ht, hg⟩ := (testEnter_gives h).1 hs hn
    exact does_sub (State.stateRequest_req h) hs ht hg
  case noEnter =>
    intro h hn
    exact refusedWith_of_refuse (State.stateRequest_req h) ((testEnter_gives h).2 hn)
  case leave =>
    intro h hs hn
    obtain ⟨t, ht, hg⟩ := (testLeave_gives h).1 hs hn
    exact does_sub (State.stateRequest_req h) hs ht hg
  case noLeave =>
    intro h hn
    exact refusedWith_of_refuse (State.stateRequest_req h) ((testLeave_gives h).2 hn)
  case none =>
    intro h
    refine ⟨?_, ?_, ?_, ?_, ?_, ?_⟩
    · show execStateStop m s = _
      simp only [execStateStop, h]
    · show execStateHalt m s = _
      simp only [execStateHalt, h]
    · show execStateRun m s = _
      simp only [execStateRun, h]
    · show execTestEnter m s = _
      simp only [execTestEnter, h]
    · show execTestLeave m s = _
      simp only [execTestLeave, h]
    · show execStateRestart m s = _
      simp only [execStateRestart, h]

end Sys2Proof.Machine
end

section
/-!
PROOF. Boot and power (R27, R403, R431, R452, R472, R474): what each step of boot leaves as it was while no update is in progress, and
O26.
-/

namespace Sys2Proof.Machine

variable {s : State}

/-! ### Bits that are set -/

theorem bit_add_two_pow_self {v i : Nat} (h : bit v i = false) : bit (v + 2 ^ i) i = true := by
  simp only [bit, beq_eq_false_iff_ne, beq_iff_eq] at h ⊢
  rw [Nat.add_div_right _ (Nat.two_pow_pos i)]
  omega

theorem bit_add_two_pow_ne {v i j : Nat} (h : bit v i = false) (hne : j ≠ i) : bit (v + 2 ^ i) j = bit v j := by
  simp only [bit, beq_eq_false_iff_ne] at h ⊢
  rcases Nat.lt_or_gt_of_ne hne with hlt | hgt
  · obtain ⟨k, rfl⟩ := Nat.exists_eq_add_of_lt hlt
    have e : 2 ^ (j + k + 1) = 2 ^ j * (2 * 2 ^ k) := by ring
    rw [e, Nat.add_mul_div_left _ _ (Nat.two_pow_pos j), Nat.add_mul_mod_self_left]
  · obtain ⟨k, rfl⟩ := Nat.exists_eq_add_of_lt hgt
    have e : 2 ^ (i + k + 1) = 2 ^ i * (2 * 2 ^ k) := by ring
    rw [e, ← Nat.div_div_eq_div_mul, ← Nat.div_div_eq_div_mul, ← Nat.div_div_eq_div_mul, ← Nat.div_div_eq_div_mul,
      Nat.add_div_right _ (Nat.two_pow_pos i)]
    have half : (v / 2 ^ i + 1) / 2 = v / 2 ^ i / 2 := by omega
    rw [half]

theorem bit_setBit_self (v i : Nat) : bit (setBit v i) i = true := by
  unfold setBit
  split
  · assumption
  · next h => exact bit_add_two_pow_self (by simpa using h)

theorem bit_setBit_of_bit {v j : Nat} (i : Nat) (h : bit v j = true) : bit (setBit v i) j = true := by
  by_cases hj : j = i
  · rw [hj]
    exact bit_setBit_self v i
  · unfold setBit
    split
    · exact h
    · next hi => rw [bit_add_two_pow_ne (by simpa using hi) hj, h]

/-! ### What boot reads and sets -/

/-- The supplies that boot switches, and the record of a clock loss. -/
def Power.shown (p : Power) : Bool × Bool × Bool × Bool := (p.core, p.truss, p.host, p.clkRecord)

/-- Of the owner store, whether it is invalid, and the version of the firmware that runs. -/
def SecState.shown (k : SecState) : Bool × Nat := (k.storeInvalid, k.fwVersion)

/-- The program and the network configuration that are stored, and the program in force. -/
def Prog.stored (p : Prog) : Option Program × Nat × Nat × Nat × Nat := (p.active, p.slot, p.chain, p.slotBytes, p.netCopy)

/-- The checkpoints, the sill journal and the settings copies. -/
def Nvm.stored (n : Nvm) : Checkpoint × Checkpoint × List CommitRec × SettingsCopy × SettingsCopy × Nat :=
  (n.ckptA, n.ckptB, n.ring, n.setA, n.setB, n.setCopy)

/-- The values that the parts of a state which boot reads and sets have, and sources whose sticky bits are set. -/
structure BootFrame where
  feram : Memory
  state : DevState
  pwr : Bool × Bool × Bool × Bool
  sec : Bool × Nat
  fwver : Nat
  prog : Option Program × Nat × Nat × Nat × Nat
  nvm : Checkpoint × Checkpoint × List CommitRec × SettingsCopy × SettingsCopy × Nat
  epoch : Nat
  faults : List Nat

def BootFrame.inState (f : BootFrame) (d : DevState) : BootFrame := { f with state := d }

def BootFrame.claimed (f : BootFrame) (e : Nat) : BootFrame := { f with epoch := e }

def BootFrame.faulted (f : BootFrame) (src : Nat) : BootFrame := { f with faults := src :: f.faults }

/-- No update is in progress, and the parts that boot reads and sets are those of `f`. -/
structure State.Holds (s : State) (f : BootFrame) : Prop where
  stage : s.upd.stage = .none
  feram : s.feram = f.feram
  state : s.dev.state = f.state
  pwr : s.pwr.shown = f.pwr
  sec : s.sec.shown = f.sec
  fwver : s.hp.fwver = f.fwver
  prog : s.prog.stored = f.prog
  nvm : s.nvm.stored = f.nvm
  epoch : s.stby.epoch = f.epoch
  faults : ∀ n ∈ f.faults, bit s.flt.sticky n = true

variable {f : BootFrame}

/-- A change of other parts. -/
theorem State.Holds.put (h : s.Holds f) {pending freeCtr dev clk pwr sram params bootParams blocks ctxs img sched prog flt wdg tmr hp nvm
    upd sec stby net eng bays}
    (stage : upd.stage = s.upd.stage := by rfl) (state : dev.state = s.dev.state := by rfl)
    (power : pwr.shown = s.pwr.shown := by rfl) (owner : sec.shown = s.sec.shown := by rfl)
    (fwver : hp.fwver = s.hp.fwver := by rfl) (stored : prog.stored = s.prog.stored := by rfl)
    (copies : nvm.stored = s.nvm.stored := by rfl) (epoch : stby.epoch = s.stby.epoch := by rfl)
    (faults : flt.sticky = s.flt.sticky := by rfl) :
    State.Holds { pending := pending, freeCtr := freeCtr, dev := dev, clk := clk, pwr := pwr, sram := sram, feram := s.feram,
                  params := params, bootParams := bootParams, blocks := blocks, ctxs := ctxs, img := img, sched := sched,
                  prog := prog, flt := flt, wdg := wdg, tmr := tmr, hp := hp, nvm := nvm, upd := upd, sec := sec, stby := stby,
                  net := net, eng := eng, bays := bays } f where
  stage := stage.trans h.stage
  feram := h.feram
  state := state.trans h.state
  pwr := power.trans h.pwr
  sec := owner.trans h.sec
  fwver := fwver.trans h.fwver
  prog := stored.trans h.prog
  nvm := copies.trans h.nvm
  epoch := epoch.trans h.epoch
  faults := fun n hn => by rw [faults]; exact h.faults n hn

theorem State.Holds.ite {p : Prop} [Decidable p] {t : State} (hs : s.Holds f) (ht : t.Holds f) : (if p then s else t).Holds f := by
  split
  · exact hs
  · exact ht

theorem State.Holds.foldl {α : Type} {g : State → α → State} (hg : ∀ s a, s.Holds f → (g s a).Holds f)
    (h : s.Holds f) {l : List α} : (l.foldl g s).Holds f := by
  induction l generalizing s with
  | nil => exact h
  | cons a r ih => exact ih (hg s a h)

/-! ### Counters, the log, responses -/

theorem State.Holds.setPv (h : s.Holds f) {pid : Nat} {v : Int} : (s.setPv pid v).Holds f := .put h

theorem State.Holds.setCtx (h : s.Holds f) {c : Nat} {x : Ctx} : (s.setCtx c x).Holds f := .put h

theorem State.Holds.draw (h : s.Holds f) : s.draw.2.Holds f := .put h

theorem State.Holds.bump (h : s.Holds f) {pid w : Nat} : (s.bump pid w).Holds f := .ite (.setPv h) (.setPv (.draw h))

theorem State.Holds.worst (h : s.Holds f) {pid v : Nat} : (s.worst pid v).Holds f := .ite (.setPv h) h

theorem State.Holds.logRec (h : s.Holds f) {type : Nat} {bytes : List Byte} {q : Nat} {r : Bool} :
    (s.logRec type bytes q r).Holds f := by
  obtain ⟨p, c, l, o, e⟩ := s.logRec_shape type bytes q r
  rw [e]
  exact .put h

theorem State.Holds.log (h : s.Holds f) {type : Nat} {bytes : List Byte} : (s.log type bytes).Holds f := .logRec h

theorem State.Holds.mirror (h : s.Holds f) : s.mirror.Holds f := .put h

theorem State.Holds.dispatch (h : s.Holds f) : s.dispatch.Holds f := by
  obtain ⟨x, p, c, k, e⟩ := s.dispatch_shape
  rw [e]
  exact .put h

theorem State.Holds.answer (h : s.Holds f) {m completion status detail : Nat} {data : List Byte} :
    (s.answer m completion status detail data).Holds f := by
  obtain ⟨x, y, e⟩ := s.answer_shape m completion status detail data
  rw [e]
  exact .put h

theorem State.Holds.scarfSend (h : s.Holds f) {fs : List ScarfOut} : (s.scarfSend fs).Holds f := by
  obtain ⟨a, b, c, e⟩ := s.scarfSend_shape fs
  rw [e]
  exact .put h

/-! ### A transition while no update is in progress -/

theorem State.Holds.abandonEdit (h : s.Holds f) {cause : Nat} : (s.abandonEdit cause).Holds f := by
  unfold State.abandonEdit
  split
  · exact h
  · exact .put (.log h)

theorem State.Holds.editOnTransition (h : s.Holds f) {dest : DevState} : (s.editOnTransition dest).Holds f := by
  unfold State.editOnTransition
  split
  · exact .put h
  · exact h
  · exact .abandonEdit h

theorem State.Holds.verdictLost (h : s.Holds f) : s.verdictLost.Holds f := by
  unfold State.verdictLost
  split
  · exact .put (.answer h)
  · exact h

theorem State.Holds.updPartnerGone (h : s.Holds f) : s.updPartnerGone.Holds f := by
  unfold State.updPartnerGone
  rw [h.stage]
  exact h

theorem State.Holds.abandonUpdate (h : s.Holds f) : s.abandonUpdate.Holds f := by
  unfold State.abandonUpdate
  rw [h.stage]
  exact h

theorem State.Holds.leavePair (h : s.Holds f) {tell : Bool} : (s.leavePair tell).Holds f := by
  unfold State.leavePair
  split
  · extract_lets s' t u
    have hu : u.Holds f := .updPartnerGone (.verdictLost (.abandonEdit (.log (.ite (.scarfSend h) h))))
    exact .put hu
  · exact h

theorem State.Holds.overtake (h : s.Holds f) {dest : DevState} : (s.overtake dest).Holds f := by
  obtain ⟨x, y, p, c, q, o, a, b, e⟩ := s.overtake_shape dest
  rw [e]
  exact .put h

/-- A transition changes the device state and nothing else that boot reads and sets. -/
theorem State.Holds.enter (h : s.Holds f) (dest : DevState) {requester : Nat} {imm : Bool} :
    (s.enter dest requester imm).Holds (f.inState dest) := by
  unfold State.enter
  extract_lets from_ s1 s2 s3 s4 s4' s5 clean cmp
  have h1 : s1.Holds f := by
    simp only [s1, from_]
    split
    · obtain ⟨x, k, e, g, hl⟩ := s.leaveRun_shape
      rw [hl]
      exact .put h
    · exact .ite (.put h) h
  have h2 : s2.Holds f := .editOnTransition h1
  have h3 : s3.Holds f := .ite (.abandonUpdate h2) h2
  have h4 : s4.Holds f := .ite (.ite (.scarfSend h3) h3) (.leavePair h3)
  have h5 : s5.Holds f := .log (.overtake h4)
  clear_value s5
  exact .mirror ⟨h5.stage, h5.feram, rfl, h5.pwr, h5.sec, h5.fwver, h5.prog, h5.nvm, h5.epoch, h5.faults⟩

/-! ### Faults that wait for LOCKOUT or take no action -/

/-- A record that enters no state, resets no block and asks for no severity action. -/
def FaultPlan.Plain (p : FaultPlan) : Prop := p.severe = false ∧ p.safe = false ∧ p.block = false

/-- A source of class LOCKOUT, and CLK_LOSS, which takes no action of its own (R377, R387). -/
theorem State.faultPlan_plain {src : Nat} (h : faultClass src = 4 ∨ src = 1) : (s.faultPlan src 0).Plain := by
  unfold State.faultPlan
  extract_lets react base none_
  split
  · exact ⟨rfl, rfl, rfl⟩
  split
  · exact ⟨rfl, rfl, rfl⟩
  split
  · exact ⟨rfl, rfl, rfl⟩
  · next hc _ =>
    have h1 : src = 1 := h.resolve_left fun h4 => hc (by rw [h4]; rfl)
    rw [h1]
    exact ⟨rfl, rfl, rfl⟩

/-- A record is formed and its sticky bit set (R374). -/
theorem State.Holds.formRecord (h : s.Holds f) {src index data sev flags : Nat} (hp : faultClass src = 4 ∨ src = 1) :
    (s.formRecord src index data sev flags 0).Holds (f.faulted src) := by
  obtain ⟨hsev, hsafe, hblock⟩ : (s.faultPlan src 0).Plain := State.faultPlan_plain hp
  unfold State.formRecord
  extract_lets p seq r waits s' f0 f1 t0 t1 t2 t3 u f2 t4
  have hs : s'.Holds f := .ite (.log h) h
  clear_value s'
  have h0 : t0.Holds (f.faulted src) := by
    refine ⟨hs.stage, hs.feram, hs.state, hs.pwr, hs.sec, hs.fwver, hs.prog, hs.nvm, hs.epoch, fun n hn => ?_⟩
    rcases List.mem_cons.mp hn with rfl | hn
    · exact bit_setBit_self _ _
    · exact bit_setBit_of_bit _ (hs.faults n hn)
  clear_value t0
  have h1 : t1.Holds (f.faulted src) := .logRec h0
  have h2 : t2.Holds (f.faulted src) := .ite (.put h1) h1
  have h3 : t3 = t2 := if_neg (by simp only [p, hblock]; exact Bool.false_ne_true)
  have h4 : t4 = t3 := if_neg (by simp only [p, hsafe]; exact Bool.false_ne_true)
  rw [if_neg (by simp only [p, hsev]; exact Bool.false_ne_true), h4, h3]
  exact .mirror h2

/-- A source of class LOCKOUT is raised and nothing else happens before its record is durable (R377). -/
theorem State.Holds.raise (h : s.Holds f) {src index data : Nat} (hc : faultClass src = 4) (hs : f.state ≠ .off) :
    (s.raise src index data).Holds (f.faulted src) := by
  have hlt : ¬ 31 < src := fun hlt => by
    unfold faultClass at hc
    split at hc <;> omega
  have hne : src ≠ 20 := fun e => by rw [e] at hc; cases hc
  have hoff : (s.dev.state == .off || (src == 20 && s.dev.part != .p7232) || decide (31 < src)) = false := by
    simp [h.state, hs, hlt, hne]
  unfold State.raise State.raiseWith
  rw [if_neg (by rw [hoff]; exact Bool.false_ne_true)]
  extract_lets s1 s2
  have h1 : s1.Holds f := .bump h
  have h2 : s2.Holds f := .ite (.put h1) (.put h1)
  clear_value s2
  split
  · next hb =>
    rw [if_pos rfl]
    refine ⟨h2.stage, h2.feram, h2.state, h2.pwr, h2.sec, h2.fwver, h2.prog, h2.nvm, h2.epoch, fun n hn => ?_⟩
    rcases List.mem_cons.mp hn with rfl | hn
    · exact hb
    · exact h2.faults n hn
  · exact .formRecord h2 (.inl hc)

/-! ### B1 to B4 -/

theorem State.Holds.logBoot (h : s.Holds f) {d : DevState} : (s.logBoot d).Holds f := .log h

theorem State.Holds.bootFail (h : s.Holds f) {src data : Nat} (hc : faultClass src = 4) (hs : f.state ≠ .off) :
    (s.bootFail src data).Holds (f.faulted src) := .logBoot (.raise h hc hs)

/-- The parts that boot reads and sets, as they are at the end of B1. -/
def State.bootFrame (s : State) : BootFrame where
  feram := s.feram
  state := .boot
  pwr := (true, s.pwr.truss, s.pwr.host, false)
  sec := s.sec.shown
  fwver := s.hp.fwver
  prog := s.prog.stored
  nvm := s.nvm.stored
  epoch := s.stby.epoch
  faults := if s.pwr.clkRecord then [1] else []

/-- B1 (R387, R453, R474): the core domains are on, and a clock loss that PD_AON kept has its record. -/
theorem State.bootPower_holds (hs : s.dev.state = .boot) (hu : s.upd.stage = .none) :
    s.bootPower.clkLossRecord.Holds s.bootFrame := by
  have hpow : s.bootPower.Holds { s.bootFrame with pwr := (true, s.pwr.truss, s.pwr.host, s.pwr.clkRecord), faults := [] } :=
    ⟨hu, rfl, hs, rfl, rfl, rfl, rfl, rfl, rfl, fun _ hn => nomatch hn⟩
  unfold State.clkLossRecord
  split
  · next hr =>
    extract_lets from_ _ _ t u
    have ht : t.Holds { s.bootFrame with
        state := from_, pwr := (true, s.pwr.truss, s.pwr.host, s.pwr.clkRecord), faults := [] } :=
      ⟨hpow.stage, hpow.feram, rfl, hpow.pwr, hpow.sec, hpow.fwver, hpow.prog, hpow.nvm, hpow.epoch, hpow.faults⟩
    have hu : u.Holds { s.bootFrame with
        state := from_, pwr := (true, s.pwr.truss, s.pwr.host, s.pwr.clkRecord), faults := [1] } := .formRecord ht (.inr rfl)
    clear_value u
    obtain ⟨hcore, htruss, hhost, -⟩ : u.pwr.core = true ∧ u.pwr.truss = s.pwr.truss ∧ u.pwr.host = s.pwr.host ∧
        u.pwr.clkRecord = s.pwr.clkRecord := by simpa [Power.shown] using hu.pwr
    refine ⟨hu.stage, hu.feram, hs, ?_, hu.sec, rfl, hu.prog, hu.nvm, hu.epoch, fun n hn => hu.faults n ?_⟩
    · show (u.pwr.core, u.pwr.truss, u.pwr.host, false) = (true, s.pwr.truss, s.pwr.host, false)
      rw [hcore, htruss, hhost]
    · have hclk : s.pwr.clkRecord = true := hr
      simpa [State.bootFrame, hclk] using hn
  · next hr =>
    have hclk : s.pwr.clkRecord = false := by simpa [State.bootPower] using hr
    refine ⟨hpow.stage, hpow.feram, hpow.state, ?_, hpow.sec, hpow.fwver, hpow.prog, hpow.nvm, hpow.epoch, ?_⟩
    · simp [Power.shown, State.bootFrame, State.bootPower, hclk]
    · simp [State.bootFrame, hclk]

theorem State.Holds.bootWatchdog (h : s.Holds f) {fmt : Nat} : (s.bootWatchdog fmt).Holds f := .put h

/-! ### What the stores give back -/

theorem Nvm.newestCheckpoint_congr {n k : Nvm} (h : n.stored = k.stored) : n.newestCheckpoint = k.newestCheckpoint := by
  simp only [Nvm.stored, Prod.mk.injEq] at h
  obtain ⟨ha, hb, -⟩ := h
  simp only [Nvm.newestCheckpoint, ha, hb]

theorem Nvm.copyFor_congr {n k : Nvm} (h : n.stored = k.stored) (fmt : Nat) : n.copyFor fmt = k.copyFor fmt := by
  simp only [Nvm.stored, Prod.mk.injEq] at h
  obtain ⟨-, -, -, ha, hb, -⟩ := h
  simp only [Nvm.copyFor, ha, hb]

theorem Nvm.ring_congr {n k : Nvm} (h : n.stored = k.stored) : n.ring = k.ring := by
  simp only [Nvm.stored, Prod.mk.injEq] at h
  exact h.2.2.1

/-- Recovery from a checkpoint with an empty journal gives what the checkpoint names (R431). -/
def BootFrame.recovered (f : BootFrame) (ck : Checkpoint) : BootFrame :=
  { f with
    prog := (f.prog.1, ck.slot, if ck.slot = 255 then 0 else ck.chain,
             if ck.slot < 2 then slotUsed ck.chain f.feram (slotAddr ck.slot) else 0, ck.netCopy),
    epoch := ck.epoch }

theorem State.Holds.bootJournalRing (h : s.Holds f) {ck : Checkpoint} (hck : s.nvm.newestCheckpoint = some ck) (hring : s.nvm.ring = []) :
    (s.bootJournalRing true []).Holds (f.recovered ck) := by
  have hactive : s.prog.active = f.prog.1 := congrArg (·.1) h.prog
  unfold State.bootJournalRing
  simp only [if_true, hck, hring, List.filter_nil, List.findSome?_nil, Option.getD_none, List.foldl_nil]
  refine .setPv (.setPv ?_)
  refine ⟨h.stage, h.feram, h.state, h.pwr, h.sec, h.fwver, ?_, h.nvm, rfl, h.faults⟩
  simp only [Prog.stored, BootFrame.recovered, hactive, h.feram]

theorem State.Holds.logHead (h : s.Holds f) : s.logHead.Holds f := .setPv (.setPv (.setPv h))

theorem State.Holds.setOrFree (h : s.Holds f) {pid w v : Nat} : (s.setOrFree pid w v).Holds f := .ite (.setPv h) (.setPv (.draw h))

theorem State.Holds.startHoldup (h : s.Holds f) {vin : Nat} : (s.startHoldup vin).Holds f := by
  unfold State.startHoldup
  refine .ite ?_ h
  extract_lets _ t
  have ht : t.Holds f := .put h
  exact .ite (.setPv (.setPv (.setOrFree (.setOrFree ht)))) (.ite (.setPv (.setPv ht)) (.put ht))

/-- The settings in force are those of copy `slot`. -/
def BootFrame.settled (f : BootFrame) (slot : Nat) : BootFrame :=
  { f with nvm := (f.nvm.1, f.nvm.2.1, f.nvm.2.2.1, f.nvm.2.2.2.1, f.nvm.2.2.2.2.1, slot) }

theorem State.Holds.loadCopy (h : s.Holds f) {slot : Nat} {k : SettingsCopy} : (s.loadCopy slot k).Holds (f.settled slot) := by
  refine .setPv (.setPv (.setPv ?_))
  refine ⟨h.stage, h.feram, h.state, h.pwr, h.sec, h.fwver, h.prog, ?_, h.epoch, h.faults⟩
  simp only [BootFrame.settled, ← h.nvm]
  rfl

theorem State.Holds.takeSettings (h : s.Holds f) : s.takeSettings.Holds f := by
  unfold State.takeSettings
  extract_lets _ s' want _ _ t _ u
  have hs : s'.Holds f := .put h
  have ht : t.Holds f := .ite hs (.put hs)
  refine .foldl (fun v c hv => ?_) (.put ht)
  split
  · exact .setCtx hv
  · exact hv

/-- A boot counts in the settings (R354). -/
theorem State.Holds.countBoot (h : s.Holds f) : State.Holds { s.bump 0x104 32 with nvm := { s.nvm with setDirty := true } } f := by
  obtain ⟨p, c, e⟩ := s.bump_shape 0x104 32
  rw [e]
  exact .put h

/-- A copy of the firmware's own format is in force as it stands (R354, R435). -/
theorem State.Holds.bootSettings (h : s.Holds f) {fmt slot : Nat} {k : SettingsCopy} (hc : s.nvm.copyFor fmt = some (slot, k))
    (hk : k.format = fmt) (migrates : Bool) : ∃ t, s.bootSettings fmt migrates = (t, false) ∧ t.Holds (f.settled slot) := by
  unfold State.bootSettings
  simp only [State.setPv_nvm, hc, hk, Nat.lt_irrefl, if_false]
  exact ⟨_, rfl, .takeSettings (.countBoot (.loadCopy (.setPv h)))⟩

/-! ### I3: domains, program and network configuration -/

/-- STOP and INIT have the truss domain on (Table PWR-2). -/
def BootFrame.powered (f : BootFrame) : BootFrame := { f with pwr := (f.pwr.1, true, f.pwr.2.2) }

theorem State.Holds.bootDomains (h : s.Holds f) : s.bootDomains.Holds f.powered := by
  refine ⟨h.stage, h.feram, h.state, ?_, h.sec, h.fwver, h.prog, h.nvm, h.epoch, h.faults⟩
  simp only [BootFrame.powered, ← h.pwr]
  rfl

theorem State.Holds.bootRole (h : s.Holds f) : s.bootRole.Holds f := .put h

/-- Without a stored network configuration none is taken. -/
theorem State.Holds.bootNet (h : s.Holds f) {v : Verdict} (hn : 2 ≤ f.prog.2.2.2.2) (hi : f.sec.1 = false) : s.bootNet v = some s := by
  have hcopy : s.prog.netCopy = f.prog.2.2.2.2 := congrArg (·.2.2.2.2) h.prog
  have hinv : s.sec.storeInvalid = false := (congrArg (·.1) h.sec).trans hi
  have hno : ¬ (s.prog.netCopy < 2 ∧ (!s.sec.storeInvalid) = true) := fun hlt => by omega
  unfold State.bootNet
  rw [if_neg hno, hinv]
  rfl

/-- Without a stored program none comes into force. -/
theorem State.Holds.bootProgram_none (h : s.Holds f) {v : Verdict} {cleared : Bool} (hs : 2 ≤ f.prog.2.1) (hi : f.sec.1 = false) :
    s.bootProgram v cleared = some s := by
  have hslot : s.prog.slot = f.prog.2.1 := congrArg (·.2.1) h.prog
  have hinv : s.sec.storeInvalid = false := (congrArg (·.1) h.sec).trans hi
  have hno : ¬ (s.prog.slot < 2 ∧ (!s.sec.storeInvalid) = true) := fun hlt => by omega
  unfold State.bootProgram
  rw [if_neg hno, hinv]
  rfl

/-- A program whose signature does not verify is not taken (R134). -/
theorem State.Holds.bootProgram_bad (h : s.Holds f) {v : Verdict} {cleared : Bool} (hs : f.prog.2.1 < 2) (hi : f.sec.1 = false)
    (hv : v.sigOk = false) : s.bootProgram v cleared = none := by
  have hslot : s.prog.slot = f.prog.2.1 := congrArg (·.2.1) h.prog
  have hinv : s.sec.storeInvalid = false := (congrArg (·.1) h.sec).trans hi
  unfold State.bootProgram
  rw [if_pos ⟨by omega, by rw [hinv]; rfl⟩, hv]
  rfl

theorem State.Holds.applySched (h : s.Holds f) {r : SchedResult} {p : Program} : (s.applySched r p).Holds f :=
  .ite (.setPv h) (.foldl (fun _ _ hk => .ite (.setCtx hk) hk) (.setPv (.setPv (.setPv (.setPv h)))))

/-- The program in force. -/
def BootFrame.running (f : BootFrame) (p : Program) : BootFrame := { f with prog := (some p, f.prog.2) }

/-- A stored program that verifies is the one in force (R134). -/
theorem State.Holds.bootProgram (h : s.Holds f) {v : Verdict} {p : Program} (hs : f.prog.2.1 < 2) (hi : f.sec.1 = false)
    (hsig : v.sigOk = true) (hhash : v.hashOk = true)
    (hp : rebuild (f.feram.readN (slotAddr f.prog.2.1) f.prog.2.2.2.1) f.prog.2.2.1 = some p) :
    ∃ t, s.bootProgram v false = some t ∧ t.Holds (f.running p) := by
  have hslot : s.prog.slot = f.prog.2.1 := congrArg (·.2.1) h.prog
  have hchain : s.prog.chain = f.prog.2.2.1 := congrArg (·.2.2.1) h.prog
  have hbytes : s.prog.slotBytes = f.prog.2.2.2.1 := congrArg (·.2.2.2.1) h.prog
  have hinv : s.sec.storeInvalid = false := (congrArg (·.1) h.sec).trans hi
  have hnow : rebuild s.slotBytesNow s.prog.chain = some p := by
    rw [State.slotBytesNow, if_pos (by omega), hslot, hbytes, hchain, h.feram, hp]
  unfold State.bootProgram
  rw [if_pos ⟨by omega, by rw [hinv]; rfl⟩]
  rw [hsig, hhash, hnow]
  split
  · next e => cases e
  next q e =>
  obtain rfl : p = q := Option.some.inj e
  extract_lets s' _ t force r
  have hs' : State.Holds { s' with prog := { s'.prog with active := some p } } (f.running p) := by
    refine ⟨h.stage, h.feram, h.state, h.pwr, h.sec, h.fwver, ?_, h.nvm, h.epoch, h.faults⟩
    simp only [BootFrame.running, ← h.prog]
    rfl
  have ht : t.Holds (f.running p) := by
    refine .foldl (fun u c hu => ?_) (.put hs')
    split
    · exact .setCtx hu
    · exact hu
  clear_value t
  split
  · exact ⟨_, rfl, .applySched ht⟩
  · exact ⟨_, rfl, .setPv ht⟩

/-! ### I4 and I5 -/

/-- No bay answers. -/
theorem State.bootBays_none {answers : List Bool} (h : ∀ b ∈ answers, b = false) : s.bootBays answers = s := by
  have hx : ∀ x, answers.getD x false = false := fun x => by
    rcases Nat.lt_or_ge x answers.length with hlt | hge
    · rw [List.getD_eq_getElem _ _ hlt]
      exact h _ (List.getElem_mem hlt)
    · exact List.getD_eq_default _ _ hge
  refine List.foldl_fixed' (fun x => ?_) _
  rw [hx, if_neg Bool.false_ne_true]

theorem State.Holds.bootRelease (h : s.Holds f) : s.bootRelease.Holds f := .ite h (.put h)

theorem State.Holds.bootReach (h : s.Holds f) (dest : DevState) : (s.bootReach dest).Holds (f.inState dest) := .logBoot (.enter h dest)

theorem State.Holds.clearRunCounts (h : s.Holds f) : s.clearRunCounts.Holds f := .ite (.put h) (.put h)

theorem State.Holds.placeReleases (h : s.Holds f) {from_ : Ns} : (s.placeReleases from_).Holds f := .foldl (fun _ _ hk => .setCtx hk) h

theorem State.Holds.armFromHalt (h : s.Holds f) {at_ : Ns} : (s.armFromHalt at_).Holds f := by
  unfold State.armFromHalt
  split
  · exact h
  · exact .put h

theorem State.Holds.claimToken (h : s.Holds f) : ∃ e, s.claimToken.Holds (f.claimed e) := by
  unfold State.claimToken
  extract_lets e _ t segs _ k _ u v
  have ht : t.Holds (f.claimed e) := ⟨h.stage, h.feram, h.state, h.pwr, h.sec, h.fwver, h.prog, h.nvm, rfl, h.faults⟩
  have hu : u.Holds (f.claimed e) := .put ht
  have hv : v.Holds (f.claimed e) := .foldl (fun _ _ hw => .put hw) hu
  exact ⟨e, .ite (.put hv) hu⟩

/-- An entry into RUN changes the device state and claims the token. -/
theorem State.Holds.enterRun (h : s.Holds f) {who : Nat} : ∃ e, (s.enterRun who).Holds ((f.inState .run).claimed e) := by
  obtain ⟨c, p, x, hstep⟩ := s.stepDue_shape
  obtain ⟨m, i, himg⟩ := s.stepDue.runImage_shape
  unfold State.enterRun
  extract_lets s' t u v
  have ht : t.Holds f := by
    show s.stepDue.runImage.Holds f
    rw [himg, hstep]
    exact .put h
  have hv : v.Holds (f.inState .run) := .armFromHalt (.placeReleases (.clearRunCounts (.enter ht .run)))
  split
  · exact hv.claimToken
  · exact ⟨f.epoch, hv⟩

/-- Before auto-run is looked at the unit is in STOP. -/
theorem State.Holds.bootLeave_cases (h : s.Holds f) : ∃ u, u.Holds (f.inState .stop) ∧ s.bootLeave true false =
    if u.pv 0x103 = 1 ∧ (!false) = true ∧ (!u.runNotReady) = true then
      (if u.pv 0x74D = 1 ∧ u.clk.state ≠ 2 then { u with dev := { u.dev with autoWait := true } } else u.enterRun 0)
    else u := by
  unfold State.bootLeave
  extract_lets _ t u
  have ht : t.Holds f := by
    rw [show t = { s with clk := { s.clk with aclk := true, aclkSeen := true } } from if_pos rfl]
    exact .put h
  clear_value t
  exact ⟨u, .bootReach (.bootRelease ht) .stop, rfl⟩

/-- Without a program boot ends in STOP. -/
theorem State.Holds.bootLeave_stop (h : s.Holds f) (hp : f.prog.1 = none) : (s.bootLeave true false).Holds (f.inState .stop) := by
  obtain ⟨u, hu, e⟩ := h.bootLeave_cases
  have hnone : u.prog.active = none := (congrArg (·.1) hu.prog).trans hp
  have hready : u.runNotReady = true := by
    unfold State.runNotReady
    rw [hnone]
    rfl
  rw [e, if_neg (by simp [hready])]
  exact hu

/-- Boot ends in STOP or, where auto-run is set, in RUN (R474). -/
theorem State.Holds.bootLeave (h : s.Holds f) :
    (s.bootLeave true false).Holds (f.inState .stop) ∨ ∃ e, (s.bootLeave true false).Holds ((f.inState .run).claimed e) := by
  obtain ⟨u, hu, e⟩ := h.bootLeave_cases
  rw [e]
  split
  · split
    · exact .inl (.put hu)
    · exact .inr hu.enterRun
  · exact .inl hu

/-! ### INIT from I3 on -/

theorem State.Holds.notInitLeft (h : s.Holds f) (hst : f.state = .init) : s.initLeft = false := by
  rw [State.initLeft, h.state, hst]
  rfl

section BootInput

variable {i : BootInput}

/-- Without a stored program INIT ends in STOP. -/
theorem State.Holds.initLoad_none (h : s.Holds f) (hst : f.state = .init) (hi : f.sec.1 = false) (hnet : 2 ≤ f.prog.2.2.2.2)
    (hslot : 2 ≤ f.prog.2.1) (hact : f.prog.1 = none) (hb : ∀ b ∈ i.bayAnswers, b = false) (ha : i.aclk = true) {cleared : Bool} :
    (s.initLoad i cleared false).Holds (f.powered.inState .stop) := by
  have ht : s.bootDomains.bootRole.Holds f.powered := .bootRole (.bootDomains h)
  have hw : s.bootDomains.bootRole.bootDomains.Holds f.powered := ht.bootDomains
  have hin : s.bootDomains.bootRole.bootDomains.initLeft = false := hw.notInitLeft hst
  simp only [State.initLoad, ht.bootNet hnet hi, ht.bootProgram_none hslot hi, State.bootBays_none hb, hin, ha,
    Bool.false_eq_true, if_false]
  exact hw.bootLeave_stop hact

/-- A program that does not verify ends INIT where it stands (R134). -/
theorem State.Holds.initLoad_bad (h : s.Holds f) (hst : f.state = .init) (hi : f.sec.1 = false) (hnet : 2 ≤ f.prog.2.2.2.2)
    (hslot : f.prog.2.1 < 2) (hsig : i.program.sigOk = false) {cleared lost : Bool} :
    (s.initLoad i cleared lost).Holds (f.powered.faulted 26) := by
  have ht : s.bootDomains.bootRole.Holds f.powered := .bootRole (.bootDomains h)
  simp only [State.initLoad, ht.bootNet hnet hi, ht.bootProgram_bad hslot hi hsig]
  exact ht.bootFail rfl (by rw [show f.powered.state = .init from hst]; exact (nomatch ·))

/-- A stored program that verifies is in force in the state that INIT ends in. -/
theorem State.Holds.initLoad_running (h : s.Holds f) (hst : f.state = .init) (hi : f.sec.1 = false) (hnet : 2 ≤ f.prog.2.2.2.2)
    (hslot : f.prog.2.1 < 2) (hsig : i.program.sigOk = true) (hhash : i.program.hashOk = true) {p : Program}
    (hp : rebuild (f.feram.readN (slotAddr f.prog.2.1) f.prog.2.2.2.1) f.prog.2.2.1 = some p)
    (hb : ∀ b ∈ i.bayAnswers, b = false) (ha : i.aclk = true) :
    (s.initLoad i false false).Holds ((f.powered.running p).inState .stop) ∨
      ∃ e, (s.initLoad i false false).Holds (((f.powered.running p).inState .run).claimed e) := by
  have ht : s.bootDomains.bootRole.Holds f.powered := .bootRole (.bootDomains h)
  obtain ⟨v, hv, hvh⟩ := ht.bootProgram hslot hi hsig hhash hp
  have hw : v.bootDomains.Holds (f.powered.running p) := hvh.bootDomains
  have hin : v.bootDomains.initLeft = false := hw.notInitLeft hst
  simp only [State.initLoad, ht.bootNet hnet hi, hv, State.bootBays_none hb, hin, ha,
    Bool.false_eq_true, if_false]
  exact hw.bootLeave

/-- Recovery from a checkpoint and a settings copy of the firmware's own format (R431, R435). -/
theorem State.Holds.bootInit (h : s.Holds f) (hst : f.state = .init) {n : Nvm} (hn : f.nvm = n.stored) {ck : Checkpoint} {slot : Nat}
    {k : SettingsCopy} (hok : i.checkpointOk = true) (hrows : i.badRows = []) (hck : n.newestCheckpoint = some ck) (hring : n.ring = [])
    (hcopy : n.copyFor i.fwFormat = some (slot, k)) (hk : k.format = i.fwFormat) :
    ∃ c : State, c.Holds ((f.recovered ck).settled slot) ∧ s.bootInit i = c.initLoad i false false := by
  have hsn : s.nvm.stored = n.stored := h.nvm.trans hn
  have hckpt : s.nvm.newestCheckpoint = some ck := (Nvm.newestCheckpoint_congr hsn).trans hck
  have ha : (s.bootJournalRing true []).logHead.Holds (f.recovered ck) :=
    .logHead (h.bootJournalRing hckpt ((Nvm.ring_congr hsn).trans hring))
  have hb := ha.startHoldup (vin := (s.bootJournalRing true []).logHead.pwr.vin)
  obtain ⟨c, e, hc⟩ := hb.bootSettings ((Nvm.copyFor_congr (hb.nvm.trans hn) _).trans hcopy) hk i.migrates
  refine ⟨c, hc, ?_⟩
  simp only [State.bootInit, hok, hrows, ha.notInitLeft hst, Bool.false_eq_true, if_false, e, hc.notInitLeft hst, Nvm.noCheckpoint, hckpt]
  rfl

/-! ### B5 to B7 -/

/-- Without an update in progress the journal decides nothing. -/
theorem State.Holds.bootJournal (h : s.Holds f) : s.bootJournal.Holds f := by
  unfold State.bootJournal
  dsimp only
  rw [h.stage]
  exact .put h

/-- The image that runs is the one whose version is `v`. -/
def BootFrame.booted (f : BootFrame) (v : Nat) : BootFrame := { f with sec := (f.sec.1, v), fwver := v }

theorem State.Holds.bootImage (h : s.Holds f) : (s.bootImage i).Holds (f.booted i.fwVersion) := by
  have hinv : s.sec.storeInvalid = f.sec.1 := congrArg (·.1) h.sec
  refine ⟨?_, h.feram, h.state, h.pwr, ?_, rfl, h.prog, h.nvm, h.epoch, h.faults⟩
  · simp [State.bootImage, h.stage]
  · simp [State.bootImage, SecState.shown, BootFrame.booted, hinv]

/-- Firmware and owner that verify lead to INIT. -/
theorem State.Holds.bootLoader_init (h : s.Holds f) (hfw : i.firmwareOk = true) (how : i.ownerOk = true) :
    ∃ v : State, v.Holds ((f.booted i.fwVersion).inState .init) ∧ s.bootLoader i = v.bootInit i := by
  simp only [State.bootLoader, hfw, how, Bool.not_true, Bool.false_eq_true, if_false]
  exact ⟨_, .enter (.put h.bootJournal.bootImage) .init, rfl⟩

/-- Firmware that does not verify leads to RECOVERY (R403). -/
theorem State.Holds.bootLoader_recovery (h : s.Holds f) (hfw : i.firmwareOk = false) :
    ∃ g : BootFrame, (s.bootLoader i).Holds g ∧ g.state = .recovery ∧ g.feram = f.feram ∧ g.pwr = f.pwr ∧
      (i.ownerOk = false → 26 ∈ g.faults) := by
  have hu : (s.bootJournal.bootReach .recovery).Holds (f.inState .recovery) := h.bootJournal.bootReach .recovery
  simp only [State.bootLoader, hfw, Bool.not_false, if_true]
  split
  · next how => exact ⟨f.inState .recovery, hu, rfl, rfl, rfl, fun hn => by rw [hn] at how; cases how⟩
  · exact ⟨(f.inState .recovery).faulted 26, hu.raise rfl (nomatch ·), rfl, rfl, rfl, fun _ => List.mem_cons_self⟩

/-- An owner store that does not verify leads to LOCKOUT (R403). -/
theorem State.Holds.bootLoader_owner (h : s.Holds f) (hst : f.state = .boot) (hfw : i.firmwareOk = true) (how : i.ownerOk = false) :
    (s.bootLoader i).Holds (f.faulted 26) := by
  simp only [State.bootLoader, hfw, how, Bool.not_true, Bool.not_false, Bool.false_eq_true, if_false, if_true]
  exact h.bootJournal.bootFail rfl (by rw [hst]; exact (nomatch ·))

end BootInput

/-! ### BOOT_START -/

/-- The host port's supply is on. -/
def BootFrame.hosted (f : BootFrame) : BootFrame := { f with pwr := (f.pwr.1, f.pwr.2.1, true, f.pwr.2.2.2) }

/-- The conditions under which BOOT_START starts a boot. -/
structure State.Bootable (s : State) : Prop where
  state : s.dev.state = .boot
  core : s.pwr.core = false
  clkLost : s.pwr.clkLost = false
  nreset : s.pwr.nresetLow = false
  stage : s.upd.stage = .none

section BootStart

variable {i : BootInput}

/-- After B1, with the self-test's result and its time, which is free. -/
def State.bootTested (s : State) (i : BootInput) : State :=
  let x := s.bootPower.clkLossRecord.draw
  (x.2.setPv 0x812 ((x.1 % 401 : Nat) : Int)).setPv 0x810 ((i.selftest % 65536 : Nat) : Int)

/-- The same with the host port and the watchdog configured. -/
def State.bootHosted (s : State) (i : BootInput) : State :=
  let c := s.bootTested i
  { c with pwr := { c.pwr with host := true } }.bootWatchdog i.fwFormat

/-- BOOT_START: the self-test, the root and the manifest are judged in this order, before the loader. -/
theorem State.Bootable.bootStart (h : s.Bootable) : exec (.bootStart i) s =
    if i.selftest < 1024 then .next ((s.bootTested i).bootFail 27 i.selftest).mirror
    else if (!i.rootOk) = true then .next ((s.bootTested i).bootFail 26 1).mirror
    else if (!i.manifestOk && !i.fallbackOk) = true then .next ((s.bootHosted i).bootFail 26 2).mirror
    else .next ((s.bootHosted i).bootLoader i).dispatch.mirror := by
  show execBootStart i s = _
  unfold execBootStart
  rw [if_pos (by simp [h.state, h.core, h.clkLost, h.nreset])]
  rfl

theorem State.Bootable.bootStart_loads (h : s.Bootable) (hself : 1024 ≤ i.selftest) (hroot : i.rootOk = true)
    (hman : i.manifestOk = true ∨ i.fallbackOk = true) :
    exec (.bootStart i) s = .next ((s.bootHosted i).bootLoader i).dispatch.mirror := by
  rw [h.bootStart, if_neg (by omega), if_neg (by simp [hroot]), if_neg (by rcases hman with hm | hm <;> simp [hm])]

theorem State.Bootable.bootTested_holds (h : s.Bootable) (i : BootInput) : (s.bootTested i).Holds s.bootFrame :=
  .setPv (.setPv (.draw (State.bootPower_holds h.state h.stage)))

theorem State.Bootable.bootHosted_holds (h : s.Bootable) (i : BootInput) : (s.bootHosted i).Holds s.bootFrame.hosted := by
  have hc := h.bootTested_holds i
  have hp : State.Holds { s.bootTested i with pwr := { (s.bootTested i).pwr with host := true } } s.bootFrame.hosted := by
    refine ⟨hc.stage, hc.feram, hc.state, ?_, hc.sec, hc.fwver, hc.prog, hc.nvm, hc.epoch, hc.faults⟩
    simp only [BootFrame.hosted, ← hc.pwr]
    rfl
  exact hp.bootWatchdog

/-- The unit waits in BOOT for LOCKOUT, source `src` raised (R377, R403). -/
theorem State.Holds.waits {g : BootFrame} {src : Nat} {t : State} (h : t.Holds (g.faulted src)) :
    t.dev.state = g.state ∧ bit t.flt.sticky src = true ∧ t.feram = g.feram :=
  ⟨h.state, h.faults src List.mem_cons_self, h.feram⟩

/-- What a boot with every check passed has set, the settings being those of copy `slot`. -/
def State.BootedUp (s : State) (i : BootInput) (slot : Nat) (t : State) : Prop :=
  t.pwr.core = true ∧ t.pwr.truss = true ∧ t.pwr.host = true ∧ t.pwr.clkRecord = false ∧
    (s.pwr.clkRecord = true → bit t.flt.sticky 1 = true) ∧
    t.sec.fwVersion = i.fwVersion ∧ t.hp.fwver = i.fwVersion ∧ t.nvm.setCopy = slot ∧ t.feram = s.feram

/-- What INIT finds at I3, after recovery from checkpoint `ck` and with settings copy `slot`. -/
def State.loadFrame (s : State) (i : BootInput) (ck : Checkpoint) (slot : Nat) : BootFrame :=
  (((s.bootFrame.hosted.booted i.fwVersion).inState .init).recovered ck).settled slot

/-- In the state that boot ends in. -/
theorem State.Holds.bootedUp {g : BootFrame} {slot : Nat} {ck : Checkpoint} {t : State} (h : t.Holds g)
    (hp : g.pwr = (true, true, true, false)) (hsame : g.faults = (s.loadFrame i ck slot).faults ∧ g.sec = (s.loadFrame i ck slot).sec ∧
      g.fwver = (s.loadFrame i ck slot).fwver ∧ g.nvm = (s.loadFrame i ck slot).nvm ∧ g.feram = (s.loadFrame i ck slot).feram) :
    s.BootedUp i slot t := by
  obtain ⟨hfaults, hsec, hfw, hnvm, hmem⟩ := hsame
  obtain ⟨hcore, htruss, hhost, hclk⟩ : t.pwr.core = true ∧ t.pwr.truss = true ∧ t.pwr.host = true ∧ t.pwr.clkRecord = false := by
    simpa [Power.shown] using h.pwr.trans hp
  have hone : s.pwr.clkRecord = true → 1 ∈ g.faults := fun hr => by
    rw [hfaults]
    show 1 ∈ if s.pwr.clkRecord = true then [1] else []
    rw [if_pos hr]
    exact List.mem_cons_self
  exact ⟨hcore, htruss, hhost, hclk, fun hr => h.faults 1 (hone hr), congrArg (·.2) (h.sec.trans hsec), h.fwver.trans hfw,
    congrArg (·.2.2.2.2.2) (h.nvm.trans hnvm), h.feram.trans hmem⟩

/-- With every check passed boot comes to I3 (R27, R403, R431, R435, R474). -/
theorem State.Bootable.reachesLoad (h : s.Bootable) (hself : 1024 ≤ i.selftest) (hroot : i.rootOk = true)
    (hman : i.manifestOk = true ∨ i.fallbackOk = true) (hfw : i.firmwareOk = true) (how : i.ownerOk = true)
    (hok : i.checkpointOk = true) (hrows : i.badRows = []) {ck : Checkpoint} {slot : Nat} {k : SettingsCopy}
    (hck : s.nvm.newestCheckpoint = some ck) (hring : s.nvm.ring = []) (hcopy : s.nvm.copyFor i.fwFormat = some (slot, k))
    (hk : k.format = i.fwFormat) :
    ∃ c : State, c.Holds (s.loadFrame i ck slot) ∧ exec (.bootStart i) s = .next (c.initLoad i false false).dispatch.mirror := by
  obtain ⟨v, hv, hload⟩ := (h.bootHosted_holds i).bootLoader_init hfw how
  obtain ⟨w, hw, hinit⟩ := hv.bootInit (n := s.nvm) rfl rfl hok hrows hck hring hcopy hk
  refine ⟨w, hw, ?_⟩
  rw [h.bootStart_loads hself hroot hman, hload, hinit]

theorem BootFrame.recovered_slot {f : BootFrame} {ck : Checkpoint} (hs : ck.slot < 2) :
    (f.recovered ck).prog = (f.prog.1, ck.slot, ck.chain, slotUsed ck.chain f.feram (slotAddr ck.slot), ck.netCopy) := by
  have hne : ck.slot ≠ 255 := by omega
  simp only [BootFrame.recovered, if_pos hs, if_neg hne]

/-- INIT with a program stored that verifies (R134). -/
theorem State.Holds.loads_running {c : State} {ck : Checkpoint} {slot : Nat} {p : Program} (h : c.Holds (s.loadFrame i ck slot))
    (hi : s.sec.storeInvalid = false) (hnet : 2 ≤ ck.netCopy) (hs : ck.slot < 2) (hsig : i.program.sigOk = true)
    (hhash : i.program.hashOk = true)
    (hp : rebuild (s.feram.readN (slotAddr ck.slot) (slotUsed ck.chain s.feram (slotAddr ck.slot))) ck.chain = some p)
    (hb : ∀ b ∈ i.bayAnswers, b = false) (ha : i.aclk = true) :
    let t := (c.initLoad i false false).dispatch.mirror
    s.BootedUp i slot t ∧ (t.dev.state = .stop ∨ t.dev.state = .run) ∧ t.prog.active = some p ∧ t.prog.slot = ck.slot ∧
      t.prog.chain = ck.chain := by
  intro t
  have hprog : (s.loadFrame i ck slot).prog =
      (s.prog.active, ck.slot, ck.chain, slotUsed ck.chain s.feram (slotAddr ck.slot), ck.netCopy) := BootFrame.recovered_slot hs
  have hstored : rebuild ((s.loadFrame i ck slot).feram.readN (slotAddr (s.loadFrame i ck slot).prog.2.1)
      (s.loadFrame i ck slot).prog.2.2.2.1) (s.loadFrame i ck slot).prog.2.2.1 = some p := by
    rw [hprog]
    exact hp
  have hparts {g : BootFrame} (hg : g.prog = (some p, (s.loadFrame i ck slot).prog.2)) (ht : t.Holds g) :
      t.prog.active = some p ∧ t.prog.slot = ck.slot ∧ t.prog.chain = ck.chain := by
    have e := ht.prog.trans hg
    rw [hprog] at e
    exact ⟨congrArg (·.1) e, congrArg (·.2.1) e, congrArg (·.2.2.1) e⟩
  rcases h.initLoad_running rfl hi hnet (by rw [hprog]; exact hs) hsig hhash hstored hb ha with hd | ⟨e, hd⟩
  · have ht := hd.dispatch.mirror
    exact ⟨ht.bootedUp rfl ⟨rfl, rfl, rfl, rfl, rfl⟩, .inl ht.state, hparts rfl ht⟩
  · have ht := hd.dispatch.mirror
    exact ⟨ht.bootedUp rfl ⟨rfl, rfl, rfl, rfl, rfl⟩, .inr ht.state, hparts rfl ht⟩

/-! ### The clauses of O26 -/

/-- A unit past B1 stays as it is. -/
theorem bootStart_started (h : s.dev.state ≠ .boot ∨ s.pwr.core = true) : Gives (.bootStart i) s s := by
  show execBootStart i s = .next s
  unfold execBootStart
  rw [if_neg]
  rcases h with h | h <;> simp [h]

/-- Firmware that does not verify. -/
theorem State.Bootable.gives_recovery (h : s.Bootable) (hself : 1024 ≤ i.selftest) (hroot : i.rootOk = true)
    (hman : i.manifestOk = true ∨ i.fallbackOk = true) (hfw : i.firmwareOk = false) :
    Does (.bootStart i) s (fun t => t.dev.state = .recovery ∧ t.pwr.core = true ∧ t.feram = s.feram ∧
      (i.ownerOk = false → bit t.flt.sticky 26 = true)) := by
  obtain ⟨g, hd, hstate, hmem, hpwr, hfaults⟩ := (h.bootHosted_holds i).bootLoader_recovery hfw
  have ht := hd.dispatch.mirror
  refine ⟨_, h.bootStart_loads hself hroot hman, ht.state.trans hstate, congrArg (·.1) (ht.pwr.trans hpwr),
    ht.feram.trans hmem, fun how => ht.faults 26 (hfaults how)⟩

/-- An owner store that does not verify. -/
theorem State.Bootable.waits_owner (h : s.Bootable) (hself : 1024 ≤ i.selftest) (hroot : i.rootOk = true)
    (hman : i.manifestOk = true ∨ i.fallbackOk = true) (hfw : i.firmwareOk = true) (how : i.ownerOk = false) :
    Does (.bootStart i) s (fun t => t.dev.state = .boot ∧ bit t.flt.sticky 26 = true ∧ t.feram = s.feram) := by
  have ht := ((h.bootHosted_holds i).bootLoader_owner rfl hfw how).dispatch.mirror
  exact ⟨_, h.bootStart_loads hself hroot hman, ht.waits⟩

/-- A self-test that does not pass. -/
theorem State.Bootable.waits_selftest (h : s.Bootable) (hself : i.selftest < 1024) :
    Does (.bootStart i) s (fun t => t.dev.state = .boot ∧ bit t.flt.sticky 27 = true ∧ t.feram = s.feram) :=
  ⟨_, by rw [h.bootStart, if_pos hself], ((h.bootTested_holds i).bootFail rfl (nomatch ·)).mirror.waits⟩

/-- A root or a manifest that does not verify. -/
theorem State.Bootable.waits_root (h : s.Bootable) (hself : 1024 ≤ i.selftest)
    (hbad : i.rootOk = false ∨ (i.manifestOk = false ∧ i.fallbackOk = false)) :
    Does (.bootStart i) s (fun t => t.dev.state = .boot ∧ bit t.flt.sticky 26 = true ∧ t.feram = s.feram) := by
  cases hroot : i.rootOk with
  | false =>
    exact ⟨_, by rw [h.bootStart, if_neg (by omega), if_pos (by simp [hroot])],
      ((h.bootTested_holds i).bootFail rfl (nomatch ·)).mirror.waits⟩
  | true =>
    obtain ⟨hm, hf⟩ := hbad.resolve_left (by rw [hroot]; exact (nomatch ·))
    exact ⟨_, by rw [h.bootStart, if_neg (by omega), if_neg (by simp [hroot]), if_pos (by simp [hm, hf])],
      ((h.bootHosted_holds i).bootFail rfl (nomatch ·)).mirror.waits⟩

end BootStart

/-- VIN good for long enough starts a unit that is off (R452, R472). -/
theorem powerOnReset_off {vin : Nat} (hs : s.dev.state = .off) (hv : s.pwr.vinGood = false) (hl : 4450 ≤ vin) :
    Gives (.powerOnReset vin) s { s with
      dev := { Device.init with part := s.dev.part, state := if s.pwr.nresetLow = true then .off else .boot, since := s.clk.ticks },
      pwr := { Power.init with vin := vin, vinMin := vin, nresetLow := s.pwr.nresetLow },
      flt := { Faults.init with lowSince := s.clk.ticks } } := by
  show execPowerOnReset vin s = _
  unfold execPowerOnReset
  rw [if_pos (by simp [hs, hv, hl])]

theorem powerOnReset_same {vin : Nat} (h : s.dev.state ≠ .off ∨ vin < 4450) : Gives (.powerOnReset vin) s s := by
  show execPowerOnReset vin s = .next s
  unfold execPowerOnReset
  rw [if_neg]
  rcases h with h | h
  · simp [h]
  · simp [Nat.not_le.mpr h]

theorem brownOut_same {vin : Nat} (h : 3900 ≤ vin) : Gives (.brownOut vin) s s := by
  show execBrownOut vin s = .next s
  unfold execBrownOut
  rw [if_neg (by simp [Nat.not_lt.mpr h])]

theorem brownOut_off {vin : Nat} (hg : s.pwr.vinGood = true) (hl : vin < 3900) : Gives (.brownOut vin) s (s.powerOff vin) := by
  show execBrownOut vin s = .next (s.powerOff vin)
  unfold execBrownOut
  rw [if_pos (by simp [hg, hl])]

/-- Settles O26: each step of boot keeps the parts of the state that `BootFrame` names, or sets them as the step's lemma says, and the
outcomes of the checks choose the steps. -/
theorem bootAndPowerOn : Obligations.BootAndPowerOn := by
  unfold Obligations.BootAndPowerOn
  refine ⟨fun s i h => bootStart_started h, fun s i hstate hcore hclk hreset hstage => ?_, fun s vin =>
    ⟨powerOnReset_off, powerOnReset_same, brownOut_same, fun hg hl => ⟨_, brownOut_off hg hl, ?_⟩⟩⟩
  · have hboot : s.Bootable := ⟨hstate, hcore, hclk, hreset, hstage⟩
    refine ⟨fun hself hroot hman => ⟨fun ck slot k hfw how hok hrows ha hb hck hnet hring hi hcopy hk => ?_,
      hboot.gives_recovery hself hroot hman, hboot.waits_owner hself hroot hman⟩, hboot.waits_selftest, hboot.waits_root⟩
    obtain ⟨c, hc, hexec⟩ := hboot.reachesLoad hself hroot hman hfw how hok hrows hck hring hcopy hk
    refine ⟨fun hs hact => ?_, fun p hs hsig hhash hp => ⟨_, hexec,
      hc.loads_running hi hnet hs hsig hhash hp hb ha⟩, fun hs hsig => ?_⟩
    · have ht := (hc.initLoad_none rfl hi hnet hs hact hb ha (cleared := false)).dispatch.mirror
      exact ⟨_, hexec, ht.bootedUp rfl ⟨rfl, rfl, rfl, rfl, rfl⟩, ht.state, ht.epoch⟩
    · obtain ⟨hst, hbit, -⟩ := (hc.initLoad_bad rfl hi hnet hs hsig (cleared := false) (lost := false)).dispatch.mirror.waits
      exact ⟨_, hexec, hst, hbit⟩
  · exact ⟨rfl, rfl, rfl, rfl, rfl, rfl, rfl, rfl, rfl, rfl, rfl, rfl, rfl, rfl, rfl, rfl, rfl⟩

end Sys2Proof.Machine
end

section
/-!
PROOF. Requests in mailboxes (R77, R333, R338-R341): what firmware leaves when it takes a request, check by check.
-/

namespace Sys2Proof.Machine

variable {s t u : State} {rest : List Nat} {m k : Nat} {r : Request} {tagOk : Bool} {plain : List Byte}

theorem Does.imp {c : Instr} {P Q : State → Prop} (h : Does c s P) (hpq : ∀ t, P t → Q t) : Does c s Q := by
  obtain ⟨t, ht, hp⟩ := h
  exact ⟨t, ht, hpq t hp⟩

/-! ### Mailboxes and sessions through operations on other parts -/

@[simp] theorem State.dispatch_hp (s : State) : s.dispatch.hp = s.hp := by
  obtain ⟨x, p, f, k, h⟩ := s.dispatch_shape
  rw [h]

@[simp] theorem State.bump_hp (s : State) (pid w : Nat) : (s.bump pid w).hp = s.hp := by
  obtain ⟨p, f, h⟩ := s.bump_shape pid w
  rw [h]

@[simp] theorem State.dispatch_mailbox (s : State) (m : Nat) : s.dispatch.mailbox m = s.mailbox m := by
  rw [State.mailbox, State.dispatch_hp, State.mailbox]

@[simp] theorem State.dispatch_session (s : State) (k : Nat) : s.dispatch.session k = s.session k := by
  rw [State.session, State.dispatch_hp, State.session]

@[simp] theorem State.bump_mailbox (s : State) (pid w m : Nat) : (s.bump pid w).mailbox m = s.mailbox m := by
  rw [State.mailbox, State.bump_hp, State.mailbox]

@[simp] theorem State.bump_session (s : State) (pid w k : Nat) : (s.bump pid w).session k = s.session k := by
  rw [State.session, State.bump_hp, State.session]

@[simp] theorem State.mirror_mailbox (s : State) (m : Nat) : s.mirror.mailbox m = s.mailbox m := rfl

@[simp] theorem State.mirror_session (s : State) (k : Nat) : s.mirror.session k = s.session k := rfl

@[simp] theorem State.setSession_mailbox (s : State) (k m : Nat) (y : Session) : (s.setSession k y).mailbox m = s.mailbox m := rfl

/-! ### A response leaves the mailbox's state and the session's place -/

theorem State.answer_state (s : State) (m completion status detail : Nat) (data : List Byte) (k : Nat) :
    ((s.answer m completion status detail data).mailbox k).state = (s.mailbox k).state := by
  by_cases hk : k = m
  · subst hk
    unfold State.answer
    extract_lets x
    split
    · rfl
    · extract_lets resp t i y e
      have ht : (t.mailbox k).state = (s.mailbox k).state := by simp [t, x]
      split
      · exact ht
      · split <;> exact ht
  · rw [State.answer_other _ _ _ _ hk]

/-- Of a session, whether it is open and the sequence that it takes next. -/
def Session.place (y : Session) : Bool × Nat := (y.isOpen, y.next)

/-- A response adds to its session's history alone. -/
theorem State.answer_place (s : State) (m completion status detail : Nat) (data : List Byte) (k : Nat) :
    ((s.answer m completion status detail data).session k).place = (s.session k).place := by
  unfold State.answer
  extract_lets x
  split
  · rfl
  · next q _ =>
    extract_lets resp t i y e
    have hy : y = s.session i := rfl
    have ht : t.session k = s.session k := rfl
    split
    · rw [ht]
    · split
      · rw [State.session_setSession]
        split
        · next hk => rw [hk, ← hy]; rfl
        · rw [ht]
      · rw [ht]

/-! ### A turn of firmware -/

/-- What taking a request may leave: the later rings, and nothing changed outside the host port, the scheduler, the contexts, the
parameters and the free values. -/
structure State.Turn (s : State) (rest : List Nat) (t : State) : Prop where
  shape : t = { s with hp := t.hp, sched := t.sched, ctxs := t.ctxs, params := t.params, freeCtr := t.freeCtr }
  rings : t.hp.rings = rest

theorem State.Turn.update (h : s.Turn rest t) {hp : HostPort} (hr : hp.rings = rest) {sched ctxs params freeCtr} :
    s.Turn rest { t with hp := hp, sched := sched, ctxs := ctxs, params := params, freeCtr := freeCtr } :=
  ⟨by rw [h.shape], hr⟩

theorem State.Turn.setMailbox (h : s.Turn rest t) {k : Nat} {x : Mailbox} : s.Turn rest (t.setMailbox k x) := h.update (by exact h.rings)

theorem State.Turn.setSession (h : s.Turn rest t) {k : Nat} {y : Session} : s.Turn rest (t.setSession k y) := h.update (by exact h.rings)

theorem State.Turn.mirror (h : s.Turn rest t) : s.Turn rest t.mirror := h.update (by exact h.rings)

theorem State.Turn.answerClear (h : s.Turn rest t) {k completion : Nat} : s.Turn rest (t.answerClear k completion) := h.setMailbox

theorem State.Turn.bump (h : s.Turn rest t) {pid w : Nat} : s.Turn rest (t.bump pid w) := by
  obtain ⟨p, f, e⟩ := t.bump_shape pid w
  rw [e]
  exact h.update (by exact h.rings)

theorem State.Turn.dispatch (h : s.Turn rest t) : s.Turn rest t.dispatch := by
  obtain ⟨x, p, f, k, e⟩ := t.dispatch_shape
  rw [e]
  exact h.update (by exact h.rings)

theorem State.Turn.answer (h : s.Turn rest t) {k completion status detail : Nat} {data : List Byte} :
    s.Turn rest (t.answer k completion status detail data) := by
  obtain ⟨x, y, e⟩ := t.answer_shape k completion status detail data
  rw [e]
  exact h.update (by exact h.rings)

/-- A turn that leaves mailbox `m` and session slot `k` as `P` says. -/
structure State.Left (s : State) (rest : List Nat) (m k : Nat) (P : Mailbox → Session → Prop) (t : State) : Prop where
  turn : s.Turn rest t
  holds : P (t.mailbox m) (t.session k)

/-- The state in which firmware takes its next request: the first ring is off, the rest of the host port as it was. -/
structure State.TakesAt (s : State) (rest : List Nat) (u : State) : Prop where
  turn : s.Turn rest u
  hp : u.hp = { s.hp with rings := rest }

theorem State.TakesAt.readHdr (h : s.TakesAt rest u) (m : Nat) : u.readHdr m = s.readHdr m := by rw [h.turn.shape]; rfl

theorem State.TakesAt.sram (h : s.TakesAt rest u) : u.sram = s.sram := by rw [h.turn.shape]

theorem State.TakesAt.clk (h : s.TakesAt rest u) : u.clk = s.clk := by rw [h.turn.shape]

theorem State.TakesAt.dev (h : s.TakesAt rest u) : u.dev = s.dev := by rw [h.turn.shape]

theorem State.TakesAt.mailbox (h : s.TakesAt rest u) (k : Nat) : u.mailbox k = s.mailbox k := by simp only [State.mailbox, h.hp]

theorem State.TakesAt.session (h : s.TakesAt rest u) (k : Nat) : u.session k = s.session k := by simp only [State.session, h.hp]

theorem State.TakesAt.findSession (h : s.TakesAt rest u) (id requester conn : Nat) :
    u.findSession id requester conn = s.findSession id requester conn := by simp only [State.findSession, h.session]

theorem State.TakesAt.provisional (h : s.TakesAt rest u) (id requester conn : Nat) :
    u.provisional id requester conn = s.provisional id requester conn := by rw [h.turn.shape]; rfl

/-- Firmware has its turn: mailbox `m` rang first, and a core does the work (R77, R333). -/
structure State.HasTurn (s : State) (m : Nat) (rest : List Nat) : Prop where
  rings : s.hp.rings = m :: rest
  serves : s.serves = true
  core : s.dispatch.sched.cores = some 0 ∨ s.tmr.freeCore = true

theorem State.HasTurn.gives (h : s.HasTurn m rest) :
    ∃ u, s.TakesAt rest u ∧ Gives (.mailboxTake tagOk plain) s (u.takeRequest m tagOk plain).dispatch.mirror := by
  have hturn : s.TakesAt rest { s.dispatch with hp := { s.dispatch.hp with rings := rest } } := by
    obtain ⟨x, p, f, k, e⟩ := s.dispatch_shape
    rw [e]
    exact ⟨⟨rfl, rfl⟩, rfl⟩
  refine ⟨_, hturn, ?_⟩
  show execMailboxTake tagOk plain s = _
  have hcore : (s.serves && (s.dispatch.sched.cores == some 0 || s.tmr.freeCore)) = true := by simp [h.serves, h.core]
  simp only [execMailboxTake, h.rings, hcore, if_true]

/-- What the checks leave is what the command leaves: the dispatch and the mirrors after it touch no mailbox and no session. -/
theorem State.HasTurn.does {k : Nat} {P : Mailbox → Session → Prop} (h : s.HasTurn m rest)
    (hp : ∀ u, s.TakesAt rest u → s.Left rest m k P (u.takeRequest m tagOk plain)) :
    Does (.mailboxTake tagOk plain) s (s.Left rest m k P) := by
  obtain ⟨u, hu, hg⟩ := h.gives (tagOk := tagOk) (plain := plain)
  obtain ⟨hturn, hholds⟩ := hp u hu
  exact ⟨_, hg, hturn.dispatch.mirror, by simpa using hholds⟩

theorem mailboxTake_same (h : s.hp.rings = [] ∨ s.serves = false) : Gives (.mailboxTake tagOk plain) s s := by
  show execMailboxTake tagOk plain s = .next s
  unfold execMailboxTake
  split
  · rfl
  · next m rest hr =>
    have hs : s.serves = false := h.resolve_left (by rw [hr]; exact (nomatch ·))
    simp [hs]

/-! ### The request and the order of its checks (Table HOST-8) -/

/-- The request that the frame in mailbox `m` carries, `plain` the plain payload of a sealed one. -/
def State.frameRequest (s : State) (m : Nat) (plain : List Byte) : Request :=
  let h := s.readHdr m
  { opcode := h.op, session := h.session, seq := h.seq,
    payload := if h.flags = 4 then s.sram.readN (mbxAddr m + 16) h.len else (plain ++ List.replicate h.len 0#8).take h.len,
    requester := (s.mailbox m).owner }

/-- Mailbox `m` is BUSY with its request, before any check. -/
def State.taken (s : State) (m : Nat) (plain : List Byte) : State :=
  s.setMailbox m { s.mailbox m with
    state := .busy, req := some (s.frameRequest m plain), resp := none, waitFrom := none, committed := false,
    lastSession := (s.readHdr m).session, lastSeq := (s.readHdr m).seq, takenAt := s.clk.ticks }

/-- Check 3: the frame names a session that is there, or none where its command needs none (R338, R339). -/
def State.sessionKnown (s : State) (m : Nat) : Bool :=
  let h := s.readHdr m
  let x := s.mailbox m
  if h.session = 0 then h.op == 0x01 || h.op == 0x02 || h.op == 0x10
  else if h.op = 0x10 then (s.provisional h.session x.owner x.conn).isSome
  else (s.findSession h.session x.owner x.conn).isSome

/-- Check 4: a clear frame of no session has a tag of zeros, any other is sealed and its tag verifies (R338). -/
def State.tagPasses (s : State) (m : Nat) (tagOk : Bool) : Bool :=
  let h := s.readHdr m
  if h.session = 0 then h.flags == 4 && (s.sram.readN (mbxAddr m + 16 + h.len) 16).all (fun b => b == 0#8)
  else !(h.flags == 4) && tagOk

/-- The session of a request that passed check 4: its failures in a row are over, and it is not idle. -/
def State.verified (s : State) (m : Nat) : State :=
  let k := (s.readHdr m).session % 16
  s.setSession k { s.session k with authFails := 0, lastReq := s.clk.ticks }

theorem State.takeRequest_eq (s : State) (m : Nat) (tagOk : Bool) (plain : List Byte) :
    s.takeRequest m tagOk plain =
      if (s.readHdr m).frameOk = false then (s.taken m plain).answerClear m 1
      else if opKnown (s.readHdr m).op = false then (s.taken m plain).answerClear m 2
      else if s.sessionKnown m = false then (s.taken m plain).answerClear m 3
      else if s.tagPasses m tagOk = false then ((s.taken m plain).answerClear m 4).authFailed (s.readHdr m).session
      else if (s.readHdr m).session = 0 ∨ (s.readHdr m).op = 0x10 then (s.taken m plain).accept_ m (s.frameRequest m plain)
      else ((s.verified m).taken m plain).sequenceCheck m (s.frameRequest m plain) := by
  simp only [State.takeRequest, Bool.not_eq_true', beq_iff_eq]
  rfl

/-- A request that passes checks 1 to 4. -/
structure State.Passes (s : State) (m : Nat) (tagOk : Bool) : Prop where
  frame : (s.readHdr m).frameOk = true
  op : opKnown (s.readHdr m).op = true
  session : s.sessionKnown m = true
  tag : s.tagPasses m tagOk = true

theorem State.Passes.takeRequest_accepts (h : s.Passes m tagOk) (hs : (s.readHdr m).session = 0 ∨ (s.readHdr m).op = 0x10) :
    s.takeRequest m tagOk plain = (s.taken m plain).accept_ m (s.frameRequest m plain) := by
  rw [State.takeRequest_eq, if_neg (by simp [h.frame]), if_neg (by simp [h.op]), if_neg (by simp [h.session]),
    if_neg (by simp [h.tag]), if_pos hs]

theorem State.Passes.takeRequest_sequences (h : s.Passes m tagOk) (hs : (s.readHdr m).session ≠ 0) (ho : (s.readHdr m).op ≠ 0x10) :
    s.takeRequest m tagOk plain = ((s.verified m).taken m plain).sequenceCheck m (s.frameRequest m plain) := by
  rw [State.takeRequest_eq, if_neg (by simp [h.frame]), if_neg (by simp [h.op]), if_neg (by simp [h.session]),
    if_neg (by simp [h.tag]), if_neg (by simp [hs, ho])]

/-! ### What a mailbox holds after its request was taken -/

/-- The request runs: it has passed its checks and has no response yet. -/
def Mailbox.Runs (x : Mailbox) (r : Request) : Prop := x.state = .busy ∧ x.req = some r ∧ x.resp = none ∧ x.waitFrom = none

/-- A response that `ok` accepts stands in the mailbox. -/
def Mailbox.Answers (x : Mailbox) (ok : Response → Prop) : Prop := x.state = .busy ∧ ∃ p, x.resp = some p ∧ ok p

/-- A clear response with an empty payload stands in the mailbox (R338). -/
def Mailbox.Ends (x : Mailbox) (completion : Nat) : Prop :=
  x.Answers (fun p => p.completion = completion ∧ p.clear = true ∧ p.data = [])

/-- The request waits for earlier sequences since `tick` (R340). -/
def Mailbox.Waits (x : Mailbox) (tick : Nat) : Prop := x.state = .busy ∧ x.resp = none ∧ x.waitFrom = some tick

@[simp] theorem State.taken_session (s : State) (m : Nat) (plain : List Byte) (k : Nat) : (s.taken m plain).session k = s.session k := rfl

theorem State.taken_mailbox (s : State) (m : Nat) (plain : List Byte) :
    (s.taken m plain).mailbox m = { s.mailbox m with
      state := .busy, req := some (s.frameRequest m plain), resp := none, waitFrom := none, committed := false,
      lastSession := (s.readHdr m).session, lastSeq := (s.readHdr m).seq, takenAt := s.clk.ticks } := by
  simp [State.taken]

theorem State.taken_other (s : State) (plain : List Byte) (h : k ≠ m) : (s.taken m plain).mailbox k = s.mailbox k := by
  simp [State.taken, h]

theorem State.answerClear_mailbox (s : State) (m completion : Nat) :
    (s.answerClear m completion).mailbox m = { s.mailbox m with
      resp := some (Response.mk completion 0 0 [] false 0 true none), waitFrom := none } := by
  simp [State.answerClear]

theorem State.answerClear_session (s : State) (m completion k : Nat) : (s.answerClear m completion).session k = s.session k := rfl

/-- A check that fails before the sequence is looked at. -/
theorem State.taken_answerClear_ends (s : State) (m : Nat) (plain : List Byte) (completion : Nat) :
    (((s.taken m plain).answerClear m completion).mailbox m).Ends completion := by
  rw [State.answerClear_mailbox, State.taken_mailbox]
  exact ⟨rfl, _, rfl, rfl, rfl, rfl⟩

theorem State.answer_answers {completion : Nat} (hstate : (s.mailbox m).state = .busy) (hreq : (s.mailbox m).req = some r)
    (status detail : Nat) (data : List Byte) :
    ((s.answer m completion status detail data).mailbox m).Answers (fun p => p.completion = completion) := by
  obtain ⟨p, hp, hc, -⟩ := State.answer_answered completion status detail data hreq
  exact ⟨(s.answer_state m completion status detail data m).trans hstate, p, hp, hc⟩

/-! ### A failing tag (Table HOST-11) -/

/-- A failing tag short of the eighth in a row is counted on its session. -/
theorem State.authFailed_counts {id : Nat} (hopen : (s.session (id % 16)).isOpen = true) (hid : (s.session (id % 16)).id = id)
    (hfew : (s.session (id % 16)).authFails + 1 < 8) :
    s.authFailed id =
      (s.bump 0x112 32).setSession (id % 16) { s.session (id % 16) with authFails := (s.session (id % 16)).authFails + 1 } := by
  unfold State.authFailed
  simp only [State.bump_session, hopen, hid, BEq.rfl, Bool.and_self, if_true]
  exact if_neg (by omega)

theorem State.findSession_open {id requester conn : Nat} (h : s.findSession id requester conn ≠ none) :
    (s.session (id % 16)).isOpen = true ∧ (s.session (id % 16)).id = id := by
  unfold State.findSession at h
  extract_lets k x at h
  split at h
  · next hx =>
    simp only [Bool.and_eq_true, beq_iff_eq] at hx
    obtain ⟨⟨⟨hopen, hid⟩, -⟩, -⟩ := hx
    exact ⟨hopen, hid⟩
  · exact absurd rfl h

/-! ### Checks 6 and 7 -/

theorem State.stateServes_congr (hdev : t.dev = s.dev) (op sub : Nat) : t.stateServes op sub = s.stateServes op sub := by
  unfold State.stateServes
  rw [hdev]

theorem State.roleServes_congr (hdev : t.dev = s.dev) (op kind : Nat) : t.roleServes op kind = s.roleServes op kind := by
  unfold State.roleServes
  rw [hdev]

/-- The late checks read the device state, the role and the session's rights only. -/
theorem State.lateChecks_congr (hdev : t.dev = s.dev) (hr : (t.session (r.session % 16)).rights = (s.session (r.session % 16)).rights) :
    t.lateChecks r = s.lateChecks r := by
  simp only [State.lateChecks, State.stateServes_congr hdev, State.roleServes_congr hdev, hr]

/-- A request past check 5: its session, if it has one, moves on to the next sequence. -/
def State.accepted (s : State) (m : Nat) (r : Request) : State :=
  let x := s.mailbox m
  let k := r.session % 16
  let y := s.session k
  let t := s.setMailbox m { x with state := .busy, req := some r, waitFrom := none, committed := true }
  if r.session = 0 ∨ r.opcode = 0x10 then t else t.setSession k { y with next := y.next + 1, lastReq := s.clk.ticks }

theorem State.accepted_mailbox (s : State) (m : Nat) (r : Request) :
    (s.accepted m r).mailbox m = { s.mailbox m with state := .busy, req := some r, waitFrom := none, committed := true } := by
  unfold State.accepted
  extract_lets x k y t
  split <;> simp [t, x]

theorem State.accepted_session (s : State) (m : Nat) (hs : r.session ≠ 0) (ho : r.opcode ≠ 0x10) :
    (s.accepted m r).session (r.session % 16) =
      { s.session (r.session % 16) with next := (s.session (r.session % 16)).next + 1, lastReq := s.clk.ticks } := by
  simp [State.accepted, hs, ho]

theorem State.accepted_lateChecks (s : State) (m : Nat) (r : Request) : (s.accepted m r).lateChecks r = s.lateChecks r := by
  unfold State.accepted
  extract_lets x k y t
  split
  · exact State.lateChecks_congr rfl rfl
  · exact State.lateChecks_congr rfl (by simp [k, y])

theorem State.accept_eq (s : State) (m : Nat) (r : Request) :
    s.accept_ m r =
      if s.lateChecks r = 0 then s.accepted m r else (s.accepted m r).answer m (s.lateChecks r) 0 0 [] := by
  rw [← s.accepted_lateChecks m r]
  rfl

theorem State.Turn.accepted (h : s.Turn rest t) : s.Turn rest (t.accepted m r) := by
  unfold State.accepted
  extract_lets x k y t'
  split
  · exact h.setMailbox
  · exact h.setMailbox.setSession

theorem State.Turn.accept (h : s.Turn rest t) : s.Turn rest (t.accept_ m r) := by
  rw [State.accept_eq]
  split
  · exact h.accepted
  · exact h.accepted.answer

theorem State.accept_runs (hl : s.lateChecks r = 0) (hresp : (s.mailbox m).resp = none) : ((s.accept_ m r).mailbox m).Runs r := by
  rw [State.accept_eq, if_pos hl, State.accepted_mailbox]
  exact ⟨rfl, rfl, hresp, rfl⟩

theorem State.accept_answers (hl : s.lateChecks r ≠ 0) :
    ((s.accept_ m r).mailbox m).Answers (fun p => p.completion = s.lateChecks r) := by
  rw [State.accept_eq, if_neg hl]
  exact State.answer_answers (r := r) (by rw [State.accepted_mailbox]) (by rw [State.accepted_mailbox]) 0 0 []

/-- Whatever the late checks say, the session has moved on (R340). -/
theorem State.accept_next (m : Nat) (hs : r.session ≠ 0) (ho : r.opcode ≠ 0x10) :
    ((s.accept_ m r).session (r.session % 16)).next = (s.session (r.session % 16)).next + 1 := by
  have hacc : ((s.accepted m r).session (r.session % 16)).next = (s.session (r.session % 16)).next + 1 := by
    rw [State.accepted_session s m hs ho]
  rw [State.accept_eq]
  split
  · exact hacc
  · rw [← hacc]
    exact congrArg Prod.snd (State.answer_place _ _ _ _ _ _ _)

/-! ### Check 5: sequences (R340) -/

/-- Whether another request of the session is at work does not depend on mailbox `m`. -/
theorem State.sessionBusy_congr {id : Nat} (h : ∀ k, k ≠ m → t.mailbox k = s.mailbox k) :
    t.sessionBusy id m = s.sessionBusy id m := by
  unfold State.sessionBusy
  congr 1
  funext k
  by_cases hk : k = m
  · simp [hk]
  · rw [h k hk]

/-- The mailbox as check 5 finds it. -/
def State.queued (s : State) (m : Nat) (r : Request) : State := s.setMailbox m { s.mailbox m with state := .busy, req := some r }

/-- The request begins to wait for earlier ones. -/
def State.startWait (s : State) (m : Nat) : State := s.setMailbox m { s.mailbox m with waitFrom := some s.clk.ticks }

theorem State.sequenceCheck_eq (s : State) (m : Nat) (r : Request) :
    s.sequenceCheck m r =
      let k := r.session % 16
      let y := s.session k
      let t := s.queued m r
      let u := t.startWait m
      if 2 ^ 32 ≤ y.next then t.badSeq m
      else if r.seq = y.next then (if t.sessionBusy r.session m then u else t.accept_ m r)
      else if y.next < r.seq then u.setSession k { u.session k with lastReq := u.clk.ticks }
      else
        match (if y.next ≤ r.seq + 16 then y.history.find? (fun e => e.seq == r.seq) else none) with
        | some e => t.repeatAnswer m k e
        | none => t.badSeq m := rfl

theorem State.queued_mailbox (s : State) (m : Nat) (r : Request) :
    (s.queued m r).mailbox m = { s.mailbox m with state := .busy, req := some r } := by
  simp [State.queued]

theorem State.queued_sessionBusy (s : State) (m : Nat) (r : Request) (id : Nat) :
    (s.queued m r).sessionBusy id m = s.sessionBusy id m :=
  State.sessionBusy_congr fun k hk => by simp [State.queued, hk]

theorem State.queued_lateChecks (s : State) (m : Nat) (r : Request) : (s.queued m r).lateChecks r = s.lateChecks r :=
  State.lateChecks_congr rfl rfl

theorem State.startWait_mailbox (s : State) (m : Nat) :
    (s.startWait m).mailbox m = { s.mailbox m with waitFrom := some s.clk.ticks } := by
  simp [State.startWait]

section Sequence
variable (hnext : (s.session (r.session % 16)).next < 2 ^ 32)
include hnext

theorem State.sequenceCheck_accepts (heq : r.seq = (s.session (r.session % 16)).next) (hbusy : s.sessionBusy r.session m = false) :
    s.sequenceCheck m r = (s.queued m r).accept_ m r := by
  rw [State.sequenceCheck_eq]
  extract_lets k y t u
  rw [if_neg (Nat.not_le.mpr hnext), if_pos heq, if_neg (by simp [t, State.queued_sessionBusy, hbusy])]

/-- A request that comes before its turn waits, and its session stays where it is. -/
theorem State.sequenceCheck_waits (h : (s.session (r.session % 16)).next < r.seq ∨
    (r.seq = (s.session (r.session % 16)).next ∧ s.sessionBusy r.session m = true)) :
    (s.sequenceCheck m r).mailbox m = { s.mailbox m with state := .busy, req := some r, waitFrom := some s.clk.ticks } ∧
      ((s.sequenceCheck m r).session (r.session % 16)).next = (s.session (r.session % 16)).next := by
  rw [State.sequenceCheck_eq]
  extract_lets k y t u
  have hmbx : u.mailbox m = { s.mailbox m with state := .busy, req := some r, waitFrom := some s.clk.ticks } := by
    rw [State.startWait_mailbox, State.queued_mailbox]
    rfl
  have hsess : u.session k = s.session k := rfl
  rw [if_neg (Nat.not_le.mpr hnext)]
  rcases h with hlt | ⟨heq, hbusy⟩
  · rw [if_neg (Nat.ne_of_gt hlt), if_pos hlt]
    exact ⟨hmbx, by rw [State.session_setSession, if_pos rfl]; rfl⟩
  · rw [if_pos heq, if_pos (by simp [t, State.queued_sessionBusy, hbusy])]
    exact ⟨hmbx, by rw [hsess]⟩

theorem State.sequenceCheck_repeats {e : HistEntry} (hlt : r.seq < (s.session (r.session % 16)).next)
    (hnear : (s.session (r.session % 16)).next ≤ r.seq + 16)
    (he : (s.session (r.session % 16)).history.find? (fun e => e.seq == r.seq) = some e) :
    s.sequenceCheck m r = (s.queued m r).repeatAnswer m (r.session % 16) e := by
  rw [State.sequenceCheck_eq]
  extract_lets k y t u
  rw [if_neg (Nat.not_le.mpr hnext), if_neg (Nat.ne_of_lt hlt), if_neg (Nat.lt_asymm hlt), if_pos hnear, he]

/-- A past sequence is on record only among the last 16. -/
theorem State.sequenceCheck_badSeq (hlt : r.seq < (s.session (r.session % 16)).next)
    (hold : r.seq + 16 < (s.session (r.session % 16)).next ∨ ∀ e ∈ (s.session (r.session % 16)).history, e.seq ≠ r.seq) :
    s.sequenceCheck m r = (s.queued m r).badSeq m := by
  have hnone : (if (s.session (r.session % 16)).next ≤ r.seq + 16
      then (s.session (r.session % 16)).history.find? (fun e => e.seq == r.seq) else none) = none := by
    rcases hold with hold | hold
    · exact if_neg (Nat.not_le.mpr hold)
    · have hfind : (s.session (r.session % 16)).history.find? (fun e => e.seq == r.seq) = none := by simpa using hold
      rw [hfind, ite_self]
  rw [State.sequenceCheck_eq]
  extract_lets k y t u
  rw [if_neg (Nat.not_le.mpr hnext), if_neg (Nat.ne_of_lt hlt), if_neg (Nat.lt_asymm hlt), hnone]

end Sequence

theorem State.Turn.badSeq (h : s.Turn rest t) : s.Turn rest (t.badSeq m) := h.bump.setMailbox

theorem State.Turn.repeatAnswer (h : s.Turn rest t) {e : HistEntry} : s.Turn rest (t.repeatAnswer m k e) := h.setSession.setMailbox

theorem State.Turn.ite {p : Prop} [Decidable p] (ht : s.Turn rest t) (hu : s.Turn rest u) : s.Turn rest (if p then t else u) := by
  split
  · exact ht
  · exact hu

theorem State.Turn.sequenceCheck (h : s.Turn rest t) : s.Turn rest (t.sequenceCheck m r) := by
  rw [State.sequenceCheck_eq]
  extract_lets k y q w
  have hq : s.Turn rest q := h.setMailbox
  have hw : s.Turn rest w := hq.setMailbox
  clear_value w q
  refine .ite hq.badSeq (.ite (.ite hw hq.accept) (.ite hw.setSession ?_))
  split
  · exact hq.repeatAnswer
  · exact hq.badSeq

theorem State.repeatAnswer_answers (s : State) (m k : Nat) (e : HistEntry) (h : (s.mailbox m).state = .busy) :
    ((s.repeatAnswer m k e).mailbox m).Answers (fun p => p.rep = true ∧ p.completion = e.completion ∧ p.status = e.status ∧
      p.reply = e.replies ∧ p.data = []) := by
  unfold State.repeatAnswer
  simp only [State.mailbox_setMailbox, if_true, State.setSession_mailbox]
  exact ⟨h, _, rfl, rfl, rfl, rfl, rfl, rfl⟩

theorem State.badSeq_answers (s : State) (m : Nat) (h : (s.mailbox m).state = .busy) :
    ((s.badSeq m).mailbox m).Answers (fun p => p.completion = 5) := by
  unfold State.badSeq
  simp only [State.mailbox_setMailbox, if_true, State.bump_mailbox]
  exact ⟨h, _, rfl, rfl⟩

theorem State.queued_state (s : State) (m : Nat) (r : Request) : ((s.queued m r).mailbox m).state = .busy := by
  rw [State.queued_mailbox]

/-! ### What firmware does with the request, by its kind -/

theorem State.Turn.taken (h : s.Turn rest t) : s.Turn rest (t.taken m plain) := h.setMailbox

theorem State.taken_lateChecks (s : State) (m : Nat) (plain : List Byte) (r : Request) :
    (s.taken m plain).lateChecks r = s.lateChecks r := State.lateChecks_congr rfl rfl

theorem State.TakesAt.frameRequest (h : s.TakesAt rest u) (m : Nat) (plain : List Byte) :
    u.frameRequest m plain = s.frameRequest m plain := by
  simp only [State.frameRequest, h.readHdr, h.sram, h.mailbox]

theorem State.TakesAt.lateChecks (h : s.TakesAt rest u) (r : Request) : u.lateChecks r = s.lateChecks r :=
  State.lateChecks_congr h.dev (by rw [h.session])

theorem State.TakesAt.sessionKnown (h : s.TakesAt rest u) (m : Nat) : u.sessionKnown m = s.sessionKnown m := by
  simp only [State.sessionKnown, h.readHdr, h.mailbox, h.provisional, h.findSession]

theorem State.TakesAt.tagPasses (h : s.TakesAt rest u) (m : Nat) (tagOk : Bool) : u.tagPasses m tagOk = s.tagPasses m tagOk := by
  simp only [State.tagPasses, h.readHdr, h.sram]

theorem State.TakesAt.passes (h : s.TakesAt rest u) (hp : s.Passes m tagOk) : u.Passes m tagOk :=
  ⟨by rw [h.readHdr, hp.frame], by rw [h.readHdr, hp.op], by rw [h.sessionKnown, hp.session], by rw [h.tagPasses, hp.tag]⟩

namespace State.HasTurn
variable (h : s.HasTurn m rest)
include h

/-- A check before the sequence's fails: the request ends (Table HOST-8). -/
theorem ends {completion : Nat} (hfail : ∀ u, s.TakesAt rest u →
      u.takeRequest m tagOk plain = (u.taken m plain).answerClear m completion) :
    Does (.mailboxTake tagOk plain) s (s.Left rest m k (fun x _ => x.Ends completion)) := by
  refine h.does fun u hu => ?_
  rw [hfail u hu]
  exact ⟨hu.turn.taken.answerClear, u.taken_answerClear_ends m plain completion⟩

theorem ends_malformed (hf : (s.readHdr m).frameOk = false) :
    Does (.mailboxTake tagOk plain) s (s.Left rest m k (fun x _ => x.Ends 1)) :=
  h.ends fun u hu => by rw [State.takeRequest_eq, if_pos (by rw [hu.readHdr, hf])]

theorem ends_unknownOp (hf : (s.readHdr m).frameOk = true) (ho : opKnown (s.readHdr m).op = false) :
    Does (.mailboxTake tagOk plain) s (s.Left rest m k (fun x _ => x.Ends 2)) :=
  h.ends fun u hu => by
    rw [State.takeRequest_eq, if_neg (by simp [hu.readHdr, hf]), if_pos (by rw [hu.readHdr, ho])]

theorem ends_unknownSession (hf : (s.readHdr m).frameOk = true) (ho : opKnown (s.readHdr m).op = true)
    (hk : s.sessionKnown m = false) : Does (.mailboxTake tagOk plain) s (s.Left rest m k (fun x _ => x.Ends 3)) :=
  h.ends fun u hu => by
    rw [State.takeRequest_eq, if_neg (by simp [hu.readHdr, hf]), if_neg (by simp [hu.readHdr, ho]),
      if_pos (by rw [hu.sessionKnown, hk])]

/-- A failing tag is counted on the open session that the frame names. -/
theorem ends_badTag (hf : (s.readHdr m).frameOk = true) (ho : opKnown (s.readHdr m).op = true) (hk : s.sessionKnown m = true)
    (ht : s.tagPasses m tagOk = false) (hopen : (s.session ((s.readHdr m).session % 16)).isOpen = true)
    (hid : (s.session ((s.readHdr m).session % 16)).id = (s.readHdr m).session)
    (hfew : (s.session ((s.readHdr m).session % 16)).authFails + 1 < 8) :
    Does (.mailboxTake tagOk plain) s (s.Left rest m ((s.readHdr m).session % 16) (fun x y =>
      x.Ends 4 ∧ y.authFails = (s.session ((s.readHdr m).session % 16)).authFails + 1)) := by
  refine h.does fun u hu => ?_
  have hsess : ((u.taken m plain).answerClear m 4).session ((s.readHdr m).session % 16) =
      s.session ((s.readHdr m).session % 16) := by
    rw [State.answerClear_session, State.taken_session, hu.session]
  rw [State.takeRequest_eq, if_neg (by simp [hu.readHdr, hf]), if_neg (by simp [hu.readHdr, ho]),
    if_neg (by simp [hu.sessionKnown, hk]), if_pos (by rw [hu.tagPasses, ht]), hu.readHdr,
    State.authFailed_counts (by rw [hsess, hopen]) (by rw [hsess, hid]) (by rw [hsess]; exact hfew), hsess]
  refine ⟨hu.turn.taken.answerClear.bump.setSession, ?_⟩
  rw [State.setSession_mailbox, State.bump_mailbox, State.session_setSession, if_pos rfl]
  exact ⟨u.taken_answerClear_ends m plain 4, rfl⟩

section Unsequenced
variable (hp : s.Passes m tagOk) (hs : (s.readHdr m).session = 0 ∨ (s.readHdr m).op = 0x10)
include hp hs

/-- A clear request, or the second leg of an OPEN, runs where checks 6 and 7 let it. -/
theorem runs (hl : s.lateChecks (s.frameRequest m plain) = 0) :
    Does (.mailboxTake tagOk plain) s (s.Left rest m k (fun x _ => x.Runs (s.frameRequest m plain))) := by
  refine h.does fun u hu => ?_
  rw [(hu.passes hp).takeRequest_accepts (by rwa [hu.readHdr]), hu.frameRequest]
  exact ⟨hu.turn.taken.accept, State.accept_runs (by rw [State.taken_lateChecks, hu.lateChecks, hl]) (by rw [State.taken_mailbox])⟩

theorem answersLate (hl : s.lateChecks (s.frameRequest m plain) ≠ 0) :
    Does (.mailboxTake tagOk plain) s (s.Left rest m k (fun x _ =>
      x.Answers (fun p => p.completion = s.lateChecks (s.frameRequest m plain)))) := by
  refine h.does fun u hu => ?_
  have hlate : (u.taken m plain).lateChecks (s.frameRequest m plain) = s.lateChecks (s.frameRequest m plain) := by
    rw [State.taken_lateChecks, hu.lateChecks]
  rw [(hu.passes hp).takeRequest_accepts (by rwa [hu.readHdr]), hu.frameRequest, ← hlate]
  exact ⟨hu.turn.taken.accept, State.accept_answers (by rwa [hlate])⟩

end Unsequenced

end State.HasTurn

/-- The state in which check 5 looks at a session's request: the mailbox is taken, and the session's sequence and history are those of
`s`. -/
structure State.ChecksAt (s : State) (rest : List Nat) (m : Nat) (r : Request) (v : State) : Prop where
  turn : s.Turn rest v
  clk : v.clk = s.clk
  resp : (v.mailbox m).resp = none
  next : (v.session (r.session % 16)).next = (s.session (r.session % 16)).next
  history : (v.session (r.session % 16)).history = (s.session (r.session % 16)).history
  late : v.lateChecks r = s.lateChecks r
  busy : v.sessionBusy r.session m = s.sessionBusy r.session m

theorem State.TakesAt.checksAt (h : s.TakesAt rest u) (m : Nat) (plain : List Byte) :
    s.ChecksAt rest m (s.frameRequest m plain) ((u.verified m).taken m plain) := by
  have hk : (s.frameRequest m plain).session % 16 = (u.readHdr m).session % 16 := by rw [h.readHdr]; rfl
  have hsess : ((u.verified m).taken m plain).session ((s.frameRequest m plain).session % 16) =
      { s.session ((s.frameRequest m plain).session % 16) with authFails := 0, lastReq := u.clk.ticks } := by
    rw [State.taken_session, State.verified, State.session_setSession, if_pos hk, ← hk, h.session]
  constructor
  case turn => exact h.turn.setSession.taken
  case clk => exact h.clk
  case resp => rw [State.taken_mailbox]
  case next => rw [hsess]
  case history => rw [hsess]
  case late => exact State.lateChecks_congr h.dev (by rw [hsess])
  case busy =>
    exact State.sessionBusy_congr fun k hk => by
      rw [State.taken_other _ _ hk, State.verified, State.setSession_mailbox, h.mailbox]

/-- What check 5 leaves is what the command leaves. -/
theorem State.HasTurn.sequenced {P : Mailbox → Session → Prop} (h : s.HasTurn m rest) (hp : s.Passes m tagOk)
    (hs : (s.readHdr m).session ≠ 0) (ho : (s.readHdr m).op ≠ 0x10)
    (hv : ∀ v, s.ChecksAt rest m (s.frameRequest m plain) v →
      P ((v.sequenceCheck m (s.frameRequest m plain)).mailbox m) ((v.sequenceCheck m (s.frameRequest m plain)).session k)) :
    Does (.mailboxTake tagOk plain) s (s.Left rest m k P) := by
  refine h.does fun u hu => ?_
  have hc := hu.checksAt m plain
  rw [(hu.passes hp).takeRequest_sequences (by rwa [hu.readHdr]) (by rwa [hu.readHdr]), hu.frameRequest]
  exact ⟨hc.turn.sequenceCheck, hv _ hc⟩

namespace State.ChecksAt
variable {v : State} (h : s.ChecksAt rest m r v) (hnext : (s.session (r.session % 16)).next < 2 ^ 32)
include h hnext

section InTurn
variable (heq : r.seq = (s.session (r.session % 16)).next) (hbusy : s.sessionBusy r.session m = false)
include heq hbusy

theorem accepts : v.sequenceCheck m r = (v.queued m r).accept_ m r :=
  State.sequenceCheck_accepts (by rwa [h.next]) (by rw [h.next, heq]) (by rw [h.busy, hbusy])

theorem next_moves (hs : r.session ≠ 0) (ho : r.opcode ≠ 0x10) :
    ((v.sequenceCheck m r).session (r.session % 16)).next = r.seq + 1 := by
  rw [h.accepts hnext heq hbusy, State.accept_next m hs ho, heq]
  exact congrArg (· + 1) h.next

theorem runs (hl : s.lateChecks r = 0) : ((v.sequenceCheck m r).mailbox m).Runs r := by
  rw [h.accepts hnext heq hbusy]
  exact State.accept_runs (by rw [State.queued_lateChecks, h.late, hl]) (by rw [State.queued_mailbox]; exact h.resp)

theorem answersLate (hl : s.lateChecks r ≠ 0) :
    ((v.sequenceCheck m r).mailbox m).Answers (fun p => p.completion = s.lateChecks r) := by
  have hlate : (v.queued m r).lateChecks r = s.lateChecks r := by rw [State.queued_lateChecks, h.late]
  rw [h.accepts hnext heq hbusy, ← hlate]
  exact State.accept_answers (by rwa [hlate])

end InTurn

theorem waits (hw : (s.session (r.session % 16)).next < r.seq ∨
      (r.seq = (s.session (r.session % 16)).next ∧ s.sessionBusy r.session m = true)) :
    ((v.sequenceCheck m r).mailbox m).Waits s.clk.ticks ∧
      ((v.sequenceCheck m r).session (r.session % 16)).next = (s.session (r.session % 16)).next := by
  obtain ⟨hm, hn⟩ := State.sequenceCheck_waits (s := v) (m := m) (r := r) (by rwa [h.next]) (by rwa [h.next, h.busy])
  rw [hm, hn, h.next]
  exact ⟨⟨rfl, h.resp, by rw [h.clk]⟩, rfl⟩

theorem repeats {e : HistEntry} (hlt : r.seq < (s.session (r.session % 16)).next)
    (hnear : (s.session (r.session % 16)).next ≤ r.seq + 16)
    (he : (s.session (r.session % 16)).history.find? (fun e => e.seq == r.seq) = some e) :
    ((v.sequenceCheck m r).mailbox m).Answers (fun p => p.rep = true ∧ p.completion = e.completion ∧ p.status = e.status ∧
      p.reply = e.replies ∧ p.data = []) := by
  rw [State.sequenceCheck_repeats (by rwa [h.next]) (by rwa [h.next]) (by rwa [h.next]) (by rwa [h.history])]
  exact State.repeatAnswer_answers _ _ _ e (v.queued_state m r)

theorem badSeq (hlt : r.seq < (s.session (r.session % 16)).next)
    (hold : r.seq + 16 < (s.session (r.session % 16)).next ∨ ∀ e ∈ (s.session (r.session % 16)).history, e.seq ≠ r.seq) :
    ((v.sequenceCheck m r).mailbox m).Answers (fun p => p.completion = 5) := by
  rw [State.sequenceCheck_badSeq (by rwa [h.next]) (by rwa [h.next]) (by rwa [h.next, h.history])]
  exact State.badSeq_answers _ m (v.queued_state m r)

end State.ChecksAt

end Sys2Proof.Machine
end

section
/-!
PROOF. Responses in mailboxes (R329, R334, R337, R342, R416): what the handing back of a response leaves, and O36.
-/

namespace Sys2Proof.Machine

variable {s t u : State} {m : Nat} {r : Request} {p : Response} {tagOk : Bool}

/-! ### What the end of a session leaves of the mail -/

/-- `t` has the memories, the interrupt bits and the mailboxes' states of `s`. -/
structure State.MailKept (s t : State) : Prop where
  sram : t.sram = s.sram
  feram : t.feram = s.feram
  irqStat : t.hp.irqStat = s.hp.irqStat
  state : ∀ k, (t.mailbox k).state = (s.mailbox k).state

theorem State.MailKept.refl (s : State) : s.MailKept s := ⟨rfl, rfl, rfl, fun _ => rfl⟩

theorem State.MailKept.trans (h : s.MailKept t) (k : t.MailKept u) : s.MailKept u :=
  ⟨k.sram.trans h.sram, k.feram.trans h.feram, k.irqStat.trans h.irqStat, fun m => (k.state m).trans (h.state m)⟩

theorem State.MailKept.ite {p : Prop} [Decidable p] (ht : s.MailKept t) (hu : s.MailKept u) : s.MailKept (if p then t else u) := by
  split
  · exact ht
  · exact hu

theorem State.answer_mailKept (s : State) (m completion status detail : Nat) (data : List Byte) :
    s.MailKept (s.answer m completion status detail data) := by
  obtain ⟨x, y, e⟩ := s.answer_shape m completion status detail data
  exact ⟨by rw [e], by rw [e], by rw [e], s.answer_state m completion status detail data⟩

theorem State.answerClear_mailKept (s : State) (m completion : Nat) : s.MailKept (s.answerClear m completion) := by
  refine ⟨rfl, rfl, rfl, fun k => ?_⟩
  simp only [State.answerClear, State.mailbox_setMailbox]
  split
  · next hk => rw [hk]
  · rfl

theorem State.abortWaiting_mailKept (s : State) (id : Nat) : s.MailKept (s.abortWaiting id) := by
  unfold State.abortWaiting
  generalize List.range 16 = l
  induction l generalizing s with
  | nil => exact .refl s
  | cons a l ih =>
    rw [List.foldl_cons]
    refine State.MailKept.trans ?_ (ih _)
    dsimp only
    split
    · exact .ite (s.answerClear_mailKept a 0x0B) (.refl s)
    · exact .refl s

/-- The release of the program lock answers the request that waits for it, if any. -/
theorem State.releaseLock_cases (s : State) :
    ∃ t g, s.releaseLock = { t with prog := g } ∧ (t = s ∨ ∃ m, t = s.abort m) := by
  unfold State.releaseLock
  split
  · exact ⟨s, _, rfl, .inl rfl⟩
  · split
    · next m _ => exact ⟨s.abort m, _, rfl, .inr ⟨m, rfl⟩⟩
    · exact ⟨s, _, rfl, .inl rfl⟩

theorem State.releaseLock_mailKept (s : State) : s.MailKept s.releaseLock := by
  obtain ⟨t, g, e, ht⟩ := s.releaseLock_cases
  have hst : s.MailKept t := by
    rcases ht with rfl | ⟨m, rfl⟩
    · exact .refl _
    · exact s.answer_mailKept m 0x0B 0 0 []
  rw [e]
  exact hst.trans ⟨rfl, rfl, rfl, fun _ => rfl⟩

theorem State.releaseLock_place (s : State) (k : Nat) : (s.releaseLock.session k).place = (s.session k).place := by
  obtain ⟨t, g, e, ht⟩ := s.releaseLock_cases
  have hst : (t.session k).place = (s.session k).place := by
    rcases ht with rfl | ⟨m, rfl⟩
    · rfl
    · exact s.answer_place m 0x0B 0 0 [] k
  rw [e]
  exact hst

theorem State.updLockLost_shape (s : State) :
    ∃ p f n g, s.updLockLost = { s with params := p, freeCtr := f, nvm := n, upd := g } := by
  unfold State.updLockLost
  split
  · exact s.updDiscard_shape 9 0
  · exact s.updDiscard_shape 9 0
  · exact ⟨s.params, s.freeCtr, s.nvm, _, rfl⟩

theorem State.updLockLost_mailKept (s : State) : s.MailKept s.updLockLost := by
  obtain ⟨p, f, n, g, e⟩ := s.updLockLost_shape
  rw [e]
  exact ⟨rfl, rfl, rfl, fun _ => rfl⟩

theorem State.updLockLost_session (s : State) (k : Nat) : s.updLockLost.session k = s.session k := by
  obtain ⟨p, f, n, g, e⟩ := s.updLockLost_shape
  rw [e]
  rfl

/-- Session slot `slot` is closed, its key and challenge gone (R342). -/
def State.shut (s : State) (slot : Nat) : State :=
  let u := s.setSession slot { s.session slot with isOpen := false, closing := false }
  { u with sec := { u.sec with keys := u.sec.keys.filter (fun e => e.1 != slot),
                               challenges := u.sec.challenges.filter (fun e => e.slot != slot) } }

/-- The locks that session `id` held are free (R135, R439). -/
def State.unlocked (s : State) (id : Nat) : State :=
  let t := if s.prog.lockSession == some id then s.releaseLock else s
  if t.upd.lockSession == some id then t.updLockLost else t

theorem State.endSession_eq (s : State) (slot : Nat) :
    s.endSession slot =
      if (s.session slot).isOpen then ((s.abortWaiting (s.session slot).id).shut slot).unlocked (s.session slot).id else s := by
  unfold State.endSession
  extract_lets x t
  change _ = if x.isOpen then (t.shut slot).unlocked x.id else s
  clear_value t
  rfl

theorem State.shut_mailKept (s : State) (slot : Nat) : s.MailKept (s.shut slot) := ⟨rfl, rfl, rfl, fun _ => rfl⟩

theorem State.shut_isOpen (s : State) (slot : Nat) : ((s.shut slot).session slot).isOpen = false := by
  show ((s.setSession slot _).session slot).isOpen = false
  rw [State.session_setSession, if_pos rfl]

theorem State.unlocked_mailKept (s : State) (id : Nat) : s.MailKept (s.unlocked id) := by
  unfold State.unlocked
  extract_lets t
  have ht : s.MailKept t := .ite s.releaseLock_mailKept (.refl s)
  exact .ite (ht.trans t.updLockLost_mailKept) ht

theorem State.unlocked_place (s : State) (id k : Nat) : ((s.unlocked id).session k).place = (s.session k).place := by
  unfold State.unlocked
  extract_lets t
  have ht : (t.session k).place = (s.session k).place := by
    simp only [t]
    split
    · exact s.releaseLock_place k
    · rfl
  split
  · rw [State.updLockLost_session, ht]
  · exact ht

theorem State.endSession_mailKept (s : State) (slot : Nat) : s.MailKept (s.endSession slot) := by
  rw [State.endSession_eq]
  generalize hid : (s.session slot).id = id
  have ht := s.abortWaiting_mailKept id
  generalize s.abortWaiting id = t at ht
  exact .ite ((ht.trans (t.shut_mailKept slot)).trans (State.unlocked_mailKept _ id)) (.refl s)

theorem State.endSession_closed (s : State) (slot : Nat) : ((s.endSession slot).session slot).isOpen = false := by
  rw [State.endSession_eq]
  generalize s.abortWaiting (s.session slot).id = t
  split
  · exact (congrArg Prod.fst (State.unlocked_place _ _ slot)).trans (t.shut_isOpen slot)
  · next h => simpa using h

/-! ### The response in its mailbox (R329, R334) -/

/-- The response goes to the host port: the mailbox is its own, and it has not given the response up (R329). -/
def Mailbox.forHost (x : Mailbox) : Prop := x.owner = 1 ∧ x.discard = false

/-- The frame stands in mailbox `m`, which is DONE with its interrupt bit set, or FREE. -/
def State.handedBack (s : State) (m : Nat) (frame : List Byte) : State :=
  let x := s.mailbox m
  let t := { s with sram := s.sram.writeL (mbxAddr m) frame }
  if x.owner == 1 && !x.discard then
    let u := t.setMailbox m { x with state := .done, req := none, resp := none }
    { u with hp := { u.hp with irqStat := setBit u.hp.irqStat m } }
  else t.freeMbx m

/-- The response is handed back and counted, its time noted where its opcode is timed (R354). -/
def State.delivered (s : State) (m : Nat) (r : Request) (p : Response) : State :=
  let t := (s.handedBack m (s.responseFrame r p)).bump 0x115 64
  if opTimed r.opcode then t.worst 0x116 (ceilDiv (s.elapsed (s.mailbox m).takenAt) usTicks) else t

theorem mailboxDone_gives {m : BitVec 4} (hreq : (s.mailbox m.toNat).req = some r) (hresp : (s.mailbox m.toNat).resp = some p)
    (hbusy : (s.mailbox m.toNat).state = .busy) (hserves : s.serves = true) :
    Gives (.mailboxDone m) s
      (State.placeNet (((s.delivered m.toNat r p).afterResponse r p).wakeSession r.session)).dispatch.mirror := by
  show execMailboxDone m s = _
  simp only [execMailboxDone, hreq, hresp, hbusy, hserves, BEq.rfl, Bool.and_self, if_true]
  rfl

theorem mailboxDone_same {m : BitVec 4}
    (h : (s.mailbox m.toNat).resp = none ∨ (s.mailbox m.toNat).state ≠ .busy ∨ s.serves = false) : Gives (.mailboxDone m) s s := by
  show execMailboxDone m s = .next s
  unfold execMailboxDone
  extract_lets n x
  split
  · next r p _ hresp =>
    have hidle : x.state ≠ .busy ∨ s.serves = false := h.resolve_left fun hnone => nomatch hresp.symm.trans hnone
    exact if_neg (by simpa [Classical.or_iff_not_imp_left] using hidle)
  · rfl

theorem State.handedBack_shape (s : State) (m : Nat) (frame : List Byte) :
    ∃ x i, s.handedBack m frame =
      { s with sram := s.sram.writeL (mbxAddr m) frame, hp := { s.hp with mbx := x, irqStat := i } } := by
  unfold State.handedBack
  extract_lets x t u
  split
  · exact ⟨_, _, rfl⟩
  · exact ⟨_, s.hp.irqStat, rfl⟩

theorem State.handedBack_done (frame : List Byte) (h : (s.mailbox m).forHost) :
    ((s.handedBack m frame).mailbox m).state = .done ∧ bit (s.handedBack m frame).hp.irqStat m = true := by
  obtain ⟨howner, hkeep⟩ := h
  unfold State.handedBack
  extract_lets x t u
  rw [if_pos (by simp [x, howner, hkeep])]
  refine ⟨?_, bit_setBit_self _ m⟩
  show (u.mailbox m).state = .done
  simp [u]

theorem State.handedBack_free (frame : List Byte) (h : ¬ (s.mailbox m).forHost) : ((s.handedBack m frame).mailbox m).state = .free := by
  unfold State.handedBack
  extract_lets x t u
  rw [if_neg (by simpa [Mailbox.forHost] using h)]
  simp [State.freeMbx, Mailbox.init]

theorem State.delivered_shape (s : State) (m : Nat) (r : Request) (p : Response) :
    ∃ a f, s.delivered m r p = { s.handedBack m (s.responseFrame r p) with params := a, freeCtr := f } := by
  obtain ⟨a, f, e⟩ := (s.handedBack m (s.responseFrame r p)).bump_shape 0x115 64
  unfold State.delivered
  rw [e]
  extract_lets t
  split
  · obtain ⟨a', e'⟩ := t.worst_shape 0x116 (ceilDiv (s.elapsed (s.mailbox m).takenAt) usTicks)
    exact ⟨a', f, e'⟩
  · exact ⟨a, f, rfl⟩

theorem State.delivered_hp (s : State) (m : Nat) (r : Request) (p : Response) :
    (s.delivered m r p).hp = (s.handedBack m (s.responseFrame r p)).hp := by
  obtain ⟨a, f, e⟩ := s.delivered_shape m r p
  rw [e]

theorem State.delivered_mailbox (s : State) (m : Nat) (r : Request) (p : Response) (k : Nat) :
    (s.delivered m r p).mailbox k = (s.handedBack m (s.responseFrame r p)).mailbox k := by
  simp only [State.mailbox, State.delivered_hp]

theorem State.delivered_frame (s : State) (m : Nat) (r : Request) (p : Response) :
    s.delivered m r p = { s with sram := s.sram.writeL (mbxAddr m) (s.responseFrame r p), hp := (s.delivered m r p).hp,
                                 params := (s.delivered m r p).params, freeCtr := (s.delivered m r p).freeCtr } := by
  obtain ⟨a, f, e⟩ := s.delivered_shape m r p
  obtain ⟨x, i, e'⟩ := s.handedBack_shape m (s.responseFrame r p)
  rw [e, e']

theorem State.delivered_session (s : State) (m : Nat) (r : Request) (p : Response) (k : Nat) :
    (s.delivered m r p).session k = s.session k := by
  obtain ⟨x, i, e⟩ := s.handedBack_shape m (s.responseFrame r p)
  rw [State.session, State.delivered_hp, e]
  rfl

theorem State.worst_pn_other (s : State) {pid q : Nat} (v : Nat) (h : q ≠ pid) : (s.worst pid v).pn q = s.pn q := by
  unfold State.worst
  split
  · simp [h]
  · rfl

/-- Every response counts (R354). -/
theorem State.delivered_counts (m : Nat) (r : Request) (p : Response) (h : s.pn 0x115 + 1 < 2 ^ 64) :
    (s.delivered m r p).pn 0x115 = s.pn 0x115 + 1 := by
  obtain ⟨x, i, e⟩ := s.handedBack_shape m (s.responseFrame r p)
  have hpn : (s.handedBack m (s.responseFrame r p)).pn 0x115 = s.pn 0x115 := by rw [e]; rfl
  have hcount : ((s.handedBack m (s.responseFrame r p)).bump 0x115 64).pn 0x115 = s.pn 0x115 + 1 := by
    rw [State.bump_lt (by rwa [hpn]), State.pn_setPv, if_pos rfl, hpn, Int.toNat_natCast]
  unfold State.delivered
  extract_lets t
  split
  · rw [State.worst_pn_other _ _ (by decide), hcount]
  · exact hcount

/-! ### What the response brings with it (R342, R416) -/

theorem State.afterResponse_mailKept (s : State) (r : Request) (p : Response) : s.MailKept (s.afterResponse r p) := by
  unfold State.afterResponse
  refine .ite ?_ (.ite (s.endSession_mailKept _) (.refl s))
  split
  · exact .ite ⟨rfl, rfl, rfl, fun _ => rfl⟩ ⟨rfl, rfl, rfl, fun _ => rfl⟩
  · exact .refl s

/-- The answer to the second leg of an OPEN opens its session, with its key (R416). -/
theorem State.afterResponse_opens {v : Provisional} (ho : r.opcode = 0x10) (hs : r.session ≠ 0)
    (hv : s.sec.prov.find? (fun v => v.id == r.session) = some v) (hc : p.completion = 0) :
    ((s.afterResponse r p).session v.slot).isOpen = true ∧ tfind (s.afterResponse r p).sec.keys v.slot = some v.key := by
  unfold State.afterResponse
  rw [if_pos ⟨ho, hs⟩, hv]
  dsimp only
  rw [if_pos hc]
  refine ⟨?_, tfind_tset_same v.key _ v.slot⟩
  show ((State.setSession _ v.slot _).session v.slot).isOpen = true
  simp

/-- A closing session ends with the answer to its CLOSE (R342). -/
theorem State.afterResponse_closes (ho : r.opcode ≠ 0x10 ∨ r.session = 0) (hc : (s.session (r.session % 16)).closing = true)
    (hid : (s.session (r.session % 16)).id = r.session) : ((s.afterResponse r p).session (r.session % 16)).isOpen = false := by
  unfold State.afterResponse
  rw [if_neg (by simpa [Classical.or_iff_not_imp_left] using ho), if_pos (by simp [hc, hid])]
  exact s.endSession_closed _

theorem State.afterResponse_same (ho : r.opcode ≠ 0x10 ∨ r.session = 0) (hc : (s.session (r.session % 16)).closing = false) :
    s.afterResponse r p = s := by
  unfold State.afterResponse
  rw [if_neg (by simpa [Classical.or_iff_not_imp_left] using ho), if_neg (by simp [hc])]

/-! ### Commands without a request of theirs -/

section Idle
variable {b : BitVec 4}

theorem cup_same (h : s.request b.toNat 0x01 = none) : Gives (.cup b) s s :=
  show execCup b s = _ by simp only [execCup, h]

theorem ident_same (h : s.request b.toNat 0x02 = none) : Gives (.ident b) s s :=
  show execIdent b s = _ by simp only [execIdent, h]

theorem openLeg1_same (h : s.request b.toNat 0x10 = none) : Gives (.openLeg1 b) s s :=
  show execOpenLeg1 b s = _ by simp only [execOpenLeg1, h]

theorem openLeg2_same (h : s.request b.toNat 0x10 = none) (sigOk : Bool) : Gives (.openLeg2 b sigOk) s s :=
  show execOpenLeg2 b sigOk s = _ by simp only [execOpenLeg2, h]

theorem close_same (h : s.request b.toNat 0x11 = none) : Gives (.close b) s s :=
  show execClose b s = _ by simp only [execClose, h]

theorem get_same (h : s.request b.toNat 0x20 = none) : Gives (.get b) s s :=
  show execGet b s = _ by simp only [execGet, h]

theorem set_same (h : s.request b.toNat 0x21 = none) : Gives (.set b) s s :=
  show execSet b s = _ by simp only [execSet, h]

theorem getblk_same (h : s.request b.toNat 0x22 = none) : Gives (.getblk b) s s :=
  show execGetblk b s = _ by simp only [execGetblk, h]

theorem imgrd_same (h : s.request b.toNat 0x40 = none) : Gives (.imgrd b) s s :=
  show execImgrd b s = _ by simp only [execImgrd, h]

theorem force_same (h : s.request b.toNat 0x41 = none) : Gives (.force b) s s :=
  show execForce b s = _ by simp only [execForce, h]

theorem prgBegin_same (h : s.request b.toNat 0x50 = none) : Gives (.prgBegin b) s s :=
  show execPrgBegin b s = _ by simp only [execPrgBegin, h]

theorem prgData_same (h : s.request b.toNat 0x51 = none) : Gives (.prgData b) s s :=
  show execPrgData b s = _ by simp only [execPrgData, h]

theorem prgCommit_same (h : s.request b.toNat 0x52 = none) (v : Verdict) : Gives (.prgCommit b v) s s :=
  show execPrgCommit b v s = _ by simp only [execPrgCommit, h]

theorem editBegin_same (h : s.request b.toNat 0x58 = none) : Gives (.editBegin b) s s :=
  show execEditBegin b s = _ by simp only [execEditBegin, h]

theorem editApply_same (h : s.request b.toNat 0x59 = none) (v : Verdict) : Gives (.editApply b v) s s :=
  show execEditApply b v s = _ by simp only [execEditApply, h]

theorem logrd_same (h : s.request b.toNat 0x60 = none) : Gives (.logrd b) s s :=
  show execLogrd b s = _ by simp only [execLogrd, h]

theorem fltAck_same (h : s.request b.toNat 0xA0 = none) : Gives (.fltAck b) s s :=
  show execFltAck b s = _ by simp only [execFltAck, h]

end Idle

/-! ### O36 -/

/-- A clear frame that names no session and a command that needs none passes checks 1 to 4 (R338). -/
theorem State.passes_clear (hf : (s.readHdr m).frameOk = true) (hs : (s.readHdr m).session = 0)
    (ho : (s.readHdr m).op ∈ [0x01, 0x02, 0x10]) (hflags : (s.readHdr m).flags = 4)
    (htag : ∀ b ∈ s.sram.readN (mbxAddr m + 16 + (s.readHdr m).len) 16, b = 0#8) : s.Passes m tagOk := by
  have hop : (s.readHdr m).op = 0x01 ∨ (s.readHdr m).op = 0x02 ∨ (s.readHdr m).op = 0x10 := by simpa using ho
  refine ⟨hf, ?_, ?_, ?_⟩
  · rcases hop with e | e | e <;> rw [e] <;> rfl
  · simpa [State.sessionKnown, hs, or_assoc] using hop
  · simpa [State.tagPasses, hs, hflags] using htag

/-- A sealed frame with a tag that verifies, of an OPEN on its way or of an open session, passes them (R339). -/
theorem State.passes_sealed (hf : (s.readHdr m).frameOk = true) (ho : opKnown (s.readHdr m).op = true)
    (hs : (s.readHdr m).session ≠ 0) (hk : s.sessionKnown m = true) (hflags : (s.readHdr m).flags = 0) (htag : tagOk = true) :
    s.Passes m tagOk :=
  ⟨hf, ho, hk, by simp [State.tagPasses, hs, hflags, htag]⟩

theorem State.sessionKnown_none (hs : (s.readHdr m).session = 0) (ho : (s.readHdr m).op ∉ [0x01, 0x02, 0x10]) :
    s.sessionKnown m = false := by
  simpa [State.sessionKnown, hs, and_assoc] using ho

theorem State.sessionKnown_provisional (hs : (s.readHdr m).session ≠ 0) (ho : (s.readHdr m).op = 0x10) :
    s.sessionKnown m = (s.provisional (s.readHdr m).session (s.mailbox m).owner (s.mailbox m).conn).isSome := by
  simp [State.sessionKnown, hs, ho]

theorem State.sessionKnown_open (hs : (s.readHdr m).session ≠ 0) (ho : (s.readHdr m).op ≠ 0x10) :
    s.sessionKnown m = (s.findSession (s.readHdr m).session (s.mailbox m).owner (s.mailbox m).conn).isSome := by
  simp [State.sessionKnown, hs, ho]

/-- A frame with other flags than a sealed one's is clear, so its session's key does not seal it. -/
theorem State.tagPasses_false (hs : (s.readHdr m).session ≠ 0) (hf : (s.readHdr m).frameOk = true)
    (h : (s.readHdr m).flags ≠ 0 ∨ tagOk = false) : s.tagPasses m tagOk = false := by
  have hflags : (s.readHdr m).flags = 0 ∨ (s.readHdr m).flags = 4 := by
    simp only [BcpHdr.frameOk, Bool.and_eq_true, Bool.or_eq_true, beq_iff_eq] at hf
    obtain ⟨⟨⟨⟨-, hfl⟩, -⟩, -⟩, -⟩ := hf
    exact hfl
  rcases h with hne | htag
  · simp [State.tagPasses, hs, hflags.resolve_left hne]
  · simp [State.tagPasses, hs, htag]

/-- Settles O36: taking a request is one pass through the checks of Table HOST-8, each of which leaves its mailbox as above; handing a
response back writes its frame, frees or finishes its mailbox and does what the response brings. -/
theorem firmwareServesRequests : Obligations.FirmwareServesRequests := by
  unfold Obligations.FirmwareServesRequests
  refine ⟨?take, fun s tagOk plain h => mailboxTake_same h, ?done, ?same⟩
  case take =>
    intro s m rest tagOk plain hrings _ hserves hcore h x raw payload r runs ends answered clearOk known k
    have hturn : s.HasTurn m rest := ⟨hrings, hserves, hcore⟩
    have runs_of {t} (ht : s.Left rest m k (fun x _ => x.Runs r) t) : runs t := ⟨ht.turn.shape, ht.turn.rings, ht.holds⟩
    have ends_of {c t} (ht : s.Left rest m k (fun x _ => x.Ends c) t) : ends c t := ⟨ht.turn.shape, ht.turn.rings, ht.holds⟩
    have answered_of {ok t} (ht : s.Left rest m k (fun x _ => x.Answers ok) t) : answered t ok :=
      ⟨ht.turn.shape, ht.turn.rings, ht.holds⟩
    refine ⟨?clear, ?leg2, ?session, ?badTag, ?malformed, ?unknownOp, ?needsSession, ?unknownSession⟩
    case clear =>
      rintro ⟨hf, hs, ho, hflags, htag⟩
      have hp : s.Passes m tagOk := State.passes_clear hf hs ho hflags htag
      exact ⟨fun hl => (hturn.runs hp (.inl hs) hl).imp fun t => runs_of,
        fun hl => (hturn.answersLate hp (.inl hs) hl).imp fun t => answered_of⟩
    case leg2 =>
      intro hf hs ho
      have hop : opKnown h.op = true := by rw [ho]; rfl
      refine ⟨fun hprov hflags htag hl => ?_, fun hprov => ?_⟩
      · have hk : s.sessionKnown m = true :=
          (State.sessionKnown_provisional hs ho).trans (Option.isSome_iff_ne_none.mpr hprov)
        exact (hturn.runs (State.passes_sealed hf hop hs hk hflags htag) (.inr ho) hl).imp fun t => runs_of
      · have hk : s.sessionKnown m = false := (State.sessionKnown_provisional hs ho).trans (congrArg Option.isSome hprov)
        exact (hturn.ends_unknownSession hf hop hk).imp fun t => ends_of
    case session =>
      rintro ⟨hf, hop, hs, ho, hfind⟩ hflags htag hnext
      have hk : s.sessionKnown m = true := (State.sessionKnown_open hs ho).trans (Option.isSome_iff_ne_none.mpr hfind)
      have hp : s.Passes m tagOk := State.passes_sealed hf hop hs hk hflags htag
      refine ⟨fun heq hbusy => ⟨fun hl => ?_, fun hl => ?_⟩, fun hw => ?_, fun hlt => ⟨fun e hnear he => ?_, fun hold => ?_⟩⟩
      · refine (hturn.sequenced (P := fun x y => x.Runs r ∧ y.next = h.seq + 1) hp hs ho fun v hv =>
          ⟨hv.runs hnext heq hbusy hl, hv.next_moves hnext heq hbusy hs ho⟩).imp fun t ht => ?_
        exact ⟨⟨ht.turn.shape, ht.turn.rings, ht.holds.1⟩, ht.holds.2⟩
      · refine (hturn.sequenced (P := fun x y => x.Answers (fun p => p.completion = s.lateChecks r) ∧ y.next = h.seq + 1) hp hs ho
          fun v hv => ⟨hv.answersLate hnext heq hbusy hl, hv.next_moves hnext heq hbusy hs ho⟩).imp fun t ht => ?_
        exact ⟨⟨ht.turn.shape, ht.turn.rings, ht.holds.1⟩, ht.holds.2⟩
      · refine (hturn.sequenced (P := fun x y => x.Waits s.clk.ticks ∧ y.next = (s.session k).next) hp hs ho
          fun v hv => hv.waits hnext hw).imp fun t ht => ?_
        obtain ⟨⟨hst, hresp, hwait⟩, hn⟩ := ht.holds
        exact ⟨ht.turn.rings, hst, hresp, hwait, hn⟩
      · exact (hturn.sequenced hp hs ho fun v hv => hv.repeats hnext hlt hnear he).imp fun t => answered_of
      · exact (hturn.sequenced hp hs ho fun v hv => hv.badSeq hnext hlt hold).imp fun t => answered_of
    case badTag =>
      rintro ⟨hf, hop, hs, ho, hfind⟩ hbad hfew
      have hk : s.sessionKnown m = true := (State.sessionKnown_open hs ho).trans (Option.isSome_iff_ne_none.mpr hfind)
      obtain ⟨hopen, hid⟩ := State.findSession_open hfind
      refine (hturn.ends_badTag hf hop hk (State.tagPasses_false hs hf hbad) hopen hid hfew).imp fun t ht => ?_
      exact ⟨⟨ht.turn.shape, ht.turn.rings, ht.holds.1⟩, ht.holds.2⟩
    case malformed => exact fun hf => (hturn.ends_malformed hf).imp fun t => ends_of
    case unknownOp => exact fun hf hop => (hturn.ends_unknownOp hf hop).imp fun t => ends_of
    case needsSession =>
      intro hf hop hs ho
      exact (hturn.ends_unknownSession hf hop (State.sessionKnown_none hs ho)).imp fun t => ends_of
    case unknownSession =>
      intro hf hop hs ho hfind
      have hk : s.sessionKnown m = false := (State.sessionKnown_open hs ho).trans (congrArg Option.isSome hfind)
      exact (hturn.ends_unknownSession hf hop hk).imp fun t => ends_of
  case done =>
    intro s m r p hreq hresp hbusy hserves k host
    have hmail := (s.delivered m.toNat r p).afterResponse_mailKept r p
    have hsess := s.delivered_session m.toNat r p k
    have hframe := s.delivered_frame m.toNat r p
    have hstate := (hmail.state m.toNat).trans (congrArg Mailbox.state (s.delivered_mailbox m.toNat r p m.toNat))
    refine ⟨_, mailboxDone_gives hreq hresp hbusy hserves, (s.delivered m.toNat r p).afterResponse r p, rfl, ?sram, ?feram, ?host,
      ?other, ?opens, fun ho => ⟨?closes, ?stays⟩⟩
    case sram => rw [hmail.sram, hframe]
    case feram => rw [hmail.feram, hframe]
    case host =>
      intro hh
      obtain ⟨hdone, hbit⟩ := State.handedBack_done (s.responseFrame r p) hh
      exact ⟨hstate.trans hdone, by rw [hmail.irqStat, State.delivered_hp, hbit]⟩
    case other => exact fun hh => hstate.trans (State.handedBack_free (s.responseFrame r p) hh)
    case opens =>
      intro v ho hs hv hc
      exact State.afterResponse_opens ho hs (by rw [hframe]; exact hv) hc
    case closes =>
      intro hc hid _
      exact State.afterResponse_closes ho (by rw [hsess, hc]) (by rw [hsess, hid])
    case stays =>
      intro hc
      rw [State.afterResponse_same ho (by rw [hsess, hc])]
      exact ⟨by rw [hframe], State.delivered_counts m.toNat r p⟩
  case same =>
    intro s m idle
    exact ⟨mailboxDone_same, cup_same, ident_same, fun h => ⟨openLeg1_same h, openLeg2_same h⟩, close_same, get_same, set_same,
      getblk_same, imgrd_same, force_same, prgBegin_same, prgData_same, prgCommit_same, editBegin_same, editApply_same, logrd_same,
      fltAck_same⟩

end Sys2Proof.Machine
end

section
/-!
PROOF. Rounding (R108): what an encoding stands for as a rational number, and that the rounded mantissa is a nearest multiple of its unit.
-/

namespace Sys2Proof.Machine

/-- The rational number (-1)^neg × m × 2^e that `Unpacked.fin` stands for. -/
def signedVal (neg : Bool) (m : Nat) (e : Int) : Rat := (if neg then -1 else 1) * (m : Rat) * (2 : Rat) ^ e

/-- `p` is a nearest multiple of `unit` to `x`. -/
def NearestMultiple (p : Int) (unit x : Rat) : Prop := ∀ j : Int, |p * unit - x| ≤ |j * unit - x|

/-- The exponent of the last mantissa bit that the rounding of m × 2^e keeps: that of the leading bit less the fraction bits,
no lower than a subnormal's. -/
def FloatFmt.lsbOf (f : FloatFmt) (m : Nat) (e : Int) : Int := max ((Nat.log2 m : Int) + e - (f.mb : Int)) f.lsbMin

/-- m / 2^k as the nearest integer, ties to even. -/
def shiftNearest (m k : Nat) : Nat :=
  if 2 ^ (k - 1) < m % 2 ^ k || (m % 2 ^ k == 2 ^ (k - 1) && m / 2 ^ k % 2 == 1) then m / 2 ^ k + 1 else m / 2 ^ k

/-- m × 2^e in units of 2^q, as the nearest integer. -/
def mantissaAt (m : Nat) (e q : Int) : Nat := if q ≤ e then m * 2 ^ (e - q).toNat else shiftNearest m (q - e).toNat

/-- An encoding taken apart by its sign, exponent field and fraction. -/
def FloatFmt.decode (f : FloatFmt) (neg : Bool) (ex fr : Nat) : Unpacked :=
  if ex = 2 ^ f.eb - 1 then (if fr = 0 then .inf neg else .nan)
  else if ex = 0 then .fin neg fr f.lsbMin
  else .fin neg (2 ^ f.mb + fr) (f.lsbMin + (ex : Int) - 1)

/-! ### Nearest multiples -/

/-- A multiple no further than half a unit away is a nearest one. -/
theorem nearestMultiple_of_half {p : Int} {unit x : Rat} (h : 2 * |p * unit - x| ≤ unit) : NearestMultiple p unit x := by
  intro j
  by_cases hj : j = p
  · rw [hj]
  · have hgap : (1 : Rat) ≤ |(j : Rat) - p| := by exact_mod_cast Int.one_le_abs (sub_ne_zero.mpr hj)
    have hunit : 0 ≤ unit := le_trans (by positivity) h
    have hsplit : |(j : Rat) - p| * unit ≤ |j * unit - x| + |p * unit - x| := by
      calc |(j : Rat) - p| * unit = |(j * unit - x) - (p * unit - x)| := by
            rw [← abs_of_nonneg hunit, ← abs_mul, abs_of_nonneg hunit]; ring_nf
        _ ≤ |j * unit - x| + |p * unit - x| := abs_sub _ _
    nlinarith

/-- A nearest multiple is no lower than a multiple at or below the number. -/
theorem NearestMultiple.le_of_le {p b : Int} {unit x : Rat} (h : NearestMultiple p unit x) (hunit : 0 < unit) (hb : b * unit ≤ x) :
    b ≤ p := by
  by_contra hlt
  have hp : (p : Rat) + 1 ≤ b := by exact_mod_cast (by omega : p + 1 ≤ b)
  have hpb : (p : Rat) * unit < b * unit := by nlinarith
  have := h b
  rw [abs_of_nonpos (by linarith), abs_of_nonpos (by linarith)] at this
  linarith

/-- A nearest multiple is no higher than a multiple at or above the number. -/
theorem NearestMultiple.le_of_ge {p b : Int} {unit x : Rat} (h : NearestMultiple p unit x) (hunit : 0 < unit) (hb : x ≤ b * unit) :
    p ≤ b := by
  by_contra hlt
  have hp : (b : Rat) + 1 ≤ p := by exact_mod_cast (by omega : b + 1 ≤ p)
  have hpb : (b : Rat) * unit < p * unit := by nlinarith
  have := h b
  rw [abs_of_nonneg (by linarith), abs_of_nonneg (by linarith)] at this
  linarith

/-- Below a multiple that lies at or below the number nothing is nearer than the nearest multiple. -/
theorem NearestMultiple.le_below {p b : Int} {unit x y : Rat} (h : NearestMultiple p unit x) (hy : y ≤ b * unit)
    (hb : b * unit ≤ x) : |p * unit - x| ≤ |y - x| := by
  refine (h b).trans ?_
  rw [abs_of_nonpos (by linarith), abs_of_nonpos (by linarith)]
  linarith

theorem shiftNearest_half (m k : Nat) :
    2 * |(shiftNearest m (k + 1) : Int) * 2 ^ (k + 1) - m| ≤ 2 ^ (k + 1) := by
  have hm : (m : Int) = (2 * 2 ^ k : Nat) * (m / 2 ^ (k + 1) : Nat) + (m % 2 ^ (k + 1) : Nat) := by
    rw [← pow_succ']
    exact_mod_cast (Nat.div_add_mod m (2 ^ (k + 1))).symm
  have hlt : m % 2 ^ (k + 1) < 2 * 2 ^ k := by rw [← pow_succ']; exact Nat.mod_lt _ (by positivity)
  unfold shiftNearest
  rw [Nat.add_sub_cancel]
  generalize m / 2 ^ (k + 1) = keep at hm ⊢
  generalize m % 2 ^ (k + 1) = rest at hm hlt ⊢
  rw [hm, pow_succ']
  split
  case isTrue hup =>
    have hhalf : 2 ^ k ≤ rest := by
      simp only [Bool.or_eq_true, decide_eq_true_eq, Bool.and_eq_true, beq_iff_eq] at hup
      omega
    have hdiff : ((keep + 1 : Nat) : Int) * (2 * 2 ^ k) - ((2 * 2 ^ k : Nat) * (keep : Nat) + (rest : Nat)) = 2 * 2 ^ k - rest := by
      push_cast; ring
    rw [hdiff, abs_of_nonneg (by zify at hlt; linarith)]
    zify at hhalf
    linarith
  case isFalse hdown =>
    have hhalf : rest ≤ 2 ^ k := by
      simp only [Bool.or_eq_true, decide_eq_true_eq, not_or, not_lt] at hdown
      exact hdown.1
    have hdiff : (keep : Int) * (2 * 2 ^ k) - ((2 * 2 ^ k : Nat) * (keep : Nat) + (rest : Nat)) = -rest := by
      push_cast; ring
    rw [hdiff, abs_neg, abs_of_nonneg (by positivity)]
    zify at hhalf
    linarith

/-- The mantissa that rounding forms is a nearest multiple of its unit. -/
theorem mantissaAt_nearest (m : Nat) (e q : Int) : NearestMultiple (mantissaAt m e q) ((2 : Rat) ^ q) (m * (2 : Rat) ^ e) := by
  apply nearestMultiple_of_half
  unfold mantissaAt
  split
  case isTrue hq =>
    obtain ⟨n, rfl⟩ := Int.le.dest hq
    have hexact : ((m * 2 ^ (q + n - q).toNat : Nat) : Int) * (2 : Rat) ^ q - m * (2 : Rat) ^ (q + n) = 0 := by
      rw [zpow_add₀ two_ne_zero, zpow_natCast, add_sub_cancel_left, Int.toNat_natCast]
      push_cast
      ring
    rw [hexact, abs_zero, mul_zero]
    positivity
  case isFalse hq =>
    obtain ⟨k, rfl⟩ : ∃ k : Nat, q = e + ((k + 1 : Nat) : Int) := ⟨(q - e).toNat - 1, by omega⟩
    have hk : (e + ((k + 1 : Nat) : Int) - e).toNat = k + 1 := by omega
    rw [hk, zpow_add₀ two_ne_zero, zpow_natCast]
    have hhalf : 2 * |((shiftNearest m (k + 1) : Int) : Rat) * 2 ^ (k + 1) - m| ≤ 2 ^ (k + 1) := by
      exact_mod_cast shiftNearest_half m k
    have hscale : ((shiftNearest m (k + 1) : Int) : Rat) * ((2 : Rat) ^ e * 2 ^ (k + 1)) - m * (2 : Rat) ^ e =
        (((shiftNearest m (k + 1) : Int) : Rat) * 2 ^ (k + 1) - m) * (2 : Rat) ^ e := by ring
    have hpos : (0 : Rat) < 2 ^ e := by positivity
    rw [hscale, abs_mul, abs_of_pos hpos]
    nlinarith

/-! ### Encodings -/

theorem FloatFmt.unpack_eq_decode (f : FloatFmt) (v : Nat) :
    f.unpack v = f.decode (bit v f.signPos) (v / 2 ^ f.mb % 2 ^ f.eb) (v % 2 ^ f.mb) := by
  cases f <;> rfl

/-- The sign stands above the magnitude. -/
theorem FloatFmt.unpack_withSign {f : FloatFmt} {b : Nat} (neg : Bool) (hb : b < 2 ^ f.signPos) :
    f.unpack (f.withSign neg b) = f.decode neg (b / 2 ^ f.mb) (b % 2 ^ f.mb) := by
  have hpos : f.signPos = f.eb + f.mb := rfl
  have hbit : bit (f.withSign neg b) f.signPos = neg := by
    simp only [bit, FloatFmt.withSign]
    rw [Nat.mul_comm, Nat.mul_add_div (by positivity), Nat.div_eq_of_lt hb]
    cases neg <;> rfl
  have hex : f.withSign neg b / 2 ^ f.mb % 2 ^ f.eb = b / 2 ^ f.mb := by
    rw [FloatFmt.withSign, hpos, pow_add, ← mul_assoc, Nat.mul_comm, Nat.mul_add_div (by positivity), Nat.mul_add_mod_self_right]
    refine Nat.mod_eq_of_lt (Nat.div_lt_of_lt_mul ?_)
    rwa [← pow_add, Nat.add_comm]
  have hfr : f.withSign neg b % 2 ^ f.mb = b % 2 ^ f.mb := by
    rw [FloatFmt.withSign, hpos, pow_add, ← mul_assoc, Nat.mul_add_mod_self_right]
  rw [f.unpack_eq_decode, hbit, hex, hfr]

/-- What a finite value's exponent field and fraction say of its mantissa and exponent. -/
theorem FloatFmt.decode_fin {f : FloatFmt} {neg nr : Bool} {ex fr mr : Nat} {er : Int} (h : f.decode neg ex fr = .fin nr mr er) :
    nr = neg ∧ ((ex = 0 ∧ mr = fr ∧ er = f.lsbMin) ∨ (ex ≠ 0 ∧ mr = 2 ^ f.mb + fr ∧ er = f.lsbMin + ex - 1)) := by
  unfold FloatFmt.decode at h
  split at h
  · split at h <;> cases h
  · split at h <;> cases h
    · next h0 => exact ⟨rfl, .inl ⟨h0, rfl, rfl⟩⟩
    · next h0 => exact ⟨rfl, .inr ⟨h0, rfl, rfl⟩⟩

/-- Every finite encoding has a mantissa of one bit more than the fraction, in units no smaller than a subnormal's. -/
theorem FloatFmt.unpack_fin_bounds {f : FloatFmt} {v mv : Nat} {nv : Bool} {ev : Int} (h : f.unpack v = .fin nv mv ev) :
    mv < 2 * 2 ^ f.mb ∧ f.lsbMin ≤ ev := by
  rw [f.unpack_eq_decode] at h
  have hfr : v % 2 ^ f.mb < 2 ^ f.mb := Nat.mod_lt _ (by positivity)
  obtain ⟨-, ⟨-, rfl, rfl⟩ | ⟨hex, rfl, rfl⟩⟩ := FloatFmt.decode_fin h
  · exact ⟨by omega, le_refl _⟩
  · exact ⟨by omega, by omega⟩

/-- The magnitude bits formed of an exponent step and a mantissa, a carry into the next step included, stand for that mantissa. -/
theorem FloatFmt.decode_mantissa {f : FloatFmt} {neg nr : Bool} {n mant mr : Nat} {er : Int} (hmant : mant ≤ 2 * 2 ^ f.mb)
    (hn : n ≠ 0 → 2 ^ f.mb ≤ mant)
    (h : f.decode neg ((n * 2 ^ f.mb + mant) / 2 ^ f.mb) ((n * 2 ^ f.mb + mant) % 2 ^ f.mb) = .fin nr mr er) :
    signedVal nr mr er = signedVal neg mant (f.lsbMin + n) := by
  have hpow : 0 < 2 ^ f.mb := by positivity
  have hdm := Nat.div_add_mod mant (2 ^ f.mb)
  have hr := Nat.mod_lt mant hpow
  rw [Nat.mul_comm n, Nat.mul_add_div hpow, Nat.mul_add_mod] at h
  generalize mant / 2 ^ f.mb = c at hdm h
  generalize mant % 2 ^ f.mb = r at hdm hr h
  generalize hM : 2 ^ f.mb = unit at *
  have hc : c ≤ 2 := by
    by_contra hlt
    have := Nat.mul_le_mul_left unit (by omega : 3 ≤ c)
    omega
  obtain ⟨rfl, ⟨hex, rfl, rfl⟩ | ⟨hex, rfl, rfl⟩⟩ := FloatFmt.decode_fin h
  · obtain ⟨rfl, rfl⟩ : n = 0 ∧ c = 0 := by omega
    simp [← hdm]
  · interval_cases c
    · omega
    · have : f.lsbMin + ((n + 1 : Nat) : Int) - 1 = f.lsbMin + n := by push_cast; ring
      rw [this, hM, ← hdm, mul_one]
    · obtain rfl : r = 0 := by omega
      have : f.lsbMin + ((n + 2 : Nat) : Int) - 1 = f.lsbMin + n + 1 := by push_cast; ring
      rw [this, ← hdm, hM, signedVal, signedVal, zpow_add_one₀ two_ne_zero]
      push_cast
      ring

/-! ### Rounding (R108) -/

theorem FloatFmt.round_zero (f : FloatFmt) (neg : Bool) (e : Int) : f.round neg 0 e false = f.withSign neg 0 := rfl

theorem FloatFmt.round_ne_zero (f : FloatFmt) (neg : Bool) {m : Nat} (e : Int) (h : m ≠ 0) :
    f.round neg m e false = f.withSign neg
      (min ((f.lsbOf m e - f.lsbMin).toNat * 2 ^ f.mb + mantissaAt m e (f.lsbOf m e)) f.infBits) := by
  simp only [FloatFmt.round, if_neg h, Bool.false_or]
  rfl

theorem FloatFmt.infBits_lt (f : FloatFmt) : f.infBits < 2 ^ f.signPos := by cases f <;> decide

/-- The leading bit of m × 2^e (m > 0) lies at most one above the rounded mantissa's place, and at it unless the result is subnormal. -/
theorem FloatFmt.lsbOf_range (f : FloatFmt) {m : Nat} (e : Int) (h : m ≠ 0) :
    (m : Rat) * 2 ^ e < 2 * 2 ^ f.mb * (2 : Rat) ^ f.lsbOf m e ∧
      (f.lsbOf m e ≠ f.lsbMin → 2 ^ f.mb * (2 : Rat) ^ f.lsbOf m e ≤ m * 2 ^ e) := by
  have hpos : (0 : Rat) < 2 ^ e := by positivity
  have hlow : ((2 : Rat) ^ Nat.log2 m) ≤ m := by exact_mod_cast Nat.log2_self_le h
  have hhigh : (m : Rat) < 2 ^ (Nat.log2 m + 1) := by exact_mod_cast Nat.lt_log2_self
  have hstep : ∀ (a : Nat) (b : Int), (2 : Rat) ^ a * 2 ^ b = 2 ^ ((a : Int) + b) := fun a b => by
    rw [zpow_add₀ two_ne_zero, zpow_natCast]
  have hlsb : (Nat.log2 m : Int) + e - f.mb ≤ f.lsbOf m e := le_max_left _ _
  constructor
  · calc (m : Rat) * 2 ^ e < 2 ^ (Nat.log2 m + 1) * 2 ^ e := by gcongr
      _ = 2 ^ (((Nat.log2 m + 1 : Nat) : Int) + e) := hstep _ _
      _ ≤ 2 ^ (((f.mb + 1 : Nat) : Int) + f.lsbOf m e) := zpow_le_zpow_right₀ one_le_two (by push_cast; omega)
      _ = 2 * 2 ^ f.mb * (2 : Rat) ^ f.lsbOf m e := by rw [← hstep, pow_succ']
  · intro hne
    have heq : f.lsbOf m e = (Nat.log2 m : Int) + e - f.mb := by
      unfold FloatFmt.lsbOf at hne ⊢
      omega
    calc 2 ^ f.mb * (2 : Rat) ^ f.lsbOf m e = 2 ^ Nat.log2 m * (2 : Rat) ^ e := by
          rw [hstep, hstep, heq]
          congr 1
          omega
      _ ≤ m * 2 ^ e := by gcongr

/-- A finite rounding result is a nearest multiple of its unit, with the sign of the number. -/
theorem FloatFmt.round_fin {f : FloatFmt} {neg nr : Bool} {m mr : Nat} {e er : Int} (hm : m ≠ 0)
    (h : f.unpack (f.round neg m e false) = .fin nr mr er) :
    signedVal nr mr er = signedVal neg (mantissaAt m e (f.lsbOf m e)) (f.lsbOf m e) := by
  have hunit : (0 : Rat) < 2 ^ f.lsbOf m e := by positivity
  have hnear := mantissaAt_nearest m e (f.lsbOf m e)
  obtain ⟨hhigh, hlow⟩ := f.lsbOf_range e hm
  have hstep : f.lsbMin + ((f.lsbOf m e - f.lsbMin).toNat : Int) = f.lsbOf m e := by
    have : f.lsbMin ≤ f.lsbOf m e := le_max_right _ _
    omega
  have hmant : mantissaAt m e (f.lsbOf m e) ≤ 2 * 2 ^ f.mb := by
    have := hnear.le_of_ge (b := ((2 * 2 ^ f.mb : Nat) : Int)) hunit (by push_cast; exact hhigh.le)
    exact_mod_cast this
  have hnormal : (f.lsbOf m e - f.lsbMin).toNat ≠ 0 → 2 ^ f.mb ≤ mantissaAt m e (f.lsbOf m e) := by
    intro hne
    have := hnear.le_of_le (b := ((2 ^ f.mb : Nat) : Int)) hunit (by push_cast; exact hlow (by omega))
    exact_mod_cast this
  rw [f.round_ne_zero neg e hm] at h
  generalize (f.lsbOf m e - f.lsbMin).toNat = n at *
  by_cases hinf : n * 2 ^ f.mb + mantissaAt m e (f.lsbOf m e) < f.infBits
  · rw [min_eq_left hinf.le, FloatFmt.unpack_withSign neg (hinf.trans f.infBits_lt)] at h
    rw [FloatFmt.decode_mantissa hmant hnormal h, hstep]
  · rw [min_eq_right (by omega), FloatFmt.unpack_withSign neg f.infBits_lt] at h
    have : f.decode neg (f.infBits / 2 ^ f.mb) (f.infBits % 2 ^ f.mb) = .inf neg := by cases f <;> rfl
    rw [this] at h
    cases h

/-! ### Distances between signed values -/

theorem signedVal_sub_abs (a neg : Bool) (m n : Nat) (d e : Int) :
    |signedVal a m d - signedVal neg n e| = |signedVal (a != neg) m d - n * (2 : Rat) ^ e| := by
  cases neg
  · simp [signedVal]
  · rw [← abs_neg]
    cases a <;> simp [signedVal] <;> ring_nf

/-- A value in units of 2^q or above is a multiple of 2^q. -/
theorem signedVal_multiple (a : Bool) (m : Nat) {d q : Int} (h : q ≤ d) : ∃ j : Int, signedVal a m d = j * (2 : Rat) ^ q := by
  obtain ⟨n, rfl⟩ := Int.le.dest h
  refine ⟨(if a then -1 else 1) * m * 2 ^ n, ?_⟩
  rw [signedVal, zpow_add₀ two_ne_zero, zpow_natCast]
  cases a <;> push_cast <;> simp <;> ring

/-- A value with a short mantissa in units below 2^q lies below the least mantissa of a normal number in units of 2^q. -/
theorem signedVal_le_of_lt (f : FloatFmt) (a : Bool) {m : Nat} {d q : Int} (hm : m < 2 * 2 ^ f.mb) (h : d < q) :
    signedVal a m d ≤ ((2 ^ f.mb : Nat) : Int) * (2 : Rat) ^ q := by
  have hm' : (m : Rat) ≤ 2 * 2 ^ f.mb := by exact_mod_cast hm.le
  calc signedVal a m d ≤ m * 2 ^ d := by
        have : (0 : Rat) ≤ m * 2 ^ d := by positivity
        cases a
        case false => simp [signedVal]
        case true =>
          simp only [signedVal, if_true, neg_mul, one_mul]
          linarith
    _ ≤ 2 * 2 ^ f.mb * 2 ^ d := by gcongr
    _ = ((2 ^ f.mb : Nat) : Int) * (2 : Rat) ^ (d + 1) := by rw [zpow_add_one₀ two_ne_zero]; push_cast; ring
    _ ≤ ((2 ^ f.mb : Nat) : Int) * (2 : Rat) ^ q := by
        gcongr
        · exact one_le_two
        · omega

theorem ratAbs_eq_abs (x : Rat) : x.abs = |x| := by
  unfold Rat.abs
  split
  · next h => rw [abs_of_nonneg h]
  · next h => rw [abs_of_neg (by linarith)]

/-- Of the finite encodings none lies nearer than the one rounding gives (R108). -/
theorem FloatFmt.round_nearest {f : FloatFmt} {neg nr nv : Bool} {m mr mv v : Nat} {e er ev : Int}
    (hr : f.unpack (f.round neg m e false) = .fin nr mr er) (hv : f.unpack v = .fin nv mv ev) :
    |signedVal nr mr er - signedVal neg m e| ≤ |signedVal nv mv ev - signedVal neg m e| := by
  by_cases hm : m = 0
  · subst hm
    have hzero : f.unpack (f.withSign neg 0) = .fin neg 0 f.lsbMin := by
      rw [FloatFmt.unpack_withSign neg (by positivity)]
      cases f <;> simp [FloatFmt.decode, FloatFmt.eb]
    rw [f.round_zero, hzero] at hr
    cases hr
    simp [signedVal]
  · have hnear := mantissaAt_nearest m e (f.lsbOf m e)
    obtain ⟨hbound, hev⟩ := FloatFmt.unpack_fin_bounds hv
    rw [FloatFmt.round_fin hm hr, signedVal_sub_abs, signedVal_sub_abs, bne_self_eq_false,
      show signedVal false (mantissaAt m e (f.lsbOf m e)) (f.lsbOf m e) =
        ((mantissaAt m e (f.lsbOf m e) : Int) : Rat) * 2 ^ f.lsbOf m e by simp [signedVal]]
    by_cases hq : f.lsbOf m e ≤ ev
    · obtain ⟨j, hj⟩ := signedVal_multiple (nv != neg) mv hq
      rw [hj]
      exact hnear j
    · have hlow := (f.lsbOf_range e hm).2 (by omega)
      exact hnear.le_below (signedVal_le_of_lt f _ hbound (by omega)) (by exact_mod_cast hlow)

/-- Settles O12: the rounded mantissa is a nearest multiple of its unit, and a finite encoding is either such a multiple or lies
below the least normal mantissa in that unit. -/
theorem roundingIsToNearest : Obligations.RoundingIsToNearest := by
  intro f neg m e v nr nv mr mv er ev hr hv val
  rw [ratAbs_eq_abs, ratAbs_eq_abs]
  exact FloatFmt.round_nearest hr hv

end Sys2Proof.Machine
end

section
/-!
PROOF. The integer operations of the cores (R106, R107): each is one pass through `State.intOp` or `State.cmpOp` with its result.
-/

namespace Sys2Proof.Machine

/-! ### The width rule -/

/-- The signed minimum of a width other than u16, as R106 writes it. -/
theorem iwMin_eq {w : IWidth} (h : w ≠ .u16) : iwMin w = if w = .i32 then -2147483648 else -32768 := by
  cases w
  case u16 => exact absurd rfl h
  all_goals rfl

/-- A 16-bit rotation reads the low half, extended or not. -/
theorem setWidth_iwExtend {w : IWidth} (h : w ≠ .i32) (a : W32) : (iwExtend w a).setWidth 16 = a.setWidth 16 := by
  cases w
  case i32 => exact absurd rfl h
  case s16 =>
    ext i hi
    rw [iwExtend, BitVec.getElem_setWidth, BitVec.getLsbD_signExtend]
    simp [hi, Nat.lt_trans hi]
  case u16 => simp [iwExtend]

theorem rolResult_half {w : IWidth} (h : w ≠ .i32) (a b : W32) :
    rolResult w (iwExtend w a) b = iwExtend w (((a.setWidth 16).rotateLeft (b.toNat % iwBits w)).setWidth 32) := by
  rw [← setWidth_iwExtend h]
  cases w
  case i32 => exact absurd rfl h
  all_goals rfl

theorem rorResult_half {w : IWidth} (h : w ≠ .i32) (a b : W32) :
    rorResult w (iwExtend w a) b = iwExtend w (((a.setWidth 16).rotateRight (b.toNat % iwBits w)).setWidth 32) := by
  rw [← setWidth_iwExtend h]
  cases w
  case i32 => exact absurd rfl h
  all_goals rfl

/-! ### O8 -/

/-- Settles O8: every operation that leaves BA is an `intOp` whose answer names no BA. -/
theorem integerResultsWithoutBa : Obligations.IntegerResultsWithoutBa := by
  intro s c sh w d src b hon g a n done
  refine ⟨fun hs => ?wide, fun hs => ⟨(intOp_narrow _ hon hs : execShr c w d src s = _), ?full, ?half⟩⟩
  case wide =>
    exact ⟨(intOp_wide _ hon hs : execMov c w d src s = _), (intOp_wide _ hon hs : execAdd c w d src s = _),
      (intOp_wide _ hon hs : execSub c w d src s = _), (intOp_wide _ hon hs : execMul c w d src s = _),
      (intOp_wide _ hon hs : execAndWord c w d src s = _), (intOp_wide _ hon hs : execOrWord c w d src s = _),
      (intOp_wide _ hon hs : execXorWord c w d src s = _), (intOp_wide _ hon hs : execShl c w d src s = _)⟩
  case full =>
    rintro rfl
    exact ⟨(intOp_narrow _ hon hs : execRol c .i32 d src s = _), (intOp_narrow _ hon hs : execRor c .i32 d src s = _)⟩
  case half =>
    intro hw
    rw [← rolResult_half hw a b, ← rorResult_half hw a b]
    exact ⟨(intOp_narrow _ hon hs : execRol c w d src s = _), (intOp_narrow _ hon hs : execRor c w d src s = _)⟩

/-! ### DIV and MOD -/

/-- The quotient of a signed operation that has no place in its width. -/
def QuotientOverflow (w : IWidth) (x y : Int) : Prop := w ≠ .u16 ∧ x = (if w = .i32 then -2147483648 else -32768) ∧ y = -1

theorem quotientOverflow_iff (w : IWidth) (x y : Int) : QuotientOverflow w x y ↔ w ≠ .u16 ∧ x = iwMin w ∧ y = -1 := by
  refine and_congr_right fun hw => ?_
  rw [iwMin_eq hw]

theorem divResult_zero {w : IWidth} {a b : W32} (h : iwInt w b = 0) : divResult w a b = (0#32, true) := if_pos h

theorem modResult_zero {w : IWidth} {old a b : W32} (h : iwInt w b = 0) : modResult w old a b = (old, true) := if_pos h

theorem QuotientOverflow.ne_zero {w : IWidth} {x y : Int} (h : QuotientOverflow w x y) : y ≠ 0 := by
  obtain ⟨-, -, rfl⟩ := h
  decide

theorem divResult_overflow {w : IWidth} {a b : W32} (h : QuotientOverflow w (iwInt w a) (iwInt w b)) :
    divResult w a b = (BitVec.ofInt 32 (iwInt w a), true) := by
  have hm := (quotientOverflow_iff w _ _).mp h
  rw [divResult, if_neg h.ne_zero, if_pos hm, hm.2.1]

theorem modResult_overflow {w : IWidth} {old a b : W32} (h : QuotientOverflow w (iwInt w a) (iwInt w b)) :
    modResult w old a b = (0#32, true) := by
  rw [modResult, if_neg h.ne_zero, if_pos ((quotientOverflow_iff w _ _).mp h)]

theorem divResult_exact {w : IWidth} {a b : W32} (h0 : iwInt w b ≠ 0) (h : ¬ QuotientOverflow w (iwInt w a) (iwInt w b)) :
    divResult w a b = (iwExtend w (BitVec.ofInt 32 ((iwInt w a).tdiv (iwInt w b))), false) := by
  rw [divResult, if_neg h0, if_neg (mt (quotientOverflow_iff w _ _).mpr h)]

theorem modResult_exact {w : IWidth} {old a b : W32} (h0 : iwInt w b ≠ 0) (h : ¬ QuotientOverflow w (iwInt w a) (iwInt w b)) :
    modResult w old a b = (iwExtend w (BitVec.ofInt 32 ((iwInt w a).tmod (iwInt w b))), false) := by
  rw [modResult, if_neg h0, if_neg (mt (quotientOverflow_iff w _ _).mpr h)]

section OnCores

variable {s : State} {c : Nat} {sh : Shot} {w : IWidth} {d : BitVec 4} {src : Src} {b : W32}

/-- The state in which an instruction of context `c` has set Wd and BA and moved PC past itself. -/
def State.setWBa (s : State) (c : Nat) (d : BitVec 4) (src : Src) (v : W32) (ba : Bool) : State :=
  s.setCtx c { s.ctx c with
    regs := { (s.ctx c).regs with w := (s.ctx c).regs.w.set d.toNat v, ba := ba,
                                  pc := (s.ctx c).regs.pc + BitVec.ofNat 20 (srcLen src) } }

theorem div_gives {v : W32} {ba : Bool} (hon : s.onCores c = some sh) (hs : s.intSrc sh (s.ctx c).regs w true src = some (.ok b))
    (hr : divResult w (iwExtend w (s.ctx c).regs.w[d.toNat]) b = (v, ba)) : Gives (.div c w d src) s (s.setWBa c d src v ba) := by
  have h := intOp_narrow (d := d) (fun a b => ((divResult w a b).1, some (divResult w a b).2)) hon hs
  simp only [hr] at h
  exact h

theorem mod_gives {v : W32} {ba : Bool} (hon : s.onCores c = some sh) (hs : s.intSrc sh (s.ctx c).regs w true src = some (.ok b))
    (hr : modResult w (s.ctx c).regs.w[d.toNat] (iwExtend w (s.ctx c).regs.w[d.toNat]) b = (v, ba)) :
    Gives (.mod c w d src) s (s.setWBa c d src v ba) := by
  have h := intOp_narrow (d := d)
    (fun a b => ((modResult w (s.ctx c).regs.w[d.toNat] a b).1, some (modResult w (s.ctx c).regs.w[d.toNat] a b).2)) hon hs
  simp only [hr] at h
  exact h

/-! ### CMP -/

theorem cmpOp_legal (k : Cond) (hon : s.onCores c = some sh) (hs : s.intSrc sh (s.ctx c).regs w true src = some (.ok b)) :
    s.cmpOp k c w d src = .next (s.setCtx c { s.ctx c with
      regs := { (s.ctx c).regs with ba := cmpResult k w (iwExtend w (s.ctx c).regs.w[d.toNat]) b,
                                    pc := (s.ctx c).regs.pc + BitVec.ofNat 20 (srcLen src) } }) :=
  coreDo_regs hon (by simp only [hs]; rfl)

/-- What each condition says of two numbers. -/
def Cond.Relates (k : Cond) (x y : Int) : Prop :=
  match k with
  | .eq => x = y
  | .ne => x ≠ y
  | .lt => x < y
  | .le => x ≤ y
  | .gt => x > y
  | .ge => x ≥ y

theorem Cond.holds_compare (k : Cond) (x y : Int) : k.holds (compare x y) = true ↔ k.Relates x y := by
  rcases lt_trichotomy x y with h | h | h
  · rw [compare_lt_iff_lt.mpr h]
    cases k <;> simp [Cond.holds, Cond.Relates] <;> omega
  · rw [compare_eq_iff_eq.mpr h]
    cases k <;> simp [Cond.holds, Cond.Relates, h]
  · rw [compare_gt_iff_gt.mpr h]
    cases k <;> simp [Cond.holds, Cond.Relates] <;> omega

/-- CMP leaves in BA whether the proposition of its condition holds. -/
theorem cmpOp_gives {p : Prop} [Decidable p] (k : Cond) (hon : s.onCores c = some sh)
    (hs : s.intSrc sh (s.ctx c).regs w true src = some (.ok b))
    (hp : k.Relates (iwInt w (iwExtend w (s.ctx c).regs.w[d.toNat])) (iwInt w b) ↔ p) :
    s.cmpOp k c w d src = .next (s.setCtx c { s.ctx c with
      regs := { (s.ctx c).regs with ba := decide p, pc := (s.ctx c).regs.pc + BitVec.ofNat 20 (srcLen src) } }) := by
  rw [cmpOp_legal k hon hs, cmpResult,
    Bool.eq_iff_iff.mpr (((Cond.holds_compare k _ _).trans hp).trans decide_eq_true_iff.symm)]

end OnCores

/-! ### BCD (Table ISA-9) -/

/-- A left fold that adds a term an index is the sum of the terms. -/
theorem foldl_add_range (f : Nat → Nat) (n : Nat) : (List.range n).foldl (fun a k => a + f k) 0 = ∑ k ∈ Finset.range n, f k := by
  induction n with
  | zero => rfl
  | succ n ih => rw [List.range_succ, List.foldl_append, ih, Finset.sum_range_succ]; rfl

/-- The digits of a valid BCD number make its value. -/
theorem bcdValue_valid {n v : Nat} (h : ∀ k < n, v / 16 ^ k % 16 < 10) :
    bcdValue n v = some (∑ k ∈ Finset.range n, v / 16 ^ k % 16 * 10 ^ k) := by
  induction n generalizing v with
  | zero => rfl
  | succ n ih =>
    have hnext : ∀ k, v / 16 / 16 ^ k = v / 16 ^ (k + 1) := fun k => by rw [Nat.div_div_eq_div_mul, pow_succ']
    have hfirst : v % 16 < 10 := by simpa using h 0 (by omega)
    rw [bcdValue, if_pos hfirst, ih fun k hk => by rw [hnext]; exact h (k + 1) (by omega)]
    dsimp only
    rw [Finset.sum_range_succ', Finset.mul_sum, add_comm, pow_zero, pow_zero, Nat.div_one, mul_one]
    congr 2
    exact Finset.sum_congr rfl fun k _ => by rw [hnext]; ring

/-- A digit above 9 makes a BCD number invalid. -/
theorem bcdValue_invalid {n v k : Nat} (hk : k < n) (h : 10 ≤ v / 16 ^ k % 16) : bcdValue n v = none := by
  induction n generalizing v k with
  | zero => omega
  | succ n ih =>
    rw [bcdValue]
    split
    · next hfirst =>
      obtain ⟨k, rfl⟩ : ∃ j, k = j + 1 := ⟨k - 1, by
        rcases k with - | k
        · simp at h; omega
        · rfl⟩
      rw [ih (k := k) (by omega) (by rwa [Nat.div_div_eq_div_mul, ← pow_succ'])]
    · rfl

/-- Digits beyond the first `n` do not matter. -/
theorem bcdValue_mod (n v : Nat) : bcdValue n (v % 16 ^ n) = bcdValue n v := by
  induction n generalizing v with
  | zero => rfl
  | succ n ih =>
    have hlow : v % 16 ^ (n + 1) % 16 = v % 16 := Nat.mod_mod_of_dvd v (dvd_pow_self 16 (by omega))
    have hhigh : v % 16 ^ (n + 1) / 16 = v / 16 % 16 ^ n := by rw [pow_succ', Nat.mod_mul_right_div_self]
    rw [bcdValue, bcdValue, hlow, hhigh, ih]

theorem bcdCode_eq_sum (n v : Nat) : bcdCode n v = ∑ k ∈ Finset.range n, v / 10 ^ k % 10 * 16 ^ k := by
  induction n generalizing v with
  | zero => rfl
  | succ n ih =>
    rw [bcdCode, ih, Finset.sum_range_succ', Finset.mul_sum, add_comm, pow_zero, pow_zero, Nat.div_one, mul_one]
    congr 1
    exact Finset.sum_congr rfl fun k _ => by rw [Nat.div_div_eq_div_mul, pow_succ' 10]; ring

/-- The digits that a width has (R106). -/
def bcdDigits (w : IWidth) : Nat := if w = .i32 then 8 else 4

theorem bcdDigits_eq {w : IWidth} : (if iw16 w then 4 else 8) = bcdDigits w := by cases w <;> rfl

theorem btoiResult_valid {w : IWidth} {b : W32} (h : ∀ k < bcdDigits w, b.toNat / 16 ^ k % 16 < 10) :
    btoiResult w b =
      (BitVec.ofNat 32 ((List.range (bcdDigits w)).foldl (fun a k => a + b.toNat / 16 ^ k % 16 * 10 ^ k) 0), false) := by
  simp only [btoiResult, bcdDigits_eq, bcdValue_mod, bcdValue_valid h, foldl_add_range]

theorem btoiResult_invalid {w : IWidth} {b : W32} (h : ∃ k < bcdDigits w, 10 ≤ b.toNat / 16 ^ k % 16) :
    btoiResult w b = (0#32, true) := by
  obtain ⟨k, hk, hd⟩ := h
  simp only [btoiResult, bcdDigits_eq, bcdValue_mod, bcdValue_invalid hk hd]

/-- The number that ITOB codes: signed on 32 bits, unsigned on 16. -/
def itobSource (w : IWidth) (b : W32) : Int := if w = .i32 then b.toInt else b.toNat

theorem itobSource_eq {w : IWidth} (b : W32) : (if iw16 w then (b.toNat : Int) else b.toInt) = itobSource w b := by cases w <;> rfl

theorem itobSource_toNat {w : IWidth} {b : W32} (h : 0 ≤ itobSource w b) : (itobSource w b).toNat = b.toNat := by
  unfold itobSource at h ⊢
  split at h
  · next hw =>
    rw [if_pos hw]
    rw [BitVec.toInt_eq_toNat_cond] at h ⊢
    omega
  · next hw => rw [if_neg hw]; rfl

theorem itobResult_out {w : IWidth} {b : W32} (h : itobSource w b < 0 ∨ 10 ^ bcdDigits w ≤ itobSource w b) :
    itobResult w b = (0#32, true) := by
  simp only [itobResult, bcdDigits_eq, itobSource_eq, if_pos h]

theorem itobResult_in {w : IWidth} {b : W32} (h0 : 0 ≤ itobSource w b) (h : itobSource w b < 10 ^ bcdDigits w) :
    itobResult w b =
      (BitVec.ofNat 32 ((List.range (bcdDigits w)).foldl (fun a k => a + b.toNat / 10 ^ k % 10 * 16 ^ k) 0), false) := by
  have hin : ¬ (itobSource w b < 0 ∨ 10 ^ bcdDigits w ≤ itobSource w b) := by omega
  simp only [itobResult, bcdDigits_eq, itobSource_eq, if_neg hin, bcdCode_eq_sum, foldl_add_range, itobSource_toNat h0]

section OnCores

variable {s : State} {c : Nat} {sh : Shot} {w : IWidth} {d : BitVec 4} {src : Src} {b : W32}

theorem bcdOp_legal {r : W32 × Bool} (f : W32 → W32 × Bool) (hon : s.onCores c = some sh) (hw : w ≠ .s16)
    (hs : s.intSrc sh (s.ctx c).regs w false src = some (.ok b)) (hr : f b = r) :
    s.bcdOp c w d src f = .next (s.setWBa c d src r.1 r.2) := by
  rw [State.bcdOp, if_neg hw, ← hr]
  exact intOp_wide (fun _ b => ((f b).1, some (f b).2)) hon hs

/-- With the width 0b00 the result is free (log 58). -/
theorem bcdOp_free (f : W32 → W32 × Bool) (hon : s.onCores c = some sh)
    (hs : s.intSrc sh (s.ctx c).regs .s16 false src = some (.ok b)) :
    ∃ v ba, s.bcdOp c .s16 d src f = .next (State.setWBa { s with freeCtr := s.freeCtr + 1 } c d src v ba) := by
  refine ⟨BitVec.ofNat 32 s.draw.1, bit s.draw.1 32, ?_⟩
  rw [State.bcdOp, if_pos rfl, hon]
  exact intOp_wide (s := s.draw.2) (fun _ _ => (BitVec.ofNat 32 s.draw.1, some (bit s.draw.1 32))) hon hs

end OnCores

/-! ### O9 -/

/-- Settles O9: DIV and MOD by the three cases of their quotient, CMP by what its condition says, BTOI and ITOB by their digits. -/
theorem integerOperationsThatSetBa : Obligations.IntegerOperationsThatSetBa := by
  refine ⟨?division, ?comparison, ?bcdFree, ?bcd⟩
  case division =>
    intro s c sh w d src b hon g x y ovf done hs
    exact ⟨fun h0 => ⟨div_gives hon hs (divResult_zero h0), mod_gives hon hs (modResult_zero h0)⟩,
      fun ho => ⟨div_gives hon hs (divResult_overflow ho), mod_gives hon hs (modResult_overflow ho)⟩,
      fun h0 ho => ⟨div_gives hon hs (divResult_exact h0 ho), mod_gives hon hs (modResult_exact h0 ho)⟩⟩
  case comparison =>
    intro s c sh w d src b hon g x y done hs
    exact ⟨cmpOp_gives .eq hon hs Iff.rfl, cmpOp_gives .ne hon hs Iff.rfl, cmpOp_gives .lt hon hs Iff.rfl,
      cmpOp_gives .le hon hs Iff.rfl, cmpOp_gives .gt hon hs Iff.rfl, cmpOp_gives .ge hon hs Iff.rfl⟩
  case bcdFree =>
    intro s c sh d src b hon g done hs
    obtain ⟨v, ba, hb⟩ := bcdOp_free (d := d) (btoiResult .s16) hon hs
    obtain ⟨v', ba', hi⟩ := bcdOp_free (d := d) (itobResult .s16) hon hs
    exact ⟨⟨_, hb, v, ba, rfl⟩, ⟨_, hi, v', ba', rfl⟩⟩
  case bcd =>
    intro s c sh w d src b hon hw g n digit done hs
    refine ⟨fun h => bcdOp_legal _ hon hw hs (btoiResult_valid h), fun h => bcdOp_legal _ hon hw hs (btoiResult_invalid h),
      fun h => bcdOp_legal _ hon hw hs (itobResult_out ?_), fun h0 h => bcdOp_legal _ hon hw hs (itobResult_in h0 ?_)⟩
    · exact h
    · exact h

end Sys2Proof.Machine
end

section
/-!
PROOF. The real operations of the cores (R106, R108): one pass through `State.realOp` or `State.fcmpOp`, and the conversions.
-/

namespace Sys2Proof.Machine

/-- The state in which an instruction of context `c` has set Fd and moved PC past itself. -/
def State.setFPc (s : State) (c : Nat) (d : BitVec 3) (n v : Nat) : State :=
  s.setCtx c { s.ctx c with
    regs := { (s.ctx c).regs with f := (s.ctx c).regs.f.set d.toNat (BitVec.ofNat 64 v),
                                  pc := (s.ctx c).regs.pc + BitVec.ofNat 20 n } }

theorem fwCut_eq (w : FWidth) (v : Nat) : fwCut (fwFmt w) v = if w = .b32 then v % 2 ^ 32 else v := by cases w <;> rfl

section OnCores

variable {s : State} {c : Nat} {sh : Shot} {w : FWidth} {d : BitVec 3} {src : Src} {b : Nat}

/-- A real operation with a legal source, in either precision (R108). -/
theorem realOp_legal (op : FloatFmt → Nat → Nat → Nat) (hon : s.onCores c = some sh)
    (hs : s.realSrc sh (s.ctx c).regs w src = some (.ok b)) :
    s.realOp c w d src op = .next (s.setFPc c d (srcLen src)
      (op (fwFmt w) (if w = .b32 then (s.ctx c).regs.f[d.toNat].toNat % 2 ^ 32 else (s.ctx c).regs.f[d.toNat].toNat) b)) := by
  cases w
  case b32 => exact realOp_single op hon hs
  case b64 => exact realOp_double op hon hs

/-- The sign bit cleared, where R106 writes it out. -/
theorem FloatFmt.abs_eq (f : FloatFmt) (a : Nat) :
    f.abs a = if a / 2 ^ f.signPos % 2 = 1 then a - 2 ^ f.signPos else a := by
  simp [FloatFmt.abs, clearBit, bit]

/-- The sign bit flipped, where R106 writes it out. -/
theorem FloatFmt.neg_eq (f : FloatFmt) (a : Nat) :
    f.neg a = if a / 2 ^ f.signPos % 2 = 1 then a - 2 ^ f.signPos else a + 2 ^ f.signPos := by
  simp [FloatFmt.neg, bit]

/-! ### FCMP -/

theorem fcmpOp_legal {x : Bool} (k : Cond) (hon : s.onCores c = some sh) (hs : s.realSrc sh (s.ctx c).regs w src = some (.ok b))
    (hx : fcmpResult k ((fwFmt w).compare
      (if w = .b32 then (s.ctx c).regs.f[d.toNat].toNat % 2 ^ 32 else (s.ctx c).regs.f[d.toNat].toNat) b) = x) :
    s.fcmpOp k c w d src = .next (s.setCtx c { s.ctx c with
      regs := { (s.ctx c).regs with ba := x, pc := (s.ctx c).regs.pc + BitVec.ofNat 20 (srcLen src) } }) := by
  rw [← fwCut_eq] at hx
  rw [← hx]
  exact coreDo_regs hon (by simp only [hs]; rfl)

/-- What each condition says of an IEEE comparison, none where it is unordered (R108). -/
def Cond.ofCompare (k : Cond) (o : Option Ordering) : Bool :=
  match k with
  | .eq => o == some .eq
  | .ne => o != some .eq
  | .lt => o == some .lt
  | .le => o == some .lt || o == some .eq
  | .gt => o == some .gt
  | .ge => o == some .gt || o == some .eq

theorem fcmpResult_eq (k : Cond) (o : Option Ordering) : fcmpResult k o = k.ofCompare o := by
  rcases o with - | - | - | - <;> cases k <;> rfl

end OnCores

/-! ### FTOI -/

theorem FloatFmt.toI32_nan {f : FloatFmt} {v : Nat} (h : f.unpack v = .nan) : f.toI32 v = (0, true) := by
  simp only [FloatFmt.toI32, h]

theorem FloatFmt.toI32_inf {f : FloatFmt} {v : Nat} {neg : Bool} (h : f.unpack v = .inf neg) :
    f.toI32 v = (if neg then -2147483648 else 2147483647, true) := by
  simp only [FloatFmt.toI32, h]
  norm_num

/-- The integer nearest to a finite value. -/
def nearestInt (neg : Bool) (m : Nat) (e : Int) : Int := if neg then -(roundNat m e : Int) else roundNat m e

/-- FTOI of a finite value is its nearest integer held to 32 bits (R108). -/
theorem FloatFmt.toI32_fin {f : FloatFmt} {v m : Nat} {neg : Bool} {e : Int} (h : f.unpack v = .fin neg m e) :
    f.toI32 v = if nearestInt neg m e < -2147483648 then (-2147483648, true)
      else if 2147483647 < nearestInt neg m e then (2147483647, true) else (nearestInt neg m e, false) := by
  have hv : (if neg then (-1 : Int) else 1) * (roundNat m e : Int) = nearestInt neg m e := by
    cases neg <;> simp [nearestInt]
  simp only [FloatFmt.toI32, h, hv]
  norm_num

theorem FloatFmt.toI32_low {f : FloatFmt} {v m : Nat} {neg : Bool} {e : Int} (h : f.unpack v = .fin neg m e)
    (hv : nearestInt neg m e < -2147483648) : f.toI32 v = (-2147483648, true) := by
  rw [FloatFmt.toI32_fin h, if_pos hv]

theorem FloatFmt.toI32_high {f : FloatFmt} {v m : Nat} {neg : Bool} {e : Int} (h : f.unpack v = .fin neg m e)
    (hv : 2147483647 < nearestInt neg m e) : f.toI32 v = (2147483647, true) := by
  rw [FloatFmt.toI32_fin h, if_neg (by omega), if_pos hv]

theorem FloatFmt.toI32_within {f : FloatFmt} {v m : Nat} {neg : Bool} {e : Int} (h : f.unpack v = .fin neg m e)
    (hl : -2147483648 ≤ nearestInt neg m e) (hh : nearestInt neg m e ≤ 2147483647) : f.toI32 v = (nearestInt neg m e, false) := by
  rw [FloatFmt.toI32_fin h, if_neg (by omega), if_neg (by omega)]

theorem ftoi_gives {s : State} {c : Nat} {sh : Shot} {w : FWidth} {d : BitVec 4} {r : BitVec 3} {v : Int} {ba : Bool}
    (hon : s.onCores c = some sh)
    (hr : (fwFmt w).toI32 (if w = .b32 then (s.ctx c).regs.f[r.toNat].toNat % 2 ^ 32 else (s.ctx c).regs.f[r.toNat].toNat) = (v, ba)) :
    Gives (.ftoi c w d r) s (s.setCtx c { s.ctx c with
      regs := { (s.ctx c).regs with w := (s.ctx c).regs.w.set d.toNat (BitVec.ofInt 32 v), ba := ba,
                                    pc := (s.ctx c).regs.pc + 1#20 } }) := by
  rw [← fwCut_eq] at hr
  exact (coreDo_regs hon (by simp only [hr]; rfl) : execFtoi c w d r s = _)

/-! ### O11 -/

/-- Settles O11: every operation is a `realOp`, every comparison an `fcmpOp`; FTOI by what its operand is. -/
theorem realArithmetic : Obligations.RealArithmetic := by
  refine ⟨?operation, ?comparison, ?conversion⟩
  case operation =>
    intro s c sh w d src b hon g f a done hs
    rw [← f.abs_eq, ← f.neg_eq]
    exact ⟨realOp_legal (fun _ _ b => b) hon hs, realOp_legal (fun f a b => f.add a b) hon hs,
      realOp_legal (fun f a b => f.sub a b) hon hs, realOp_legal (fun f a b => f.mul a b) hon hs,
      realOp_legal (fun f a b => f.div a b) hon hs, realOp_legal (fun f _ b => f.sqrt b) hon hs,
      realOp_legal (fun f _ b => f.abs b) hon hs, realOp_legal (fun f _ b => f.neg b) hon hs⟩
  case comparison =>
    intro s c sh w d src b hon g a o done hs
    exact ⟨fcmpOp_legal .eq hon hs (fcmpResult_eq .eq o), fcmpOp_legal .ne hon hs (fcmpResult_eq .ne o),
      fcmpOp_legal .lt hon hs (fcmpResult_eq .lt o), fcmpOp_legal .le hon hs (fcmpResult_eq .le o),
      fcmpOp_legal .gt hon hs (fcmpResult_eq .gt o), fcmpOp_legal .ge hon hs (fcmpResult_eq .ge o)⟩
  case conversion =>
    intro s c sh hon g pc1 low doneF doneW
    refine ⟨fun w d r => (coreDo_regs hon rfl : execItof c w d r s = _), fun d r => (coreDo_regs hon rfl : execFcvt c .b64 d r s = _),
      fun d r => (coreDo_regs hon rfl : execFcvt c .b32 d r s = _), ?ftoi⟩
    intro w d r x
    refine ⟨fun h => ftoi_gives hon (FloatFmt.toI32_nan h), fun h => ftoi_gives hon (FloatFmt.toI32_inf h),
      fun h => ftoi_gives hon (FloatFmt.toI32_inf h), ?fin⟩
    intro neg m e h v
    exact ⟨fun hv => ftoi_gives hon (FloatFmt.toI32_low h hv), fun hv => ftoi_gives hon (FloatFmt.toI32_high h hv),
      fun hl hh => ftoi_gives hon (FloatFmt.toI32_within h hl hh)⟩

end Sys2Proof.Machine
end

section
/-!
PROOF. LEA, CRD, DIAG and URGENT (R106, R107, R110, R115, R116).
-/

namespace Sys2Proof.Machine

/-! ### LEA -/

/-- The area of a point address, as LEA keeps it. -/
theorem toNat_area (a : PointAddr) : (a &&& 0xF00000#24).toNat = a.toNat / 2 ^ 20 * 2 ^ 20 := by
  have h : a &&& 0xF00000#24 = (a >>> 20) <<< 20 := by
    ext i hi
    interval_cases i <;> simp
  have hlt : a.toNat / 2 ^ 20 < 2 ^ 4 := by omega
  rw [h, BitVec.toNat_shiftLeft, BitVec.toNat_ushiftRight, Nat.shiftRight_eq_div_pow, Nat.shiftLeft_eq]
  omega

/-- The index that LEA forms, modulo 2^20. -/
theorem toNat_leaIndex (a : PointAddr) (off : BitVec 14) :
    ((a.setWidth 20 : BitVec 20) + off.signExtend 20).toNat = (((a.toNat : Int) + off.toInt) % 2 ^ 20).toNat := by
  have ha : (a.setWidth 20 : BitVec 20) = BitVec.ofInt 20 a.toNat := by rw [BitVec.ofInt_natCast, BitVec.ofNat_toNat]
  rw [ha, BitVec.signExtend, ← BitVec.ofInt_add, BitVec.toNat_ofInt]
  rfl

/-- The address that LEA forms of an index register and an offset: the area, and the index moved modulo 2^20 (R106). -/
theorem lea_address (a : PointAddr) (off : BitVec 14) :
    (a &&& 0xF00000#24) ||| ((a.setWidth 20 : BitVec 20) + off.signExtend 20).setWidth 24 =
      BitVec.ofNat 24 (a.toNat / 2 ^ 20 * 2 ^ 20 + (((a.toNat : Int) + off.toInt) % 2 ^ 20).toNat) := by
  rw [← toNat_leaIndex]
  generalize (a.setWidth 20 : BitVec 20) + off.signExtend 20 = ix
  have hix := ix.isLt
  apply BitVec.eq_of_toNat_eq
  rw [BitVec.toNat_or, toNat_area, BitVec.toNat_setWidth, BitVec.toNat_ofNat, Nat.mod_eq_of_lt (by omega), Nat.mul_comm,
    ← Nat.two_pow_add_eq_or_of_lt hix, Nat.mod_eq_of_lt (by omega)]

/-! ### CRD -/

/-- A cell number below 8192 with the counter flag clear. -/
theorem timerCell_bits {cell : Nat} (h : cell < 8192) : bit cell 15 = false ∧ bits cell 14 13 = 0 ∧ cell % 8192 = cell := by
  refine ⟨?_, ?_, Nat.mod_eq_of_lt h⟩
  · simp only [bit, beq_eq_false_iff_ne]; omega
  · simp only [bits]; omega

/-- A cell number below 8192 with the counter flag set. -/
theorem counterCell_bits {cell : Nat} (h : cell < 8192) :
    bit (0x8000 + cell) 15 = true ∧ bits (0x8000 + cell) 14 13 = 0 ∧ (0x8000 + cell) % 8192 = cell := by
  refine ⟨?_, ?_, by omega⟩
  · simp only [bit, beq_iff_eq]; omega
  · simp only [bits]; omega

/-- The number of a cell in a source that CRD takes: an immediate, or the low half of a register. -/
def CoreRegs.cellNumber (g : CoreRegs) (src : Src) : Option Nat :=
  match src with
  | .imm v => some v.toNat
  | .reg r => some (g.w[r.toNat].toNat % 65536)
  | _ => none

section OnCores

variable {s : State} {c : Nat} {sh : Shot} {d : BitVec 4}

/-- CRD of a cell that the context owns (R110). -/
theorem execCrd_owned {src : Src} {n : Nat} (hon : s.onCores c = some sh) (hn : (s.ctx c).regs.cellNumber src = some n)
    (h0 : bits n 14 13 = 0) (howns : s.ownsCell c (bit n 15) (n % 8192) = true) :
    execCrd c d src s = .next (s.setCtx c { s.ctx c with
      regs := (((s.ctx c).regs.setW d (if bit n 15 then BitVec.ofInt 32 (s.viewCounter sh (n % 8192)).cv
                                       else BitVec.ofNat 32 (s.viewTimer sh (n % 8192)).et)).adv 1) }) := by
  refine coreDo_regs hon ?_
  cases src
  case imm v | reg r =>
    cases hn
    simp only [h0, howns, decide_true, Bool.and_true, if_true]
  case ind | dir => cases hn

theorem crd_timer {src : Src} {cell : Nat} (hon : s.onCores c = some sh) (hcell : cell < 8192)
    (hn : (s.ctx c).regs.cellNumber src = some cell) (howns : s.ownsCell c false cell = true) :
    Gives (.crd c d src) s (s.setCtx c { s.ctx c with
      regs := ((s.ctx c).regs.setW d (BitVec.ofNat 32 (s.viewTimer sh cell).et)).adv 1 }) := by
  obtain ⟨hflag, h0, hmod⟩ := timerCell_bits hcell
  have h := execCrd_owned (d := d) hon hn h0 (by rw [hflag, hmod]; exact howns)
  rw [hflag, hmod] at h
  exact h

theorem crd_counter {src : Src} {cell : Nat} (hon : s.onCores c = some sh) (hcell : cell < 8192)
    (hn : (s.ctx c).regs.cellNumber src = some (0x8000 + cell)) (howns : s.ownsCell c true cell = true) :
    Gives (.crd c d src) s (s.setCtx c { s.ctx c with
      regs := ((s.ctx c).regs.setW d (BitVec.ofInt 32 (s.viewCounter sh cell).cv)).adv 1 }) := by
  obtain ⟨hflag, h0, hmod⟩ := counterCell_bits hcell
  have h := execCrd_owned (d := d) hon hn h0 (by rw [hflag, hmod]; exact howns)
  rw [hflag, hmod] at h
  exact h

/-! ### DIAG -/

theorem diag_dir {wide : Bool} {ix : BitVec 13} (hon : s.onCores c = some sh) (hodd : wide = true → ix.toNat % 2 = 0) :
    Gives (.diag c d wide (.dir ix)) s (s.setCtx c { s.ctx c with
      regs := ((s.ctx c).regs.setW d (BitVec.ofNat 32
        (if wide then s.viewPt sh (mkPt 7 ix.toNat) + 65536 * s.viewPt sh (mkPt 7 (ix.toNat + 1))
         else s.viewPt sh (mkPt 7 ix.toNat)))).adv 1 }) := by
  have hlegal : (wide && ix.toNat % 2 == 1) = false := by
    cases wide
    case false => rfl
    case true => simp [hodd rfl]
  exact (coreDo_regs hon (by simp only [hlegal]; rfl) : execDiag c d wide (.dir ix) s = _)

theorem diag_ind {wide : Bool} {k : BitVec 2} {off : BitVec 13} {e : IndEntry} (hon : s.onCores c = some sh)
    (harea : ptArea (s.ctx c).regs.a[k.toNat].toNat = 7)
    (hix : ptIndex (s.ctx c).regs.a[k.toNat].toNat + off.toNat < 8192)
    (he : s.program.indAt (s.ctx c).regs.pc.toNat 0 = some e)
    (hodd : wide = true → (ptIndex (s.ctx c).regs.a[k.toNat].toNat + off.toNat) % 2 = 0)
    (hcov : e.covers (mkPt 7 (ptIndex (s.ctx c).regs.a[k.toNat].toNat + off.toNat)) (if wide then 2 else 1) = true) :
    Gives (.diag c d wide (.ind k off)) s (s.setCtx c { s.ctx c with
      regs := ((s.ctx c).regs.setW d (BitVec.ofNat 32
        (if wide then s.viewPt sh (mkPt 7 (ptIndex (s.ctx c).regs.a[k.toNat].toNat + off.toNat)) +
            65536 * s.viewPt sh (mkPt 7 (ptIndex (s.ctx c).regs.a[k.toNat].toNat + off.toNat + 1))
         else s.viewPt sh (mkPt 7 (ptIndex (s.ctx c).regs.a[k.toNat].toNat + off.toNat))))).adv 1 }) := by
  have hlegal : (wide && (ptIndex (s.ctx c).regs.a[k.toNat].toNat + off.toNat) % 2 == 1) = false := by
    cases wide
    case false => rfl
    case true => simp [hodd rfl]
  refine (coreDo_regs hon ?_ : execDiag c d wide (.ind k off) s = _)
  simp only [harea, he, hcov, hlegal, hix, beq_self_eq_true, decide_true, Bool.not_false, Bool.and_true, if_true]

/-! ### URGENT -/

/-- URGENT puts the channel into its bay's queue once and moves PC on (R116). -/
theorem execUrgent_legal {bay : Bool} {ch : BitVec 4} (hon : s.onCores c = some sh) (hbay : bayExists s.dev.part (b2n bay) = true)
    (hch : ch.toNat < bayChannels s.dev.part) :
    execUrgent c bay ch s =
      (let b := tget EngBay.init s.eng.bays (b2n bay)
       let b1 := { b with urgent := if ch.toNat ∈ b.urgent then b.urgent else b.urgent ++ [ch.toNat] }
       let t := s.setCtx c { s.ctx c with regs := (s.ctx c).regs.adv 1 }
       .next { t with eng := { s.eng with bays := tset s.eng.bays (b2n bay) b1 } }) := by
  simp only [execUrgent, hon, hbay, hch, decide_true, Bool.and_true, if_true, List.contains_iff_mem]
  rfl

end OnCores

/-! ### O10 -/

/-- Settles O10: LEA forms its address without a check, CRD and DIAG load what the shot's view holds, URGENT queues a request. -/
theorem addressCellAndDiagnosticAccesses : Obligations.AddressCellAndDiagnosticAccesses := by
  refine ⟨?addressesAndCells, ?diagnostics⟩
  case addressesAndCells =>
    intro s c sh hon g pcBy doneA doneW
    refine ⟨fun d r => (coreDo_regs hon rfl : execLea c d (.reg r) s = _), fun d p => (coreDo_regs hon rfl : execLea c d (.dir p) s = _),
      fun d k off => ?ind, fun d cell hcell => ⟨?timer, ?counter, ?timerReg, ?counterReg⟩⟩
    case ind =>
      rw [← lea_address]
      exact (coreDo_regs hon rfl : execLea c d (.ind k off) s = _)
    case timer =>
      intro howns
      refine crd_timer hon hcell ?_ howns
      simp only [CoreRegs.cellNumber, BitVec.toNat_ofNat, Option.some.injEq]
      omega
    case counter =>
      intro howns
      refine crd_counter hon hcell ?_ howns
      simp only [CoreRegs.cellNumber, BitVec.toNat_ofNat, Option.some.injEq]
      omega
    case timerReg => exact fun r hr howns => crd_timer hon hcell (congrArg some hr) howns
    case counterReg => exact fun r hr howns => crd_counter hon hcell (congrArg some hr) howns
  case diagnostics =>
    intro s c sh hon g dg done
    refine ⟨fun d ix => ⟨diag_dir hon (by simp), fun hodd => diag_dir hon fun _ => hodd⟩, ?ind, ?urgent⟩
    case ind =>
      intro d k off e ix harea hix he
      exact ⟨fun hcov => diag_ind hon harea hix he (by simp) hcov, fun hodd hcov => diag_ind hon harea hix he (fun _ => hodd) hcov⟩
    case urgent =>
      intro bay ch hbay hch
      refine ⟨_, execUrgent_legal hon hbay hch, rfl, fun k => s.ctx_setCtx c k _, ?_⟩
      intro b y
      exact tget_tset EngBay.init _ s.eng.bays (b2n bay) y

end Sys2Proof.Machine
end

section
/-!
PROOF. Who holds the cores after a dispatch and what it leaves of each context (R74-R77): of a shot a dispatch changes the phase alone.
-/

namespace Sys2Proof.Machine

/-- A slot with its shot, where it holds one, in phase `p`. -/
def Ctx.inPhase (x : Ctx) (p : ShotPhase) : Ctx := { x with shot := x.shot.map (fun sh => { sh with phase := p }) }

theorem State.ctx_setPhase (s : State) (c k : Nat) (p : ShotPhase) :
    (s.setPhase c p).ctx k = if k = c then (s.ctx k).inPhase p else s.ctx k := by
  unfold State.setPhase
  extract_lets x
  split
  · next h =>
    have hsame : (s.ctx c).inPhase p = s.ctx c := by
      have hx : (s.ctx c).shot = none := h
      rw [Ctx.inPhase, hx, Option.map_none, ← hx]
    split
    · next hk => rw [hk, hsame]
    · rfl
  · next sh h =>
    have hx : (s.ctx c).shot = some sh := h
    rw [State.ctx_setCtx]
    split
    · next hk => rw [hk, Ctx.inPhase, hx]; rfl
    · rfl

@[simp] theorem State.ctx_bump (s : State) (pid w k : Nat) : (s.bump pid w).ctx k = s.ctx k := by
  obtain ⟨p, f, h⟩ := s.bump_shape pid w
  rw [h]
  rfl

/-- After a dispatch the cores are where they should be (R74, R77). -/
theorem State.dispatch_cores (s : State) : s.dispatch.sched.cores = s.coreChoice := by
  unfold State.dispatch
  extract_lets next s1 s2
  split
  · next h => exact (beq_iff_eq.mp h).symm
  · rfl

/-- What a dispatch makes of a context: CORE where it gets the cores, PREEMPTED where it gives them up (R75); context 0 has no shot. -/
def State.afterDispatch (s : State) (k : Nat) : Ctx :=
  if k = 0 ∨ s.coreChoice = s.sched.cores then s.ctx k
  else if s.coreChoice = some k then (s.ctx k).inPhase .core
  else if s.sched.cores = some k then (s.ctx k).inPhase .preempted
  else s.ctx k

/-- A change of the user context that `o` names is seen in its slot alone. -/
theorem State.ctx_handOver {s : State} {k : Nat} (o : Option Nat) (f : Nat → State) (g : Ctx → Ctx)
    (hf : ∀ c, (f c).ctx k = if k = c then g (s.ctx k) else s.ctx k) :
    (o.elim s (fun c => if c = 0 then s else f c)).ctx k = if k ≠ 0 ∧ o = some k then g (s.ctx k) else s.ctx k := by
  rcases o with - | c
  · simp
  · have hiff : k ≠ 0 ∧ some c = some k ↔ c ≠ 0 ∧ k = c := by
      rw [Option.some_inj, eq_comm (a := c)]
      exact and_congr_left fun h => by rw [h]
    rw [Option.elim_some, if_congr hiff rfl rfl]
    by_cases h0 : c = 0
    · rw [if_pos h0, if_neg fun h => h.1 h0]
    · rw [if_neg h0, hf, if_congr (and_iff_right h0) rfl rfl]

theorem State.ctx_dispatch (s : State) (k : Nat) : s.dispatch.ctx k = s.afterDispatch k := by
  unfold State.dispatch State.afterDispatch
  extract_lets next s1 s2
  have e1 : s1 = s.sched.cores.elim s (fun c => if c = 0 then s else (s.setPhase c .preempted).bump 0x707 64) := by
    simp only [s1]
    cases s.sched.cores <;> rfl
  have e2 : s2 = next.elim s1 (fun c => if c = 0 then s1 else s1.setPhase c .core) := by
    simp only [s2]
    cases next <;> rfl
  have h1 : s1.ctx k = if k ≠ 0 ∧ s.sched.cores = some k then (s.ctx k).inPhase .preempted else s.ctx k := by
    rw [e1]
    exact State.ctx_handOver _ _ (·.inPhase .preempted) fun c => by rw [State.ctx_bump, State.ctx_setPhase]
  have h2 : s2.ctx k = if k ≠ 0 ∧ next = some k then (s1.ctx k).inPhase .core else s1.ctx k := by
    rw [e2]
    exact State.ctx_handOver _ _ (·.inPhase .core) fun c => s1.ctx_setPhase c k .core
  by_cases hsame : next = s.sched.cores
  · rw [if_pos (beq_iff_eq.mpr hsame), if_pos (.inr hsame)]
  · rw [if_neg (mt beq_iff_eq.mp hsame)]
    change s2.ctx k = _
    rw [h2, h1]
    by_cases hk : k = 0
    · rw [if_neg fun h => h.1 hk, if_neg fun h => h.1 hk, if_pos (.inl hk)]
    · have hmoved : ¬ (k = 0 ∨ next = s.sched.cores) := not_or.mpr ⟨hk, hsame⟩
      rw [if_congr (and_iff_right hk) rfl rfl, if_congr (and_iff_right hk) rfl rfl, if_neg hmoved]
      by_cases hnext : next = some k
      · rw [if_pos hnext, if_pos hnext, if_neg fun h => hsame (hnext.trans h.symm)]
      · rw [if_neg hnext, if_neg hnext]

/-- A user context whose shot cannot run, or which has none, is not chosen for the cores (R74). -/
theorem State.coreChoice_ne {s : State} {c : Nat} (hc : c ≠ 0) (h : ∀ sh, (s.ctx c).shot = some sh → sh.wantsCores = false) :
    s.coreChoice ≠ some c := by
  have hready : s.readyUser ≠ some c := by
    intro hr
    have hp := List.find?_some hr
    split at hp
    · next sh hsh => rw [h sh hsh] at hp; exact Bool.false_ne_true hp
    · exact Bool.false_ne_true hp
  unfold State.coreChoice
  split
  · simp
  · split
    · split
      · exact fun h0 => hc (Option.some.inj h0).symm
      · simp
    · next k hk =>
      split
      · exact fun h0 => hc (Option.some.inj h0).symm
      · exact fun h0 => hready (hk.trans h0)

/-- Where nobody holds the cores, a dispatch leaves a context that cannot run as it is. -/
theorem State.ctx_dispatch_idle {s : State} {c : Nat} (hc : c ≠ 0) (hcores : s.sched.cores = none)
    (h : ∀ sh, (s.ctx c).shot = some sh → sh.wantsCores = false) : s.dispatch.ctx c = s.ctx c := by
  rw [s.ctx_dispatch, State.afterDispatch, if_neg (State.coreChoice_ne hc h), hcores, if_neg (Option.some_ne_none c).symm,
    ite_self]

/-- A context on the cores is a user context that holds them, with its shot in CORE and no write awaited. -/
theorem State.onCores_some {s : State} {c : Nat} {sh : Shot} (h : s.onCores c = some sh) :
    (s.ctx c).shot = some sh ∧ s.sched.cores = some c ∧ c ≠ 0 ∧ sh.phase = .core ∧ sh.waiting = none := by
  unfold State.onCores at h
  split at h
  · next sh' hsh =>
    split at h
    · next hp =>
      cases h
      simpa [hsh, and_assoc] using hp
    · cases h
  · cases h

end Sys2Proof.Machine
end

section
/-!
PROOF. Jumps, CALL, RET and JUNCTION (R68, R112-R114).
-/

namespace Sys2Proof.Machine

variable {s : State} {c : Nat} {sh : Shot}

/-! ### A context that leaves the cores -/

/-- Context `c` has slot `x` and nobody holds the cores. -/
def State.offCores (s : State) (c : Nat) (x : Ctx) : State := { s.setCtx c x with sched := { s.sched with cores := none } }

theorem State.ctx_offCores (s : State) (c : Nat) (x : Ctx) : (s.offCores c x).ctx c = x := s.setCtx_ctx_same c x

/-- A dispatch after a context has left the cores: the slots, the scheduler and the counters of pre-emption change, the context's own
slot stays, and it does not get the cores back while its shot cannot run. -/
theorem State.offCores_dispatch {x : Ctx} (hc : c ≠ 0) (h : ∀ sh, x.shot = some sh → sh.wantsCores = false) :
    let t := (s.offCores c x).dispatch
    t = { s with ctxs := t.ctxs, sched := t.sched, params := t.params, freeCtr := t.freeCtr } ∧
      t.ctx c = x ∧ t.sched.cores ≠ some c := by
  intro t
  have hx : ∀ sh, ((s.offCores c x).ctx c).shot = some sh → sh.wantsCores = false := by
    rw [State.ctx_offCores]
    exact h
  refine ⟨?frame, ?slot, ?cores⟩
  case frame =>
    obtain ⟨y, p, f, k, e⟩ := (s.offCores c x).dispatch_shape
    simp only [t, e]
    rfl
  case slot => exact (State.ctx_dispatch_idle hc rfl hx).trans (s.ctx_offCores c x)
  case cores =>
    rw [State.dispatch_cores]
    exact State.coreChoice_ne hc hx

/-! ### Jumps and calls -/

/-- A jump to a target that the loader takes (R112). -/
theorem jump_legal {target : CodeIx} (take : Bool → Bool) (hon : s.onCores c = some sh)
    (hin : s.inCode c (s.ctx c).regs.pc target = true) :
    s.jump c target take = .next (s.setCtx c { s.ctx c with
      regs := { (s.ctx c).regs with pc := if take (s.ctx c).regs.ba then target else (s.ctx c).regs.pc + 1#20 } }) := by
  refine coreDo_regs hon ?_
  rw [if_pos hin]
  cases take (s.ctx c).regs.ba <;> rfl

theorem call_gives {target : CodeIx} (hon : s.onCores c = some sh) (hdepth : (s.ctx c).regs.calls.length < 16) :
    Gives (.call c target) s (s.setCtx c { s.ctx c with
      regs := { (s.ctx c).regs with pc := target,
                                    calls := ((s.ctx c).regs.pc + 1#20, (s.ctx c).regs.a[3]) :: (s.ctx c).regs.calls } }) :=
  (coreDo_regs hon (if_pos hdepth) : execCall c target s = _)

theorem ret_pops {pc : CodeIx} {a3 : PointAddr} {rest : List (CodeIx × PointAddr)} (hon : s.onCores c = some sh)
    (hcalls : (s.ctx c).regs.calls = (pc, a3) :: rest) :
    Gives (.ret c) s (s.setCtx c { s.ctx c with
      regs := { (s.ctx c).regs with pc := pc, a := (s.ctx c).regs.a.set 3 a3, calls := rest } }) := by
  change execRet c s = _
  simp only [execRet, hon, hcalls]

/-! ### The end of a shot -/

theorem execRet_end (hon : s.onCores c = some sh) (hcalls : (s.ctx c).regs.calls = []) :
    execRet c s = .next (s.completeShot c) := by
  simp only [execRet, hon, hcalls]

/-- The time from the grid instant to the FCLK cycle in which the shot's completion is registered (R68). -/
def State.execTime (s : State) (sh : Shot) : Ns := s.clk.tick.stime - sh.t0

/-- The slot of a context whose shot has completed (R44, R68). -/
def State.completed (s : State) (c : Nat) (sh : Shot) : Ctx :=
  { s.ctx c with
    shot := some { sh with phase := .done, doneAt := some s.clk.tick.stime },
    execLast := s.execTime sh, execWorst := max (s.ctx c).execWorst (s.execTime sh) }

theorem completeShot_within (hshot : (s.ctx c).shot = some sh) (hcores : s.sched.cores = some c)
    (h : (s.ctx c).watchLimit = 0 ∨ s.execTime sh ≤ (s.ctx c).watchLimit) :
    s.completeShot c = (s.offCores c (s.completed c sh)).dispatch := by
  have hovr : ((s.ctx c).watchLimit != 0 && decide ((s.ctx c).watchLimit < s.execTime sh)) = false := by
    rw [Bool.and_eq_false_iff, bne_eq_false_iff_eq, decide_eq_false_iff_not]
    exact h.imp_right Nat.not_lt.mpr
  rw [State.execTime] at hovr
  simp only [State.completeShot, hshot, hovr, State.setCtx_sched, hcores, beq_self_eq_true, if_true, Bool.false_eq_true, if_false]
  rfl

theorem completeShot_above (hshot : (s.ctx c).shot = some sh) (hcores : s.sched.cores = some c)
    (h0 : (s.ctx c).watchLimit ≠ 0) (h : (s.ctx c).watchLimit < s.execTime sh) :
    s.completeShot c =
      ((s.offCores c { s.completed c sh with watchCount := (s.ctx c).watchCount + 1 }).raise 18 c 0).dispatch := by
  have hovr : ((s.ctx c).watchLimit != 0 && decide ((s.ctx c).watchLimit < s.execTime sh)) = true := by
    rw [Bool.and_eq_true, bne_iff_ne, decide_eq_true_iff]
    exact ⟨h0, h⟩
  rw [State.execTime] at hovr
  simp only [State.completeShot, hshot, hovr, State.setCtx_sched, hcores, beq_self_eq_true, if_true]
  rfl

/-! ### JUNCTION -/

/-- What the truss captures of a context's registers (R114). -/
def CoreRegs.captured (g : CoreRegs) (first count : Nat) : JunctionReq :=
  { next := first, left := count, ba := g.ba, a := g.a, w14 := g.w[14] }

theorem execJunction_legal {e : CtxEntry} {n : BitVec 10} {first : W16} (hon : s.onCores c = some sh) (hcfg : (s.ctx c).cfg = some e)
    (hlow : e.netFirst ≤ first.toNat) (hhigh : first.toNat + n.toNat + 1 ≤ e.netFirst + e.netCount) :
    execJunction c n first s = .next (s.offCores c { s.ctx c with
      regs := (s.ctx c).regs.adv 1,
      shot := some { sh with phase := .truss, junction := some ((s.ctx c).regs.captured first.toNat (n.toNat + 1)) } }).dispatch := by
  simp only [execJunction, hon, hcfg, hlow, hhigh, decide_true, Bool.and_self, if_true]
  rfl

/-! ### O15 -/

/-- Settles O15: jumps and calls change PC and the call stack alone; a shot that ends and a junction leave the cores, and the dispatch
that follows does not touch their slot. -/
theorem jumpsCallsAndJunctions : Obligations.JumpsCallsAndJunctions := by
  refine ⟨?jumps, ?junction⟩
  case jumps =>
    intro s c sh hon g done
    obtain ⟨hshot, hcores, hc, -, -⟩ := State.onCores_some hon
    refine ⟨fun target hin => ⟨jump_legal (fun _ => true) hon hin, jump_legal (fun b => b) hon hin, ?jnc⟩,
      fun target => call_gives hon, fun pc a3 rest => ret_pops hon, ?ends⟩
    case jnc =>
      have h := jump_legal (fun b => !b) hon hin
      simp only [Bool.not_eq_true', ← Bool.not_eq_true, ite_not] at h
      exact h
    case ends =>
      intro took ends hcalls
      refine ⟨fun hw => ?within, fun h0 hw => ?above⟩
      case within =>
        exact ⟨_, (execRet_end hon hcalls).trans (congrArg _ (completeShot_within hshot hcores hw)),
          State.offCores_dispatch hc fun q hq => by cases hq; rfl⟩
      case above => exact (execRet_end hon hcalls).trans (congrArg _ (completeShot_above hshot hcores h0 hw))
  case junction =>
    intro s c sh e n first hon hcfg hlow hhigh g
    obtain ⟨-, -, hc, -, -⟩ := State.onCores_some hon
    obtain ⟨hframe, hslot, hcores⟩ := State.offCores_dispatch (s := s) (c := c) (x := { s.ctx c with
      regs := g.adv 1, shot := some { sh with phase := .truss, junction := some (g.captured first.toNat (n.toNat + 1)) } })
      hc fun q hq => by cases hq; rfl
    refine ⟨_, execJunction_legal hon hcfg hlow hhigh, hframe, hcores, ?_, ?_⟩
    · rw [hslot]; rfl
    · intro j; rw [hslot]; rfl

end Sys2Proof.Machine
end

section
/-!
PROOF. What a fault and a mismatch leave of the records of triple execution (R366, R371).
-/

namespace Sys2Proof.Machine

variable {s t u : State}

/-! ### Operations that leave triple execution as it is -/

@[simp] theorem State.bump_tmr (s : State) (pid w : Nat) : (s.bump pid w).tmr = s.tmr := by
  obtain ⟨p, f, h⟩ := s.bump_shape pid w
  rw [h]

@[simp] theorem State.logRec_tmr (s : State) (type : Nat) (bytes : List Byte) (q : Nat) (r : Bool) :
    (s.logRec type bytes q r).tmr = s.tmr := by
  obtain ⟨p, f, q', o, h⟩ := s.logRec_shape type bytes q r
  rw [h]

@[simp] theorem State.log_tmr (s : State) (type : Nat) (bytes : List Byte) : (s.log type bytes).tmr = s.tmr :=
  s.logRec_tmr type bytes 0 false

@[simp] theorem State.answer_tmr (s : State) (m completion status detail : Nat) (data : List Byte) :
    (s.answer m completion status detail data).tmr = s.tmr := by
  obtain ⟨x, y, h⟩ := s.answer_shape m completion status detail data
  rw [h]

@[simp] theorem State.refuse_tmr (s : State) (m status detail : Nat) : (s.refuse m status detail).tmr = s.tmr :=
  s.answer_tmr m 9 status detail []

@[simp] theorem State.abort_tmr (s : State) (m : Nat) : (s.abort m).tmr = s.tmr := s.answer_tmr m 0x0B 0 0 []

@[simp] theorem State.scarfSend_tmr (s : State) (fs : List ScarfOut) : (s.scarfSend fs).tmr = s.tmr := by
  obtain ⟨a, b, c, h⟩ := s.scarfSend_shape fs
  rw [h]

@[simp] theorem State.updDiscard_tmr (s : State) (reason status : Nat) : (s.updDiscard reason status).tmr = s.tmr := by
  obtain ⟨p, f, n, u, h⟩ := s.updDiscard_shape reason status
  rw [h]

@[simp] theorem State.abandonEdit_tmr (s : State) (cause : Nat) : (s.abandonEdit cause).tmr = s.tmr := by
  obtain ⟨p, f, n, g, h⟩ := s.abandonEdit_shape cause
  rw [h]

@[simp] theorem State.editOnTransition_tmr (s : State) (dest : DevState) : (s.editOnTransition dest).tmr = s.tmr := by
  obtain ⟨p, f, n, g, h⟩ := s.editOnTransition_shape dest
  rw [h]

@[simp] theorem State.refuseLoad_tmr (s : State) (m status detail : Nat) : (s.refuseLoad m status detail).tmr = s.tmr := by
  obtain ⟨h, g, e⟩ := s.refuseLoad_shape m status detail
  rw [e]

@[simp] theorem State.overtake_tmr (s : State) (dest : DevState) : (s.overtake dest).tmr = s.tmr := by
  obtain ⟨x, y, p, f, q, o, a, b, h⟩ := s.overtake_shape dest
  rw [h]

@[simp] theorem State.leaveRun_tmr (s : State) : s.leaveRun.tmr = s.tmr := by
  obtain ⟨x, k, e, g, h⟩ := s.leaveRun_shape
  rw [h]

@[simp] theorem State.blockReset_tmr (s : State) (src index : Nat) : (s.blockReset src index).tmr = s.tmr := by
  obtain ⟨a, b, c, d, e, h⟩ := s.blockReset_shape src index
  rw [h]

@[simp] theorem State.dropAndDispatch_tmr (s : State) (c : Nat) (r : DropReason) : (s.dropAndDispatch c r).tmr = s.tmr := by
  obtain ⟨x, p, f, k, h⟩ := s.dropAndDispatch_shape c r
  rw [h]

theorem State.ite_tmr {p : Prop} [Decidable p] {v : Tmr} (ht : t.tmr = v) (hu : u.tmr = v) : (if p then t else u).tmr = v := by
  split
  · exact ht
  · exact hu

theorem State.writeShim_shape (s : State) :
    ∃ a b, s.writeShim = { s.writeRow a b with upd := { s.upd with jSeq := s.upd.jSeq + 1 } } := ⟨_, _, rfl⟩

@[simp] theorem State.writeShim_tmr (s : State) : s.writeShim.tmr = s.tmr := by
  obtain ⟨a, b, h⟩ := s.writeShim_shape
  rw [h, State.writeRow]

@[simp] theorem State.updRevert_tmr (s : State) (reason : Nat) : (s.updRevert reason).tmr = s.tmr := by
  unfold State.updRevert
  rw [State.writeShim_tmr]

@[simp] theorem State.updReverted_tmr (s : State) : s.updReverted.tmr = s.tmr := by
  unfold State.updReverted
  extract_lets t u
  have ht : t.tmr = s.tmr := by
    simp only [t]
    split
    · exact State.ite_tmr (s.refuse_tmr _ _ _) (State.ite_tmr (s.refuse_tmr _ _ _) (s.abort_tmr _))
    · rfl
  have hu : u.tmr = t.tmr := (State.bump_tmr _ _ _).trans (t.log_tmr _ _)
  rw [State.writeShim_tmr]
  exact hu.trans ht

@[simp] theorem State.updPartnerGone_tmr (s : State) : s.updPartnerGone.tmr = s.tmr :=
  State.ite_tmr (State.updReverted_tmr _) rfl

@[simp] theorem State.abandonUpdate_tmr (s : State) : s.abandonUpdate.tmr = s.tmr := by
  unfold State.abandonUpdate
  split <;> simp

@[simp] theorem State.verdictLost_tmr (s : State) : s.verdictLost.tmr = s.tmr := by
  unfold State.verdictLost
  split <;> simp

@[simp] theorem State.leavePair_tmr (s : State) (tell : Bool) : (s.leavePair tell).tmr = s.tmr := by
  unfold State.leavePair
  split
  · extract_lets s' t u
    have hs : s'.tmr = s.tmr := State.ite_tmr (s.scarfSend_tmr _) rfl
    have hu : u.tmr = s'.tmr := by simp only [u, t, State.updPartnerGone_tmr, State.verdictLost_tmr, State.abandonEdit_tmr, State.log_tmr]
    exact hu.trans hs
  · rfl

/-! ### Transitions and faults -/

/-- Of triple execution `t` differs from `s` in the cycle from which cores compare and in the interrupts that wait, at most. -/
def State.TmrAlike (s t : State) : Prop := ∃ n k, t.tmr = { s.tmr with cmpFrom := n, irqPending := k }

theorem State.TmrAlike.of_eq (h : t.tmr = s.tmr) : s.TmrAlike t := ⟨s.tmr.cmpFrom, s.tmr.irqPending, h⟩

theorem State.TmrAlike.refl (s : State) : s.TmrAlike s := .of_eq rfl

theorem State.TmrAlike.withFlt (s : State) (f : Faults) : s.TmrAlike { s with flt := f } := .of_eq rfl

theorem State.TmrAlike.trans (h : s.TmrAlike t) (k : t.TmrAlike u) : s.TmrAlike u := by
  obtain ⟨n, i, h⟩ := h
  obtain ⟨n', i', k⟩ := k
  exact ⟨n', i', by rw [k, h]⟩

theorem State.TmrAlike.ite {p : Prop} [Decidable p] (h : s.TmrAlike t) (k : s.TmrAlike u) : s.TmrAlike (if p then t else u) := by
  split
  · exact h
  · exact k

/-- A transition sets the cycle from which cores compare (R27). -/
theorem State.TmrAlike.enter (s : State) (dest : DevState) (requester : Nat) (imm : Bool) :
    s.TmrAlike (s.enter dest requester imm) := by
  unfold State.enter
  extract_lets from_ s1 s2 s3 s4 s4' s5 clean cmp
  have h1 : s1.tmr = s.tmr := State.ite_tmr s.leaveRun_tmr (State.ite_tmr rfl rfl)
  have h2 : s2.tmr = s1.tmr := s1.editOnTransition_tmr dest
  have h3 : s3.tmr = s2.tmr := State.ite_tmr s2.abandonUpdate_tmr rfl
  have h4 : s4.tmr = s3.tmr := State.ite_tmr (State.ite_tmr (s3.scarfSend_tmr _) rfl) (s3.leavePair_tmr true)
  have h5 : s5.tmr = s4.tmr := (State.log_tmr _ _ _).trans (s4.overtake_tmr dest)
  have h := h5.trans (h4.trans (h3.trans (h2.trans h1)))
  exact ⟨if cmp && (from_ == .stop || from_ == .run) then s5.tmr.cmpFrom else s5.clk.ticks, s5.tmr.irqPending, by rw [← h]; rfl⟩

theorem State.TmrAlike.severityAction (s : State) (sev src seq : Nat) : s.TmrAlike (s.severityAction sev src seq) := by
  unfold State.severityAction
  extract_lets again
  have safe : s.TmrAlike { s.enter .safe 0 true with
      flt := { (s.enter .safe 0 true).flt with safeSrcs := [src], newestSafe := seq } } :=
    (State.TmrAlike.enter s .safe 0 true).trans (.withFlt _ _)
  refine .ite (.withFlt s _) (.ite (.refl s) ?_)
  split
  · exact .enter s .recovery 0 true
  · exact .ite safe (.enter s .stop 0 true)
  · split
    · exact .refl s
    · exact .of_eq (s.updDiscard_tmr 8 0)
    · exact .of_eq (s.updDiscard_tmr 8 0)
    · exact .of_eq (s.updRevert_tmr 8)
  · exact .ite safe (.of_eq rfl)

/-- A fault record counts an interrupt where its reactions ask for one, and may bring a transition (R377, R379). -/
theorem State.TmrAlike.formRecord (s : State) (src index data sev flags esc : Nat) :
    s.TmrAlike (s.formRecord src index data sev flags esc) := by
  unfold State.formRecord
  extract_lets p seq r waits s' f0 f1 t0 t1 t2 t3 v f2 t4
  have hs : s'.tmr = s.tmr := State.ite_tmr (s.log_tmr _ _) rfl
  have h0 : s.TmrAlike t0 := ⟨s.tmr.cmpFrom, s'.tmr.irqPending + b2n (bit p.react 0), by rw [← hs]⟩
  have h1 : t1.tmr = t0.tmr := t0.logRec_tmr _ _ _ _
  have h2 : t2.tmr = t1.tmr := State.ite_tmr rfl rfl
  have h3 : t3.tmr = t2.tmr := State.ite_tmr (t2.blockReset_tmr _ _) rfl
  have h4 : t3.TmrAlike t4 := .ite ((State.TmrAlike.enter t3 .safe 0 true).trans (.withFlt v _)) (.refl t3)
  have h5 : t4.TmrAlike (if p.severe = true then t4.severityAction p.sev src seq else t4) := .ite (.severityAction t4 _ _ _) (.of_eq rfl)
  exact h0.trans ((State.TmrAlike.of_eq (h3.trans (h2.trans h1))).trans (h4.trans h5))

theorem State.TmrAlike.raise (s : State) (src index data : Nat) : s.TmrAlike (s.raise src index data) := by
  unfold State.raise State.raiseWith
  refine .ite (.refl s) ?_
  extract_lets s1 s2
  have h1 : s1.tmr = s.tmr := s.bump_tmr _ _
  have h2 : s2.tmr = s1.tmr := State.ite_tmr rfl rfl
  refine (State.TmrAlike.of_eq (h2.trans h1)).trans ?_
  exact .ite (.ite (.refl s2) (.withFlt s2 _)) (.formRecord s2 _ _ _ _ _ _)

/-! ### Mismatch records (R371) -/

/-- The record of a mismatch at the present time. -/
def State.mismatchRecord (s : State) (source syndrome field place voted odd : Nat) : Mismatch :=
  { stime := s.now, source := source, syndrome := syndrome, field := field, mode := modeCode s.tmr.mode, place := place, voted := voted,
    odd := odd }

/-- A mismatch is kept in tmr.last; its fault leaves the lanes as they are. -/
theorem State.mismatch_tmr (s : State) (source syndrome field place voted odd src index : Nat) :
    ∃ n k, (s.mismatch source syndrome field place voted odd src index).tmr =
      { s.tmr with last := some (s.mismatchRecord source syndrome field place voted odd), cmpFrom := n, irqPending := k } := by
  unfold State.mismatch
  extract_lets m f t
  obtain ⟨n, k, h⟩ := State.TmrAlike.raise (t.log 0x11 m.bytes) src index m.data
  exact ⟨n, k, by rw [h, State.log_tmr]; rfl⟩

/-- The differences of a lane within the last second where it is odd now (R366). -/
def State.laneHistory (s : State) (lane : Nat) : List Ns := recentDiffs (tget [] s.tmr.laneDiffs lane) s.now

/-- An odd lane counted and recorded (R366). -/
def State.laneRecorded (s : State) (lane net field voted value : Nat) : State :=
  let t := (s.bump (0x81A + lane) 32).mismatch 5 (2 ^ lane) field net voted value 14 lane
  { t with tmr := { t.tmr with laneDiffs := tset t.tmr.laneDiffs lane (s.laneHistory lane) } }

/-- A lane without a vote from now on. -/
def State.laneOut (s : State) (lane : Nat) : State := { s with tmr := { s.tmr with laneRetired := s.tmr.laneRetired ++ [lane] } }

theorem State.laneOdd_eq (s : State) (lane net field voted value : Nat) :
    ∃ data, s.laneOdd lane net field voted value =
      if 4 ≤ (s.laneHistory lane).length then ((s.laneRecorded lane net field voted value).laneOut lane).raise 15 lane data
      else s.laneRecorded lane net field voted value := ⟨_, rfl⟩

theorem State.laneRecorded_tmr (s : State) (lane net field voted value : Nat) :
    ∃ n k, (s.laneRecorded lane net field voted value).tmr =
      { s.tmr with last := some ((s.bump (0x81A + lane) 32).mismatchRecord 5 (2 ^ lane) field net voted value),
                   laneDiffs := tset s.tmr.laneDiffs lane (s.laneHistory lane), cmpFrom := n, irqPending := k } := by
  obtain ⟨n, k, h⟩ := (s.bump (0x81A + lane) 32).mismatch_tmr 5 (2 ^ lane) field net voted value 14 lane
  rw [State.bump_tmr] at h
  refine ⟨n, k, ?_⟩
  unfold State.laneRecorded
  simp only [h]

/-- An odd lane is recorded, with its differences of the last second, and retired at its fourth time (R366). -/
theorem State.laneOdd_tmr (s : State) (lane net field voted value : Nat) :
    let t := s.laneOdd lane net field voted value
    (∃ r, t.tmr.last = some r ∧ r.source = 5 ∧ r.syndrome = 2 ^ lane ∧ r.field = field ∧ r.place = net ∧ r.voted = voted ∧
      r.odd = value) ∧
    tget [] t.tmr.laneDiffs lane = s.laneHistory lane ∧
    t.tmr.laneRetired = if 4 ≤ (s.laneHistory lane).length then s.tmr.laneRetired ++ [lane] else s.tmr.laneRetired := by
  intro t
  obtain ⟨data, ht⟩ : ∃ data, t = _ := s.laneOdd_eq lane net field voted value
  obtain ⟨n, k, hrec⟩ := s.laneRecorded_tmr lane net field voted value
  obtain ⟨n', k', htmr⟩ : ∃ n k, t.tmr = { (s.laneRecorded lane net field voted value).tmr with
      laneRetired := if 4 ≤ (s.laneHistory lane).length then s.tmr.laneRetired ++ [lane] else s.tmr.laneRetired,
      cmpFrom := n, irqPending := k } := by
    rw [ht]
    split
    · obtain ⟨n', k', hraise⟩ := State.TmrAlike.raise ((s.laneRecorded lane net field voted value).laneOut lane) 15 lane data
      exact ⟨n', k', by rw [hraise, State.laneOut, hrec]⟩
    · exact ⟨n, k, by rw [hrec]⟩
  rw [htmr, hrec]
  exact ⟨⟨_, rfl, rfl, rfl, rfl, rfl, rfl, rfl⟩, tget_tset_same _ _ _ _, rfl⟩

/-- Where the lanes have no majority the record says so, with the bitwise vote where three lanes vote (R366). -/
theorem State.laneNoMajority_last (s : State) (net field : Nat) (lanes : List Nat) (v0 v1 v2 : Nat) :
    ∃ r, (s.laneNoMajority net field lanes v0 v1 v2).tmr.last = some r ∧ r.source = 6 ∧ r.field = field ∧
      (lanes.length = 3 → r.voted = majority v0 v1 v2) := by
  unfold State.laneNoMajority
  obtain ⟨n, k, h⟩ := s.draw.2.draw.2.mismatch_tmr 6 (ofBits ([0, 1, 2].map (fun l => lanes.contains l))) field net
    (if lanes.length = 3 then majority v0 v1 v2 else s.draw.1 % 2 ^ 64) (s.draw.2.draw.1 % 2 ^ 64) 16 0
  exact ⟨_, congrArg Tmr.last h, rfl, rfl, fun h3 => if_pos h3⟩

end Sys2Proof.Machine
end

section
/-!
PROOF. The truss (R100, R114, R117, R121, R122, R366): the start of a network up to its gather, the write-back, and the return to
the cores.
-/

namespace Sys2Proof.Machine

variable {s : State} {c : Nat} {sh : Shot} {j : JunctionReq} {ops : List NetOp}

/-! ### Pre-copy -/

/-- The pages that the next network of a junction can write and the shot's buffer does not hold. -/
def State.netNewPages (s : State) (sh : Shot) (j : JunctionReq) : List Nat :=
  ((s.program.netPages j.next (s.program.netWords j.next) 0 false).eraseDups).filter (fun p => !sh.buf.any (fun b => b.page == p))

/-- The frames that pages take. -/
def framesFor (pages : List Nat) : Nat := pages.foldl (fun n p => n + pageFrames p) 0

/-- The state in which the truss gathers: the shot has its new pages, and the truss last ran for context `c`. -/
def State.gathering (s : State) (c : Nat) (sh : Shot) (j : JunctionReq) : State :=
  { (s.setCtx c { s.ctx c with shot := some (s.takePages sh (s.netNewPages sh j)) }).notePool with
    sched := { s.sched with trussLast := some c } }

@[simp] theorem State.notePool_sched (s : State) : s.notePool.sched = s.sched := by
  obtain ⟨p, h⟩ := s.notePool_shape
  rw [h]

/-- The pre-copy touches the context's slot, the pool's mark and the truss's last context alone. -/
theorem State.gathering_shape (s : State) (c : Nat) (sh : Shot) (j : JunctionReq) :
    ∃ p, s.gathering c sh j =
      { s.setCtx c { s.ctx c with shot := some (s.takePages sh (s.netNewPages sh j)) } with
        params := p, sched := { s.sched with trussLast := some c } } := by
  obtain ⟨p, h⟩ := (s.setCtx c { s.ctx c with shot := some (s.takePages sh (s.netNewPages sh j)) }).notePool_shape
  unfold State.gathering
  rw [h]
  exact ⟨p, rfl⟩

@[simp] theorem State.gathering_tmr (s : State) (c : Nat) (sh : Shot) (j : JunctionReq) : (s.gathering c sh j).tmr = s.tmr := by
  obtain ⟨p, h⟩ := s.gathering_shape c sh j
  rw [h]
  rfl

@[simp] theorem State.gathering_clk (s : State) (c : Nat) (sh : Shot) (j : JunctionReq) : (s.gathering c sh j).clk = s.clk := by
  obtain ⟨p, h⟩ := s.gathering_shape c sh j
  rw [h]
  rfl

theorem State.gathering_ctx (s : State) (c : Nat) (sh : Shot) (j : JunctionReq) :
    (s.gathering c sh j).ctx c = { s.ctx c with shot := some (s.takePages sh (s.netNewPages sh j)) } := by
  obtain ⟨p, h⟩ := s.gathering_shape c sh j
  rw [h]
  exact s.setCtx_ctx_same c _

/-- A slot set after the pre-copy: nothing but the slots, the parameters and the truss's last context differs from before it. -/
theorem State.gathering_setCtx (s : State) (c : Nat) (sh : Shot) (j : JunctionReq) (x : Ctx) :
    let t := (s.gathering c sh j).setCtx c x
    t = { s with ctxs := t.ctxs, params := t.params, sched := { s.sched with trussLast := some c } } := by
  intro t
  obtain ⟨p, h⟩ := s.gathering_shape c sh j
  simp only [t, h]
  rfl

theorem State.gathering_program (s : State) (c : Nat) (sh : Shot) (j : JunctionReq) :
    (s.gathering c sh j).program = s.program := by
  obtain ⟨p, h⟩ := s.gathering_shape c sh j
  rw [h]
  rfl

/-! ### Write-back -/

/-- What a network's instructions compute on the shot's view (R100). -/
def State.evalNet (s : State) (sh : Shot) (j : JunctionReq) (ops : List NetOp) : NetEval :=
  ops.foldl (fun e o => s.netStep sh e o) { ba := j.ba, bs := [], writes := [], cells := Cells.init }

/-- The junction after one more of its networks has run. -/
def JunctionReq.ran (j : JunctionReq) (ba : Bool) : JunctionReq := { j with next := j.next + 1, left := j.left - 1, ba := ba }

/-- A network whose rows stay within the retentive cap writes its results into the shot (R54, R100). -/
theorem State.runNetwork_within
    (h : (sh.rows ++ (s.evalNet sh j ops).writes.filterMap (fun w => s.program.rowOf w.1)).eraseDups.length ≤ s.pn 0x605) :
    s.runNetwork c sh j ops = s.setCtx c { s.ctx c with shot := some { sh.put s.program (s.evalNet sh j ops).writes with
      cells := sh.cells.merge (s.evalNet sh j ops).cells, junction := some (j.ran (s.evalNet sh j ops).ba) } } := by
  unfold State.runNetwork
  extract_lets e rows sh1
  have hcap : ¬ (sh.rows.length < rows && decide (s.pn 0x605 < rows)) = true := by
    rw [Bool.and_eq_true, decide_eq_true_iff, decide_eq_true_iff]
    exact fun hr => absurd hr.2 (Nat.not_lt.mpr h)
  exact if_neg hcap

@[simp] theorem State.runNetwork_tmr (s : State) (c : Nat) (sh : Shot) (j : JunctionReq) (ops : List NetOp) :
    (s.runNetwork c sh j ops).tmr = s.tmr := by
  unfold State.runNetwork
  extract_lets e rows sh1
  exact State.ite_tmr (s.dropAndDispatch_tmr c .retcap) rfl

@[simp] theorem State.runNetwork_clk (s : State) (c : Nat) (sh : Shot) (j : JunctionReq) (ops : List NetOp) :
    (s.runNetwork c sh j ops).clk = s.clk := by
  unfold State.runNetwork
  extract_lets e rows sh1
  split
  · exact (s.dropAndDispatch_steady c .retcap).clk
  · rfl

/-- The comparison of the lanes and the write-back (R366). -/
def State.writeBack (s : State) (c : Nat) (sh : Shot) (j : JunctionReq) (ops : List NetOp) (lanes : LaneVerdict) : State :=
  match lanes with
  | .agree => s.runNetwork c sh j ops
  | .odd lane field voted value =>
    if lane ∈ s.tmr.laneRetired then s.runNetwork c sh j ops
    else if s.tmr.laneRetired = [] then (s.runNetwork c sh j ops).laneOdd lane j.next field voted value
    else s.laneNoMajority j.next field s.tmr.lanes voted voted value
  | .noMajority field v0 v1 v2 => s.laneNoMajority j.next field s.tmr.lanes v0 v1 v2

theorem State.writeBack_retired {lane : Nat} (field voted value : Nat) (h : lane ∈ s.tmr.laneRetired) :
    s.writeBack c sh j ops (.odd lane field voted value) = s.runNetwork c sh j ops := if_pos h

theorem State.writeBack_odd (lane field voted value : Nat) (h : s.tmr.laneRetired = []) :
    s.writeBack c sh j ops (.odd lane field voted value) = (s.runNetwork c sh j ops).laneOdd lane j.next field voted value := by
  rw [State.writeBack, h]
  rfl

theorem State.writeBack_two {lane : Nat} (field voted value : Nat) (h : lane ∉ s.tmr.laneRetired) (h0 : s.tmr.laneRetired ≠ []) :
    s.writeBack c sh j ops (.odd lane field voted value) = s.laneNoMajority j.next field s.tmr.lanes voted voted value :=
  (if_neg h).trans (if_neg h0)

/-- An odd lane's history and retirement are those of the state before the write-back. -/
theorem State.runNetwork_laneHistory (s : State) (c : Nat) (sh : Shot) (j : JunctionReq) (ops : List NetOp) (lane : Nat) :
    (s.runNetwork c sh j ops).laneHistory lane = s.laneHistory lane := by
  rw [State.laneHistory, State.runNetwork_tmr, State.now, State.runNetwork_clk]
  rfl

theorem State.gathering_laneHistory (s : State) (c : Nat) (sh : Shot) (j : JunctionReq) (lane : Nat) :
    (s.gathering c sh j).laneHistory lane = s.laneHistory lane := by
  rw [State.laneHistory, State.gathering_tmr, State.now, State.gathering_clk]
  rfl

/-- With no lane retired three lanes vote. -/
theorem Tmr.lanes_length {t : Tmr} (h : t.laneRetired = []) : t.lanes.length = 3 := by
  rw [Tmr.lanes, h]
  rfl

/-! ### NETWORK_START -/

section Start

variable (hchoice : s.trussChoice = some c) (hshot : (s.ctx c).shot = some sh) (hj : sh.junction = some j)

include hchoice hshot hj

theorem networkStart_quota (lanes : LaneVerdict) (hneed : framesFor (s.netNewPages sh j) ≠ 0)
    (hq : s.quota c < s.framesUsed c + framesFor (s.netNewPages sh j)) :
    Gives (.networkStart lanes) s (s.dropAndDispatch c .quota) := by
  change execNetworkStart lanes s = _
  simp only [framesFor, State.netNewPages] at hneed hq
  simp only [execNetworkStart, hchoice, hshot, hj, hq, decide_eq_true hneed, decide_true, Bool.and_self, if_true]

/-- With room for its pages, a network whose gather fails a check drops the shot (R34, R121). -/
theorem networkStart_fails {r : DropReason} (lanes : LaneVerdict)
    (hroom : s.framesUsed c + framesFor (s.netNewPages sh j) ≤ s.quota c)
    (hg : (s.gathering c sh j).netGather c j.next j (s.program.netWords j.next) 0 false = .error r) :
    Gives (.networkStart lanes) s ((s.gathering c sh j).dropAndDispatch c r) := by
  change execNetworkStart lanes s = _
  have hroom' := Nat.not_lt.mpr hroom
  simp only [framesFor, State.gathering, State.netNewPages] at hroom' hg ⊢
  simp only [execNetworkStart, hchoice, hshot, hj, hroom', decide_false, Bool.and_false, Bool.false_eq_true, if_false,
    State.notePool_sched, State.setCtx_sched, hg]

/-- With room for its pages, a network that gathers is evaluated and written back (R117, R121). -/
theorem networkStart_gathered (lanes : LaneVerdict) (hroom : s.framesUsed c + framesFor (s.netNewPages sh j) ≤ s.quota c)
    (hg : (s.gathering c sh j).netGather c j.next j (s.program.netWords j.next) 0 false = .ok ops) :
    Gives (.networkStart lanes) s ((s.gathering c sh j).writeBack c (s.takePages sh (s.netNewPages sh j)) j ops lanes) := by
  change execNetworkStart lanes s = _
  have hroom' := Nat.not_lt.mpr hroom
  simp only [framesFor, State.gathering, State.netNewPages] at hroom' hg ⊢
  simp only [execNetworkStart, hchoice, hshot, hj, hroom', decide_false, Bool.and_false, Bool.false_eq_true, if_false,
    State.notePool_sched, State.setCtx_sched, hg]
  cases lanes
  case agree => rfl
  case noMajority => rfl
  case odd =>
    simp only [State.writeBack, List.contains_iff_mem, List.isEmpty_iff]
    split_ifs <;> rfl

end Start

/-! ### Return to the cores -/

/-- After a dispatch a context is as it was, or has got the cores, or has given them up (R74, R75). -/
theorem State.ctx_dispatch_cases (s : State) (c : Nat) :
    s.dispatch.ctx c = s.ctx c ∨ s.dispatch.ctx c = (s.ctx c).inPhase .core ∨
      (s.dispatch.ctx c = (s.ctx c).inPhase .preempted ∧ s.sched.cores = some c) := by
  rw [State.ctx_dispatch, State.afterDispatch]
  split
  · exact .inl rfl
  · split
    · exact .inr (.inl rfl)
    · split
      · next h => exact .inr (.inr ⟨rfl, h⟩)
      · exact .inl rfl

/-- The slot of a context whose junction has ended (R114). -/
def Ctx.backFromTruss (x : Ctx) (sh : Shot) (ba : Bool) : Ctx :=
  { x with regs := x.regs.setBA ba, shot := some { sh with phase := .ready, junction := none } }

theorem execTrussCompletion_ended (hshot : (s.ctx c).shot = some sh) (hj : sh.junction = some j) (hphase : sh.phase = .truss)
    (hleft : j.left = 0) :
    execTrussCompletion c s = .next (s.setCtx c ((s.ctx c).backFromTruss sh j.ba)).dispatch := by
  simp only [execTrussCompletion, hshot, hj, hphase, hleft, beq_self_eq_true, Bool.and_self, if_true]
  rfl

/-! ### O17 -/

/-- Settles O17: a start of a network is refused, fails its gather, or is written back as the lanes' verdict says; what a fault's
reactions leave of the lanes' record, and what a dispatch leaves of a context, give the rest. -/
theorem trussRunsNetworks : Obligations.TrussRunsNetworks := by
  refine ⟨?runs, ?refused, ?completion⟩
  case runs =>
    intro s c sh j ops hchoice hshot hj pages sh1 s1 e hroom hg
    have hgives := fun lanes => networkStart_gathered hchoice hshot hj lanes hroom hg
    refine ⟨?within, ?good⟩
    case within =>
      intro hrows
      have hwithin : (s.gathering c sh j).runNetwork c sh1 j ops = _ := State.runNetwork_within (by
        rw [State.gathering_program]
        exact hrows)
      refine ⟨_, (hgives .agree).trans (congrArg _ hwithin), State.gathering_setCtx s c sh j _, ?_, _,
        congrArg Ctx.shot (State.setCtx_ctx_same _ c _), rfl, rfl, rfl, rfl, rfl⟩
      rw [State.setCtx_ctx_same, State.gathering_ctx]
    case good =>
      intro good
      refine ⟨hgives .agree, ?retired, ?odd, ?two, ?none⟩
      case retired =>
        intro lane field voted value hlane
        exact (hgives _).trans (congrArg _ (State.writeBack_retired field voted value (by rwa [State.gathering_tmr])))
      case odd =>
        intro lane field voted value _ hnone
        have hodd := State.writeBack_odd (s := s.gathering c sh j) (c := c) (sh := sh1) (j := j) (ops := ops) lane field voted value
          (by rwa [State.gathering_tmr])
        obtain ⟨hlast, hdiffs, hretired⟩ := State.laneOdd_tmr good lane j.next field voted value
        have hhist : good.laneHistory lane = s.laneHistory lane :=
          (State.runNetwork_laneHistory _ c sh1 j ops lane).trans (s.gathering_laneHistory c sh j lane)
        have hgood : good.tmr.laneRetired = [] := by
          rw [show good.tmr = s.tmr from (State.runNetwork_tmr _ c sh1 j ops).trans (s.gathering_tmr c sh j), hnone]
        rw [hhist] at hdiffs hretired
        rw [hgood] at hretired
        exact ⟨_, (hgives _).trans (congrArg _ hodd), rfl, hlast, hdiffs, hretired⟩
      case two =>
        intro lane field voted value hlane hsome
        have htwo := State.writeBack_two (s := s.gathering c sh j) (c := c) (sh := sh1) (j := j) (ops := ops) field voted value
          (by rwa [State.gathering_tmr]) (by rwa [State.gathering_tmr])
        obtain ⟨r, hlast, hsource, hfield, -⟩ := s1.laneNoMajority_last j.next field s.tmr.lanes voted voted value
        exact ⟨_, (hgives _).trans (congrArg _ htwo), by rw [State.gathering_tmr]; rfl, r, by rw [State.gathering_tmr]; exact hlast,
          hsource, hfield⟩
      case none =>
        intro field v0 v1 v2
        obtain ⟨r, hlast, hsource, hfield, hvoted⟩ := s1.laneNoMajority_last j.next field s.tmr.lanes v0 v1 v2
        refine ⟨_, hgives _, by rw [State.writeBack, State.gathering_tmr]; rfl, r, ?_, hsource, hfield,
          fun h => hvoted (Tmr.lanes_length h)⟩
        rw [State.writeBack, State.gathering_tmr]
        exact hlast
  case refused =>
    intro s c sh j lanes hchoice hshot hj pages need s1
    exact ⟨fun hneed hq => networkStart_quota hchoice hshot hj lanes hneed hq,
      fun hroom r hg => networkStart_fails hchoice hshot hj lanes hroom hg⟩
  case completion =>
    intro s c sh j hshot hj hphase hleft
    have hslot := s.setCtx_ctx_same c ((s.ctx c).backFromTruss sh j.ba)
    have hcases := (s.setCtx c ((s.ctx c).backFromTruss sh j.ba)).ctx_dispatch_cases c
    rw [hslot] at hcases
    refine ⟨_, execTrussCompletion_ended hshot hj hphase hleft, ?frame, ?_⟩
    case frame =>
      obtain ⟨x, p, f, k, e⟩ := (s.setCtx c ((s.ctx c).backFromTruss sh j.ba)).dispatch_shape
      rw [e]
      rfl
    obtain h | h | ⟨h, hheld⟩ := hcases
    · rw [h]
      exact ⟨rfl, .ready, .inl rfl, rfl⟩
    · rw [h]
      exact ⟨rfl, .core, .inr (.inl rfl), rfl⟩
    · rw [h]
      exact ⟨rfl, .preempted, .inr (.inr ⟨rfl, hheld⟩), rfl⟩

end Sys2Proof.Machine
end

section
/-!
PROOF. Staging a container (R135, R137, R142): the request that takes the lock or brings data, the time limits of the lock, and O22.
-/

namespace Sys2Proof.Machine

variable {s : State} {m : BitVec 4} {r : Request}

/-! ### Answers -/

/-- A request done changes nothing but its mailbox and its session, and the mailbox holds the data (R337). -/
theorem State.ok_done {k : Nat} {q : Request} (h : (s.mailbox k).req = some q) (data : List Byte) :
    s.ok k data = { s with hp := (s.ok k data).hp } ∧ (s.ok k data).Answered k 0 0 0 data := by
  obtain ⟨x, y, e⟩ := s.ok_shape k data
  exact ⟨by rw [e], State.answer_answered 0 0 0 data h⟩

/-- A command that brings the state to `u` and answers its request from there. -/
theorem does_ok {c : Instr} {u : State} {k : Nat} {q : Request} {data : List Byte} (h : (u.mailbox k).req = some q)
    (hc : Gives c s (u.ok k data)) : Does c s (fun t => t = { u with hp := t.hp } ∧ t.Answered k 0 0 0 data) :=
  ⟨_, hc, State.ok_done h data⟩

/-! ### PRG_BEGIN -/

/-- The lock is the session's, and nothing is staged of a container of this kind and length. -/
def State.stagingBegun (s : State) (id kind len : Nat) : State :=
  { s with prog := { s.prog with
    staging := .staging, lockSession := some id, stagedKind := kind, stagedLen := len, staged := [], lastData := s.clk.ticks,
    waitMbx := none } }

theorem prgBegin_gated {st : Nat} (h : s.request m.toNat 0x50 = some r) (hg : s.loadGate r.session false true false = some st) :
    Gives (.prgBegin m) s (s.refuse m.toNat st 0) := by
  show execPrgBegin m s = _
  simp only [execPrgBegin, h, hg]

theorem prgBegin_tooLong (h : s.request m.toNat 0x50 = some r) (hg : s.loadGate r.session false true false = none)
    (hlen : slotSize < leAt r.payload 4 4) : Gives (.prgBegin m) s (s.refuse m.toNat 7 0xC) := by
  show execPrgBegin m s = _
  simp only [execPrgBegin, h, hg, if_pos hlen]

theorem prgBegin_otherKind (h : s.request m.toNat 0x50 = some r) (hg : s.loadGate r.session false true false = none)
    (hlen : leAt r.payload 4 4 ≤ slotSize) (hk : leAt r.payload 0 1 ∉ [1, 4] ∨ leAt r.payload 1 3 ≠ 0) :
    Gives (.prgBegin m) s (s.refuse m.toNat 8 6) := by
  have hkind : ¬ ((leAt r.payload 0 1 = 1 ∨ leAt r.payload 0 1 = 4) ∧ leAt r.payload 1 3 = 0) := by
    simpa [Classical.or_iff_not_imp_left] using hk
  show execPrgBegin m s = _
  simp only [execPrgBegin, h, hg, if_neg (Nat.not_lt.mpr hlen), if_neg hkind]

theorem prgBegin_takes (h : s.request m.toNat 0x50 = some r) (hg : s.loadGate r.session false true false = none)
    (hk : leAt r.payload 0 1 ∈ [1, 4]) (hz : leAt r.payload 1 3 = 0) (hlen : leAt r.payload 4 4 ≤ slotSize) :
    Gives (.prgBegin m) s ((s.stagingBegun r.session (leAt r.payload 0 1) (leAt r.payload 4 4)).ok m.toNat []) := by
  have hkind : (leAt r.payload 0 1 = 1 ∨ leAt r.payload 0 1 = 4) ∧ leAt r.payload 1 3 = 0 := ⟨by simpa using hk, hz⟩
  show execPrgBegin m s = _
  simp only [execPrgBegin, h, hg, if_neg (Nat.not_lt.mpr hlen), if_pos hkind]
  rfl

/-! ### EDIT_BEGIN -/

section EditBegin

variable (h : s.request m.toNat 0x58 = some r)

include h

theorem editBegin_gated {st : Nat}
    (hg : s.loadGate r.session false (s.dev.state == .run || s.dev.state == .halt) false = some st) :
    Gives (.editBegin m) s (s.refuse m.toNat st 0) := by
  show execEditBegin m s = _
  simp only [execEditBegin, h, hg]

theorem editBegin_tooLong (hg : s.loadGate r.session false (s.dev.state == .run || s.dev.state == .halt) false = none)
    (hlen : slotSize < leAt r.payload 0 4) : Gives (.editBegin m) s (s.refuse m.toNat 7 0xC) := by
  show execEditBegin m s = _
  simp only [execEditBegin, h, hg, if_pos hlen]

theorem editBegin_takes (hg : s.loadGate r.session false (s.dev.state == .run || s.dev.state == .halt) false = none)
    (hlen : leAt r.payload 0 4 ≤ slotSize) :
    Gives (.editBegin m) s ((s.stagingBegun r.session 2 (leAt r.payload 0 4)).ok m.toNat []) := by
  show execEditBegin m s = _
  simp only [execEditBegin, h, hg, if_neg (Nat.not_lt.mpr hlen)]
  rfl

end EditBegin

/-! ### PRG_DATA -/

/-- The next bytes are staged, and stand in the shadow program bank. -/
def State.dataStaged (s : State) (off : Nat) (data : List Byte) : State :=
  { s with prog := { s.prog with staged := s.prog.staged ++ data, lastData := s.clk.ticks },
           sram := s.sram.writeL (bankAddr (1 - s.prog.bank) + off) data }

section PrgData

variable (h : s.request m.toNat 0x51 = some r)

include h

theorem prgData_gated {st : Nat} (hg : s.loadGate r.session true true false = some st) :
    Gives (.prgData m) s (s.refuse m.toNat st 0) := by
  show execPrgData m s = _
  simp only [execPrgData, h, hg]

theorem prgData_outOfPlace (hg : s.loadGate r.session true true false = none)
    (ho : s.prog.staging ≠ .staging ∨ leAt r.payload 0 4 ≠ s.prog.staged.length) :
    Gives (.prgData m) s (s.refuse m.toNat 6 (leAt r.payload 0 4)) := by
  have hb : (s.prog.staging != Staging.staging || leAt r.payload 0 4 != s.prog.staged.length) = true := by simpa using ho
  show execPrgData m s = _
  simp only [execPrgData, h, hg, hb, if_true]

theorem prgData_tooLong (hg : s.loadGate r.session true true false = none) (hst : s.prog.staging = .staging)
    (ho : leAt r.payload 0 4 = s.prog.staged.length)
    (hlen : s.prog.stagedLen < leAt r.payload 0 4 + (r.payload.drop 4).length) :
    Gives (.prgData m) s (s.refuse m.toNat 7 0xC) := by
  have hb : ¬ (s.prog.staging != Staging.staging || leAt r.payload 0 4 != s.prog.staged.length) = true := by simp [hst, ho]
  show execPrgData m s = _
  simp only [execPrgData, h, hg, if_neg hb, if_pos hlen]

theorem prgData_takes (hg : s.loadGate r.session true true false = none) (hst : s.prog.staging = .staging)
    (ho : leAt r.payload 0 4 = s.prog.staged.length)
    (hlen : leAt r.payload 0 4 + (r.payload.drop 4).length ≤ s.prog.stagedLen) :
    Gives (.prgData m) s ((s.dataStaged (leAt r.payload 0 4) (r.payload.drop 4)).ok m.toNat
      (leBytes 4 (leAt r.payload 0 4 + (r.payload.drop 4).length))) := by
  have hb : ¬ (s.prog.staging != Staging.staging || leAt r.payload 0 4 != s.prog.staged.length) = true := by simp [hst, ho]
  show execPrgData m s = _
  simp only [execPrgData, h, hg, if_neg hb, if_neg (Nat.not_lt.mpr hlen)]
  rw [List.length_append, ← ho]
  rfl

end PrgData

/-! ### The time limits of the lock (R135) -/

/-- The staged container and the lock go; a load past its checks or an armed edit goes on without the lock. -/
theorem stagingTimeout_due (hst : s.prog.staging = .staging) (hd : 60 * secTicks ≤ s.clk.ticks - s.prog.lastData) :
    Gives .stagingTimeout s s.releaseLock := by
  show execStagingTimeout s = _
  simp [execStagingTimeout, whenOk, hst, State.elapsed, hd]

theorem loadedTimeout_due (hst : s.prog.staging = .loaded) (hd : 600 * secTicks ≤ s.clk.ticks - s.prog.loadedAt) :
    Gives .loadedTimeout s s.releaseLock := by
  show execLoadedTimeout s = _
  simp [execLoadedTimeout, whenOk, hst, State.elapsed, hd]

theorem stagingTimeout_elsewhere (hst : s.prog.staging ≠ .staging) : Gives .stagingTimeout s s := by
  show execStagingTimeout s = _
  simp [execStagingTimeout, whenOk, hst]

theorem loadedTimeout_elsewhere (hst : s.prog.staging ≠ .loaded) : Gives .loadedTimeout s s := by
  show execLoadedTimeout s = _
  simp [execLoadedTimeout, whenOk, hst]

/-- The request that waits for the standby's verdict, if one does, is aborted. -/
def State.waitAborted (s : State) : State :=
  match s.prog.waitMbx with
  | some k => s.abort k
  | none => s

theorem State.waitAborted_prog (s : State) : s.waitAborted.prog = s.prog := by
  unfold State.waitAborted
  split
  · next k _ =>
    obtain ⟨x, y, e⟩ := s.abort_shape k
    rw [e]
  · rfl

/-- Where no edit is armed, the lock goes alone during an activation, and else with all that is staged. -/
theorem State.releaseLock_eq (hst : s.prog.staging ≠ .armed) :
    s.releaseLock = if s.prog.activation.isSome = true then { s with prog := { s.prog with lockSession := none } }
      else { s.waitAborted with prog := s.prog.clearStaging } := by
  have harm : (s.prog.staging == Staging.armed) = false := by simpa using hst
  have hgone : { s.waitAborted with prog := s.waitAborted.prog.clearStaging } = { s.waitAborted with prog := s.prog.clearStaging } := by
    rw [s.waitAborted_prog]
  rw [← hgone]
  unfold State.releaseLock
  rw [harm, Bool.false_or]
  rfl

/-- Settles O22: each branch of the three requests and of the two time limits is a lemma above. -/
theorem stagingAContainer : Obligations.StagingAContainer := by
  refine ⟨fun s m r => ⟨fun h => ⟨fun st hg => prgBegin_gated h hg, fun hg =>
      ⟨prgBegin_tooLong h hg, prgBegin_otherKind h hg, ?begun⟩⟩,
    fun h => ⟨fun st hg => editBegin_gated h hg, fun hg hlen => editBegin_tooLong h hg hlen, ?editBegun⟩,
    fun h => ⟨fun st hg => prgData_gated h hg, fun hg => ⟨prgData_outOfPlace h hg, fun hst ho =>
      ⟨prgData_tooLong h hg hst ho, ?staged⟩⟩⟩⟩,
    fun s => ⟨?stagingLimit, ?loadedLimit, stagingTimeout_elsewhere, loadedTimeout_elsewhere⟩⟩
  case begun =>
    intro hk hz hlen
    exact does_ok (u := s.stagingBegun _ _ _) (State.request_req h) (prgBegin_takes h hg hk hz hlen)
  case editBegun =>
    intro hg hlen
    exact does_ok (u := s.stagingBegun _ _ _) (State.request_req h) (editBegin_takes h hg hlen)
  case staged =>
    intro hlen
    exact does_ok (u := s.dataStaged _ _) (State.request_req h) (prgData_takes h hg hst ho hlen)
  case stagingLimit =>
    intro hst hd
    exact State.releaseLock_eq (s := s) (by simp [hst]) ▸ stagingTimeout_due hst hd
  case loadedLimit =>
    intro hst hd
    exact State.releaseLock_eq (s := s) (by simp [hst]) ▸ loadedTimeout_due hst hd

end Sys2Proof.Machine
end

section
/-!
PROOF. PRG_COMMIT (R138, R139, R141, R155): what a load that passes leaves: LOADED, offered to the standby, or its record queued.
-/

namespace Sys2Proof.Machine

variable {s : State}

/-! ### The next step of a container that passed -/

/-- `t` is `s` with the staged container sent to the standby and its verdict awaited (R155). -/
def State.Offered (s t : State) (m : Nat) (lead : Ns) : Prop :=
  t = { s with prog := { s.prog with staging := .checking, waitMbx := some m, waitLead := lead }, stby := t.stby,
               sched := t.sched, ctxs := t.ctxs, params := t.params, freeCtr := t.freeCtr } ∧
  t.stby = (s.scarfSend (offerFrames 0 s.prog.staged)).stby

theorem State.offer_offered (s : State) (m : Nat) (lead : Ns) : s.Offered (s.offer m lead s.prog.staged) m lead := by
  obtain ⟨a, b, c, hsend⟩ := s.scarfSend_shape (offerFrames 0 s.prog.staged)
  unfold State.offer
  extract_lets t
  obtain ⟨x, p, f, k, hdisp⟩ :=
    State.dispatch_shape { t with prog := { t.prog with staging := .checking, waitMbx := some m, waitLead := lead } }
  rw [hdisp]
  simp only [State.Offered, t, hsend]
  exact ⟨trivial, trivial⟩

/-- `t` is `s` with the staged container `k` in the shadow bank and the record of its activation queued (R139, R141). -/
def State.Queued (s t : State) (m : Nat) (k : Checked) : Prop :=
  t = { s with feram := t.feram, img := { s.img with commits := t.img.commits }, prog := t.prog, sram := t.sram, sched := t.sched,
               ctxs := t.ctxs, params := t.params, freeCtr := t.freeCtr } ∧
  t.sram = (if k.net = none then (s.fillBank (1 - s.prog.bank) k.newProg).sram else s.sram) ∧ t.prog.active = s.prog.active ∧
  t.prog.staging = .checking ∧ t.img.commits.length = s.img.commits.length + 1 ∧
  ∃ a, t.prog.activation = some a ∧ a.mbx = some m ∧ a.recordDurable = false ∧ a.net = k.net ∧
    (k.net = none → a.newProg = some k.newProg ∧ a.slot = s.prog.freeSlot ∧
      t.feram = s.feram.writeL (slotAddr s.prog.freeSlot) s.prog.staged)

theorem State.startActivation_queued (s : State) (m : Nat) (k : Checked) :
    s.Queued (s.startActivation (some m) k s.prog.staged) m k := by
  unfold State.startActivation
  split
  · next c hc =>
    refine ⟨rfl, ?_, rfl, rfl, by simp [State.startNet, State.writeContainer], _, rfl, rfl, rfl, hc.symm, ?_⟩
    · rw [hc]; rfl
    · intro hn
      rw [hc] at hn
      cases hn
  · next hn =>
    refine ⟨rfl, ?_, rfl, rfl, by simp [State.startProgram, State.writeContainer, State.fillBank], _, rfl, rfl, rfl, hn.symm,
      fun _ => ⟨rfl, rfl, rfl⟩⟩
    rw [if_pos hn]
    rfl

/-- The contexts and the cores' turn are apart from a queued record. -/
theorem State.Queued.dispatch {t : State} {m : Nat} {k : Checked} (h : s.Queued t m k) : s.Queued t.dispatch m k := by
  obtain ⟨hframe, hrest⟩ := h
  obtain ⟨x, p, f, c, hd⟩ := t.dispatch_shape
  rw [hd]
  refine ⟨?_, hrest⟩
  rw [hframe]

/-- The staged container stands in FeRAM and is left LOADED (R138). -/
def State.containerLoaded (s : State) (kind : Nat) : State :=
  { s with feram := (s.writeContainer kind s.prog.staged).feram,
           prog := { s.prog with staging := .loaded, loadedAt := s.clk.ticks, lastStatus := 0, lastDetail := 0 } }

theorem State.commitPassed_loaded {m : Nat} {k : Checked} (hf : bit k.box.flags 0 = false) :
    s.commitPassed m k = (s.containerLoaded k.box.kind).ok m (leBytes 1 0 ++ leBytes 3 0 ++ leBytes 48 s.program.hash) := by
  simp only [State.commitPassed, hf, Bool.false_eq_true, if_false]
  rfl

theorem State.commitPassed_queued {m : Nat} {k : Checked} (hf : bit k.box.flags 0 = true) (hr : s.dev.role ≠ .primary) :
    s.Queued (s.commitPassed m k) m k := by
  have hrole : (s.dev.role == Role.primary) = false := by simpa using hr
  have h : s.commitPassed m k = (s.startActivation (some m) k s.prog.staged).dispatch := by
    simp [State.commitPassed, hf, hrole]
  exact h ▸ (s.startActivation_queued m k).dispatch

theorem State.commitPassed_offered {m : Nat} {k : Checked} (hf : bit k.box.flags 0 = true) (hr : s.dev.role = .primary) :
    s.Offered (s.commitPassed m k) m 0 := by
  have h : s.commitPassed m k = s.offer m 0 s.prog.staged := by simp [State.commitPassed, hf, hr]
  exact h ▸ s.offer_offered m 0

/-! ### The branches of PRG_COMMIT -/

section Commit

variable {m : BitVec 4} {r : Request} (h : s.request m.toNat 0x52 = some r) (hw : s.loadWaits m.toNat = false)
  (hg : s.loadGate r.session true (s.dev.state == .stop) false = none)

include h hw hg

theorem prgCommit_ofEdit (v : Verdict) (hst : s.prog.staging = .staging) (hk : s.prog.stagedKind = 2) :
    Gives (.prgCommit m v) s (s.refuseLoad m.toNat 6 0) := by
  show execPrgCommit m v s = _
  simp only [execPrgCommit, h, hw, hg, hst, if_pos hk, Bool.false_eq_true, if_false]

section Staged

variable {v : Verdict} (hst : s.prog.staging = .staging) (hk : s.prog.stagedKind ≠ 2)

include hst hk

theorem prgCommit_fails {e : LoadFail} (hc : s.checkContainer false [s.prog.stagedKind] s.prog.staged s.prog.stagedLen v = .error e) :
    Gives (.prgCommit m v) s ((s.noteSched e.sched).refuseLoad m.toNat e.status e.detail) := by
  show execPrgCommit m v s = _
  simp only [execPrgCommit, h, hw, hg, hst, if_neg hk, hc, Bool.false_eq_true, if_false]

theorem prgCommit_breaksPair {k : Checked} {d : Nat}
    (hc : s.checkContainer false [s.prog.stagedKind] s.prog.staged s.prog.stagedLen v = .ok k) (hp : s.pairCheck k = some d) :
    Gives (.prgCommit m v) s (s.refuseLoad m.toNat 0x1E d) := by
  show execPrgCommit m v s = _
  simp only [execPrgCommit, h, hw, hg, hst, if_neg hk, hc, hp, Bool.false_eq_true, if_false]

theorem prgCommit_passes {k : Checked}
    (hc : s.checkContainer false [s.prog.stagedKind] s.prog.staged s.prog.stagedLen v = .ok k) (hp : s.pairCheck k = none) :
    Gives (.prgCommit m v) s (s.commitPassed m.toNat k) := by
  show execPrgCommit m v s = _
  simp only [execPrgCommit, h, hw, hg, hst, if_neg hk, hc, hp, Bool.false_eq_true, if_false]

end Staged

section Loaded

variable {v : Verdict} (hst : s.prog.staging = .loaded)

include hst

theorem prgCommit_loadedFails {e : LoadFail} (hc : s.loadedCheck = .error e) :
    Gives (.prgCommit m v) s ((s.noteSched e.sched).refuseLoad m.toNat e.status e.detail) := by
  show execPrgCommit m v s = _
  simp only [execPrgCommit, h, hw, hg, hst, hc, Bool.false_eq_true, if_false]

theorem prgCommit_loadedQueued {k : Checked} (hc : s.loadedCheck = .ok k) (hr : s.dev.role ≠ .primary) :
    Does (.prgCommit m v) s (fun t => s.Queued t m.toNat k) := by
  have hrole : (s.dev.role == Role.primary) = false := by simpa using hr
  refine ⟨_, ?_, s.startActivation_queued m.toNat k⟩
  show execPrgCommit m v s = _
  simp only [execPrgCommit, h, hw, hg, hst, hc, hrole, Bool.false_eq_true, if_false]

theorem prgCommit_loadedOffered {k : Checked} (hc : s.loadedCheck = .ok k) (hr : s.dev.role = .primary) :
    Does (.prgCommit m v) s (fun t => s.Offered t m.toNat 0) := by
  refine ⟨_, ?_, s.offer_offered m.toNat 0⟩
  show execPrgCommit m v s = _
  simp only [execPrgCommit, h, hw, hg, hst, hc, hr, beq_self_eq_true, Bool.false_eq_true, if_false, if_true]

end Loaded

end Commit

end Sys2Proof.Machine
end

section
/-!
PROOF. PROGRAM_ACTIVATION (R139 to R141): the steps of an activation, each with what it changes, and what comes into force.
-/

namespace Sys2Proof.Machine

variable {s : State} {a : Activation}

/-! ### Operations that a program change shares -/

/-- A fold of context updates changes contexts only. -/
theorem foldl_ctxs_shape {α : Type} {f : State → α → State} (hf : ∀ t c, ∃ x, f t c = { t with ctxs := x }) (l : List α)
    (s : State) :
    ∃ x, l.foldl f s = { s with ctxs := x } :=
  foldl_shape (fun (s : State) x => { s with ctxs := x }) f (fun _ _ _ => rfl) (fun s => ⟨s.ctxs, rfl⟩) hf l s

theorem State.applySched_shape (s : State) (r : SchedResult) (p : Program) :
    ∃ q x, s.applySched r p = { s with params := q, ctxs := x } := by
  unfold State.applySched
  split
  · exact ⟨_, s.ctxs, rfl⟩
  · exact ⟨_, foldl_ctxs_shape (fun u c => by split; exacts [⟨_, rfl⟩, ⟨u.ctxs, rfl⟩]) userCtxs _⟩

theorem State.logProgram_shape (s : State) (kind : Nat) :
    ∃ q f n, s.logProgram kind = { s with params := q, freeCtr := f, nvm := n } := by
  obtain ⟨q, f, l, o, h⟩ := s.log_shape 0x20
    (leBytes 1 kind ++ leBytes 1 s.prog.slot ++ leBytes 1 s.prog.chain ++ leBytes 1 0 ++ leBytes 28 s.program.hash)
  exact ⟨q, f, _, h⟩

theorem State.swapIn_shape (s : State) (p : Program) :
    ∃ q n x, s.swapIn p =
      { s with prog := { s.prog with active := some p, bank := 1 - s.prog.bank }, params := q, nvm := n, ctxs := x } := by
  obtain ⟨x, hx⟩ := foldl_ctxs_shape (f := fun u c => if (p.entry c).isSome || (u.ctx c).cfg.isSome then
    u.setCtx c ((u.ctx c).configure (p.entry c)) else u) (fun u c => by split; exacts [⟨_, rfl⟩, ⟨u.ctxs, rfl⟩]) userCtxs
    { s with
      prog := { s.prog with active := some p, bank := 1 - s.prog.bank },
      params := s.params.filter (fun e => !isCtxTiming e.1),
      nvm := { s.nvm with setDirty := s.nvm.setDirty || s.params.any (fun e => isCtxTiming e.1) } }
  exact ⟨_, _, x, hx⟩

/-- The results of a check and a log record of the program. -/
theorem State.checkLogged_shape (s : State) (r : SchedResult) (p : Program) (kind : Nat) :
    ∃ q n x f, (s.applySched r p).logProgram kind = { s with params := q, nvm := n, ctxs := x, freeCtr := f } := by
  obtain ⟨q, x, hsched⟩ := s.applySched_shape r p
  obtain ⟨q', f, n, hlog⟩ := (s.applySched r p).logProgram_shape kind
  rw [hlog, hsched]
  exact ⟨q', n, x, f, rfl⟩

/-! ### The steps of an activation -/

/-- The program of an activation in force: banks, slot and chain, the points it sets, forces, and what the checks give (R139 step 4,
R140). -/
def State.programInForce (s : State) (a : Activation) (p : Program) : State :=
  let u := s.swapIn p
  let v := { u with
    sram := writePts u.sram a.writes,
    img := { u.img with forces := [], forceChanged := [] },
    prog := { u.prog with slot := a.slot, chain := a.chain, slotBytes := a.slotBytes },
    sec := { u.sec with storeInvalid := false } }
  (v.applySched (v.schedCheck p 0) p).logProgram 1

/-- The network configuration of an activation in force (R141). -/
def State.netInForce (s : State) (a : Activation) (c : NetConfig) : State :=
  let u := s.takeNet c
  ({ u with prog := { u.prog with netCopy := a.slot } }).log 0x22 (leBytes 1 a.slot ++ leBytes 3 0 ++ leBytes 28 c.hash)

/-- Nothing is staged any more, and the activation is over. -/
def Prog.activated (p : Prog) : Prog := { p.clearStaging with activation := none, lastStatus := 0, lastDetail := 0 }

/-- The end of an activation: nothing stays staged, the request is answered, and a standby tells its primary of what pairing sent
(R139, R162). -/
def State.activationTold (s : State) (a : Activation) : State :=
  let t := { s with prog := s.prog.activated }
  let t := match a.mbx with
    | some m => t.ok m (t.commitData true)
    | none => t
  if t.dev.role == .standby && t.stby.offerKind != 0 then
    ({ t with stby := { t.stby with offerKind := 0 } }).scarfSend [ctrlFrame 5 (leBytes 2 0 ++ leBytes 4 0)]
  else t

/-- A primary then sends its standby a new copy. -/
def State.copyAfter (s : State) : State := (if s.dev.role == .primary then s.startResync else s).mirror

theorem State.activate_program {p : Program} (hp : a.newProg = some p) (hn : a.net = none) :
    s.activate a = ((s.programInForce a p).activationTold a).copyAfter := by
  simp only [State.activate, hp, hn]
  rfl

theorem State.activate_net {c : NetConfig} (hp : a.newProg = none) (hn : a.net = some c) :
    s.activate a = ((s.netInForce a c).activationTold a).copyAfter := by
  simp only [State.activate, hp, hn]
  rfl

theorem State.programInForce_shape (s : State) (a : Activation) (p : Program) : ∃ q n x f, s.programInForce a p =
    { s with prog := { s.prog with active := some p, bank := 1 - s.prog.bank, slot := a.slot, chain := a.chain, slotBytes := a.slotBytes },
             params := q, nvm := n, ctxs := x, freeCtr := f, sram := writePts s.sram a.writes,
             img := { s.img with forces := [], forceChanged := [] }, sec := { s.sec with storeInvalid := false } } := by
  obtain ⟨q, n, x, hswap⟩ := s.swapIn_shape p
  unfold State.programInForce
  rw [hswap]
  exact State.checkLogged_shape _ _ _ _

/-- A list of nodes at their initial states holds no other state. -/
theorem tget_foldl_tset_init (l : List NodeCfg) (k : Nat) :
    tget NodeState.init (l.foldl (fun t d => tset t d.num NodeState.init) []) k = NodeState.init := by
  have general : ∀ t : List (Nat × NodeState), tget NodeState.init t k = NodeState.init →
      tget NodeState.init (l.foldl (fun t d => tset t d.num NodeState.init) t) k = NodeState.init := by
    induction l with
    | nil => exact fun _ h => h
    | cons d r ih =>
      intro t h
      refine ih _ ?_
      rw [tget_tset]
      split
      · rfl
      · exact h
  exact general [] rfl

theorem State.netInForce_shape (s : State) (a : Activation) (c : NetConfig) : ∃ n m q v f, s.netInForce a c =
    { s with prog := { s.prog with netHash := c.hash, netCopy := a.slot }, net := n, sram := m, params := q, nvm := v, freeCtr := f } ∧
    n.cfg = some c ∧ ∀ k, tget NodeState.init n.nodes k = NodeState.init := by
  unfold State.netInForce
  extract_lets u
  obtain ⟨q, f, l, o, hlog⟩ := State.log_shape { u with prog := { u.prog with netCopy := a.slot } } 0x22
    (leBytes 1 a.slot ++ leBytes 3 0 ++ leBytes 28 c.hash)
  exact ⟨_, _, _, _, _, hlog, rfl, tget_foldl_tset_init c.nodes⟩

/-- What the end of an activation leaves: the request answered, and a standby's promise to its primary kept. -/
structure State.Told (s u : State) (a : Activation) : Prop where
  frame : u = { s with prog := s.prog.activated, hp := u.hp, stby := u.stby }
  stby : s.dev.role ≠ .standby ∨ s.stby.offerKind = 0 → u.stby = s.stby
  offer : s.dev.role = .standby → u.stby.offerKind = 0
  answer : ∀ m, a.mbx = some m → ((s.mailbox m).req).isSome = true → ∃ d, u.Answered m 0 0 0 d

theorem State.activationTold_told (s : State) (a : Activation) : s.Told (s.activationTold a) a := by
  unfold State.activationTold
  extract_lets t0 t
  obtain ⟨h, ht⟩ : ∃ h, t = { s with prog := s.prog.activated, hp := h } := by
    simp only [t, t0]
    split
    · next m _ =>
      obtain ⟨x, y, e⟩ := State.ok_shape { s with prog := s.prog.activated } m
        (State.commitData { s with prog := s.prog.activated } true)
      exact ⟨_, e⟩
    · exact ⟨s.hp, rfl⟩
  have hans : ∀ m, a.mbx = some m → ((s.mailbox m).req).isSome = true → ∃ d, t.Answered m 0 0 0 d := by
    intro m hm hreq
    obtain ⟨q, hq⟩ := Option.isSome_iff_exists.mp hreq
    simp only [t, hm]
    exact ⟨_, (State.ok_done (s := t0) (q := q) hq _).2⟩
  clear_value t
  subst ht
  split
  · next hc =>
    simp only [Bool.and_eq_true, beq_iff_eq, bne_iff_ne, ne_eq] at hc
    obtain ⟨b, n, k, hsend⟩ := State.scarfSend_shape
      { s with prog := s.prog.activated, hp := h, stby := { s.stby with offerKind := 0 } } [ctrlFrame 5 (leBytes 2 0 ++ leBytes 4 0)]
    rw [hsend]
    refine ⟨rfl, fun hn => ?_, fun _ => rfl, hans⟩
    obtain hn | hn := hn
    · exact absurd hc.1 hn
    · exact absurd hn hc.2
  · next hc =>
    refine ⟨rfl, fun _ => rfl, fun hr => ?_, hans⟩
    simpa [hr] using hc

/-! ### PROGRAM_ACTIVATION -/

theorem programActivation_due (ha : s.prog.activation = some a) (hd : a.recordDurable = true) (hs : s.dev.state = .stop) :
    Gives .programActivation s (s.activate a) := by
  show execProgramActivation s = _
  simp only [execProgramActivation, ha, hd, hs]
  rfl

theorem programActivation_waits (h : ∀ a, s.prog.activation = some a → a.recordDurable = false ∨ s.dev.state ≠ .stop) :
    Gives .programActivation s s := by
  show execProgramActivation s = _
  unfold execProgramActivation
  split
  · next a ha =>
    have hb : ¬ (a.recordDurable && s.dev.state == .stop) = true := by
      rcases h a ha with h | h <;> simp [h]
    exact if_neg hb
  · rfl

end Sys2Proof.Machine
end

section
/-!
PROOF. EDIT_APPLY and EDIT_STEP (R147 to R151): an edit that passes is armed or offered, its step, and O23.
-/

namespace Sys2Proof.Machine

variable {s : State}

/-! ### EDIT_APPLY -/

/-- The edit armed for `at_`: its container in FeRAM, its program in the shadow bank. -/
def State.editArmed (s : State) (k : Checked) (lead at_ : Ns) : State :=
  let place := s.prog.place k.box.kind
  let e : ArmedEdit :=
    { kind := k.box.kind, at_ := at_, lead := lead, affected := k.affected, newProg := k.newProg, migs := k.box.migs,
      slot := place.1, chain := place.2,
      slotBytes := if k.box.kind = 2 then s.prog.slotBytes + s.prog.staged.length else s.prog.staged.length }
  let t := (s.writeContainer k.box.kind s.prog.staged).fillBank (1 - s.prog.bank) k.newProg
  { t with prog := { t.prog with staging := .armed, armed := some e, waitMbx := none, lastStatus := 0, lastDetail := 0 } }

/-- The pair's conditions bind a primary only (R163). -/
theorem pairCheck_alone {k : Checked} (hr : s.dev.role ≠ .primary) : s.pairCheck k = none := by
  simp [State.pairCheck, hr]

theorem editStaged (hst : s.prog.staging = .staging) (hk : s.prog.stagedKind = 2) :
    (s.prog.staging != Staging.staging || s.prog.stagedKind != 2) = false := by
  simp [hst, hk]

theorem leadWithin {lead : Ns} (hlo : 1000000 ≤ lead) (hhi : lead ≤ 10000000000) :
    (decide (lead < 1000000) || decide (10000000000 < lead)) = false := by
  simpa using ⟨hlo, hhi⟩

section Apply

variable {m : BitVec 4} {r : Request} {v : Verdict} (h : s.request m.toNat 0x59 = some r) (hw : s.loadWaits m.toNat = false)
  (hg : s.loadGate r.session true (s.dev.state == .run || s.dev.state == .halt) s.updateBlocks = none)

include h hw hg

theorem editApply_notStaged (hst : s.prog.staging = .loaded ∨ (s.prog.staging = .staging ∧ s.prog.stagedKind ≠ 2)) :
    Gives (.editApply m v) s (s.refuseLoad m.toNat 6 0) := by
  show execEditApply m v s = _
  rcases hst with hst | ⟨hst, hk⟩
  · simp [execEditApply, h, hw, hg, hst]
  · simp [execEditApply, h, hw, hg, hst, hk]

section Staged

variable (hst : s.prog.staging = .staging) (hk : s.prog.stagedKind = 2)

include hst hk

/-- The spec gives no status for a lead out of range: it is a free one (log 5). -/
theorem editApply_leadOut (hl : leAt r.payload 0 4 * 1000 < 1000000 ∨ 10000000000 < leAt r.payload 0 4 * 1000) :
    ∃ st, 1 ≤ st ∧ st ≤ 65535 ∧ Gives (.editApply m v) s (State.refuseLoad { s with freeCtr := s.freeCtr + 1 } m.toNat st 0) := by
  refine ⟨1 + s.draw.1 % 65535, by omega, by omega, ?_⟩
  have hb : (decide (leAt r.payload 0 4 * 1000 < 1000000) || decide (10000000000 < leAt r.payload 0 4 * 1000)) = true := by simpa using hl
  show execEditApply m v s = _
  simp [execEditApply, h, hw, hg, hst, hk, hb]
  rfl

variable (hlo : 1000000 ≤ leAt r.payload 0 4 * 1000) (hhi : leAt r.payload 0 4 * 1000 ≤ 10000000000)

include hlo hhi

theorem editApply_fails {e : LoadFail} (hc : s.checkContainer true [2, 3] s.prog.staged s.prog.stagedLen v = .error e) :
    Gives (.editApply m v) s ((s.noteSched e.sched).refuseLoad m.toNat e.status e.detail) := by
  show execEditApply m v s = _
  simp only [execEditApply, h, hw, hg, editStaged hst hk, leadWithin hlo hhi, hc, Bool.false_eq_true, if_false]

variable {k : Checked} (hc : s.checkContainer true [2, 3] s.prog.staged s.prog.stagedLen v = .ok k)

include hc

theorem editApply_noInstant (hi : s.editInstant k.affected (leAt r.payload 0 4 * 1000) = none) :
    Gives (.editApply m v) s (s.refuseLoad m.toNat 0x1D 0) := by
  show execEditApply m v s = _
  simp only [execEditApply, h, hw, hg, editStaged hst hk, leadWithin hlo hhi, hc, hi, Bool.false_eq_true, if_false]

variable {at_ : Ns} (hi : s.editInstant k.affected (leAt r.payload 0 4 * 1000) = some at_)

include hi

theorem editApply_breaksPair {d : Nat} (hp : s.pairCheck k = some d) :
    Gives (.editApply m v) s (s.refuseLoad m.toNat 0x1E d) := by
  show execEditApply m v s = _
  simp only [execEditApply, h, hw, hg, editStaged hst hk, leadWithin hlo hhi, hc, hi, hp, Bool.false_eq_true, if_false]

theorem editApply_offers (hp : s.pairCheck k = none) (hr : s.dev.role = .primary) :
    Gives (.editApply m v) s (s.offer m.toNat (leAt r.payload 0 4 * 1000) s.prog.staged) := by
  show execEditApply m v s = _
  simp only [execEditApply, h, hw, hg, editStaged hst hk, leadWithin hlo hhi, hc, hi, hp, hr, beq_self_eq_true, Bool.false_eq_true,
    if_false, if_true]

theorem editApply_arms (hr : s.dev.role ≠ .primary) :
    Gives (.editApply m v) s
      ((s.editArmed k (leAt r.payload 0 4 * 1000) at_).ok m.toNat (leBytes 8 at_ ++ leBytes 48 k.newProg.hash)) := by
  have hrole : (s.dev.role == Role.primary) = false := by simpa using hr
  show execEditApply m v s = _
  simp only [execEditApply, h, hw, hg, editStaged hst hk, leadWithin hlo hhi, hc, hi, pairCheck_alone hr, hrole, Bool.false_eq_true,
    if_false]
  rfl

end Staged

end Apply

/-! ### EDIT_STEP -/

theorem State.bumpPages_shape (s : State) (l : List Nat) :
    ∃ v, l.foldl (fun t g => t.bumpPage g) s = { s with img := { s.img with vers := v } } :=
  foldl_shape (fun (s : State) v => { s with img := { s.img with vers := v } }) _ (fun _ _ _ => rfl) (fun s => ⟨s.img.vers, rfl⟩)
    (fun _ _ => ⟨_, rfl⟩) l s

/-- What is sent changes the state of the link only. -/
theorem State.scarfSend_withStby (s : State) (fs : List ScarfOut) (b : StbyState) :
    { s.scarfSend fs with stby := b } = { s with stby := b } := by
  obtain ⟨x, y, z, h⟩ := s.scarfSend_shape fs
  rw [h]

theorem State.sendDelta_shape (s : State) (c peg : Nat) (pegAt : Ns) (pages : List Nat) (writes : List (Nat × Nat)) (rows : List Nat)
    (cells : List CellRec) : ∃ b, s.sendDelta c peg pegAt pages writes rows cells = { s with stby := b } := by
  unfold State.sendDelta
  split
  · exact ⟨_, State.scarfSend_withStby _ _ _⟩
  · exact ⟨s.stby, rfl⟩

/-- The program of an edit in force: what is staged is gone with it (R149). -/
def Prog.edited (p : Prog) (e : ArmedEdit) : Prog :=
  { p.clearStaging with active := some e.newProg, bank := 1 - p.bank, slot := e.slot, chain := e.chain, slotBytes := e.slotBytes,
                        armed := none }

theorem State.editSwap_shape (s : State) (e : ArmedEdit) : ∃ q n c fo fc x f, s.editSwap e =
    { s with prog := s.prog.edited e, params := q, nvm := n, img := { s.img with cells := c, forces := fo, forceChanged := fc },
             ctxs := x, freeCtr := f } := by
  unfold State.editSwap
  extract_lets old new _ _ _ t u force
  obtain ⟨x, hu⟩ : ∃ x, u = { t with ctxs := x } := foldl_ctxs_shape (fun _ _ => ⟨_, rfl⟩) e.affected t
  obtain ⟨q, n, x', f, h⟩ := u.checkLogged_shape (u.schedCheck force 0) force e.kind
  rw [h, hu]
  exact ⟨_, _, _, _, _, _, _, rfl⟩

/-- What an edit step makes of `s`: the migrated values in the image, the new program in force, and its record queued. -/
structure State.EditTaken (s t : State) (e : ArmedEdit) : Prop where
  prog : t.prog = s.prog.edited e
  pegSeq : t.img.pegSeq = s.img.pegSeq + 1
  lastPeg : t.img.lastPeg = e.at_
  queued : ∃ k, t.img.commits = s.img.commits ++ [k] ∧ k.kind = .edit ∧ k.seq = s.img.pegSeq + 1 ∧ k.pegAt = e.at_
  sram : t.sram = writePts s.sram (migWrites s.program e.newProg (fun i => s.committed (mkPt 6 i)) e.migs)
  frame : t = { s with prog := t.prog, params := t.params, nvm := t.nvm, ctxs := t.ctxs, sram := t.sram, img := t.img,
                       freeCtr := t.freeCtr, stby := t.stby, hp := t.hp }

theorem State.takeEdit_taken (s : State) (e : ArmedEdit) : s.EditTaken (s.takeEdit e) e := by
  unfold State.takeEdit
  extract_lets old ws sameRet pages _ s1 s2 s3 rows held _ k _ s4
  obtain ⟨v, h2⟩ : ∃ v, s2 = { s1 with img := { s1.img with vers := v } } := s1.bumpPages_shape pages
  obtain ⟨q, n, c, fo, fc, x, f, h3⟩ : ∃ q n c fo fc x f, s3 =
      { s2 with prog := s2.prog.edited e, params := q, nvm := n, img := { s2.img with cells := c, forces := fo, forceChanged := fc },
                ctxs := x, freeCtr := f } := s2.editSwap_shape e
  have hk : k.kind = .edit ∧ k.seq = s3.img.pegSeq ∧ k.pegAt = e.at_ := ⟨rfl, rfl, rfl⟩
  obtain ⟨b, hd⟩ := s4.sendDelta_shape 255 k.seq e.at_ pages ws rows []
  rw [hd]
  clear_value k
  clear_value s3
  subst h3
  clear_value s2
  subst h2
  exact ⟨rfl, rfl, rfl, ⟨k, rfl, hk⟩, rfl, rfl⟩

theorem editStep_due {e : ArmedEdit} (he : s.prog.armed = some e) (hd : s.editDue e = true) : Gives .editStep s (s.takeEdit e) := by
  show execEditStep s = _
  simp only [execEditStep, he, hd, if_true]

theorem editStep_early {e : ArmedEdit} (he : s.prog.armed = some e) (hd : s.editDue e = false) : Gives .editStep s s := by
  show execEditStep s = _
  simp only [execEditStep, he, hd, Bool.false_eq_true, if_false]

theorem editStep_none (he : s.prog.armed = none) : Gives .editStep s s := by
  show execEditStep s = _
  simp only [execEditStep, he]

/-! ### O23 -/

/-- A staged container that passes is LOADED where it asks for nothing more. -/
theorem prgCommit_loads {m : BitVec 4} {v : Verdict} {r : Request} {k : Checked} (h : s.request m.toNat 0x52 = some r)
    (hgive : Gives (.prgCommit m v) s (s.commitPassed m.toNat k)) (hf : bit k.box.flags 0 = false) :
    Does (.prgCommit m v) s (fun t =>
      t = { s with feram := (s.writeContainer k.box.kind s.prog.staged).feram, prog := t.prog, hp := t.hp } ∧
      t.prog = { s.prog with staging := .loaded, loadedAt := s.clk.ticks, lastStatus := 0, lastDetail := 0 } ∧
      t.Answered m.toNat 0 0 0 (leBytes 1 0 ++ leBytes 3 0 ++ leBytes 48 s.program.hash)) := by
  rw [State.commitPassed_loaded hf] at hgive
  obtain ⟨t, ht, hframe, hans⟩ := does_ok (u := s.containerLoaded k.box.kind) (State.request_req h) hgive
  exact ⟨t, ht, by rw [hframe]; rfl, by rw [hframe]; rfl, hans⟩

/-- An activation whose record is durable in STOP: from `v`, where the new program or configuration is in force, the request is
answered, and a primary's copy follows. -/
theorem programActivation_comes {a : Activation} {v : State} (ha : s.prog.activation = some a) (hd : a.recordDurable = true)
    (hs : s.dev.state = .stop) (hv : s.activate a = (v.activationTold a).copyAfter) (hdev : v.dev = s.dev) :
    Gives .programActivation s (if s.dev.role = .primary then (v.activationTold a).startResync else v.activationTold a).mirror := by
  have hgive := programActivation_due ha hd hs
  have hu : (v.activationTold a).dev = s.dev := by rw [(v.activationTold_told a).frame]; exact hdev
  rw [hv, State.copyAfter, hu] at hgive
  simpa only [beq_iff_eq] using hgive

/-- What the end of an activation leaves, from a state whose device, link and mail are those of `s`. -/
theorem State.Told.since {a : Activation} {u v : State} (h : v.Told u a) (hdev : v.dev = s.dev) (hstby : v.stby = s.stby)
    (hhp : v.hp = s.hp) :
    u.prog.activation = none ∧ u.prog.staging = .idle ∧ u.prog.lockSession = none ∧
      (s.dev.role ≠ .standby ∨ s.stby.offerKind = 0 → u.stby = s.stby) ∧ (s.dev.role = .standby → u.stby.offerKind = 0) ∧
      ∀ m, a.mbx = some m → ((s.mailbox m).req).isSome = true → ∃ d, u.Answered m 0 0 0 d := by
  obtain ⟨hframe, hsame, hoffer, hans⟩ := h
  have hprog : u.prog = v.prog.activated := by rw [hframe]
  rw [hdev, hstby] at hsame
  rw [hdev] at hoffer
  refine ⟨by rw [hprog]; rfl, by rw [hprog]; rfl, by rw [hprog]; rfl, hsame, hoffer, fun m hm hreq => hans m hm ?_⟩
  rw [State.mailbox, hhp]
  exact hreq

/-- Settles O23: the branches of the two requests are lemmas above; an activation and an edit step are taken apart into the operations
that they share. -/
theorem programsComeIntoForce : Obligations.ProgramsComeIntoForce := by
  refine ⟨?commit, ?activation, fun s => programActivation_waits, fun s => ⟨?apply, ?step, fun e => editStep_early, editStep_none⟩⟩
  case commit =>
    intro s m v r h hw hg
    refine ⟨prgCommit_ofEdit h hw hg v, fun hst hk => ⟨fun e => prgCommit_fails h hw hg hst hk, fun k hc =>
      ⟨fun d => prgCommit_breaksPair h hw hg hst hk hc, fun hp => ?passes⟩⟩,
      fun hst => ⟨fun e => prgCommit_loadedFails h hw hg hst, fun k hc =>
        ⟨prgCommit_loadedQueued h hw hg hst hc, prgCommit_loadedOffered h hw hg hst hc⟩⟩⟩
    case passes =>
      have hgive := prgCommit_passes h hw hg hst hk hc hp
      exact ⟨prgCommit_loads h hgive, fun hf hr => ⟨_, hgive, State.commitPassed_queued hf hr⟩,
        fun hf hr => ⟨_, hgive, State.commitPassed_offered hf hr⟩⟩
  case activation =>
    intro s a ha hd hs
    refine ⟨fun p hp hn => ?program, fun c hp hn => ?net⟩
    case program =>
      obtain ⟨q, n, x, f, hforce⟩ := s.programInForce_shape a p
      have htold := (s.programInForce a p).activationTold_told a
      refine ⟨_, programActivation_comes ha hd hs (State.activate_program hp hn) (by rw [hforce]), _,
        ⟨rfl, htold.since (by rw [hforce]) (by rw [hforce]) (by rw [hforce])⟩, ?_⟩
      rw [htold.frame, hforce]
      exact ⟨rfl, rfl, rfl, rfl, rfl⟩
    case net =>
      obtain ⟨n, m, q, v, f, hforce, hcfg, hnodes⟩ := s.netInForce_shape a c
      have htold := (s.netInForce a c).activationTold_told a
      refine ⟨_, programActivation_comes ha hd hs (State.activate_net hp hn) (by rw [hforce]), _,
        ⟨rfl, htold.since (by rw [hforce]) (by rw [hforce]) (by rw [hforce])⟩, ?_⟩
      rw [htold.frame, hforce]
      exact ⟨hcfg, rfl, rfl, rfl, fun d _ => hnodes d.num, rfl⟩
  case apply =>
    intro m v r h hw hg
    refine ⟨editApply_notStaged h hw hg, fun hst hk => ⟨editApply_leadOut h hw hg hst hk, fun hlo hhi =>
      ⟨fun e => editApply_fails h hw hg hst hk hlo hhi, fun k hc => ⟨editApply_noInstant h hw hg hst hk hlo hhi hc, fun a hi =>
        ⟨fun d => editApply_breaksPair h hw hg hst hk hlo hhi hc hi, ?offers, ?arms⟩⟩⟩⟩⟩
    case offers =>
      intro hp hr
      exact ⟨_, editApply_offers h hw hg hst hk hlo hhi hc hi hp hr, s.offer_offered m.toNat _⟩
    case arms =>
      intro hr
      obtain ⟨t, ht, hframe, hans⟩ := does_ok (u := s.editArmed k (leAt r.payload 0 4 * 1000) a) (State.request_req h)
        (editApply_arms h hw hg hst hk hlo hhi hc hi hr)
      refine ⟨t, ht, ?_, ?_, ?_, ?_, hans⟩ <;> rw [hframe]
      · rfl
      · rfl
      · rfl
      · exact ⟨_, rfl, rfl, rfl, rfl, rfl⟩
  case step =>
    intro e he hd
    obtain ⟨hprog, hseq, hlast, ⟨k, hk, hkind, hkseq, hkpeg⟩, hsram, hframe⟩ := s.takeEdit_taken e
    refine ⟨_, editStep_due he hd, ?_, ?_, ?_, ?_, ?_, hseq, hlast, ?_, ⟨k, ?_, hkind, hkseq, hkpeg⟩, hsram, hframe⟩
    case refine_6 => rw [hk]; simp
    case refine_7 => rw [hk]; simp
    all_goals rw [hprog]; rfl

end Sys2Proof.Machine
end

section
/-!
PROOF. The pair through a transition (R31, R164, R174): what an operation leaves of the role and the link, a state that a standby
follows, and the end of a pair.
-/

namespace Sys2Proof.Machine

variable {s₀ s : State}

/-! ### The device and the link -/

/-- `t` has the device part of `s`, and of its link the state to follow and the refusal. -/
structure State.LinkKept (s t : State) : Prop where
  dev : t.dev = s.dev
  follow : t.stby.follow = s.stby.follow
  refusal : t.stby.refusal = s.stby.refusal

theorem State.LinkKept.refl (s : State) : s.LinkKept s := ⟨rfl, rfl, rfl⟩

/-- A change of other parts. -/
theorem State.LinkKept.update (h : s₀.LinkKept s) {pending freeCtr clk pwr sram feram params bootParams blocks ctxs img sched prog flt
    wdg tmr hp nvm upd sec net eng bays} :
    s₀.LinkKept { pending := pending, freeCtr := freeCtr, dev := s.dev, clk := clk, pwr := pwr, sram := sram, feram := feram,
                  params := params, bootParams := bootParams, blocks := blocks, ctxs := ctxs, img := img, sched := sched,
                  prog := prog, flt := flt, wdg := wdg, tmr := tmr, hp := hp, nvm := nvm, upd := upd, sec := sec, stby := s.stby,
                  net := net, eng := eng, bays := bays } := ⟨h.dev, h.follow, h.refusal⟩

theorem State.LinkKept.ite {p : Prop} [Decidable p] {t : State} (hs : s₀.LinkKept s) (ht : s₀.LinkKept t) :
    s₀.LinkKept (if p then s else t) := by
  split
  · exact hs
  · exact ht

theorem State.LinkKept.log (h : s₀.LinkKept s) {type : Nat} {bytes : List Byte} : s₀.LinkKept (s.log type bytes) := by
  obtain ⟨p, f, q, o, e⟩ := s.log_shape type bytes
  rw [e]
  exact .update h

theorem State.LinkKept.bump (h : s₀.LinkKept s) {pid w : Nat} : s₀.LinkKept (s.bump pid w) := by
  obtain ⟨p, f, e⟩ := s.bump_shape pid w
  rw [e]
  exact .update h

theorem State.LinkKept.answer (h : s₀.LinkKept s) {m completion status detail : Nat} {data : List Byte} :
    s₀.LinkKept (s.answer m completion status detail data) := by
  obtain ⟨x, y, e⟩ := s.answer_shape m completion status detail data
  rw [e]
  exact .update h

theorem State.LinkKept.scarfSend (h : s₀.LinkKept s) {fs : List ScarfOut} : s₀.LinkKept (s.scarfSend fs) := by
  obtain ⟨a, b, c, e⟩ := s.scarfSend_shape fs
  rw [e]
  exact ⟨h.dev, h.follow, h.refusal⟩

theorem State.LinkKept.abandonEdit (h : s₀.LinkKept s) {cause : Nat} : s₀.LinkKept (s.abandonEdit cause) := by
  obtain ⟨p, f, n, g, e⟩ := s.abandonEdit_shape cause
  rw [e]
  exact .update h

theorem State.LinkKept.verdictLost (h : s₀.LinkKept s) : s₀.LinkKept s.verdictLost := by
  unfold State.verdictLost
  split
  · exact .update (.answer h)
  · exact h

theorem State.LinkKept.writeShim (h : s₀.LinkKept s) : s₀.LinkKept s.writeShim := by
  obtain ⟨a, b, e⟩ := s.writeShim_shape
  rw [e]
  exact .update h

theorem State.LinkKept.updReverted (h : s₀.LinkKept s) : s₀.LinkKept s.updReverted := by
  unfold State.updReverted
  extract_lets t u
  have ht : s₀.LinkKept t := by
    simp only [t]
    split
    · exact .ite (.answer h) (.ite (.answer h) (.answer h))
    · exact h
  have hu : s₀.LinkKept u := .bump (.log ht)
  exact .writeShim (.update hu)

theorem State.LinkKept.updPartnerGone (h : s₀.LinkKept s) : s₀.LinkKept s.updPartnerGone := .ite (.updReverted (.update h)) h

theorem State.LinkKept.updDiscard (h : s₀.LinkKept s) {reason status : Nat} : s₀.LinkKept (s.updDiscard reason status) :=
  .update (.log h)

theorem State.LinkKept.updRevert (h : s₀.LinkKept s) {reason : Nat} : s₀.LinkKept (s.updRevert reason) := .writeShim (.update h)

theorem State.LinkKept.abandonUpdate (h : s₀.LinkKept s) : s₀.LinkKept s.abandonUpdate := by
  unfold State.abandonUpdate
  split
  · exact .updDiscard h
  · exact .updDiscard h
  · exact .updRevert h
  · exact .updRevert h
  · exact h

theorem State.LinkKept.leaveRun (h : s₀.LinkKept s) : s₀.LinkKept s.leaveRun := by
  obtain ⟨x, k, e, g, hl⟩ := s.leaveRun_shape
  rw [hl]
  exact .update h

theorem State.LinkKept.editOnTransition (h : s₀.LinkKept s) {dest : DevState} : s₀.LinkKept (s.editOnTransition dest) := by
  obtain ⟨p, f, n, g, e⟩ := s.editOnTransition_shape dest
  rw [e]
  exact .update h

/-! ### A transition inside the pair, and the end of a pair -/

/-- A transition to STOP, RUN or HALT leaves the role, the state to follow and the refusal (R31). -/
theorem State.enter_pair {dest : DevState} (h : pairState dest = true) (s : State) (requester : Nat) (imm : Bool) :
    (s.enter dest requester imm).dev.role = s.dev.role ∧ (s.enter dest requester imm).stby.follow = s.stby.follow ∧
      (s.enter dest requester imm).stby.refusal = s.stby.refusal := by
  unfold State.enter
  extract_lets from_ s1 s2 s3 s4 s4' s5 clean cmp
  have h1 : s.LinkKept s1 := .ite (.leaveRun (.refl s)) (.ite (.update (.refl s)) (.refl s))
  have h2 : s.LinkKept s2 := .editOnTransition h1
  have h3 : s.LinkKept s3 := .ite (.abandonUpdate h2) h2
  have h4 : s.LinkKept s4 := by
    simp only [s4, if_pos h]
    exact .ite (.scarfSend h3) h3
  obtain ⟨x, y, p, f, q, o, a, b, h5⟩ := s4.overtake_shape dest
  obtain ⟨p', f', q', o', h6⟩ := s4'.log_shape 2
    (leBytes 1 (devCode from_) ++ leBytes 1 (devCode dest) ++ leBytes 1 requester ++ leBytes 1 (b2n imm))
  have hdev : s5.dev.role = s4.dev.role ∧ s5.stby = s4.stby := by
    simp only [s5, h6, s4', h5]
    exact ⟨trivial, trivial⟩
  obtain ⟨hrole, hstby⟩ := hdev
  clear_value s5
  refine ⟨?_, ?_, ?_⟩
  · show s5.dev.role = _
    rw [hrole, h4.dev]
  · show s5.stby.follow = _
    rw [hstby, h4.follow]
  · show s5.stby.refusal = _
    rw [hstby, h4.refusal]

/-- A unit that leaves its pair is SOLO in the same device state, with the refusal as it was (R174). -/
theorem State.leavePair_solo (h : s.dev.role = .primary ∨ s.dev.role = .standby) (tell : Bool) :
    (s.leavePair tell).dev = { s.dev with role := .solo } ∧ (s.leavePair tell).stby.refusal = s.stby.refusal := by
  have hb : (s.dev.role == .primary || s.dev.role == .standby) = true := by simpa using h
  unfold State.leavePair
  rw [if_pos hb]
  extract_lets s' t u
  have hu : s.LinkKept u := .updPartnerGone (.verdictLost (.abandonEdit (.log (.ite (.scarfSend (.refl s)) (.refl s)))))
  clear_value u
  exact ⟨congrArg (fun d : Device => { d with role := .solo }) hu.dev, hu.refusal⟩

/-- A standby without a level image ends SOLO in STOP (R174). -/
theorem State.standbyStops_stops (h : s.dev.role = .standby) :
    s.standbyStops.dev.role = .solo ∧ s.standbyStops.dev.state = .stop ∧ s.standbyStops.stby.refusal = s.stby.refusal ∧
      s.Steady s.standbyStops := by
  obtain ⟨hdev, href⟩ := State.leavePair_solo (.inr h) false
  have hst := s.leavePair_steady false
  unfold State.standbyStops
  extract_lets t
  split
  · next hstop => exact ⟨by rw [hdev], by simpa using hstop, href, hst⟩
  · obtain ⟨hrole, -, hrefusal⟩ := State.enter_pair (dest := .stop) rfl t 0 true
    exact ⟨by rw [hrole, hdev], rfl, hrefusal.trans href, hst.trans (t.enter_steady .stop 0 true)⟩

/-! ### The primary's state followed (R164) -/

/-- The state that a code of CTRL STATE names. -/
def followed (st : Nat) : DevState := if st = 4 then .run else if st = 5 then .halt else .stop

theorem pairState_followed (st : Nat) : pairState (followed st) = true := by
  unfold followed
  split
  · rfl
  · split <;> rfl

theorem State.clearRunCounts_shape (s : State) : ∃ p x c f, s.clearRunCounts =
    { s with params := p, ctxs := x, sched := c, flt := f } := by
  unfold State.clearRunCounts State.dropCapOver
  extract_lets t
  split
  · exact ⟨_, _, _, s.flt, rfl⟩
  · exact ⟨_, _, _, _, rfl⟩

/-- The image that an entry into `dest` starts from. -/
def State.entryImage (s : State) (dest : DevState) : State := if dest == .run && s.dev.state == .stop then s.initImage else s

theorem State.entryImage_shape (s : State) (dest : DevState) : ∃ m i, s.entryImage dest = { s with sram := m, img := i } := by
  unfold State.entryImage
  split
  · exact ⟨_, _, rfl⟩
  · exact ⟨s.sram, s.img, rfl⟩

/-- Nothing is left to follow. -/
def State.followEnded (s : State) : State := { s with stby := { s.stby with follow := none } }

theorem State.followTo_eq (s : State) (st : Nat) : s.followTo st =
    if s.dev.state = followed st then s.followEnded
    else if followed st = .run then ((s.followEnded.entryImage (followed st)).enter (followed st) 0 false).clearRunCounts
    else (s.followEnded.entryImage (followed st)).enter (followed st) 0 false := by
  unfold State.followTo
  extract_lets dest _ t u v
  have hc : (t.dev.state == dest) = true ↔ s.dev.state = followed st := beq_iff_eq
  have hr : (dest == .run) = true ↔ followed st = .run := beq_iff_eq
  exact if_congr hc rfl (if_congr hr rfl rfl)

/-- The standby stands in the state sent, its FeRAM as it was but for the shim journal's state rows. -/
structure State.FollowedTo (s t : State) (st : Nat) : Prop where
  state : t.dev.state = followed st
  role : t.dev.role = s.dev.role
  follow : t.stby.follow = none
  feram : ∀ a, shimAddr a = false → t.feram.read a = s.feram.read a

theorem State.followTo_followed (s : State) (st : Nat) : s.FollowedTo (s.followTo st) st := by
  obtain ⟨m, i, himg⟩ := s.followEnded.entryImage_shape (followed st)
  have entered : s.FollowedTo ((s.followEnded.entryImage (followed st)).enter (followed st) 0 false) st := by
    obtain ⟨hrole, hfollow, -⟩ := State.enter_pair (pairState_followed st) (s.followEnded.entryImage (followed st)) 0 false
    have hst := (s.followEnded.entryImage (followed st)).enter_steady (followed st) 0 false
    exact ⟨rfl, by rw [hrole, himg]; rfl, by rw [hfollow, himg]; rfl, fun a ha => by rw [hst.feram a ha, himg]; rfl⟩
  rw [State.followTo_eq]
  split
  · next h => exact ⟨h, rfl, rfl, fun _ _ => rfl⟩
  · split
    · obtain ⟨p, x, c, f, hc⟩ := State.clearRunCounts_shape ((s.followEnded.entryImage (followed st)).enter (followed st) 0 false)
      rw [hc]
      exact ⟨entered.state, entered.role, entered.follow, entered.feram⟩
    · exact entered

end Sys2Proof.Machine
end

section
/-!
PROOF. Frames of the pair (R155, R162 to R164, R169, R178): CTRL STATE, CTRL FORCE, EDIT_OFFER and EDIT_VERDICT, one lemma a branch.
-/

namespace Sys2Proof.Machine

variable {s : State} {h : ScarfHdr}

/-! ### A good frame -/

/-- A command that is a frame, where the frame is good: what it makes of the state that took the frame (R158, R159). -/
theorem gives_of_frame {c : Instr} {f : State → State} {t : State} (hc : exec c s = s.onFrame h f) (hg : s.scarfGood h = true)
    (hf : f (s.scarfTaken h) = t) : Gives c s t := by
  subst hf
  exact hc.trans (if_pos hg)

/-! ### Frames for a standby on another unit -/

section Elsewhere

variable (hg : s.scarfGood h = true) (hr : (s.scarfTaken h).dev.role ≠ .standby)

include hg hr

theorem ctrlState_elsewhere (st at_ : Nat) : Gives (.ctrlState h st at_) s (s.scarfTaken h) :=
  gives_of_frame rfl hg (by simp [hr])

theorem ctrlForce_elsewhere (forces : List (Nat × Nat)) : Gives (.ctrlForce h forces) s (s.scarfTaken h) :=
  gives_of_frame rfl hg (by simp [hr])

theorem editOffer_elsewhere (purpose left : Nat) (data : List Byte) (v : Verdict) :
    Gives (.editOffer h purpose left data v) s (s.scarfTaken h) :=
  gives_of_frame rfl hg (by simp [hr])

theorem switch_elsewhere (at_ : Nat) : Gives (.switch h at_) s (s.scarfTaken h) :=
  gives_of_frame rfl hg (by simp [hr])

end Elsewhere

/-! ### CTRL STATE (R164) -/

/-- What CTRL STATE tells: the state to follow and its instant. -/
def State.toFollow (s : State) (st at_ : Nat) : State := { s with stby := { s.stby with follow := some (at_, st), partnerState := st } }

section OnStandby

variable (hg : s.scarfGood h = true) (hr : (s.scarfTaken h).dev.role = .standby)

include hg hr

theorem ctrlState_other {st : Nat} (at_ : Nat) (h3 : st ≠ 3) (h4 : st ≠ 4) (h5 : st ≠ 5) :
    Gives (.ctrlState h st at_) s (s.scarfTaken h) :=
  gives_of_frame rfl hg (by simp [hr, h3, h4, h5])

theorem ctrlState_gives {st : Nat} (at_ : Nat) (hst : st = 3 ∨ st = 4 ∨ st = 5) :
    Gives (.ctrlState h st at_) s ((s.scarfTaken h).toFollow st at_).followDue := by
  have hb : (st == 3 || st == 4 || st == 5) = true := by simpa [or_assoc] using hst
  exact gives_of_frame rfl hg (by simp only [hr, hb, beq_self_eq_true, Bool.and_self, if_true]; rfl)

end OnStandby

/-- An instant still to come, or an activation on its way, leaves the state to follow (R139, R164). -/
theorem State.toFollow_waits {st at_ : Nat} (hw : s.now < at_ ∨ s.prog.activation ≠ none) :
    (s.toFollow st at_).followDue = s.toFollow st at_ := by
  have hn : ¬ (at_ ≤ s.now ∧ s.dev.role = .standby ∧ s.prog.activation.isNone = true) := by
    rintro ⟨hle, -, hnone⟩
    rcases hw with hlt | hact
    · exact absurd hlt (Nat.not_lt.mpr hle)
    · exact hact (Option.isNone_iff_eq_none.mp hnone)
  exact if_neg hn

theorem State.toFollow_due {st at_ : Nat} (hle : at_ ≤ s.now) (ha : s.prog.activation = none) (hr : s.dev.role = .standby) :
    (s.toFollow st at_).followDue = (s.toFollow st at_).followTo st :=
  if_pos ⟨hle, hr, by rw [show (s.toFollow st at_).prog = s.prog from rfl, ha]; rfl⟩

/-! ### Containers from the primary (R155, R162, R178) -/

/-- `t` is `s` with an activation begun: FeRAM, the shadow bank, the record queued. -/
structure State.Starts (s t : State) : Prop where
  frame : t = { s with sram := t.sram, feram := t.feram, prog := t.prog, img := t.img }
  staging : t.prog.staging = .checking
  armed : t.prog.armed = s.prog.armed
  activation : t.prog.activation ≠ none

theorem State.startProgram_starts (s : State) (m : Option Nat) (k : Checked) (bs : List Byte) (chain : Nat) (clear : Bool) :
    s.Starts (s.startProgram m k bs chain clear) := ⟨rfl, rfl, rfl, nofun⟩

theorem State.startNet_starts (s : State) (m : Option Nat) (net : NetConfig) (bs : List Byte) : s.Starts (s.startNet m net bs) :=
  ⟨rfl, rfl, rfl, nofun⟩

theorem State.startActivation_starts (s : State) (m : Option Nat) (k : Checked) (bs : List Byte) :
    s.Starts (s.startActivation m k bs) := by
  unfold State.startActivation
  split
  · exact s.startNet_starts m _ bs
  · exact s.startProgram_starts m k bs 0 false

/-- A verdict changes the link only. -/
theorem State.verdict_shape (s : State) (status detail : Nat) : ∃ b, s.verdict status detail = { s with stby := b } := by
  obtain ⟨a, b, c, e⟩ := s.scarfSend_shape [verdictFrame status detail]
  exact ⟨_, e⟩

/-- Whether bytes are an online edit. -/
def isEdit (bs : List Byte) : Bool := leAt bs 6 1 == 2 || leAt bs 6 1 == 3

/-- The standby's own check of a staged container (R155). -/
def State.offerCheck (s : State) (bs : List Byte) (v : Verdict) : Except LoadFail Checked :=
  s.checkContainer (isEdit bs) (if isEdit bs = true then [2, 3] else [1, 4]) bs bs.length v

theorem State.judgeOffer_eq (s : State) (bs : List Byte) (v : Verdict) : s.judgeOffer bs v =
    if s.offerGate (isEdit bs) ≠ 0 then s.verdict (s.offerGate (isEdit bs)) 0
    else match s.offerCheck bs v with
      | .error e => s.verdict e.status e.detail
      | .ok k => (if isEdit bs = true then s.armOffered k bs else s.startActivation none k bs).verdict 0 0 := rfl

section Judge

variable {bs : List Byte} {v : Verdict}

theorem State.judgeOffer_gated (hg : s.offerGate (isEdit bs) ≠ 0) :
    s.judgeOffer bs v = { s with stby := (s.judgeOffer bs v).stby } := by
  obtain ⟨b, e⟩ := s.verdict_shape (s.offerGate (isEdit bs)) 0
  rw [State.judgeOffer_eq, if_pos hg, e]

theorem State.judgeOffer_fails (hg : s.offerGate (isEdit bs) = 0) {e : LoadFail} (hc : s.offerCheck bs v = .error e) :
    s.judgeOffer bs v = { s with stby := (s.judgeOffer bs v).stby } := by
  obtain ⟨b, hb⟩ := s.verdict_shape e.status e.detail
  rw [State.judgeOffer_eq, if_neg (not_not.mpr hg), hc]
  dsimp only
  rw [hb]

/-- `t` is `s` with the edit of the primary armed, to wait for its delta (R178). -/
def State.ArmedOf (s t : State) (k : Checked) : Prop :=
  t = { s with stby := t.stby, sram := t.sram, feram := t.feram, prog := t.prog } ∧ t.prog.staging = .armed ∧
    ∃ e, t.prog.armed = some e ∧ e.kind = k.box.kind ∧ e.newProg = k.newProg ∧ e.affected = k.affected

theorem State.judgeOffer_arms (hg : s.offerGate (isEdit bs) = 0) {k : Checked} (hc : s.offerCheck bs v = .ok k)
    (he : isEdit bs = true) : s.ArmedOf (s.judgeOffer bs v) k := by
  obtain ⟨b, hb⟩ := (s.armOffered k bs).verdict_shape 0 0
  rw [State.judgeOffer_eq, if_neg (not_not.mpr hg), hc]
  dsimp only
  rw [if_pos he, hb]
  exact ⟨rfl, rfl, _, rfl, rfl, rfl, rfl⟩

/-- `t` is `s` with the activation of the primary's load begun, and the link changed. -/
def State.StartedOf (s t : State) : Prop :=
  t = { s with stby := t.stby, sram := t.sram, feram := t.feram, prog := t.prog, img := t.img } ∧ t.prog.staging = .checking ∧
    t.prog.armed = s.prog.armed ∧ t.prog.activation ≠ none

theorem State.judgeOffer_starts (hg : s.offerGate (isEdit bs) = 0) {k : Checked} (hc : s.offerCheck bs v = .ok k)
    (he : isEdit bs = false) : s.StartedOf (s.judgeOffer bs v) := by
  obtain ⟨b, hb⟩ := (s.startActivation none k bs).verdict_shape 0 0
  obtain ⟨hframe, hstaging, harmed, hact⟩ := s.startActivation_starts none k bs
  rw [State.judgeOffer_eq, if_neg (not_not.mpr hg), hc]
  dsimp only
  rw [if_neg (by simp [he]), hb]
  refine ⟨?_, hstaging, harmed, hact⟩
  rw [hframe]

end Judge

/-- A slot or a network configuration from the primary is refused, or its activation has begun (R162). -/
def State.Taken (s t : State) : Prop :=
  t = { s with stby := t.stby } ∨
    (t = { s with stby := t.stby, sram := t.sram, feram := t.feram, prog := t.prog, img := t.img } ∧
      t.prog.staging = .checking ∧ t.prog.activation ≠ none)

theorem State.Taken.verdict (s : State) (status detail : Nat) : s.Taken (s.verdict status detail) := by
  obtain ⟨b, e⟩ := s.verdict_shape status detail
  rw [e]
  exact .inl rfl

theorem State.Starts.taken {b : StbyState} {t : State} (hs : State.Starts { s with stby := b } t) : s.Taken t := by
  refine .inr ⟨?_, hs.staging, hs.activation⟩
  have hframe := hs.frame
  have hstby : t.stby = b := by rw [hframe]
  rw [hstby]
  exact hframe

theorem State.takeSlot_taken (s : State) (bs : List Byte) (v : Verdict) : s.Taken (s.takeSlot bs v) := by
  unfold State.takeSlot
  extract_lets chain
  split
  · split
    · exact .verdict s _ _
    · exact (State.startProgram_starts _ _ _ _ _ _).taken
  · exact .verdict s _ _

theorem State.takeNetCopy_taken (s : State) (bs : List Byte) (v : Verdict) : s.Taken (s.takeNetCopy bs v) := by
  unfold State.takeNetCopy
  split
  · exact .verdict s _ _
  · split
    · exact .verdict s _ _
    · split
      · exact .verdict s _ _
      · exact (State.startNet_starts _ _ _ _).taken

/-! ### EDIT_VERDICT (R155, R162, R178) -/

/-- A load is refused in its mailbox, its status kept and the lock free (R135, R138). -/
theorem State.refuseLoad_refused {m : Nat} (hq : (s.mailbox m).req ≠ none) (status detail : Nat) :
    s.refuseLoad m status detail = { s with hp := (s.refuseLoad m status detail).hp, prog := (s.refuseLoad m status detail).prog } ∧
      (s.refuseLoad m status detail).Answered m 9 status detail [] ∧ (s.refuseLoad m status detail).prog.lastStatus = status ∧
      (s.refuseLoad m status detail).prog.lockSession = none := by
  obtain ⟨q, hq⟩ := Option.ne_none_iff_exists'.mp hq
  obtain ⟨x, y, e⟩ := s.refuse_shape m status detail
  have hans := (State.refuse_refused hq status detail).2
  unfold State.refuseLoad
  extract_lets t
  refine ⟨?_, hans, rfl, rfl⟩
  simp only [t, e]

/-- No edit stays armed, and the memories are as they were (R153). -/
theorem State.abandonEdit_armed (s : State) (cause : Nat) :
    (s.abandonEdit cause).prog.armed = none ∧ (s.abandonEdit cause).sram = s.sram ∧ (s.abandonEdit cause).feram = s.feram := by
  obtain ⟨p, f, n, g, e⟩ := s.abandonEdit_shape cause
  refine ⟨?_, by rw [e], by rw [e]⟩
  unfold State.abandonEdit
  split
  · assumption
  · rfl

end Sys2Proof.Machine
end

section
/-!
PROOF. The planned switchover (R176), and O50.
-/

namespace Sys2Proof.Machine

variable {s : State} {h : ScarfHdr}

/-! ### EDIT_OFFER and EDIT_VERDICT -/

section Offer

variable (hg : s.scarfGood h = true) (hr : (s.scarfTaken h).dev.role = .standby)

include hg hr

theorem editOffer_segment {left : Nat} (purpose : Nat) (data : List Byte) (v : Verdict) (hl : left ≠ 0) :
    Gives (.editOffer h purpose left data v) s { s.scarfTaken h with stby := { (s.scarfTaken h).stby with
      offerBuf := (s.scarfTaken h).stby.offerBuf ++ data } } :=
  gives_of_frame rfl hg (by simp [hr, hl])

/-- The whole container is taken out of the buffer. -/
def State.offerWhole (s : State) : State := { s with stby := { s.stby with offerBuf := [] } }

theorem editOffer_judged (data : List Byte) (v : Verdict) : Gives (.editOffer h 0 0 data v) s
    ((s.scarfTaken h).offerWhole.judgeOffer ((s.scarfTaken h).stby.offerBuf ++ data) v) :=
  gives_of_frame rfl hg (by simp [hr]; rfl)

theorem editOffer_copied {purpose : Nat} (data : List Byte) (v : Verdict) (hp : purpose ≠ 0) :
    ∃ t, Gives (.editOffer h purpose 0 data v) s t ∧ (s.scarfTaken h).offerWhole.Taken t := by
  by_cases h1 : purpose = 1
  · exact ⟨_, gives_of_frame rfl hg (by simp [hr, h1]; rfl), State.takeSlot_taken _ ((s.scarfTaken h).stby.offerBuf ++ data) v⟩
  · exact ⟨_, gives_of_frame rfl hg (by simp [hr, hp, h1]; rfl),
      State.takeNetCopy_taken _ ((s.scarfTaken h).stby.offerBuf ++ data) v⟩

end Offer

theorem editVerdict_elsewhere (hg : s.scarfGood h = true) (hr : (s.scarfTaken h).dev.role ≠ .primary) (status detail : Nat) :
    Gives (.editVerdict h status detail) s (s.scarfTaken h) :=
  gives_of_frame rfl hg (by simp [hr])

section Verdict

variable (hg : s.scarfGood h = true) (hr : (s.scarfTaken h).dev.role = .primary)

include hg hr

theorem editVerdict_refuses {m status : Nat} (detail : Nat) (hm : (s.scarfTaken h).prog.waitMbx = some m) (hs : status ≠ 0) :
    Gives (.editVerdict h status detail) s ((s.scarfTaken h).refuseLoad m 0x1E status) :=
  gives_of_frame rfl hg (by simp [hr, hm, hs])

theorem editVerdict_passes {m : Nat} (detail : Nat) (hm : (s.scarfTaken h).prog.waitMbx = some m) :
    Gives (.editVerdict h 0 detail) s ((s.scarfTaken h).verdictPassed m) :=
  gives_of_frame rfl hg (by simp [hr, hm])

variable (hm : (s.scarfTaken h).prog.waitMbx = none)

include hm

theorem editVerdict_offersNext {k : Nat} {rest : List Nat} (detail : Nat) (ho : (s.scarfTaken h).stby.offers = k :: rest) :
    Gives (.editVerdict h 0 detail) s (State.mirror (State.offerNext
      { s.scarfTaken h with stby := { (s.scarfTaken h).stby with offers := rest } })) :=
  gives_of_frame rfl hg (by simp [hr, hm, ho])

theorem editVerdict_leaves {k status : Nat} {rest : List Nat} (detail : Nat) (ho : (s.scarfTaken h).stby.offers = k :: rest)
    (hs : status ≠ 0) : Gives (.editVerdict h status detail) s ((s.scarfTaken h).leavePair true).mirror :=
  gives_of_frame rfl hg (by simp [hr, hm, ho, hs])

variable (ho : (s.scarfTaken h).stby.offers = [])

include ho

theorem editVerdict_agrees : Gives (.editVerdict h 0 0) s (s.scarfTaken h) :=
  gives_of_frame rfl hg (by simp [hr, hm, ho])

theorem editVerdict_withdraws {status detail : Nat} (hs : status ≠ 0 ∨ detail ≠ 0) :
    Gives (.editVerdict h status detail) s ((s.scarfTaken h).abandonEdit 3) :=
  gives_of_frame rfl hg (by
    have hn : ¬ (status = 0 ∧ detail = 0) := by omega
    simp [hr, hm, ho, hn])

end Verdict

/-! ### The exchange of roles (R176) -/

theorem State.logRole_shape (s : State) (old new : Role) :
    ∃ p f n, s.logRole old new = { s with params := p, freeCtr := f, nvm := n } := by
  obtain ⟨p, f, q, o, e⟩ := s.log_shape 0x32
    (leBytes 1 (roleCode old) ++ leBytes 1 (roleCode new) ++ leBytes 2 0 ++ leBytes 4 s.stby.epoch)
  exact ⟨p, f, _, e⟩

/-- SWITCH_DONE, where it is owed: frames go, and it is owed no more. -/
theorem State.finishSwitch_link (s : State) : ∃ a b c o, s.finishSwitch =
    { s with stby := { s.stby with tx := a, txSeq := b, txAt := c, owesDone := o } } := by
  unfold State.finishSwitch
  split
  · obtain ⟨a, b, c, e⟩ := s.scarfSend_shape [ctrlFrame 9 []]
    rw [e]
    exact ⟨a, b, c, false, rfl⟩
  · exact ⟨s.stby.tx, s.stby.txSeq, s.stby.txAt, s.stby.owesDone, rfl⟩

/-- The old primary at X: the standby, with no release and no armed edit (R153, R176). -/
structure State.SwitchedOut (s t : State) : Prop where
  dev : t.dev = { s.dev with role := .standby }
  switchAt : t.stby.switchAt = none
  sync : t.stby.sync = 2
  sram : t.sram = s.sram
  armed : t.prog.armed = none
  still : t.Still

/-- The role and the link of the old primary from X on. -/
def State.asStandby (s : State) : State :=
  { s with
    dev := { s.dev with role := .standby },
    stby := { s.stby with switchAt := none, sync := 2, owesDone := true, refusing := false, staged := [], acked := [], copied := [],
                          copyDone := true } }

theorem State.switchOut_eq (s : State) :
    s.switchOut = ((s.abandonEdit 2).stopReleases.asStandby.logRole .primary .standby).finishSwitch.mirror := rfl

theorem State.switchOut_switched (s : State) : s.SwitchedOut s.switchOut := by
  obtain ⟨harm, hsram, -⟩ := s.abandonEdit_armed 2
  obtain ⟨p, f, n, hlog⟩ := (s.abandonEdit 2).stopReleases.asStandby.logRole_shape .primary .standby
  obtain ⟨a, b, c, o, hfin⟩ := ((s.abandonEdit 2).stopReleases.asStandby.logRole .primary .standby).finishSwitch_link
  have hdev : (s.abandonEdit 2).dev = s.dev := (State.LinkKept.abandonEdit (.refl s)).dev
  rw [State.switchOut_eq, hfin, hlog]
  exact ⟨congrArg (fun d : Device => { d with role := .standby }) hdev, rfl, rfl, hsram, harm, (s.abandonEdit 2).stopReleases_still⟩

/-- The token claimed: a new epoch, its record queued, CLAIM frames for the segments (R172, R315). -/
theorem State.claimToken_shape (s : State) : ∃ i n, s.claimToken =
    { s with stby := { s.stby with epoch := max s.stby.epoch s.stby.partnerEpoch + 1 }, img := i, net := n } := by
  unfold State.claimToken
  extract_lets e _ t segs _ k _ u v
  split
  · obtain ⟨n, hv⟩ : ∃ n, v = { u with net := n } :=
      foldl_shape (fun (s : State) n => { s with net := n }) _ (fun _ _ _ => rfl) (fun s => ⟨s.net, rfl⟩)
        (fun _ _ => ⟨_, rfl⟩) segs u
    rw [hv]
    exact ⟨_, _, rfl⟩
  · exact ⟨_, s.net, rfl⟩

theorem State.placeReleases_shape (s : State) (from_ : Ns) : ∃ x, s.placeReleases from_ = { s with ctxs := x } :=
  foldl_ctxs_shape (fun _ _ => ⟨_, rfl⟩) s.configured s

/-- The new primary at X: it holds its emissions and has claimed the token (R176). -/
structure State.SwitchedIn (s t : State) : Prop where
  dev : t.dev = { s.dev with role := .primary }
  switchAt : t.stby.switchAt = none
  holdEmit : t.stby.holdEmit = true
  sram : t.sram = s.sram
  armed : t.prog.armed = none
  epoch : t.stby.epoch = max s.stby.epoch s.stby.partnerEpoch + 1

/-- The role and the link of the new primary from X on. -/
def State.asPrimary (s : State) : State :=
  { s with
    dev := { s.dev with role := .primary },
    stby := { s.stby with switchAt := none, sync := 2, holdEmit := true, copyDone := true, outstanding := [] } }

theorem State.switchIn_eq (hb : s.primaryBad = none) (x : Ns) : s.switchIn x =
    ((((s.abandonEdit 2).asPrimary.logRole .standby .primary).applyPrimary.claimToken).placeReleases x).mirror := by
  unfold State.switchIn
  rw [hb]
  rfl

theorem State.switchIn_switched (hb : s.primaryBad = none) (x : Ns) : s.SwitchedIn (s.switchIn x) := by
  obtain ⟨p, f, n, g, hab⟩ := s.abandonEdit_shape 2
  obtain ⟨harm, hsram, -⟩ := s.abandonEdit_armed 2
  rw [State.switchIn_eq hb]
  generalize s.abandonEdit 2 = a at hab harm hsram ⊢
  obtain ⟨p', f', n', hlog⟩ := a.asPrimary.logRole_shape .standby .primary
  obtain ⟨q, y, hsched⟩ : ∃ q y, (a.asPrimary.logRole .standby .primary).applyPrimary =
      { a.asPrimary.logRole .standby .primary with params := q, ctxs := y } := State.applySched_shape _ _ _
  obtain ⟨i, k, hclaim⟩ := (a.asPrimary.logRole .standby .primary).applyPrimary.claimToken_shape
  obtain ⟨z, hplace⟩ := (a.asPrimary.logRole .standby .primary).applyPrimary.claimToken.placeReleases_shape x
  rw [hplace, hclaim, hsched, hlog]
  exact ⟨by rw [hab]; rfl, rfl, rfl, hsram, harm, by rw [hab]; rfl⟩

/-- A standby that may not be primary ends SOLO in STOP with the code that refused it (log 46). -/
theorem State.switchIn_refused {c : Nat} (hr : s.dev.role = .standby) (hb : s.primaryBad = some c) (x : Ns) :
    (s.switchIn x).dev.role = .solo ∧ (s.switchIn x).dev.state = .stop ∧ (s.switchIn x).stby.refusal = c ∧
      (s.switchIn x).sram = s.sram := by
  obtain ⟨p, f, q, o, hlog⟩ := s.log_shape 0x30 (leBytes 1 c)
  obtain ⟨a, b, k, hsend⟩ := (s.pairRefused c).scarfSend_shape [leaveFrame c]
  have hrole : ((s.pairRefused c).scarfSend [leaveFrame c]).dev.role = .standby := by
    rw [hsend, State.pairRefused, hlog]
    exact hr
  obtain ⟨hsolo, hstop, href, hst⟩ := State.standbyStops_stops hrole
  unfold State.switchIn
  rw [hb]
  refine ⟨hsolo, hstop, href.trans (by rw [hsend]; rfl), hst.sram.trans ?_⟩
  rw [hsend, State.pairRefused, hlog]

/-! ### SWITCH_INSTANT and SWITCH_DONE -/

theorem switchDone_gives (hg : s.scarfGood h = true) : Gives (.switchDone h) s
    { s.scarfTaken h with stby := { (s.scarfTaken h).stby with holdEmit := false } } := by
  show execSwitchDone h s = _
  exact if_pos hg

theorem switchInstant_waits (hx : s.stby.switchAt = none ∨ ∃ x, s.stby.switchAt = some x ∧ s.now < x) : Gives .switchInstant s s := by
  show execSwitchInstant s = _
  rcases hx with hx | ⟨x, hx, hlt⟩
  · simp only [execSwitchInstant, hx]
  · simp only [execSwitchInstant, hx, if_neg (Nat.not_le.mpr hlt)]

section AtX

variable {x : Ns} (hx : s.stby.switchAt = some x) (hle : x ≤ s.now)

include hx hle

/-- The switchover is dropped where the standby is not LEVEL, or the unit left the pair (log 46). -/
theorem switchInstant_dropped (hn : s.stby.sync ≠ 2 ∨ (s.dev.role ≠ .primary ∧ s.dev.role ≠ .standby)) :
    Gives .switchInstant s { s with stby := { s.stby with switchAt := none } } := by
  show execSwitchInstant s = _
  by_cases hsync : s.stby.sync = 2
  · obtain ⟨hp, hs⟩ := hn.resolve_left (not_not.mpr hsync)
    simp only [execSwitchInstant, hx, if_pos hle, if_neg (not_not.mpr hsync)]
  · simp only [execSwitchInstant, hx, if_pos hle, if_pos hsync]

variable (hsync : s.stby.sync = 2)

include hsync

theorem switchInstant_pegs (hr : s.dev.role = .primary) (hp : s.pegBefore x = true) : Gives .switchInstant s s := by
  show execSwitchInstant s = _
  simp only [execSwitchInstant, hx, if_pos hle, if_neg (not_not.mpr hsync), hr, hp, if_true]

theorem switchInstant_out (hr : s.dev.role = .primary) (hp : s.pegBefore x = false) : Gives .switchInstant s s.switchOut := by
  show execSwitchInstant s = _
  simp only [execSwitchInstant, hx, if_pos hle, if_neg (not_not.mpr hsync), hr, hp, Bool.false_eq_true, if_false]

theorem switchInstant_in (hr : s.dev.role = .standby) : Gives .switchInstant s (s.switchIn x) := by
  show execSwitchInstant s = _
  simp only [execSwitchInstant, hx, if_pos hle, if_neg (not_not.mpr hsync), hr]

end AtX

/-! ### O50 -/

/-- Settles O50: a frame goes on from the state that took it, the states of both units at X are taken apart above. -/
theorem standbyFollowsAndSwitches : Obligations.StandbyFollowsAndSwitches := by
  intro s
  refine ⟨fun h hg => ⟨fun hr => ⟨ctrlState_elsewhere hg hr, ctrlForce_elsewhere hg hr, editOffer_elsewhere hg hr,
    switch_elsewhere hg hr⟩,
    ?standby, fun hr => editVerdict_elsewhere hg hr, ?primary, switchDone_gives hg⟩, switchInstant_waits, ?instant⟩
  case standby =>
    intro hr
    refine ⟨fun st at_ => ctrlState_other hg hr at_, ?state, fun forces => gives_of_frame rfl hg (by simp [hr]),
      fun purpose left data v => editOffer_segment hg hr purpose data v, fun data v => ⟨?gated, ?fails, ?passes, ?copied⟩,
      fun at_ => gives_of_frame rfl hg (by simp [hr])⟩
    case state =>
      intro st at_ hst
      have hgive := ctrlState_gives hg hr at_ hst
      refine ⟨fun hw => ?_, fun hle ha => ?_⟩
      · rw [State.toFollow_waits hw] at hgive
        exact hgive
      · rw [State.toFollow_due hle ha hr] at hgive
        obtain ⟨hstate, hrole, hfollow, hferam⟩ := ((s.scarfTaken h).toFollow st at_).followTo_followed st
        exact ⟨_, hgive, hstate, hrole.trans hr, hfollow, hferam⟩
    case gated =>
      intro hn
      exact ⟨_, editOffer_judged hg hr data v, State.judgeOffer_gated hn⟩
    case fails =>
      intro hz e hc
      exact ⟨_, editOffer_judged hg hr data v, State.judgeOffer_fails hz hc⟩
    case passes =>
      intro hz k hc
      exact ⟨fun he => ⟨_, editOffer_judged hg hr data v, State.judgeOffer_arms hz hc he⟩,
        fun he => ⟨_, editOffer_judged hg hr data v, State.judgeOffer_starts hz hc he⟩⟩
    case copied =>
      intro purpose hp
      exact editOffer_copied hg hr data v hp
  case primary =>
    intro hr
    refine ⟨?refuses, fun m detail hm => editVerdict_passes hg hr detail hm, fun hm => ⟨fun k rest ho =>
      ⟨fun detail => editVerdict_offersNext hg hr hm detail ho, ?leaves⟩, fun ho =>
      ⟨editVerdict_agrees hg hr hm ho, ?withdraws⟩⟩⟩
    case refuses =>
      intro m status detail hm hs hq
      exact ⟨_, editVerdict_refuses hg hr detail hm hs, State.refuseLoad_refused hq 0x1E status⟩
    case leaves =>
      intro status detail hs
      obtain ⟨hdev, -⟩ := State.leavePair_solo (.inl hr) true
      exact ⟨_, editVerdict_leaves hg hr hm detail ho hs, (congrArg Device.role hdev :), (congrArg Device.state hdev :),
        ((s.scarfTaken h).leavePair_steady true).sram⟩
    case withdraws =>
      intro status detail hs
      exact ⟨_, editVerdict_withdraws hg hr hm ho hs, State.abandonEdit_armed _ 3⟩
  case instant =>
    intro x hx hle
    refine ⟨switchInstant_dropped hx hle, switchInstant_pegs hx hle, fun hsync hr hp => ?out, fun hsync hr hb => ?into,
      fun c hsync hr hb => ⟨_, switchInstant_in hx hle hsync hr, State.switchIn_refused hr hb x⟩⟩
    case out =>
      obtain ⟨hdev, hat, hsyn, hsram, harm, hstill⟩ := s.switchOut_switched
      exact ⟨_, switchInstant_out hx hle hsync hr hp, hdev, hat, hsyn, hsram, harm, hstill⟩
    case into =>
      obtain ⟨hdev, hat, hhold, hsram, harm, hep⟩ := State.switchIn_switched hb x
      exact ⟨_, switchInstant_in hx hle hsync hr, hdev, hat, hhold, hsram, harm, hep⟩

end Sys2Proof.Machine
end
